-- ==== Sys2Proof/Word.lean ====
section
/-!
DEFINITION. The plainest words of the model: the byte of a memory cell. Register values, block payloads and
counters are natural numbers kept inside their widths by the operations of Machine/Ops.lean.
-/
namespace Sys2Proof

/-- One byte, the smallest addressable unit of HBM, of bank space and of the store (R18, R640, R677, R703). -/
abbrev Byte := BitVec 8

end Sys2Proof
end

