-- ==== Sys2Proof/Syntax.lean ====
section
/-!
DEFINITION. The commands the block takes, one constructor for each row of spec/opcode_table.json, with the
operands an event or a request carries. No row of the table gives bits, so a command has no encoding.
-/
namespace Sys2Proof

/-- What the comparison of R371 finds in one raster half before a line enters the FIFOs. -/
structure ScanCheck where
  /-- The driving and the checking engine's words differ. -/
  differ : Bool
  /-- Parity of the driving engine has failed. -/
  driverParity : Bool
  /-- Parity of the checking engine has failed. -/
  checkerParity : Bool
deriving DecidableEq, Repr

/-- Protocol of a received Ethernet frame, as R517 distinguishes them. -/
inductive EthProto where
  | ptp | ncp | arp | icmpEcho | neighbourDiscovery | other
deriving DecidableEq, Repr

/-- Kind of a received PTP message (R520, R521). -/
inductive PtpKind where
  | announce | sync | followUp | delayResp | pdelayReq | pdelayResp | pdelayFollowUp | unsupported
deriving DecidableEq, Repr

/-- A received PTP message, with the numbers the servo takes from it (R520 to R523). Times are in ns of network time. -/
structure PtpMsg where
  kind : PtpKind
  /-- Ten times its version, 20 or 21; and its transport: 0 IPv4, 1 IPv6, 2 IEEE 802.3. -/
  version : Nat
  transport : Nat
  domain : Nat
  seqId : Nat
  /-- A Sync or Pdelay_Resp of two steps: a follow-up carries its exact time. -/
  twoStep : Bool
  /-- grandmasterIdentity of an Announce, 8 octets as a number. -/
  grandmaster : Nat
  /-- The best-master algorithm of R520 leaves the port in SLAVE. -/
  slave : Bool
  /-- One-step Sync and Follow_Up: precise origin time plus correctionField; two-step Sync: its correctionField.
  Delay_Resp: the master's receive time. Pdelay_Resp: the peer's turnaround in one step, its receive time in two steps;
  its follow-up: the peer's send time. -/
  t : Int
deriving DecidableEq, Repr

/-- What the read of a fetch's first copy meets: a single-bit error, corrected in place (R671), and a failure, after
which the mirror is read (R672). -/
structure CopyRead where
  single : Bool
  bad : Bool
deriving DecidableEq, Repr

/-- A host violation (R635): the queue it names, and whether it is a write TLP that came poisoned (R634). -/
structure Violation where
  queue : Option Nat
  poisoned : Bool
deriving DecidableEq, Repr

/-- The header fields every submission entry begins with (R603). -/
structure Entry where
  opcode : Nat
  flags : Nat
  tag : Nat
  target : Nat
  /-- The reserved fields of the header and every byte the opcode does not use are 0. -/
  clean : Bool
deriving DecidableEq, Repr

/-- Operands of UPDATE (R606). -/
structure UpdateOps where
  staging : Nat
  length : Nat
  fence : Nat
  timeout : Nat
  members : Nat
  wait : Nat
  group : Nat
deriving DecidableEq, Repr

/-- Operands of PLAY (R606). -/
structure PlayOps where
  player : Nat
  step : Nat
  clip : Nat
  loops : Nat
  endAction : Nat
  /-- Byte i of the layer map, 32 bytes. -/
  map : List Nat
deriving DecidableEq, Repr

/-- A completion entry before PHASE is known (R614). -/
structure Completion where
  tag : Nat
  queue : Nat
  gen : Nat
  frame : Nat
  status : Nat
  reason : Nat
  detail : Nat
deriving DecidableEq, Repr

/-- Who sends an NCP frame, and the fields of the frame outside its payload (R774, R777). -/
structure NcpHead where
  /-- Ethernet port, 0 or 1. -/
  port : Nat
  /-- Source address and UDP port of the frame, as one number. -/
  src : Nat
  session : Nat
  seq : Nat
  txn : Nat
  /-- The 32 bytes of the tag. -/
  tag : List Byte
deriving DecidableEq, Repr

/-- Where an object request comes from: the mailbox of BAR0 or a frame of an NCP session. -/
inductive Origin where
  | mailbox
  | ncp (f : NcpHead)
deriving DecidableEq, Repr

/-- The service header of R780 with its data; the service code is the command's own. -/
structure Request where
  reserved : Nat
  index : Nat
  sub : Nat
  typ : Nat
  length : Nat
  offset : Nat
  total : Nat
  data : List Byte
deriving DecidableEq, Repr

/-- The ceilings of R838. -/
inductive Ceiling where
  | radiance | panelCurrent | lensVoltage | dcBalance | linkAmplitude | tileAmplitude | transmitCap
deriving DecidableEq, Repr

/-- One constructor for each row of the command table. -/
inductive Instr where
  /-- LINE_START (R362): At each line start the scan engines read the next line from the strip buffer into the output
  FIFOs, and each link begins sending that line's packet or KEEP. -/
  | lineStart (left : ScanCheck) (right : ScanCheck)
  /-- LINK_UNDERRUN (R365): A payload word is missing from the FIFO when it is due, and the link repeats the last
  colour value for the rest of the line. -/
  | linkUnderrun (l : Nat) (sent : Nat)
  /-- EVE (R243): At the eve of frame n the device builds the committed state of frame n+1 from shadows, mode overlay,
  items, zone modes and safety state. -/
  | eve
  /-- CALENDS (R244): At calends n+1 the captured state takes effect in every pipeline, and the per-frame bookkeeping
  runs. -/
  | calends
  /-- PATCH_REQUEST (R212): A scheduled cluster that has issued its last ray asks for, and is handed, the next released
  patch. -/
  | patchRequest (sc : Nat)
  /-- PATCH_COMPLETE (R210): All drive codes of a patch are in the strip buffer. -/
  | patchComplete (strip : Nat) (patch : Nat)
  /-- WINDOW_FETCH (R141): A fetch of a block's tile or palette returns, its descriptor is checked, and the mirror is
  read on failure. -/
  | windowFetch (strip : Nat) (patch : Nat) (layer : Nat) (block : Nat) (first : CopyRead) (bad1 : Bool)
  /-- CLUSTER_FAULT (R217): A residue check or a second ECC failure stops a cluster, marks it failed and starts a redo
  of its patch. -/
  | clusterFault (sc : Nat)
  /-- WINDOW_STORE_ECC_ERROR (R216): A window-store read is corrected on a single-bit error or refetched on a
  double-bit error. -/
  | windowStoreEccError (sc : Nat) (double : Bool) (again : Bool)
  /-- CLUSTER_HEARTBEAT_TIMEOUT (R216): A sequencer without a heartbeat for 512 fabric clocks is a cluster fault. -/
  | clusterHeartbeatTimeout (sc : Nat)
  /-- PATCH_WATCHDOG_EXPIRY (R218): W(p) is reached with the patch incomplete, and the patch is redone. -/
  | patchWatchdogExpiry (strip : Nat) (patch : Nat)
  /-- REDO_QUARTER_COMPLETE (R219): A spare completes a redo quarter and takes the next waiting quarter. -/
  | redoQuarterComplete (sc : Nat)
  /-- SPARE_FAULT (R221): A spare that faults during a redo is marked failed, and its quarter is issued again. -/
  | spareFault (sc : Nat)
  /-- OVERLAY_ENGINE_FAULT (R239): A residue failure marks an overlay engine failed, and its batches are recomputed by
  the other engines. -/
  | overlayEngineFault (e : Nat)
  /-- COLOUR_RESIDUE_FAIL (R346): A colour unit discards a patch's results and computes the patch once more. -/
  | colourResidueFail (strip : Nat) (patch : Nat) (second : Bool)
  /-- GAIN_MAP_READ_FAULT (R321): An uncorrectable gain-map read takes its bytes as 0x80 for the frame, and the fault
  is counted. -/
  | gainMapReadFault (off : Nat) (len : Nat)
  /-- CEILING_SCALE_RECOMPUTE (R904): At the first strip after a lowered hardware ceiling is accepted, every zone scale
  is recomputed. -/
  | ceilingScaleRecompute
  /-- FREEZE_CACHE_STRIP_READ (R170): A frozen strip is read from a cache with its check word, and is retried from the
  other cache. -/
  | freezeCacheStripRead (strip : Nat) (bad0 : Bool) (bad1 : Bool)
  /-- CHUNK_DECODE (R122): A decoder takes a chunk of an update, checks it and expands its records into the slot. -/
  | chunkDecode (de : Nat) (ord : Nat)
  /-- INDEX_RECORD_RESUME (R123): A decoder waiting for a block's palette Count resumes when the Count is posted. -/
  | indexRecordResume (de : Nat)
  /-- DECODER_FAULT (R125): A decoder faults, its chunk is reissued once to another decoder, and it is marked failed. -/
  | decoderFault (de : Nat)
  /-- INTERNAL_MARKER_COMPLETE (R654): A source's internal marker completes once its earlier writes have taken effect,
  and the waiting action proceeds. -/
  | internalMarkerComplete (src : Nat)
  /-- COPY_COMPLETE (R137): A carry-forward or restore copy finishes its last block and writes the final descriptors. -/
  | copyComplete (layer : Nat)
  /-- CLIP_REGISTER (R150): REGISTER checks a clip header and moves the directory entry to LOADED. -/
  | clipRegister
  /-- CLIP_VERIFY (R151): VERIFY starts verification of a directory entry. -/
  | clipVerify
  /-- CLIP_UNREGISTER (R154): UNREGISTER empties an unpinned directory entry. -/
  | clipUnregister
  /-- CLIP_VERIFICATION_COMPLETE (R150): Verification ends, and the entry becomes READY with its summary or FAILED with
  a detail. -/
  | clipVerificationComplete (entry : Nat)
  /-- VIEW_TABLE_SUBMIT (R181): Writing 1 submits the shadow view table for its target calends to the planner. -/
  | viewTableSubmit
  /-- COMMIT_REQUEST (R249): Writing 1 requests a commit of every shadow object, which is assigned a frame or refused. -/
  | commitRequest
  /-- SHADOW_WRITE (R255): A shadow write that can change a budget is checked against the pending commit and refused if
  it would make it fail. -/
  | shadowWrite (index : Nat) (sub : Nat) (value : Nat)
  /-- PROTECTED_LOAD (R278): LOAD starts decoding an overlay update from staging into a protected slot. -/
  | protectedLoad
  /-- PROTECTED_LOAD_COMPLETE (R279): A LOAD finishes, and the slot becomes valid or failed. -/
  | protectedLoadComplete (slot : Nat)
  /-- PROTECTED_ERASE (R280): ERASE empties a protected slot unless it is in use. -/
  | protectedErase
  /-- PROTECTED_SLOT_READ (R281): A protected-slot read checks CHECK, falls back to the other copy and counts the
  fallback. -/
  | protectedSlotRead (slot : Nat) (block : Nat) (bad0 : Bool) (bad1 : Bool)
  /-- REGION_LEARN (R291): Writing 1 copies a region's last signature into its shadow expected value. -/
  | regionLearn (r : Nat)
  /-- SAFE_SHOW_N_ASSERT (R293): SAFE_SHOW_N low for 10 us enters the safety state and may originate a broadcast. -/
  | safeShowNAssert
  /-- SAFE_SHOW_N_RELEASE (R300): SAFE_SHOW_N returns high, which starts the 1 s release condition. -/
  | safeShowNRelease
  /-- SAFETY_RELEASE (R300): Writing 1 to the safety release is accepted and assigned a frame, or refused. -/
  | safetyRelease
  /-- SAFETY_RELEASE_CANCEL (R301): A new safety input before the eve cancels a pending release. -/
  | safetyReleaseCancel
  /-- GAIN_MAP_BASE_WRITE (R322): A write of the gain-map base is refused while the map is enabled. -/
  | gainMapBaseWrite (value : Nat)
  /-- GAIN_MAP_CHECK (R323): CHECK starts reading the map against the expected CRC. -/
  | gainMapCheck
  /-- GAIN_MAP_CHECK_COMPLETE (R323): CHECK ends with pass or fail and resets the band table. -/
  | gainMapCheckComplete
  /-- BAND_SUBMIT (R326): A band update is submitted and accepted for its target or refused. -/
  | bandSubmit
  /-- BAND_COPY_COMPLETE (R325): The staged band copy finishes with its CRC checked, and a failure frees the new slot
  under R327. -/
  | bandCopyComplete (band : Nat)
  /-- HARDWARE_CEILING_WRITE (R335): A write of the hardware radiance ceiling is accepted only when it lowers the
  ceiling, except in MAKER. -/
  | hardwareCeilingWrite (value : Nat)
  /-- AGING_REFRESH (R344): REFRESH computes new shadow aging factors from the counters and curves. -/
  | agingRefresh
  /-- RASTER_SUBMIT (R353): Writing 1 submits the shadow raster setting for its target calends. -/
  | rasterSubmit
  /-- HOST_SILENCE_TIMEOUT (R391): No doorbell or write for the silence timeout requests a hold at the silence rate. -/
  | hostSilenceTimeout
  /-- LANE_SLEEP_ENTER (R460): In a hold frame a downstream lane sends SLEEP and enters electrical idle between
  packets. -/
  | laneSleepEnter (l : Nat)
  /-- LANE_WAKE (R460): A sleeping lane leaves idle 10 us before the next line start. -/
  | laneWake (l : Nat)
  /-- STATUS_RECEIVE (R436): An upstream STATUS is taken, and lock bits or discards may declare a link failed. -/
  | statusReceive (l : Nat) (block : Nat)
  /-- TRAIN_RECEIVE (R444): A driver TRAIN is taken and advances link training. -/
  | trainReceive (l : Nat) (block : Nat)
  /-- TRAIN_REQ_RECEIVE (R445): A TRAIN_REQ from an ACTIVE link declares the link failed with cause training requested. -/
  | trainReqReceive (l : Nat)
  /-- CAP_UP_RECEIVE (R447): Intact CAP_UP parts are checked in EXCHANGE, and CAP is sent and EQUALIZE entered. -/
  | capUpReceive (l : Nat) (block : Nat)
  /-- TEST_RESULT_RECEIVE (R444): A TEST_RESULT is taken, and ERRORS 0 in CONFIRM makes the link ACTIVE. -/
  | testResultReceive (l : Nat) (block : Nat)
  /-- TELEM_RECEIVE (R437): A TELEM block updates the port's telemetry value. -/
  | telemReceive (l : Nat) (block : Nat)
  /-- UPSTREAM_SLEEP_RECEIVE (R463): An upstream SLEEP lets the lane go idle without a lock loss. -/
  | upstreamSleepReceive (l : Nat) (block : Nat)
  /-- UPSTREAM_VIOLATION (R464): A violating upstream block is discarded and counted, and 256 in 1 s take the port
  down. -/
  | upstreamViolation (l : Nat)
  /-- UPSTREAM_LOCK_GAIN (R438): An upstream receiver gains block lock after 64 valid headers. -/
  | upstreamLockGain (l : Nat)
  /-- UPSTREAM_LOCK_LOSS (R438): An upstream receiver loses block lock after 16 invalid headers in 64 blocks. -/
  | upstreamLockLoss (l : Nat)
  /-- UPSTREAM_LANE_LOST (R466): An upstream lane out of lock for 1 s is counted as lost. -/
  | upstreamLaneLost (l : Nat)
  /-- PORT_BLIND_TIMEOUT (R464): No STATUS for 64 line periods sets the port's BLIND flag. -/
  | portBlindTimeout (p : Nat)
  /-- LINK_TRANSMIT_FAULT (R453): A transmit-lane fault declares the link failed. -/
  | linkTransmitFault (l : Nat)
  /-- TRAINING_TIMER_EXPIRY (R444): A training state's timer expires, and the attempt fails and is retried or the
  fallback ladder is taken. -/
  | trainingTimerExpiry (l : Nat)
  /-- PRESET_SWEEP_STEP (R890): After 100 us under a preset, the next preset is applied or the best one chosen. -/
  | presetSweepStep (l : Nat)
  /-- LINK_ABSENT_RETRY (R449): An ABSENT link returns to DOWN every 1 s. -/
  | linkAbsentRetry (l : Nat)
  /-- PORT_TAKEDOWN_RETRAIN (R464): One second after a take-down, the port's links train again. -/
  | portTakedownRetrain (p : Nat)
  /-- LINK_SPEED_RAISE (R452): A link ACTIVE below the target speed is retrained to it while the other link carries the
  port. -/
  | linkSpeedRaise (l : Nat)
  /-- TEST_LOOP_NEAR (R467): Writing code 1 starts the near-end loop. -/
  | testLoopNear (l : Nat)
  /-- TEST_LOOP_FAR (R467): Writing code 2 starts the far-end loop at 2.5 Gbit/s. -/
  | testLoopFar (l : Nat)
  /-- TEST_LOOP_PATTERN (R467): Writing code 3 starts PRBS31 pattern blocks to the driver. -/
  | testLoopPattern (l : Nat)
  /-- TEST_LOOP_OFF (R470): Writing 0 ends the test, and the link enters DOWN. -/
  | testLoopOff (l : Nat)
  /-- DRIVER_POWER_UP (R426): A column driver resets with rows at 0, EMIT 0 and current limit 0, and sends TRAIN_REQ. -/
  | driverPowerUp (p : Nat)
  /-- DRIVER_SOL_RECEIVE (R417): A driver checks a line packet and applies or discards it. -/
  | driverSolReceive (l : Nat) (sol : Nat) (data : List Nat)
  /-- DRIVER_KEEP_RECEIVE (R423): A driver checks a KEEP and keeps the row's values. -/
  | driverKeepReceive (l : Nat) (block : Nat)
  /-- DRIVER_FRAME_END_RECEIVE (R432): A driver takes its commands from the first intact frame-end copy and applies
  them at the calends. -/
  | driverFrameEndReceive (l : Nat) (head : Nat) (cmds : List Nat)
  /-- DRIVER_DOWNSTREAM_LOCK_LOSS (R435): A driver loses downstream block lock and sends an urgent STATUS. -/
  | driverDownstreamLockLoss (l : Nat)
  /-- DRIVER_STATUS_SEND (R435): A driver sends its periodic STATUS at least every 8 line periods. -/
  | driverStatusSend (l : Nat) (margin : Nat)
  /-- DRIVER_TELEM_SEND (R437): A driver sends one TELEM for the selected item per frame. -/
  | driverTelemSend (l : Nat) (value : Nat)
  /-- DRIVER_TRAIN_RECEIVE (R446): A driver answers an intact downstream TRAIN with TRAIN, CAP_UP or the end of
  training. -/
  | driverTrainReceive (l : Nat) (block : Nat)
  /-- DRIVER_PATTERN_END (R446): A driver checks the CONFIRM pattern and sends TEST_RESULT. -/
  | driverPatternEnd (l : Nat) (errors : Nat)
  /-- DRIVE_FRAME_BOUNDARY (R482): A monostable drive frame begins, and duty, overdrive, band changes and table commits
  take effect. -/
  | driveFrameBoundary
  /-- ZONE_TARGET_REACHED (R497): A zone's settle time elapses, and the zone has reached its target. -/
  | zoneTargetReached (z : Nat)
  /-- ZONE_REPORT_RECEIVE (R499): The main die receives the drive die's report that a zone reached its target. -/
  | zoneReportReceive (z : Nat)
  /-- PULSE_PHASE_END (R487): A bistable pulse phase completes, and the next phase or the journal end follows. -/
  | pulsePhaseEnd
  /-- BIAS_SOURCE_START (R489): The bias source starts 2 ms before the first pulse phase of an update. -/
  | biasSourceStart (v33 : Nat)
  /-- BIAS_MEASURE (R481): Every 1 ms the levels are measured, and 10 out-of-range measurements make a bias fault. -/
  | biasMeasure (v4 : Nat) (v0 : Nat) (v1 : Nat) (v2 : Nat) (v3 : Nat)
  /-- BIAS_OVERVOLTAGE_TRIP (R480): The V4 comparator trips, and every output goes to ground. -/
  | biasOvervoltageTrip
  /-- BIAS_RETRY (R514): One second after a bias fault the source retries, at most 3 times. -/
  | biasRetry
  /-- DC_MONITOR_SAMPLE (R491): Every 1 us each output's DC integral is updated. -/
  | dcMonitorSample (out : Nat) (vout : Int)
  /-- FORCED_INVERSION (R492): An integral above the DC limit forces an inversion at the next slot boundary. -/
  | forcedInversion (out : Nat)
  /-- DC_STOP (R493): An integral at 4 times the limit stops the layer. -/
  | dcStop (out : Nat)
  /-- LAYER_RESTART (R905): Writing 1 restarts the layer after a DC stop or bias fault, with one update for every
  differing zone. -/
  | layerRestart
  /-- OUTPUT_FAULT (R514): An output off its level in 3 consecutive checks goes to high impedance. -/
  | outputFault (out : Nat)
  /-- LENS_BAND_CHANGE (R512): The lens temperature crosses a band bound, and the new band applies at the next
  boundary. -/
  | lensBandChange
  /-- DRIVE_DIE_RESET (R508): The drive die resets, selects its store records and re-drives an open journal. -/
  | driveDieReset
  /-- HOLDUP_SWITCH (R882): V33 below 3.00 V switches the drive die to VHOLD, which finishes its work and grounds the
  outputs. -/
  | holdupSwitch
  /-- DRIVE_DIE_SUPPLY_RESTORE (R883): After V33 is within tolerance for 10 ms, the drive die restarts. -/
  | driveDieSupplyRestore
  /-- VHOLD_LOW_LOG (R885): A low VHOLD is logged every 10 s. -/
  | vholdLowLog (mv : Nat)
  /-- EP_LINK_UP (R516): An Ethernet port links at 10GBASE-R or 1000BASE-X. -/
  | epLinkUp (p : Nat) (tenG : Bool)
  /-- EP_LINK_DOWN (R519): An Ethernet port loses link, and its PTP sources become invalid. -/
  | epLinkDown (p : Nat)
  /-- EP_RATE_ALTERNATE (R516): A port without lock for 1 s tries the other rate. -/
  | epRateAlternate (p : Nat)
  /-- ETHERNET_FRAME_RECEIVE (R517): A received frame is accepted by protocol or discarded and counted. -/
  | ethernetFrameReceive (p : Nat) (proto : EthProto) (vlan : Option Nat)
  /-- ETHERNET_TRANSMIT (R518): A firmware frame leaves under the transmit cap or is queued or dropped. -/
  | ethernetTransmit (p : Nat) (bytes : Nat)
  /-- PTP_MESSAGE_RECEIVE (R522): A PTP message is stamped and taken, or ignored and counted as a violation. -/
  | ptpMessageReceive (p : Nat) (msg : PtpMsg)
  /-- PTP_LOCKOUT_END (R521): A port's 10 s PTP lockout ends. -/
  | ptpLockoutEnd (p : Nat)
  /-- TRANSMIT_STAMP_ENQUEUE (R528): A two-step event message leaves the port and enters a transmit stamp, which is
  dropped if the queue is full. -/
  | transmitStampEnqueue (p : Nat) (msgtype : Nat) (domain : Nat) (seqId : Nat)
  /-- TRANSMIT_STAMP_READ (R530): Reading the stamp object returns and removes the oldest entry. -/
  | transmitStampRead (p : Nat)
  /-- SYNC_TIMEOUT (R523): No Sync for 3 intervals makes a source invalid. -/
  | syncTimeout (src : Nat)
  /-- SOURCE_INVALID (R525): The active source becomes invalid, and the standby takes over with correction delta_s, or
  local time enters HOLDOVER. -/
  | sourceInvalid (src : Nat)
  /-- SOURCE_STANDBY_RESTORE (R526): A former active source valid for 64 s becomes standby. -/
  | sourceStandbyRestore (src : Nat)
  /-- RELOCK (R537): Writing 1 returns frame lock to FREE_RUN unless targeted items exist. -/
  | relock
  /-- FRAME_EPOCH_WRITE (R536): The frame epoch or anchor is written only in FREE_RUN. -/
  | frameEpochWrite (sub : Nat) (value : Nat)
  /-- TILE_PORT_HELLO (R552): A HELLO is taken and classifies the port as NEIGHBOUR, PAIRED, FOREIGN or CONFLICT. -/
  | tilePortHello (t : Nat) (block : Nat)
  /-- HELLO_SEND (R551): HELLO is sent every 100 ms. -/
  | helloSend (t : Nat)
  /-- MARKER_RECEIVE (R554): A neighbour's MARKER is stamped for phase and cable delay. -/
  | markerReceive (t : Nat) (block : Nat) (stamp : Nat)
  /-- MARKER_FOLLOW_SEND (R551): MARKER_FOLLOW is sent after both MARKERs of a frame. -/
  | markerFollowSend (t : Nat)
  /-- MARKER_FOLLOW_RECEIVE (R554): MARKER_FOLLOW completes the computation of d and phi. -/
  | markerFollowReceive (t : Nat) (block : Nat)
  /-- EVE_BLOCK_RECEIVE (R557): A neighbour's EVE gives its next calends and HOLD_READY. -/
  | eveBlockReceive (t : Nat) (block : Nat)
  /-- SAFETY_RECEIVE (R561): A SAFETY block is taken, forwarded and made to arrive for the safety state. -/
  | safetyReceive (t : Nat) (block : Nat)
  /-- TILE_PORT_VIOLATION (R564): A violating tile-port block is discarded and counted, and 256 in 1 s take the port
  down. -/
  | tilePortViolation (t : Nat)
  /-- TILE_PORT_LOCK_TIMEOUT (R552): No lane locked for 1 s puts the tile port DOWN. -/
  | tilePortLockTimeout (t : Nat)
  /-- SAFETY_REPEAT (R560): An origin resends SAFETY every 10 ms. -/
  | safetyRepeat
  /-- SAFETY_ORIGIN_COMMAND (R560): Writing a non-zero value originates a safety broadcast by command. -/
  | safetyOriginCommand (value : Nat)
  /-- SAFETY_ORIGIN_EXPIRY (R563): An origin without SAFETY for 1 s stops being active. -/
  | safetyOriginExpiry (origin : Nat)
  /-- TIME_OUT_PULSE (R565): A TIME_OUT pin edge is driven at its scheduled network time. -/
  | timeOutPulse (j : Nat) (edge : Bool)
  /-- TIME_IN_EDGE (R569): A TIME_IN edge is stamped and queued, or dropped. -/
  | timeInEdge (j : Nat) (rising : Bool) (width : Nat)
  /-- CAPTURE_ENTRY_READ (R570): Reading the capture entry returns and removes the oldest edge. -/
  | captureEntryRead (j : Nat)
  /-- PCIE_LINK_TRAINED (R577): The PCI Express link trains at the highest common speed and width, and the link speed
  and width objects are set. -/
  | pcieLinkTrained (speed : Nat) (width : Nat)
  /-- PERST (R578): PERST_N resets the PCIe function, queues and DMA windows. -/
  | perst
  /-- FLR (R579): A function-level reset deletes every queue and drops pending completions. -/
  | flr
  /-- BAR2_WRITE (R587): A BAR2 write request lands in HBM or is dropped whole. -/
  | bar2Write (off : Nat) (data : List Byte)
  /-- BAR2_READ (R587): A BAR2 read is served from HBM, or returns zeros for a reserved offset. -/
  | bar2Read (off : Nat) (len : Nat)
  /-- WCM_REQUEST (R584): A write to WCM_REQUEST creates a write-complete marker. -/
  | wcmRequest
  /-- WRITE_COMPLETE_MARKER_DONE (R584): A marker completes once earlier BAR2 writes have taken effect. -/
  | writeCompleteMarkerDone
  /-- DMA_WINDOW_WRITE (R585): A write to a DMA window updates fields unless the window is locked. -/
  | dmaWindowWrite (n : Nat) (field : Nat) (value : Nat)
  /-- BAR0_REGISTER_WRITE (R582): A BAR0 write to a register with no row of its own is applied, or ignored and counted
  as a violation. -/
  | bar0RegisterWrite (off : Nat) (data : List Byte)
  /-- QUEUE_CREATE (R593): CREATE sets up a queue and increments its generation. -/
  | queueCreate
  /-- QUEUE_DELETE (R594): DELETE frees a queue. -/
  | queueDelete
  /-- SUBMISSION_DOORBELL (R599): A submission doorbell is processed after its marker completes, and its entries are
  taken in order. -/
  | submissionDoorbell (q : Nat) (count : Nat) (gen : Nat)
  /-- COMPLETION_DOORBELL (R617): A completion-ring HEAD doorbell frees slots and posts waiting overflow completions. -/
  | completionDoorbell (q : Nat) (count : Nat) (gen : Nat)
  /-- HOST_VIOLATION (R635): A host violation is counted, and 1,024 in 1 s halt the queue. -/
  | hostViolation (v : Violation)
  /-- UPDATE (R606): An UPDATE entry is admitted for its target or refused. -/
  | update (q : Nat) (e : Entry) (u : UpdateOps)
  /-- PLAY (R156): A PLAY cue is admitted to bind a clip player or refused. -/
  | play (q : Nat) (e : Entry) (u : PlayOps)
  /-- STOP (R159): A STOP cue cancels a player's steps from its target. -/
  | stop (q : Nat) (e : Entry) (player : Nat)
  /-- PULSE (R608): A PULSE cue is admitted for a pin in CUE mode. -/
  | pulse (q : Nat) (e : Entry) (pin : Nat) (offset : Int) (width : Nat)
  /-- MODE (R612): A MODE cue schedules a mode switch. -/
  | modeCue (q : Nat) (e : Entry) (m : Nat)
  /-- ZONES (R609): A ZONES cue reads and admits a zone-target map. -/
  | zones (q : Nat) (e : Entry) (map : Nat) (crc : Nat)
  /-- VISIBLE (R610): A VISIBLE cue sets layer visibility at its target. -/
  | visible (q : Nat) (e : Entry) (mask : Nat) (values : Nat)
  /-- CANCEL (R611): A CANCEL withdraws an admitted item before its eve. -/
  | cancel (q : Nat) (e : Entry) (queue : Nat) (ctag : Nat)
  /-- SIGNAL (R628): A SIGNAL raises a fence value. -/
  | signal (q : Nat) (e : Entry) (fence : Nat) (value : Nat)
  /-- COMPLETION_POST (R615): A completion is written to its ring, held in overflow or dropped, and MSI-X is sent. -/
  | completionPost (ring : Nat) (c : Completion)
  /-- MAILBOX_DOORBELL (R790): A mailbox doorbell executes the request in the mailbox with the host's rights. -/
  | mailboxDoorbell (value : Nat)
  /-- HBM_TRAINING_COMPLETE (R659): HBM training completes, PCIe leaves retry status and the link target speed rises. -/
  | hbmTrainingComplete (failed : List Nat)
  /-- READ_DELAY_CHECK (R660): Once a second each byte lane's read delay is checked and may move. -/
  | readDelayCheck (lane : Nat) (lowBad : Bool) (highBad : Bool)
  /-- REFRESH_DUE (R663): A refresh falls due and is issued or postponed. -/
  | refreshDue (pc : Nat) (busy : Bool)
  /-- STACK_TEMPERATURE_READ (R662): Every 32 us the stack temperature sets the refresh rate. -/
  | stackTemperatureRead (stack : Nat) (temp : Option Int)
  /-- SELF_REFRESH_ENTRY (R668): An idle pseudo-channel begins entering self-refresh. -/
  | selfRefreshEntry (pc : Nat)
  /-- SELF_REFRESH_EXIT_DONE (R668): The exit time passes, and the pseudo-channel is ACTIVE. -/
  | selfRefreshExitDone (pc : Nat)
  /-- HBM_READ_ERROR (R672): An uncorrectable read is reissued to the mirror, or returned poisoned. -/
  | hbmReadError (pc : Nat) (addr : Nat)
  /-- MIRROR_READ_COMPLETE (R672): The mirror copy returns and rewrites the failing copy. -/
  | mirrorReadComplete (pc : Nat) (addr : Nat) (good : Bool)
  /-- PATROL_SCRUB_STEP (R676): The patrol scrub reads and repairs the next unit. -/
  | patrolScrubStep (single : Bool) (uncorrectable : Bool)
  /-- ATOMIC_ADD (R681): An ADD on a general-store word returns the old value. -/
  | atomicAdd (addr : Nat) (wide : Bool) (value : Nat)
  /-- ATOMIC_SWAP (R681): A SWAP on a general-store word returns the old value. -/
  | atomicSwap (addr : Nat) (wide : Bool) (value : Nat)
  /-- BANK_UNCORRECTABLE_WORD (R680): An uncorrectable bank word is answered by area. -/
  | bankUncorrectableWord (addr : Nat)
  /-- BACKGROUND_ROW_TEST_START (R684): Each sweep interval a row is saved and marched. -/
  | backgroundRowTestStart
  /-- ROW_TEST_COMPLETE (R685): The march ends, and the row is restored or replaced by a spare. -/
  | rowTestComplete (failed : Bool)
  /-- ROW_TEST_ABANDON (R685): A row test past 4,096 clocks is abandoned and restored. -/
  | rowTestAbandon
  /-- START (R699): START sets a check unit's running value and length. -/
  | start (u : Nat)
  /-- FEED (R699): FEED starts feeding a source range to a check unit. -/
  | feed (u : Nat)
  /-- FEED_COMPLETE (R701): A FEED ends at the last byte or at a poisoned read. -/
  | feedComplete (u : Nat) (bad : Option Nat)
  /-- FINISH (R699): FINISH produces the check result. -/
  | finish (u : Nat)
  /-- ABORT (R699): ABORT stops a FEED at the next 8-byte step. -/
  | abort (u : Nat) (fed : Nat)
  /-- CHECK_UNIT_PARITY_FAIL (R702): A check-unit parity failure sets error status. -/
  | checkUnitParityFail (u : Nat)
  /-- STORE_WRITE_COMPLETE (R707): A store page write finishes and is verified or repeated, and the next queued write
  starts. -/
  | storeWriteComplete (ok : Bool)
  /-- RECORD_WRITE (R718): A record payload write goes to the non-selected copy. -/
  | recordWrite (rec : Nat) (payload : List Byte)
  /-- RING_WRITE (R724): A ring payload write goes to the next slot. -/
  | ringWrite (ring : Nat) (payload : List Byte)
  /-- PAGE_CONTENTS_READ (R705): A raw page read waits for the store and returns the page. -/
  | pageContentsRead
  /-- SENSOR_READING (R729): Each 1 ms sensor reading updates H, sensor state and the junction band. -/
  | sensorReading (i : Nat) (raw : Int)
  /-- SENSOR_CONVERSION_TIMEOUT (R733): No conversion for 3 ms marks a sensor failed. -/
  | sensorConversionTimeout (i : Nat)
  /-- TD_CROSS_CHECK (R737): TD is read and compared with the centre sensors. -/
  | tdCrossCheck (td : Int)
  /-- SENSOR_REPAIR (R738): After 60 good seconds a failed sensor is repaired. -/
  | sensorRepair (i : Nat)
  /-- RETIRE_SENSOR (R739): A failed sensor is retired under SERVICE. -/
  | retireSensor (i : Nat)
  /-- RESTORE_SENSOR (R739): A retired sensor becomes failed again. -/
  | restoreSensor (i : Nat)
  /-- OCTAVE_EVALUATE (R743): Every 100 ms the octave advances or retreats one step. -/
  | octaveEvaluate
  /-- OCTAVE_CLOCK_STEP_APPLY (R746): A new cluster clock takes effect at the next strip boundary. -/
  | octaveClockStepApply
  /-- THERMAL_FAULT_ENTER (R750): H at or above 105 C in 3 readings enters thermal fault. -/
  | thermalFaultEnter
  /-- THERMAL_FAULT_END (R753): H below 95 C for 10 s ends the thermal fault. -/
  | thermalFaultEnd
  /-- DOMAIN_POWER_GOOD (R756): A waking domain reports power-good. -/
  | domainPowerGood (pd : Nat)
  /-- DOMAIN_WAKE_TIMEOUT (R757): No power-good within 4 wake times marks a domain failed. -/
  | domainWakeTimeout (pd : Nat)
  /-- DECODER_DOMAIN_IDLE_OFF (R754): PD25 switches off after 1 ms with no decode work when frozen or in thermal fault. -/
  | decoderDomainIdleOff
  /-- ON_HOURS_WRITE (R748): Every 6 min of power-on the ON_HOURS ring is written. -/
  | onHoursWrite
  /-- THROTTLE_WRITE (R748): Every 10 min with a change the THROTTLE ring is written. -/
  | throttleWrite
  /-- NCP_HELLO (R776): A HELLO draws a CHALLENGE. -/
  | ncpHello (f : NcpHead) (slot : Nat) (nc : List Byte)
  /-- NCP_OPEN (R778): An OPEN matching a CHALLENGE opens a session with ACCEPT. -/
  | ncpOpen (f : NcpHead) (slot : Nat) (nc : List Byte) (nd : List Byte)
  /-- NCP_CLOSE (R786): CLOSE ends a session. -/
  | ncpClose (f : NcpHead)
  /-- NCP_MALFORMED_FRAME (R787): A malformed or unauthenticated frame is dropped or answered and counted. -/
  | ncpMalformedFrame (p : Nat) (src : Nat) (bytes : List Byte)
  /-- CHALLENGE_EXPIRY (R776): A CHALLENGE is discarded 1 s after it is sent. -/
  | challengeExpiry
  /-- SESSION_IDLE_TIMEOUT (R786): An idle session is closed. -/
  | sessionIdleTimeout (slot : Nat)
  /-- SOURCE_IGNORE_END (R788): A source ignored for tag failures is heard again after 10 s. -/
  | sourceIgnoreEnd (src : Nat)
  /-- NCP_ADDRESS_APPLY (R773): A new address or port takes effect 10 ms after its answer, closing old sessions. -/
  | ncpAddressApply
  /-- READ (R782): READ returns an object's whole value. -/
  | readObject (o : Origin) (r : Request)
  /-- WRITE (R782): WRITE writes an object's whole value. -/
  | writeObject (o : Origin) (r : Request)
  /-- READ_SEG (R782): READ_SEG returns part of a value. -/
  | readSeg (o : Origin) (r : Request)
  /-- WRITE_SEG (R783): WRITE_SEG adds a segment and applies the write at Total. -/
  | writeSeg (o : Origin) (r : Request)
  /-- SEGMENT_TRANSFER_TIMEOUT (R783): A transfer idle for 10 s is discarded. -/
  | segmentTransferTimeout (slot : Nat)
  /-- DESCRIBE (R784): DESCRIBE returns an object's description. -/
  | describe (o : Origin) (r : Request)
  /-- NEXT (R782): NEXT returns the next existing object. -/
  | nextObject (o : Origin) (r : Request)
  /-- KEEPALIVE (R782): KEEPALIVE does nothing. -/
  | keepalive (o : Origin) (r : Request)
  /-- IMAGE_VERIFY (R802): VERIFY checks the image in the buffer. -/
  | imageVerify
  /-- IMAGE_COMMIT (R804): COMMIT checks the image and queues its pages and the pointer. -/
  | imageCommit
  /-- MODE_SUBMIT (R812): Writing 1 submits a mode switch for its frame. -/
  | modeSubmit
  /-- LIFECYCLE_TRANSITION (R820): A transition request burns a fuse and moves the state, or is refused. -/
  | lifecycleTransition (o : Origin) (value : Nat)
  /-- ERASURE_COMPLETE (R822): The last erasure page is verified, and the pending flag clears. -/
  | erasureComplete
  /-- KEY_WRITE (R830): A key slot is written, closing its sessions. -/
  | keyWrite (o : Origin) (slot : Nat) (payload : List Byte)
  /-- RAISE_MINIMUM_VERSION (R837): The fused minimum firmware version is raised. -/
  | raiseMinimumVersion (v : Nat)
  /-- CEILING_WRITE (R838): A ceiling write is accepted only when it does not raise, except in MAKER. -/
  | ceilingWrite (which : Ceiling) (value : Nat)
  /-- POWER_ON (R843): At t = 0 power-up steps 1 to 6 and 8 begin. -/
  | powerOn
  /-- FIRST_CALENDS (R843): At t = 100 ms calends 0 starts in FREE_RUN. -/
  | firstCalends
  /-- HBM_RELEASE (R843): At t = 450 ms the stacks are released and trained. -/
  | hbmRelease
  /-- FIRMWARE_BOOT (R857): The boot ROM checks the firmware slots and runs the chosen one. -/
  | firmwareBoot (slot0 : Option Nat) (slot1 : Option Nat)
  /-- LIGHT_FIELD_READY (R851): Every bring-up condition holds. -/
  | lightFieldReady
  /-- SYS_RESET (R860): SYS_RESET_N low resets the main die, which resumes power-up at step 3. -/
  | sysReset
  /-- RAIL_BAD (R880): A bad main-die rail resets the main die. -/
  | railBad
  /-- MANAGEMENT_RESTART_COMMAND (R861): Code 1 restarts the management cores. -/
  | managementRestartCommand
  /-- MAIN_DIE_RESET_COMMAND (R861): Code 2 resets the main die. -/
  | mainDieResetCommand
  /-- DRIVE_DIE_RESET_COMMAND (R861): Code 3 resets the drive die. -/
  | driveDieResetCommand
  /-- WATCHDOG_REFRESH (R863): Firmware refreshes the watchdog. -/
  | watchdogRefresh
  /-- WATCHDOG_EXPIRY (R863): The watchdog expires and restarts management. -/
  | watchdogExpiry
  /-- MANAGEMENT_RESTART_COMPLETE (R864): Reloaded firmware runs again. -/
  | managementRestartComplete
  /-- EVENT_READ (R874): Reading returns and removes the oldest unread event. -/
  | eventRead
  /-- PROXY_STORE (R858): STORE writes the proxy image to the store. -/
  | proxyStore
  /-- PROXY_ERASE (R874): ERASE empties the proxy image area. -/
  | proxyErase
  /-- REFCLOCK_LOSS (R897): A stopped reference pair fails the links of its quadrant. -/
  | refclockLoss (quadrant : Nat)
  /-- DRIVER_DOWNSTREAM_LOCK_GAIN (R438): A column driver's downstream receiver gains block lock after 64 consecutive
  valid headers, or within 5 us of the signal returning after a SLEEP. -/
  | driverDownstreamLockGain (l : Nat)
  /-- DRIVER_LOCK_LOSS_TIMEOUT (R445): A column driver that has lost downstream block lock for 10 ms starts sending
  TRAIN_REQ. -/
  | driverLockLossTimeout (p : Nat)
  /-- DRIVER_TRAIN_SEND (R446): A training driver sends TRAIN_REQ or TRAIN every 16 upstream block times, with CAP_UP
  parts after every fourth TRAIN in STEP 3. -/
  | driverTrainSend (l : Nat) (margin : Nat)
  /-- PATTERN_TEST_RESULT_SEND (R467): In the PATTERN test loop the driver sends TEST_RESULT every 1 ms. -/
  | patternTestResultSend (l : Nat) (errors : Nat)
  /-- SYS_RESET_RELEASE (R860): SYS_RESET_N rises, the main die resumes power-up at step 3, reads the zone states from
  the drive die and the paused lens update continues. -/
  | sysResetRelease
  /-- HBM_COMMAND_PARITY_ERROR (R674): A stack reports a command-parity error, and 16 within 1 s mark the
  pseudo-channel failed. -/
  | hbmCommandParityError (pc : Nat)
  /-- STACK_CONTROL_FAILURE (R674): A stack's control interface fails, and all 32 of its pseudo-channels are marked
  failed. -/
  | stackControlFailure (stack : Nat)
  /-- TILE_PORT_LOCK_GAIN (R552): A tile-port lane gains block lock, and an enabled DOWN port goes to LINKING and sends
  HELLO. -/
  | tilePortLockGain (t : Nat) (lane : Nat)
  /-- TILE_PORT_LOCK_LOSS (R549): A tile-port lane loses block lock; without lane 0 lock the port gives no phase, and
  the 1 s down timer starts. -/
  | tilePortLockLoss (t : Nat) (lane : Nat)
  /-- TILE_PORT_TAKE_DOWN_END (R564): One second after a violation take-down, the tile port leaves DOWN and may link
  again. -/
  | tilePortTakeDownEnd (t : Nat)
  /-- TILE_SERDES_DOMAIN_OFF (R754): PD31 switches off after every tile port has been disabled for 1 s. -/
  | tileSerdesDomainOff
  /-- PCIE_LINK_DOWN (R580): The PCI Express link goes down, admitted items go on taking effect and the silence rule
  applies. -/
  | pcieLinkDown
  /-- STORE_SELECTION_COMPLETE (R726): The drive die finishes selecting its records and rings, loads the ceilings and
  sensor offsets, and power-up steps 3 to 6 and 8 start. -/
  | storeSelectionComplete
  /-- MANAGEMENT_CORES_STOP (R59): MC0 to MC3 stop; the device runs from committed state, control traffic goes
  unanswered and local time enters HOLDOVER. -/
  | managementCoresStop
deriving DecidableEq, Repr

end Sys2Proof
end

