-- ==== Sys2Proof/Decode.lean ====
section
/-!
DEFINITION. The command a word of the table's bits spells. Every row of spec/opcode_table.json has "fields": [] and
no "fixed" bits, so no word spells a command: the block has commands, not an instruction encoding.
-/
namespace Sys2Proof

/-- The command that `w`, of `nbits` bits, spells by the table: none, since no row of the table gives bits. -/
def decodeTableWord (_nbits _w : Nat) : Option Instr := none

/-- The rows of the table that give bits spell no word: there are none of them. -/
theorem decodeTableWord_none (nbits w : Nat) : decodeTableWord nbits w = none := rfl

end Sys2Proof
end

