-- ==== Sys2Proof/Config.lean ====
section
/-!
DEFINITION. What one device fixes, and the values the manual leaves open. A free value is a constant with no body:
nothing can be proved of it, and a claim about it holds whatever it is.
-/
namespace Sys2Proof.Config

/-- DESIGN CHOICE (log 1): the ps by which local time advances when no command waits. -/
def tickPs : Nat := 1000

/-- What an HBM or bank byte that nothing has written reads as. DESIGN CHOICE (log 2): no rule gives it. -/
def unwritten : Byte := 0

/-- Free: the linear u16 value of colour `c` of the ROM pictogram at hogel `(hx, hy)` (R298, R848; log 3). -/
opaque romPictogram : Nat → Nat → Nat → Nat

/-- Free: byte `i` of the ROM pictogram for a tile size, as 0x6100:05 gives it (R874; log 3). -/
opaque romByte : Nat → Nat → Byte

/-- Free: the nonce of the `n`-th CHALLENGE, as a 128-bit number (R775; log 4). -/
opaque deviceNonce : Nat → Nat

/-- Free: a value no rule states, drawn by the step's counter (log 5). -/
opaque freeNat : Nat → Nat

/-- Free: the byte at address `a` of an area the manual lays out nowhere, at the `n`-th draw (log 18). -/
opaque freeByte : Nat → Nat → Byte

/-- Free: what the driver of port `p` reports of itself: PROTOCOL, SPEEDS, WIDE, VENDOR, MODEL, MAXCUR (R402; log 15). -/
opaque driverCaps : Nat → Nat × Nat × Bool × Nat × Nat × Nat

/-- Free: which kind of work decoder `de` holds at time `t`, among those that run (R174; log 145). -/
opaque decoderWork : Nat → Nat → Nat

/-- Free: the percentage that a verification of clip entry `e` has come to at time `t` (R174; log 186). -/
opaque verifyProgress : Nat → Nat → Nat

/-- Free: where in its sequence the pattern generator of link `l` stands at time `t` (R468; log 146). -/
opaque patternStart : Nat → Nat → Nat

/-- Free: the 58 bits of the scrambler of lane `k` when it takes a control block at time `t`: any value at start-up, and
moved on by every IDLE block (R398, R399; log 124). -/
opaque scramblerState : Nat → Nat → Nat

/-- Free: how many blocks the checker of a NEAR or FAR loop on link `l` has compared at time `t` since its count was read
last, and which bits of the `k`-th of them the path has changed (R467; log 147). -/
opaque loopBlocks : Nat → Nat → Nat
opaque loopNoise : Nat → Nat → Nat → Nat

/-- Free: which mirrored pair of the management area holds the context of queue `q`: its offset is not fixed (R595, R903;
log 153). -/
opaque contextPair : Nat → Nat

/-- Free: the address of that context within its pseudo-channels, as a number of 64 bytes (R595, R903; log 153). -/
opaque contextAt : Nat → Nat

/-- Free: the number ACCEPT carries for the `n`-th session, before the rule of R778 is applied (log 4). -/
opaque sessionNumber : Nat → Nat

/-- Free: the MAC address of EP0 and EP1 in an IDENTITY record that the manual lays out nowhere (log 6). -/
opaque macAddress : Nat → Nat

/-- Free: the passing windows that training finds on byte lane `k`: first step and width of the read and of the write
delay, and whether a bit was remapped (R656 to R658; log 7). -/
opaque laneTraining : Nat → Nat × Nat × Nat × Nat × Bool

/-- Free: the byte lane that fails a pseudo-channel at training (R658), and the temperature of a stack that training
reads, in °C (R656; log 7). -/
opaque trainingLane : Nat → Nat
opaque trainingTemperature : Nat → Int

end Sys2Proof.Config
end

