-- ==== Sys2Proof/Machine/State.lean ====
section
/-!
DEFINITION. The state of the block: the waiting commands, the fuses and ceilings that hardware alone moves, local
time, the memories, and the device's registers and engines. Registers the manual numbers in its object dictionary
live in `Dev.od` (and, for shadow objects, in `Dev.shadow` and in the committed state) under their index and
subindex; everything the manual names outside the dictionary has a typed field.
-/
namespace Sys2Proof.Machine

/-- A sparse table: keys strictly rising. An unlisted key reads as the default the table names. -/
abbrev AMap (α : Type) := List (Nat × α)

/-- Why the block stops. It never does: the manual gives the block no state from which nothing follows, and a command
about a unit that the part lacks changes nothing (R8). So no fault has a name, and no command answers one. -/
inductive Fault where
deriving DecidableEq, Repr

/-- Why a command is turned away. -/
inductive Refusal where
  /-- The command has no meaning in this model yet: raised by the dispatcher alone. Safe. -/
  | notModelled (mnemonic : String)
  /-- The operands lie outside the ranges of `Instr.wellFormed`: raised by `run`. Safe: the manual numbers no
  such unit. -/
  | illFormed
deriving DecidableEq, Repr

/-- The three parts of R1. -/
inductive Part where
  | rkz9640 | rkz9632 | rkz9620
deriving DecidableEq, Repr

/-- The life-cycle states of R818. -/
inductive LifeCycle where
  | blank | maker | openState | locked | returned | retired
deriving DecidableEq, Repr

/-- Everything held in fuses (R1, R819, R836, R837): no command but a transition or a raise of the minimum moves it. -/
structure Fuses where
  part : Part := .rkz9640
  state : LifeCycle := .blank
  /-- Transition fuses burned, of 64 (R819). -/
  used : Nat := 0
  /-- Fused minimum firmware version (R836, R837). -/
  minVersion : Nat := 0
  /-- The firmware-key digest is fused, and its value (R820). -/
  digestFused : Bool := false
  digest : Nat := 0
deriving DecidableEq, Repr

/-- One CEILINGS record (R838). -/
structure Ceilings where
  radiance : Nat := 16383
  panelCurrent : Nat := 4095
  lensVoltage : Nat := 24000
  dcBalance : Nat := 20000
  linkAmplitude : Nat := 1000
  tileAmplitude : Nat := 1000
  transmitCap : Nat := 10000
deriving DecidableEq, Repr

/-- CEILINGS records 1 and 2 as the drive die holds them; record 2 is the effective one (R838). -/
structure CeilingRecords where
  rec1 : Ceilings := {}
  rec2 : Ceilings := {}
deriving DecidableEq, Repr

/-! ### Frame timing and committed state -/

/-- The timing generator and the frame DPLL (chapters 7 and 10). -/
structure Timing where
  /-- Calends 0 has happened (R843 step 7). -/
  started : Bool := false
  /-- Frame count since the epoch (R572); the frame number is its low 32 bits. -/
  count : Nat := 0
  /-- Count of the frame before. -/
  prev : Nat := 0
  /-- Lines of the frame that have started; the next LINE_START starts this line. -/
  line : Nat := 0
  /-- From V + 8 lines on: whether the next frame shows proxy content (R456). -/
  nextProxy : Option Bool := none
  /-- Line starts since reset. -/
  lines : Nat := 0
  /-- The eve of the frame has passed (R243). -/
  eveDone : Bool := false
  /-- Calends from this frame to the next: 1, or the hold factor of R381. -/
  hold : Nat := 1
  holdNext : Nat := 1
  /-- The frame is a hold frame, and the next one is (R384, R385). -/
  inHold : Bool := false
  nextHold : Bool := false
  /-- The hold frame is by silence (0x3810:02). -/
  bySilence : Bool := false
  nextBySilence : Bool := false
  /-- Local time of the eve of the frame, and this device's own conditions of R384 for the next frame: its hold
  factor, 1 when they do not hold. -/
  eveAt : Nat := 0
  ownHold : Nat := 1
  ownReady : Bool := false
  /-- A silent host requests a hold (R391). -/
  silent : Bool := false
  /-- Intercalary lines of the frame, fixed at V (R359). -/
  inter : Int := 0
  /-- Lines by which the step of R539 stretches the vigil. -/
  stretch : Int := 0
  trim : Int := 0
  trimNext : Int := 0
  /-- The count the next calends carries after the stretched vigil of R539. -/
  jump : Option Nat := none
  /-- Local time of the calends of the frame, ps. -/
  calendsAt : Nat := 0
  /-- Frames in a row within 20 ns, and beyond 100 ns (R543). -/
  inLock : Nat := 0
  outLock : Nat := 0
  everLocked : Bool := false
  /-- The first light-field frame has begun (R852). -/
  lightField : Bool := false
  /-- Ports that have underrun in the present line, and raster halves whose underrun is logged in the frame (R367,
  R368). -/
  underran : List Nat := []
  underLogged : List Nat := []
  /-- Scan engines marked failed in this strip, by half: the state that the pair takes at the next strip (R372,
  R373). -/
  engineFailed : AMap Nat := []
deriving DecidableEq, Repr

/-- The content one update gives a layer: its definition and its occupancy (R83, R86, R90). -/
structure Content where
  overlay : Bool := false
  w : Nat := 64
  h : Nat := 64
  /-- Plane: origin, raw Q8.8 depth, and log2 of the scale. -/
  ox : Int := 0
  oy : Int := 0
  depth : Int := 0
  ls : Nat := 0
  /-- Overlay: destination rectangle and stacking order. -/
  dx : Nat := 0
  dy : Nat := 0
  dw : Nat := 1
  dh : Nat := 1
  order : Nat := 0
  /-- Occupied blocks in ascending order, each with its cell mask. -/
  occ : List (Nat × Nat) := []
deriving DecidableEq, Repr

/-- What the committed state names for a layer (R241, R261). -/
structure Layer where
  lease : Nat := 0
  /-- 0 the layer's own slot, 1 + h hold slot h (0x3005). -/
  slot : Nat := 0
  content : Option Content := none
  /-- Target count of the update that wrote the content (R131). -/
  frame : Nat := 0
deriving DecidableEq, Repr

/-- Committed state: what every pipeline reads (R241). -/
structure Committed where
  /-- Committed values of the shadow objects that differ from their defaults, by key. -/
  objs : AMap Nat := []
  layers : AMap Layer := []
  /-- The live view table, 288 slopes (SX, SY); empty stands for the default table of R178. -/
  view : List (Int × Int) := []
  /-- Band table of R320: band to slot; an unlisted band lies in the slot of its own number. -/
  bands : AMap Nat := []
  /-- Zone rendering modes: bit z set is 2D (0x4410:03). -/
  zones2D : Nat := 0
  /-- Zones that the planner counts as 2D: set to 2D at some frame, and not yet seen to have returned (R238). -/
  count2D : Nat := 0
  /-- The safety image chosen; 4 is the ROM pictogram (R297, R298). -/
  image : Nat := 0
  /-- The safety state is captured (R294). -/
  safety : Bool := false
  /-- The frame is rendered from a freeze cache (R168). -/
  frozen : Bool := false
  /-- The thermal fault's proxy content is shown (R750). -/
  thermal : Bool := false
  mode : Nat := 0
deriving DecidableEq, Repr

/-- What an admitted item does at its target (R606, R353, R181, R325, R811). -/
inductive ItemKind where
  | update (layer : Nat) (content : Content) (lease slot : Nat)
  | play (player : Nat)
  | stop (player : Nat)
  | pulse (pin : Nat) (offset : Int) (width : Nat)
  | mode (m : Nat) (reload : Bool)
  | zones (map : Nat)
  | visible (mask values : Nat)
  | view (table : List (Int × Int))
  | raster (rate tile width role port : Nat)
deriving DecidableEq, Repr

/-- How far the decode of an update has come. -/
inductive DecodeStage where
  | waiting | running | marking | done | failed
deriving DecidableEq, Repr

/-- An admitted item (R613, R624). -/
structure Item where
  /-- Admission number. -/
  num : Nat
  /-- Queue, generation and tag; `host` is false for an item of the dictionary, which gets no completion. -/
  host : Bool := false
  queue : Nat := 0
  gen : Nat := 0
  tag : Nat := 0
  /-- Completion ring and its generation at admission. -/
  cq : Nat := 0
  cqGen : Nat := 0
  /-- Target as a frame count. -/
  target : Nat
  kind : ItemKind
  fenced : Bool := false
  fence : Nat := 0
  wait : Nat := 0
  timeout : Nat := 0
  members : Nat := 0
  group : Nat := 0
  stage : DecodeStage := .waiting
  /-- A fenced flip or group that an eve has released (R264, R272): it shows at the calends that follows. -/
  released : Bool := false
deriving DecidableEq, Repr

/-! ### Scene pipeline -/

/-- What a run of chunks is decoded for. -/
inductive JobKind where
  | update
  | clip (play frame : Nat)
deriving DecidableEq, Repr

/-- A run of chunks being decoded into a layer's slot (R122): an update, or an update of a clip. -/
structure Job where
  /-- Admission number of the item, or a number of its own. -/
  num : Nat
  /-- Admission number that orders it among updates of one target: its item's, or its player's cue's (R122). -/
  order : Nat := 0
  kind : JobKind
  layer : Nat
  /-- Layer its chunks carry (R70, R147). -/
  chunkLayer : Nat := 0
  target : Nat
  slot : Nat := 0
  staging : Nat
  length : Nat
  lease : Nat
  /-- Sequence of the definition chunk. -/
  seq : Nat
  content : Content
  /-- Ordinals of chunks (0 the definition) that have been decoded. -/
  taken : List Nat := [0, 1]
  /-- The count table: block to palette Count (R123). -/
  counts : AMap Nat := []
  /-- Chunk ordinal, first and last block of the palette and index records found (R78). -/
  palSpans : List (Nat × Nat × Nat) := []
  idxSpans : List (Nat × Nat × Nat) := []
  /-- Blocks whose palette and index records have been written. -/
  palDone : List Nat := []
  idxDone : List Nat := []
  /-- Ordinals of chunks that were fetched and checked before the window opened (R38). -/
  checked : List Nat := []
  /-- Chunks reissued after a decoder fault (R125). -/
  reissued : List Nat := []
  /-- The slot's descriptors have been rewritten with LEASE 0 (R133). -/
  opened : Bool := false
  /-- END has passed; the final descriptors wait for the decoders' marker (R654). -/
  marking : Bool := false
deriving DecidableEq, Repr

/-- A decoder that waits for a palette Count (R123). -/
structure Waiting where
  job : Nat
  /-- Chunk ordinal and the byte offset of the record within its payload. -/
  chunk : Nat
  record : Nat
  block : Nat
deriving DecidableEq, Repr

/-- A carry-forward, restore or hold-slot copy in progress (R136, R262). -/
structure CopyJob where
  layer : Nat
  slot : Nat
  /-- Calends the copy is for; it reads the group of the calends before. -/
  target : Nat
  restore : Bool
  lease : Nat
  content : Content
  /-- Target count of the update that wrote the content (R131). -/
  frame : Nat := 0
  /-- Every block is copied, and the marker before its final descriptors has been issued (R654). -/
  marking : Bool := false
deriving DecidableEq, Repr

def CopyJob.marked (c : CopyJob) : CopyJob := { c with marking := true }

/-- A protected slot (R277 to R280). -/
structure ProtectedSlot where
  /-- 0 empty, 1 loading, 2 valid, 3 failed. -/
  state : Nat := 0
  detail : Nat := 0
  /-- Staging and length of the LOAD that runs. -/
  staging : Nat := 0
  length : Nat := 0
deriving DecidableEq, Repr

/-- A directory entry of the show library (R150, R153). -/
structure ClipEntry where
  addr : Nat := 0
  length : Nat := 0
  /-- 0 EMPTY, 1 LOADED, 2 VERIFYING, 3 READY, 4 FAILED. -/
  state : Nat := 0
  progress : Nat := 0
  detail : Nat := 0
  frames : Nat := 0
  mask : Nat := 0
  /-- Per clip frame: worst-case plane steps, largest footprint, decode clocks, decode bytes, library bytes. -/
  summary : List (Nat × Nat × Nat × Nat × Nat) := []
deriving DecidableEq, Repr

/-- An admitted PLAY cue and its binding (R156, R160). -/
structure Player where
  /-- The clip player, 0 to 63. -/
  id : Nat := 0
  /-- 1 admitted, 2 bound. -/
  state : Nat := 0
  clip : Nat := 0
  t0 : Nat := 0
  step : Nat := 1
  loops : Nat := 0
  clear : Bool := false
  map : List Nat := []
  /-- End calends, when one is known. -/
  endAt : Option Nat := none
  frame : Nat := 0
  /-- A clip update of the binding has failed (R163). -/
  failed : Bool := false
deriving DecidableEq, Repr

/-- The freeze state machine beside its objects (R168). -/
structure Freeze where
  /-- Calends in a row at which the state was stable (R167). -/
  stable : Nat := 0
  /-- Count of the first flatten frame, flatten frames begun, and the freeze state of the next frame as its eve found
  it. -/
  startAt : Nat := 0
  frames : Nat := 0
  next : Nat := 0
  /-- The state that was flattened. -/
  flat : Option Committed := none
  valid : Bool := false
  /-- Frame count at which FROZEN takes effect. -/
  enterAt : Option Nat := none
  /-- A strip has failed on every copy: leave at the next calends whose eve follows. -/
  failed : Bool := false
  /-- Post sums of the last flatten frame (R342). -/
  post : AMap Nat := []
deriving DecidableEq, Repr

/-- An entry of the window cache (R144): block bytes fetched for a layer. -/
structure CacheEntry where
  layer : Nat
  group : Nat
  block : Nat
  lease : Nat
  descriptor : List Byte := []
  tile : List Byte
  palette : List Byte
deriving DecidableEq, Repr

/-! ### Synthesis -/

/-- A patch of a frame (R199). -/
structure Patch where
  count : Nat
  strip : Nat
  patch : Nat
deriving DecidableEq, Repr

/-- A tile slot of a window store with its palette slot (R207): what it holds, and the patches
that pin it. -/
structure WindowSlot where
  layer : Nat
  group : Nat
  block : Nat
  lease : Nat
  descriptor : List Byte
  tile : List Byte
  palette : List Byte
  pins : List Patch := []
deriving DecidableEq, Repr

/-- Dispatch, redo and the strip buffer (chapter 4). -/
structure Synth where
  /-- Released patches not handed out, in queue order (R211). -/
  queue : List Patch := []
  /-- Clusters that have asked, in order of request (R212). -/
  requests : List Nat := []
  /-- Patches handed out to clusters, in order; the first of a cluster is the one it works on. -/
  running : List (Nat × Patch) := []
  complete : List Patch := []
  /-- Patches of the strip being scanned, or of its region checks, that are sent with KEEP (R222). -/
  missed : List Patch := []
  /-- Redo quarters waiting, and those running on a spare (R219). -/
  redoWaiting : List (Patch × Nat) := []
  redoRunning : AMap (Patch × Nat) := []
  redoDone : List (Patch × Nat) := []
  /-- Spares drafted into the scheduled set (R223). -/
  drafted : List Nat := []
  /-- Times of the watchdog expiries of each cluster within the last second (R218). -/
  expiries : AMap (List Nat) := []
  /-- Patches whose colour is being computed a second time (R346). -/
  recomputed : List Patch := []
  /-- Patches whose second colour computation has failed (R347). -/
  colourFailed : List Patch := []
  /-- The window cache, newest entry first. -/
  cache : List CacheEntry := []
  /-- The window stores of the clusters, by cluster: the slots in use, newest first, at most 512 (R207). -/
  stores : AMap (List WindowSlot) := []
  /-- Layers transparent for a patch after a lease miss (R142). -/
  transparent : List (Nat × Patch) := []
  /-- Frames' counts and layers whose lease miss is logged (R143). -/
  missLogged : List (Nat × Nat) := []
  /-- Protected slots and blocks that a read of this frame found bad on both copies (R281). -/
  protectedBad : List (Nat × Nat) := []
  /-- Drive codes by ((slot · 24 + line) · 32 + patch), three per emitter (R33, R203). -/
  strips : AMap (List Nat) := []
  /-- Composed values under a region's mask, by (((frame mod 2) · 16 + r) · 17280 + ye) · 61440 + xe:
  R + 2^16 G + 2^32 B (R283). -/
  signature : AMap Nat := []
deriving DecidableEq, Repr

/-- A protected region beside its objects (R286 to R290). -/
structure Region where
  agreeing : Nat := 0
  /-- Frame count of the last comparison. -/
  compared : Option Nat := none
  mismatching : Bool := false
  active : Bool := false
  /-- Frame count from which the action starts or ends. -/
  startAt : Option Nat := none
  endAt : Option Nat := none
deriving DecidableEq, Repr

/-- Governor sums and scales, aging totals (R331, R332, R341). -/
structure Governor where
  pre : AMap Nat := []
  post : AMap Nat := []
  /-- Sums of the patches of the next frame that are complete before its calends. -/
  preNext : AMap Nat := []
  postNext : AMap Nat := []
  /-- Pre sums of the frame before (R904). -/
  preLast : AMap Nat := []
  /-- Zone scales; an unlisted zone has 0x1_0000. -/
  scale : AMap Nat := []
  /-- Totals of R341: the counter is the total divided by 2^40. -/
  aging : AMap Nat := []
  /-- A hardware ceiling was lowered in this frame (R904). -/
  lowered : Bool := false
  /-- Frame counts, and byte ranges of the gain map that read as 0x80 in the frame (R321). -/
  badGain : List (Nat × Nat × Nat) := []
deriving DecidableEq, Repr

/-- A pending band update (R325, R326). -/
structure BandUpdate where
  band : Nat
  staging : Nat
  crc : Nat
  target : Nat
  slot : Nat
  copied : Bool := false
deriving DecidableEq, Repr

/-! ### Driver links -/

/-- What a link is sending in the present line (R404, R428), or in CONFIRM or a test: `count` pattern blocks from a
state of the generator on (R468). -/
inductive LinkTx where
  | idle
  | sol (line depth seq : Nat) (codes : List Nat)
  | keep (line seq : Nat)
  | pattern (count lfsr : Nat)
deriving DecidableEq, Repr

/-- The block receiver of a lane (R438, R439). -/
structure Receiver where
  locked : Bool := false
  /-- The bit alignment that is tested, and valid headers in a row at it. -/
  slip : Nat := 0
  good : Nat := 0
  /-- Headers of the last 64 blocks while locked, newest first: valid or not. -/
  recent : List Bool := []
  /-- Time of the last block that was not IDLE. -/
  heardAt : Nat := 0
deriving DecidableEq, Repr

/-- How a transmitter drives its lane (R889): swing in mVppd, and the magnitudes of its pre- and post-cursor in tenths of
a decibel. -/
structure TxDrive where
  swing : Nat
  pre : Nat
  post : Nat
deriving DecidableEq, Repr

/-- The control block that a lane sent last: its 66 bits, the first one sent lowest, and the scrambler after it (R395,
R398). -/
structure Wire where
  /-- Time of the block, and the 66-bit blocks that went out at that time before it, the first first. -/
  sentAt : Nat := 0
  before : List Nat := []
  bits : Nat
  scrambler : Nat
deriving DecidableEq, Repr

/-- The device's end of one driver link beside its objects. -/
structure Link where
  /-- Next SEQ (R412). -/
  seq : Nat := 0
  /-- Last SEQ sent since the link entered ACTIVE (R464). -/
  lastSeq : Option Nat := none
  tx : LinkTx := .idle
  /-- Data blocks of the packet that goes out, as 64-bit payloads (R404 to R407). -/
  data : List Nat := []
  /-- The output FIFO: the next line's codes, when a line has been read (R361). -/
  fifo : Option LinkTx := none
  /-- Last drive codes sent, for the repeat of R365. -/
  last : List Nat := [0, 0, 0]
  /-- Speed of the attempt, failed attempts at it, and the phase of R448's ladder: 0 target speed, 1 climbing,
  2 finishing at the best speed. -/
  speed : Nat := 0
  attempts : Nat := 0
  ladder : Nat := 0
  /-- Highest speed whose EXCHANGE passed in the ladder. -/
  passed : Nat := 0
  /-- The upstream receiver. -/
  rx : Receiver := {}
  /-- Speed at which the link has last been trained (R467). -/
  trained : Nat := 0
  /-- Time the upstream lane lost lock, while it is lost. -/
  upLostAt : Option Nat := none
  /-- Parts 0 and 1 of CAP_UP, once intact. -/
  part0 : Option Nat := none
  part1 : Option Nat := none
  /-- Preset being swept, margins recorded, preset chosen (R890). -/
  preset : Nat := 0
  margins : List Nat := []
  swept : Bool := false
  goodTrains : Nat := 0
  lowMargin : Nat := 0
  /-- A vigil retrain of this link is due, or its stage: 0 none, 1 due, 2 LOCK, 3 EQUALIZE, 4 CONFIRM (R441). -/
  vigil : Nat := 0
  /-- Times of failure, of leaving ACTIVE while alone, of reaching ACTIVE, and of the last discard report (R455). -/
  failedAt : Option Nat := none
  aloneAt : Option Nat := none
  activeAt : Option Nat := none
  discardAt : Option Nat := none
  /-- Discards reported in recent lines, by line number of the frame count's lines (R453). -/
  discards : List (Nat × Nat) := []
  /-- The upstream lane is counted as lost (R466). -/
  lost : Bool := false
  /-- Control blocks sent last, as payloads, newest first, at most 16. -/
  sent : List Nat := []
  /-- How the downstream lane was driven when it sent last (R889), and what it sent (R398). -/
  drive : Option TxDrive := none
  wire : Option Wire := none
deriving DecidableEq, Repr

/-- The device's side of one driver port beside its objects. -/
structure Port where
  /-- Mode to enter at the next calends (R456). -/
  nextMode : Option Nat := none
  /-- Times of violations within the last second (R464). -/
  violations : List Nat := []
  emit : Bool := false
  /-- The frame-end sequence sent last: FRAME, COPY and the five ARGs (R428, R429). -/
  frameEnd : Option (Nat × Nat × List Nat) := none
  takenDown : Bool := false
  /-- Telemetry item in force at the driver (R429, R437). -/
  item : Nat := 1
deriving DecidableEq, Repr

/-- One link's end in a column driver. -/
structure DriverLane where
  /-- Last SEQ seen (R420), and the last one accepted (R436). -/
  seq : Option Nat := none
  accepted : Nat := 0
  discards : Nat := 0
  /-- The downstream receiver. -/
  rx : Receiver := {}
  /-- An intact SLEEP has come, and the lane is idle; the driver's own upstream lane is asleep (R461, R462). -/
  asleep : Bool := false
  upAsleep : Bool := false
  /-- Link number folded into checks, once CAP has come (R400, R402). -/
  link : Nat := 0
  /-- Training STEP in force: 15 sends TRAIN_REQ, 0 trained (R445, R446). -/
  step : Nat := 15
  /-- TRAINs sent under STEP 3, and an intact CAP has come. -/
  trains : Nat := 0
  cap : Bool := false
  /-- Blocks sent upstream last, as payloads, newest first, at most 16, and the last one on the lane (R398). -/
  out : List Nat := []
  wire : Option Wire := none
deriving DecidableEq, Repr

/-- A compatible column driver (R416 to R437). -/
structure Driver where
  lower : DriverLane := {}
  upper : DriverLane := {}
  /-- Row values by 2 · row + half: 10-bit codes, three for each column of the half (R421); an unlisted row is 0. -/
  rows : AMap (List Nat) := []
  emit : Bool := false
  current : Nat := 0
  replicate : Nat := 24
  telem : Nat := 1
  upSleep : Bool := false
  wide : Bool := false
  /-- Commands taken, for the next calends (R432). -/
  commands : Option (List (Nat × Nat)) := none
  feMiss : Bool := false
  /-- Lines of the frame that a HALF packet has been accepted for, and whether on the upper link (R424). -/
  halfLines : List (Nat × Bool) := []
deriving DecidableEq, Repr

/-! ### Lens layer -/

/-- A zone on its way to a target (R497, R498). -/
structure Transition where
  to2D : Bool
  /-- Overdrive frames left; `none` before the first drive-frame boundary. -/
  overdrive : Option Nat := none
  /-- Largest settle time of the bands in force during the transition, ms. -/
  settle : Nat := 0
  update : Nat := 0
  /-- The target that the zone was last driven to before this one (R514). -/
  prior : Bool := false
deriving DecidableEq, Repr

/-- Where a bistable update stands (R502). -/
inductive LensPhase where
  | idle | writingBegin | writingRows (left : Nat) | starting | pulsing | writingEnd
deriving DecidableEq, Repr

/-- The drive die's lens section (chapter 9). -/
structure Lens where
  /-- Layer kind, polarity and source as read at the drive die's reset (R475). -/
  bistable : Bool := false
  highIs3D : Bool := false
  pump : Bool := true
  /-- Zone states: bit z set, zone z has reached 2D (0x4410:02), and the targets being driven. -/
  reached : Nat := 0
  target : Nat := 0
  transitions : AMap Transition := []
  /-- Zones whose reports wait for the main die, with the state reported (R499). -/
  reports : List (Nat × Bool) := []
  /-- Reports that have arrived and wait for an eve (R35). -/
  arrived : List (Nat × Bool) := []
  /-- Bias source: 0 off, 1 on, 2 off after a bias fault, 3 off after a DC stop. -/
  bias : Nat := 0
  retries : Nat := 0
  /-- Measurements in a row out of range, for each of V0 to V4 (R481). -/
  outOfRange : List Nat := []
  /-- DC integrals by output: sums of 2 Vout − V4, mV, one for each 1 us sample (R491); 2,000 are 1 mV·ms. -/
  integrals : AMap Int := []
  /-- Slot 0 of the drive frame is of negative polarity, or its negative share comes first; drive frames so far (R485,
  R492). -/
  inverted : Bool := false
  frames : Nat := 0
  /-- Half slots of the running drive frame, 0 to 48, at which a forced inversion turns the polarity (R492). -/
  flips : List Nat := []
  /-- Band table entries in force in the drive, and the band they are of (R486, R512). -/
  band : Nat := 1
  nextBand : Option Nat := none
  mono : Nat := 0
  bi : Nat := 0
  hiZ : List Nat := []
  phase : LensPhase := .idle
  /-- Commons still to be written, pulse phases left of the first, and the time at which the pulse phase or the drive
  frame began (R482, R487, R488). -/
  commons : List Nat := []
  repeats : Nat := 0
  phaseAt : Nat := 0
  /-- The 3.3 V supply as the source's start measured it, mV (R477). -/
  v33 : Nat := 0
  /-- Duties that zones keep until the running drive frame or pulse phase ends, although their target has changed
  (R500). -/
  held : AMap Nat := []
  /-- Updates with a zone that took a new target before it reached its own (R500). -/
  superseded : List Nat := []
  /-- Update whose journal sequence runs (R502). -/
  writing : Nat := 0
  /-- Commons whose zones' proxy values are 0 until the first frame after the journal closes (R508, R509). -/
  affected : Nat := 0
  /-- Commons of the update in its LENS_BEGIN (R502), and an update waiting behind it. -/
  mask : Nat := 0
  queued : Bool := false
  paused : Bool := false
  /-- The re-drive of R508 is running; the journal was found open at the drive die's reset. -/
  redrive : Bool := false
  /-- The drive die runs from VHOLD (R882), or is held in its reset. -/
  onHold : Bool := false
  inReset : Bool := false
deriving DecidableEq, Repr

/-! ### Time and the wall -/

/-- One PTP source (R523 to R526). -/
structure Source where
  /-- Last offsets from local time, newest first, at most 16, ns. -/
  offsets : List Int := []
  /-- Offsets of the last 64 s with their times, newest first (R524). -/
  recent : List (Nat × Int) := []
  /-- Offsets in a row that jump by more than 1 ms. -/
  jumps : Nat := 0
  valid : Bool := false
  validSince : Nat := 0
  /-- It was active and has not been valid for 64 s since (R526). -/
  former : Bool := false
  /-- Sync: network send time and receive stamp, ns (for the path delay). -/
  t1 : Int := 0
  t2 : Int := 0
  /-- A two-step Sync that waits for its follow-up: sequence, receive stamp and correction, ns (R520). -/
  sync : Option (Nat × Int × Int) := none
  /-- A two-step Pdelay_Resp that waits: sequence, the peer's receive time, and the round trip by the device's stamps. -/
  peer : Option (Nat × Int × Int) := none
deriving DecidableEq, Repr

/-- Local time against the timebase of `State.now` (R525 to R527). -/
structure Clock where
  /-- Local time minus the timebase at `movedAt`, ps, and the frequency correction since, in parts in 10^9 (R527). -/
  adj : Int := 0
  freq : Int := 0
  /-- δ = o_B − o_A, ns, as it was kept while both sources were valid last (R524). -/
  delta : Int := 0
  /-- A source has been valid since the reset. -/
  everValid : Bool := false
  /-- Timebase at the last Sync of the active source, and at the last whole second of the decay of δ_s. -/
  movedAt : Nat := 0
  decayAt : Nat := 0
deriving DecidableEq, Repr

/-- A frame generated by firmware: its size in bytes, and the destination and bytes of an NCP frame (R518). -/
structure EthFrame where
  size : Nat
  ncp : Option (Nat × List Byte) := none
deriving DecidableEq, Repr

/-- A PTP event message that left or came, with its stamp in ns (R522, R528). -/
structure PtpStamp where
  msgtype : Nat
  domain : Nat
  seqId : Nat
  time : Int
deriving DecidableEq, Repr

/-- One Ethernet port. -/
structure EthPort where
  /-- Try 1000BASE-X next (R516). -/
  try1G : Bool := false
  /-- Frames waiting under the cap, oldest first, and bits sent with their times (R518). -/
  waiting : List EthFrame := []
  sent : List (Nat × Nat) := []
  violations : List Nat := []
  lockout : Bool := false
  /-- Transmit stamps, oldest first, as the numbers of R529. -/
  stamps : List Nat := []
  /-- Requests sent, as the servo matches them to their answers, newest first, at most 32 (R522, R531). -/
  asked : List PtpStamp := []
  /-- Pdelay_Reqs received and not yet answered, newest first, at most 32; and the turnaround that the last one-step
  Pdelay_Resp carried, ns (R520, R528). -/
  pdelay : List PtpStamp := []
  turnaround : Option Int := none
deriving DecidableEq, Repr

/-- One tile port beside its objects (chapter 10). -/
structure TilePort where
  /-- Own MARKER: start on lane 0 and the number of its frame; ps of the timebase. -/
  a1 : Option (Nat × Nat) := none
  /-- Neighbour's MARKER: reception and frame. -/
  a4 : Option (Nat × Nat) := none
  followed : Bool := false
  /-- Frames in a row with and without a good pair (R556). -/
  good : Nat := 0
  bad : Nat := 0
  goodNow : Bool := false
  /-- The neighbour has a calends with the number of the current frame (R557). -/
  shares : Bool := true
  /-- Frames in a row with and without the primary's marker (R378, R379). -/
  pairGood : Nat := 0
  pairBad : Nat := 0
  /-- Neighbour's next calends and HOLD_READY (R557, R559), with the frame they came in. -/
  nextFrame : Option Nat := none
  holdReady : Bool := false
  eveAt : Nat := 0
  /-- Neighbour's rate, tile and role from its MARKER (R377). -/
  setting : Option (Nat × Nat × Nat) := none
  violations : List Nat := []
  takenDown : Bool := false
  /-- Blocks sent last, as payloads, newest first. -/
  sent : List Nat := []
  /-- How the lanes were driven when they sent last (R889, R891), and what each of the four sent (R398, R548). -/
  drive : Option TxDrive := none
  wires : List Wire := []
deriving DecidableEq, Repr

/-- An active origin of safety broadcasts (R561 to R563). -/
structure OriginState where
  id : Nat
  image : Nat
  /-- Its target as a frame count. -/
  target : Nat
  /-- Frame count in which its SAFETY was forwarded last. -/
  forwarded : Nat
deriving DecidableEq, Repr

/-- Safety inputs and release (R293 to R301). -/
structure Safety where
  pinLow : Bool := false
  /-- SAFE_SHOW_N has been low for 10 us since the last eve (R293). -/
  pinSeen : Bool := false
  /-- Targets of the broadcasts received or sent that no eve has met: each enters the safety state at the eve before its
  target, whether or not its origin is still active then (R293, R562). -/
  due : List Nat := []
  /-- Local time at which SAFE_SHOW_N returned high. -/
  highAt : Option Nat := none
  origins : List OriginState := []
  /-- Time the last origin stopped being active, when there has been one. -/
  quietAt : Option Nat := none
  /-- The safety state is in force as an input to the next capture. -/
  inForce : Bool := false
  /-- Assigned frame count of an accepted release. -/
  release : Option Nat := none
  /-- SAFE_SHOW_N has entered the safety state and has not returned high (R560). -/
  originating : Bool := false
deriving DecidableEq, Repr

/-- The time pins (R565 to R571). -/
structure TimeIn where
  queue : List Nat := []
  /-- Timebase at the edge stamped last, and at the one before it (R569). -/
  lastAt : Option Nat := none
  priorAt : Option Nat := none
deriving DecidableEq, Repr

/-- A pulse of a PULSE cue that has not ended (R565, R567): the cue's admission number, the count of its calends,
offset and width in ns. -/
structure CuePulse where
  num : Nat
  count : Nat
  offset : Int
  width : Nat
deriving DecidableEq, Repr

/-- A TIME_OUT pin: its level and the cue pulses that have not ended. -/
structure TimeOut where
  active : Bool := false
  cues : List CuePulse := []
  /-- Pulses of the schedule up to the one given last (R565). -/
  given : Nat := 0
deriving DecidableEq, Repr

/-! ### Host -/

/-- A DMA window (R585). -/
structure Window where
  base : Nat := 0
  limit : Nat := 0xFFF
  enable : Bool := false
  lock : Bool := false
deriving DecidableEq, Repr

/-- A queue context (R595); `typ` 0 is a free queue. -/
structure Queue where
  typ : Nat := 0
  state : Nat := 0
  gen : Nat := 0
  sizeLog2 : Nat := 0
  head : Nat := 0
  tail : Nat := 0
  ring : Nat := 0
  cq : Nat := 0
  vector : Nat := 0
  seq : Option Nat := none
  accepted : Nat := 0
  refused : Nat := 0
  violations : Nat := 0
  /-- Times of violations within the last second (R635). -/
  recent : List Nat := []
  /-- A message has been sent for the ring since its last HEAD doorbell (R618). -/
  messaged : Bool := false
deriving DecidableEq, Repr

/-- A write-complete marker that has not completed, in order (R584, R598). -/
inductive Marker where
  | wcm
  | doorbell (q count gen : Nat)
deriving DecidableEq, Repr

/-- A segmented transfer that is open (R783). -/
structure Transfer where
  key : Nat
  typ : Nat
  total : Nat
  data : List Byte
  touched : Nat
deriving DecidableEq, Repr

/-- Host interface (chapter 11). -/
structure HostIf where
  aperture : Nat := 0
  wcmDone : Nat := 0
  markers : List Marker := []
  /-- Doorbells whose markers have completed and that the admission engine has not begun, as queue, COUNT and GEN, and the
  queue whose entries it is answering (R601, R602). -/
  doorbells : List (Nat × Nat × Nat) := []
  serving : Option Nat := none
  windows : AMap Window := []
  queues : AMap Queue := []
  /-- Context cache, most recently used first (R596). -/
  cache : List Nat := []
  /-- Queue administration block (R592): the fields the host wrote, as one number, and STATUS, ERROR, GEN. -/
  admin : Nat := 0
  adminStatus : Nat := 0
  adminError : Nat := 0
  adminGen : Nat := 0
  fences : AMap Nat := []
  items : List Item := []
  /-- Next admission number (R624). -/
  nextNum : Nat := 0
  overflow : List (Nat × Completion) := []
  /-- Host memory as device writes leave it, by bus address (R588, R614). -/
  memory : List Host.Cell := []
  /-- MSI-X messages sent, newest first (R618). -/
  messages : List Nat := []
  /-- Answer of the last BAR read and whether it was poisoned (R673). -/
  answer : List Byte := []
  poisoned : Bool := false
  /-- PCIe function answers Request Retry Status (R850). -/
  retryStatus : Bool := true
  linkUp : Bool := false
  /-- Mailbox areas, STATE and TAG (R789). -/
  mailRequest : List Host.Cell := []
  mailResponse : List Byte := []
  mailState : Nat := 0
  mailTag : Nat := 0
  mailTransfer : Option Transfer := none
deriving DecidableEq, Repr

/-! ### Control protocol -/

/-- An open CHALLENGE (R776). -/
structure Challenge where
  src : Nat
  slot : Nat
  nc : List Byte
  nd : List Byte
deriving DecidableEq, Repr

/-- An NCP session (R776 to R786). -/
structure Session where
  number : Nat
  slot : Nat
  port : Nat
  src : Nat
  key : List Byte
  /-- Highest sequence accepted and the offsets below it that have been accepted (R779). -/
  high : Nat := 0
  seen : List Nat := []
  /-- Next sequence the device sends. -/
  sendSeq : Nat := 2
  /-- Last 16 transactions with their response payloads, newest first (R785). -/
  responses : List (Nat × List Byte) := []
  transfer : Option Transfer := none
  faults : List Nat := []
  touched : Nat := 0
deriving DecidableEq, Repr

/-- NCP (chapter 15). -/
structure Ncp where
  challenges : List Challenge := []
  /-- Session slots 0 to 15. -/
  sessions : AMap (Option Session) := []
  /-- Numbers drawn for nonces and sessions. -/
  drawn : Nat := 0
  /-- Tag failures by source, and sources ignored (R788). -/
  failures : AMap (List Nat) := []
  ignored : List Nat := []
  /-- A written address takes effect 10 ms after its answer (R773): until then, the values of 0x1200:01 to 0x1200:09
  in force, in order. -/
  oldAddress : Option (List Nat) := none
  /-- Frames sent last: port, destination, bytes; newest first. -/
  sent : List (Nat × Nat × List Byte) := []
deriving DecidableEq, Repr

/-! ### Memory pipeline -/

/-- A request that waits at a pseudo-channel (R649, R655): its source, its address there, and whether it is a guest. -/
structure HbmRequest where
  src : Nat
  addr : Nat
  guest : Bool := false
deriving DecidableEq, Repr

/-- An open row of a bank (R650). -/
structure OpenRow where
  row : Nat
  openedAt : Nat
  usedAt : Nat
deriving DecidableEq, Repr

/-- A pseudo-channel beside its objects. -/
structure Pc where
  uncorrectable : List Nat := []
  parity : List Nat := []
  /-- Requests that wait, oldest first (R655, R668). -/
  waiting : List HbmRequest := []
  /-- Rows left open, by bank (R650). -/
  rows : AMap OpenRow := []
  /-- Local time of its last request (R667). -/
  usedAt : Nat := 0
deriving DecidableEq, Repr

/-- A row test in progress (R685). -/
structure RowTest where
  bank : Nat
  row : Nat
  /-- The save buffer: 256 bytes. -/
  saved : List Byte
deriving DecidableEq, Repr

/-- What waits for an internal marker (R654). -/
inductive MarkerUse where
  | finalDescriptors (job : Nat)
  | copyDescriptors (copy : CopyJob)
  | bandCopied (band : Nat)
deriving DecidableEq, Repr

/-- The memory pipeline (chapter 12). -/
structure Memory where
  pcs : AMap Pc := []
  /-- Time since which every reading of a stack was at most 83 °C. -/
  coolSince : AMap (Option Nat) := []
  rowTest : Option RowTest := none
  /-- Next row of the sweep, in order of row and then bank. -/
  sweep : Nat := 0
  markers : List (Nat × MarkerUse) := []
  /-- Mirror reads reissued and not answered (R672). -/
  mirrorReads : List (Nat × Nat) := []
  /-- Accesses of 32 bytes found uncorrectable and not rewritten since: their bytes are returned poisoned (R639, R673);
  each by its number over the pseudo-channels. -/
  bad : List Nat := []
  /-- Next unit of the patrol scrub (R676), as a 4 KiB unit number over the pseudo-channels. -/
  scrub : Nat := 0
  /-- Local time at which the stacks left reset (R843 step 9). -/
  releasedAt : Option Nat := none
  /-- Result of the last atomic: the old value, or an error (R681, R683). -/
  atomic : Option Nat := none
deriving DecidableEq, Repr

/-- A check unit's data piece (0x5800+u:08). -/
structure CheckUnit where
  data : List Byte := []
deriving DecidableEq, Repr

/-! ### The store -/

/-- What follows when a store write is verified, or has failed. -/
inductive StoreUse where
  | none
  /-- A CEILINGS record: the ceilings are those of its payload (R838). -/
  | ceilings
  /-- The key of a slot changes (R786, R830). -/
  | key (slot : Nat)
  /-- LIFECYCLE after a burned fuse: the transition is answered (R821), and an erasure may follow (R820). -/
  | transition (erase : Bool)
  | journalBegin | journalRow | journalEnd
  /-- Page `n` of an image commit (R804), and the pointer record. -/
  | image (n : Nat)
  | pointer
  /-- A page of an erasure, and the record that clears its flag (R822). -/
  | erasure
  | erasureEnd
  /-- A page of a proxy STORE or ERASE (R858); `last` is the write that ends it. -/
  | proxy (last : Bool)
  | proxyErase (last : Bool)
deriving DecidableEq, Repr

/-- Where a store write goes (R709): its page is decided when it starts. -/
inductive StoreTarget where
  | page (p : Nat)
  | record (r : Nat)
  | ring (r : Nat)
deriving DecidableEq, Repr

/-- A store request. -/
structure StoreReq where
  target : StoreTarget
  /-- Payload of a record or ring write, or the 64 bytes of a raw page. -/
  bytes : List Byte
  use : StoreUse := .none
  /-- Dictionary writes that are answered when the write completes (R708, R710): service, origin and request. -/
  answers : List (Nat × Origin × Request) := []
  /-- A dictionary write asked for it: it waits while the management cores are stopped (R60, R865). -/
  asked : Bool := false
deriving DecidableEq, Repr

/-- The selected value of a record in the drive die's RAM (R706, R718, R719). -/
structure Selected where
  seq : Nat
  payload : List Byte
  /-- Copy A holds the selected value. -/
  inA : Bool
  validA : Bool := true
  validB : Bool := false
  single : Bool := false
deriving DecidableEq, Repr

/-- The latest slot of a ring (R723). -/
structure RingLatest where
  seq : Nat
  slot : Nat
  payload : List Byte
deriving DecidableEq, Repr

/-- A page write in progress. -/
structure StoreWrite where
  req : StoreReq
  page : Nat
  bytes : List Byte
  attempts : Nat := 1
deriving DecidableEq, Repr

/-- The non-volatile store (chapter 13). -/
structure NvStore where
  /-- Pages that are not empty: page number and its 64 bytes. -/
  pages : AMap (List Byte) := []
  queue : List StoreReq := []
  writing : Option StoreWrite := none
  worn : List Nat := []
  records : AMap Selected := []
  rings : AMap RingLatest := []
  /-- Pages with unstable bytes: two reads differ (R721). -/
  torn : List Nat := []
  /-- A raw page read that waits for the write in progress (R705), and the bytes the last one returned. -/
  pageRead : Option Nat := none
  pageData : List Byte := []
deriving DecidableEq, Repr

/-! ### Temperature and power -/

/-- One ring-oscillator sensor beside its objects (R729 to R739). -/
structure Sensor where
  /-- Last calibrated reading, 0.01 °C; 25.00 °C before the first (DESIGN CHOICE, log 12). -/
  reading : Int := 2500
  /-- A reading has been taken since reset. -/
  valid : Bool := false
  /-- Readings in a row that differ from the median, times of jumps, and failed cross-checks in a row. -/
  apart : Nat := 0
  jumps : List Nat := []
  crossFails : Nat := 0
  /-- Own readings in a row at which H stood at or above 105 °C (R749). -/
  hot : Nat := 0
  /-- Time since which R738's conditions hold. -/
  goodSince : Option Nat := none
deriving DecidableEq, Repr

/-- Thermal state (chapter 14). -/
structure Thermal where
  sensors : AMap Sensor := []
  /-- Last reading of TD, 0.01 °C; 25.00 °C before the first (DESIGN CHOICE, log 12). -/
  td : Int := 2500
  /-- Record 14 is loaded (R731). -/
  calibrated : Bool := false
  /-- Time since which H is below 95 °C (R753). -/
  coolSince : Option Nat := none
  /-- A thermal fault is in force (R749 to R753). -/
  fault : Bool := false
  /-- Clock step chosen but not applied (R746). -/
  clockPending : Bool := false
  /-- Statistics of THROTTLE and ON_HOURS (R748): tenths of seconds at each step, advances, faults, highest H. -/
  stepTenths : AMap Nat := []
  advances : Nat := 0
  faults : Nat := 0
  highest : Int := -32768
  changed : Bool := false
  onHours : Nat := 0
  bandIntervals : AMap Nat := []
deriving DecidableEq, Repr

/-! ### Images, life cycle, bring-up -/

/-- A value an image carries for an object (R797). -/
structure ImageEntry where
  key : Nat
  typ : Nat
  value : Nat
deriving DecidableEq, Repr

/-- A section of an image (R796). -/
structure ImageSection where
  cls : Nat := 0
  name : Nat := 0
  entries : List ImageEntry := []
deriving DecidableEq, Repr

/-- An image as its sections: the base and the overlays (R795). -/
structure Image where
  serial : Nat := 0
  signed : Bool := false
  base : ImageSection := {}
  overlays : List ImageSection := []
deriving DecidableEq, Repr

/-- Images and modes beside their objects. -/
structure Images where
  buffer : List Byte := []
  /-- The image that mode switches take values from (R808). -/
  loaded : Option Image := none
  /-- The image that the pointer names. -/
  live : Option Image := none
  /-- The image that a COMMIT is storing (R804). -/
  committing : Option (List Byte) := none
deriving DecidableEq, Repr

/-- One entry of the event log (R870). -/
structure Event where
  rule : Nat
  cls : Nat
  index : Nat
  sub : Nat
  frame : Nat
  time : Nat
  data : Nat
  seq : Nat
deriving DecidableEq, Repr

/-- Bring-up, resets and management (chapter 17). -/
structure Bringup where
  /-- The main die is in reset. -/
  inReset : Bool := false
  /-- Light-field ready has been reached (R851). -/
  ready : Bool := false
  /-- The lens journal has been found closed or has been closed (R846). -/
  journalClosed : Bool := true
  /-- The bring-up map is driven (R845). -/
  bringupMap : Bool := true
  proxyBuffer : List Byte := []
  /-- The proxy image in the store is valid (R856). -/
  proxyValid : Bool := false
  firmwareRuns : Bool := false
  refreshedAt : Nat := 0
  runningVersion : Nat := 0
  /-- Local time of t = 0. -/
  t0 : Nat := 0
  /-- Pages that the running erasure has still to write empty (R823). -/
  erasureLeft : List Nat := []
  /-- V33 is below its tolerance. -/
  v33Low : Bool := false
  /-- The life-cycle state whose gates hold until a burned transition is answered (R821). -/
  gate : Option LifeCycle := none
  /-- The drive die is selecting its records, and the main die waits for it (R843 step 2). -/
  selecting : Bool := false
deriving DecidableEq, Repr

/-- The device's registers and engines. -/
structure Dev where
  /-- Dictionary objects that are not shadow objects, by 256 · index + subindex; an unlisted object holds its
  default (the objects' tables; Machine/Objects.lean). -/
  od : AMap Nat := []
  /-- Shadow values of shadow objects (R241). -/
  shadow : AMap Nat := []
  live : Committed := {}
  /-- State captured at the eve (R243), until the calends. -/
  captured : Option Committed := none
  /-- The dictionary commits pending and captured, by assigned frame count (R256). -/
  commitPending : Option Nat := none
  commitCaptured : Option Nat := none
  timing : Timing := {}
  synth : Synth := {}
  gov : Governor := {}
  bandUpdates : List BandUpdate := []
  regions : AMap Region := []
  jobs : List Job := []
  waiting : AMap Waiting := []
  /-- The job and chunk that each decoder took last (R125). -/
  lastChunk : AMap (Nat × Nat) := []
  copies : List CopyJob := []
  /-- Layers whose content changed at the calends of the current frame (R135). -/
  changed : List Nat := []
  /-- Clip updates decoded for the next eve: layer, admission number of the PLAY, and what the layer shows. -/
  clipReady : AMap (Nat × Layer) := []
  /-- Layers whose late decode left a slot without content, with the frame count in which a restore may start
  (R902). -/
  late : List (Nat × Nat) := []
  /-- Layers and target counts of accepted updates that failed at decode or with their group; they still supersede held
  flips (R267). -/
  lost : List (Nat × Nat) := []
  /-- Layers and target counts of updates that failed or were cancelled in their decode window (R135, R902). -/
  due : List (Nat × Nat) := []
  /-- Hold slots not free: slot to the frame count from which it is free, when known (R263, R270). -/
  holdSlots : AMap (Option Nat) := []
  clips : AMap ClipEntry := []
  /-- Bindings of clip players, by the admission number of their PLAY. -/
  players : AMap Player := []
  /-- Definitions of valid protected slots (R277). -/
  protectedDefs : AMap Content := []
  protectedSlots : AMap ProtectedSlot := []
  /-- A protected read with no good copy is logged in this frame (R281). -/
  protectedLogged : Bool := false
  freeze : Freeze := {}
  links : AMap Link := []
  ports : AMap Port := []
  drivers : AMap Driver := []
  lens : Lens := {}
  clock : Clock := {}
  sources : AMap Source := []
  eth : AMap EthPort := []
  tiles : AMap TilePort := []
  safety : Safety := {}
  timeIn : AMap TimeIn := []
  timeOut : AMap TimeOut := []
  host : HostIf := {}
  ncp : Ncp := {}
  memory : Memory := {}
  units : AMap CheckUnit := []
  thermal : Thermal := {}
  images : Images := {}
  bringup : Bringup := {}
  /-- Unread events, oldest first, at most 65,536 (R869). -/
  events : List Event := []
  /-- Events buffered on chip while HBM is not trained, at most 4,096. -/
  eventBuffer : List Event := []
  /-- MSI-X messages of vector 2,047 sent: one for each event written to the log (R618; DESIGN CHOICE, log 152). -/
  eventMessages : Nat := 0
  /-- Requests that wait for a store write of their session or of the mailbox, in order of arrival (R793): service,
  origin and request. -/
  delayed : List (Nat × Origin × Request) := []
  /-- MODEL'S OWN: free values drawn so far (log 5). -/
  drawn : Nat := 0
deriving DecidableEq, Repr

/-- The whole block. -/
structure State where
  /-- Commands that wait, first in, first out. -/
  pending : List Instr := []
  fuses : Fuses := {}
  ceilings : CeilingRecords := {}
  /-- The local timebase: ps since reset, at nominal rate. Local time is this plus `Clock.adj`. -/
  now : Nat := 0
  /-- HBM, by 0x4800_0000 · pseudo-channel + address within it (R639, R640). -/
  hbm : List Host.Cell := []
  /-- Bank space, by bank-space address (R677). -/
  bank : List Host.Cell := []
  nv : NvStore := {}
  dev : Dev := {}
deriving DecidableEq, Repr

/-- The block after reset: every register at the value the manual gives, nothing written, nothing waiting. Values
the manual does not give are named in the assumption log. -/
def State.reset : State := {}

end Sys2Proof.Machine
end

