-- ==== Sys2Proof/Machine/Bits.lean ====
section
/-!
DEFINITION. Bits, bytes, serial arithmetic, sparse tables, canonical memory and the check algorithms: the arithmetic
every operation of the machine rests on.
-/
namespace Sys2Proof.Machine

/-! ### Bits, bytes and numbers -/

/-- Bits [hi:lo] of `n`. -/
def bits (n hi lo : Nat) : Nat := (n >>> lo) % 2 ^ (hi + 1 - lo)

/-- Bit `i` of `n`, as 0 or 1. -/
def bit (n i : Nat) : Nat := (n >>> i) % 2

/-- Bit `i` of `n` is set. -/
def hasBit (n i : Nat) : Bool := bit n i == 1

/-- `n` with bit `i` set. -/
def setBit (n i : Nat) : Nat := n ||| 2 ^ i

/-- `n` with bit `i` clear. -/
def clearBit (n i : Nat) : Nat := if hasBit n i then n - 2 ^ i else n

/-- `n` with bit `i` at `b`. -/
def putBit (n i : Nat) (b : Bool) : Nat := if b then setBit n i else clearBit n i

/-- Number of bits set among the low `w` bits. -/
def popCount (n w : Nat) : Nat := ((List.range w).filter (hasBit n)).length

/-- A truth value as BOOL (R762). -/
def ofBool (b : Bool) : Nat := if b then 1 else 0

/-- Two's complement value of the low `w` bits (R762). -/
def toSigned (w n : Nat) : Int :=
  if n % 2 ^ w < 2 ^ (w - 1) then (n % 2 ^ w : Nat) else ((n % 2 ^ w : Nat) : Int) - (2 ^ w : Nat)

/-- `i` in `w` bits of two's complement. -/
def ofSigned (w : Nat) (i : Int) : Nat := (i % (2 ^ w : Nat)).toNat

/-- `i` held within the range of a signed `w`-bit object. -/
def saturate (w : Nat) (i : Int) : Int := max (-(2 ^ (w - 1) : Nat)) (min i ((2 ^ (w - 1) : Nat) - 1))

/-- `i` held between `lo` and `hi`. -/
def clamp (lo hi i : Int) : Int := max lo (min i hi)

/-- The number whose little-endian bytes are given (R18). -/
def leNat : List Byte → Nat
  | [] => 0
  | b :: bs => b.toNat + 256 * leNat bs

/-- The `k` little-endian bytes of `n` (R18). -/
def natLE : Nat → Nat → List Byte
  | _, 0 => []
  | n, k + 1 => BitVec.ofNat 8 n :: natLE (n / 256) k

/-- The number whose big-endian bytes are given. -/
def beNat (bs : List Byte) : Nat := leNat bs.reverse

/-- The `k` big-endian bytes of `n`. -/
def natBE (n k : Nat) : List Byte := (natLE n k).reverse

/-- `len` bytes of `bs` from offset `off`. -/
def slice (bs : List Byte) (off len : Nat) : List Byte := (bs.drop off).take len

/-- Little-endian field of `len` bytes at `off`. -/
def fieldLE (bs : List Byte) (off len : Nat) : Nat := leNat (slice bs off len)

/-- Every byte is 0. -/
def allZero (bs : List Byte) : Bool := bs.all (· == 0)

/-- `bs` filled with zero bytes to `n`. -/
def padTo (n : Nat) (bs : List Byte) : List Byte := bs ++ List.replicate (n - bs.length) 0

/-- Fields of `k` bytes each, packed little-endian in order. -/
def packLE (k : Nat) (vs : List Nat) : List Byte := (vs.map (natLE · k)).flatten

/-- The entries before the last: a list whose first element is taken away while it is longer than `n`. -/
def lastN {α : Type} (n : Nat) (xs : List α) : List α := xs.drop (xs.length - n)

/-- Element `n` of a list of numbers, 0 outside it. -/
def nth (xs : List Nat) (n : Nat) : Nat := xs.getD n 0

/-- `xs` with element `n` replaced. -/
def setNth {α : Type} (xs : List α) (n : Nat) (v : α) : List α := xs.set n v

/-- `x` put before the first element it does not come after. -/
def insertBy {α : Type} (le : α → α → Bool) (x : α) : List α → List α
  | [] => [x]
  | y :: ys => if le x y then x :: y :: ys else y :: insertBy le x ys

/-- The list in the order of `le`; elements of equal rank keep their order. -/
def sortBy {α : Type} (le : α → α → Bool) : List α → List α
  | [] => []
  | x :: xs => insertBy le x (sortBy le xs)

/-! ### Serial arithmetic (R23, R24) -/

/-- `b` is later than `a` in `w`-bit serial arithmetic. -/
def later (w a b : Nat) : Bool :=
  let d := (b + 2 ^ w - a % 2 ^ w) % 2 ^ w
  decide (1 ≤ d) && decide (d ≤ 2 ^ (w - 1) - 1)

/-- `b` is earlier than `a` in `w`-bit serial arithmetic. -/
def earlier (w a b : Nat) : Bool :=
  decide ((b + 2 ^ w - a % 2 ^ w) % 2 ^ w ≥ 2 ^ (w - 1) + 1)

/-- How far `b` lies ahead of `a`, modulo 2^w. -/
def ahead (w a b : Nat) : Nat := (b % 2 ^ w + 2 ^ w - a % 2 ^ w) % 2 ^ w

/-! ### Tables -/

/-- The entry of a table at key `k`. -/
def amGet {α : Type} : AMap α → Nat → Option α
  | [], _ => none
  | (j, v) :: m, k => if j = k then some v else amGet m k

/-- The table without key `k`. -/
def amErase {α : Type} : AMap α → Nat → AMap α
  | [], _ => []
  | (j, v) :: m, k => if j = k then m else if k < j then (j, v) :: m else (j, v) :: amErase m k

/-- The table with `v` at key `k`, in rising order of keys. -/
def amPut {α : Type} : AMap α → Nat → α → AMap α
  | [], k, v => [(k, v)]
  | (j, w) :: m, k, v =>
    if j = k then (k, v) :: m else if k < j then (k, v) :: (j, w) :: m else (j, w) :: amPut m k v

/-- The entry at `k`, or `d` for an unlisted key. -/
def amGetD {α : Type} (m : AMap α) (k : Nat) (d : α) : α := (amGet m k).getD d

/-- The table with the entry at `k` replaced by `f` of it, an unlisted entry being `d`. -/
def amMod {α : Type} (m : AMap α) (k : Nat) (d : α) (f : α → α) : AMap α := amPut m k (f (amGetD m k d))

/-- The keys rise strictly from `lo` on. -/
def amSorted {α : Type} : Nat → AMap α → Bool
  | _, [] => true
  | lo, (k, _) :: m => decide (lo ≤ k) && amSorted (k + 1) m

/-! ### Memory as canonical lists of cells -/

/-- The byte at `a`; an unlisted one reads as `Config.unwritten`. -/
def cellGet (m : List Host.Cell) (a : Nat) : Byte := amGetD m a Config.unwritten

/-- Memory with `b` at `a`, in canonical form: a byte equal to an unwritten one is not listed. -/
def cellPut (m : List Host.Cell) (a : Nat) (b : Byte) : List Host.Cell :=
  if b = Config.unwritten then amErase m a else amPut m a b

/-- Memory with the bytes stored from `a` on. -/
def cellsPut : List Host.Cell → Nat → List Byte → List Host.Cell
  | m, _, [] => m
  | m, a, b :: bs => cellsPut (cellPut m a b) (a + 1) bs

/-- `len` bytes from `a` on. -/
def cellsGet (m : List Host.Cell) (a len : Nat) : List Byte := (List.range len).map fun i => cellGet m (a + i)

/-- The canonical form of memory: addresses rise strictly, and no listed byte equals an unwritten one. -/
def memoryWf (m : List Host.Cell) : Bool := amSorted 0 m && m.all fun c => c.2 != Config.unwritten

/-! ### Check algorithms (R692 to R694) -/

/-- Width of check algorithm `a`. -/
def crcWidth (a : Nat) : Nat := if a = 2 then 16 else if a = 3 then 64 else 32

/-- Algorithms 0 and 1 are reflected. -/
def crcReflected (a : Nat) : Bool := decide (a < 2)

/-- Polynomial of algorithm `a`, reversed for the reflected ones. -/
def crcPoly (a : Nat) : Nat :=
  if a = 0 then 0x82F63B78 else if a = 1 then 0xEDB88320 else if a = 2 then 0x1021 else 0x42F0E1EBA9EA3693

/-- The folded initial value (R693). -/
def crcInit (a fold : Nat) : Nat :=
  if a < 2 then 0xFFFFFFFF ^^^ (fold % 2 ^ 32)
  else if a = 2 then 0xFFFF ^^^ bits fold 15 0 ^^^ bits fold 31 16
  else fold % 2 ^ 32

/-- The final XOR. -/
def crcFinal (a : Nat) : Nat := if a < 2 then 0xFFFFFFFF else 0

/-- `n` steps of the register, one bit each. -/
def crcShift (a : Nat) : Nat → Nat → Nat
  | 0, r => r
  | n + 1, r =>
    crcShift a n
      (if crcReflected a then (if r % 2 = 1 then (r >>> 1) ^^^ crcPoly a else r >>> 1)
       else if hasBit r (crcWidth a - 1) then ((r <<< 1) % 2 ^ crcWidth a) ^^^ crcPoly a
       else (r <<< 1) % 2 ^ crcWidth a)

/-- One byte enters the register (R694). -/
def crcByte (a r : Nat) (b : Byte) : Nat :=
  crcShift a 8 (if crcReflected a then r ^^^ b.toNat else r ^^^ (b.toNat <<< (crcWidth a - 8)))

/-- The running value after the bytes. -/
def crcFeed (a : Nat) : Nat → List Byte → Nat
  | r, [] => r
  | r, b :: bs => crcFeed a (crcByte a r b) bs

/-- The check value of the bytes under algorithm `a` with a fold word. -/
def crc (a fold : Nat) (bs : List Byte) : Nat := crcFeed a (crcInit a fold) bs ^^^ crcFinal a

/-- CRC-32C with a fold word. -/
def crc32c (fold : Nat) (bs : List Byte) : Nat := crc 0 fold bs

/-- CRC-16/CCITT with a fold word. -/
def crc16 (fold : Nat) (bs : List Byte) : Nat := crc 2 fold bs

end Sys2Proof.Machine
end

