-- ==== Sys2Proof/Machine/Objects.lean ====
section
/-!
DEFINITION. The object dictionary of the manual's Objects tables (R10, R174, R225, R302, R348, R392, R471, R515, R575,
R636, R691, R727, R759, R817, R841, R874): every object's type, size, access, attributes and default. `count` indexes
from `base` on hold one unit instance each; `attr` is [0] shadow, [1] imageable, [2] stored, [3] variable (R784).
-/
namespace Sys2Proof.Machine

/-- A row of an Objects table. -/
structure ObjRow where
  base : Nat
  count : Nat
  lo : Nat
  hi : Nat
  typ : Nat
  size : Nat
  access : Nat
  attr : Nat
  dflt : Nat
deriving DecidableEq, Repr

def objects10 : List ObjRow :=
  [⟨0x1000, 1, 1, 1, 11, 8, 0, 0, 0⟩,
   ⟨0x1000, 1, 2, 2, 4, 4, 0, 0, 0⟩,
   ⟨0x1000, 1, 3, 3, 3, 2, 0, 0, 0⟩,
   ⟨0x1010, 1, 1, 1, 2, 1, 0, 0, 0⟩,
   ⟨0x1010, 1, 2, 2, 2, 1, 0, 0, 0⟩,
   ⟨0x1010, 1, 3, 3, 2, 1, 0, 0, 0⟩,
   ⟨0x1010, 1, 4, 4, 2, 1, 0, 0, 0⟩,
   ⟨0x1010, 1, 5, 5, 4, 4, 0, 0, 0⟩,
   ⟨0x1010, 1, 6, 6, 2, 1, 0, 0, 0⟩,
   ⟨0x1010, 1, 7, 7, 3, 2, 0, 0, 0⟩,
   ⟨0x1010, 1, 8, 8, 2, 1, 0, 0, 0⟩,
   ⟨0x1010, 1, 9, 9, 3, 2, 0, 0, 0⟩,
   ⟨0x1010, 1, 10, 10, 2, 1, 0, 0, 0⟩,
   ⟨0x1010, 1, 11, 11, 12, 13, 0, 0, 0⟩,
   ⟨0x1010, 1, 12, 12, 4, 4, 0, 0, 0⟩]

def objects11 : List ObjRow :=
  [⟨0x1100, 1, 1, 1, 2, 1, 0, 0, 0⟩,
   ⟨0x1100, 1, 2, 2, 2, 1, 0, 0, 0⟩,
   ⟨0x1100, 1, 3, 3, 2, 1, 0, 0, 64⟩,
   ⟨0x1100, 1, 4, 4, 4, 4, 2, 0, 0⟩,
   ⟨0x1100, 1, 5, 5, 1, 1, 0, 0, 0⟩,
   ⟨0x1100, 1, 6, 6, 3, 2, 0, 0, 0⟩,
   ⟨0x1101, 1, 1, 8, 13, 52, 2, 4, 0⟩,
   ⟨0x1102, 1, 1, 8, 3, 2, 0, 0, 0⟩,
   ⟨0x1103, 1, 1, 1, 2, 1, 1, 4, 7⟩,
   ⟨0x1104, 1, 1, 1, 12, 48, 1, 0, 0⟩,
   ⟨0x1104, 1, 2, 2, 4, 4, 0, 0, 0⟩,
   ⟨0x1104, 1, 3, 3, 2, 1, 0, 0, 0⟩,
   ⟨0x1104, 1, 4, 4, 2, 1, 2, 0, 0⟩,
   ⟨0x1120, 1, 1, 1, 3, 2, 1, 4, 4095⟩,
   ⟨0x1120, 1, 2, 2, 3, 2, 1, 4, 1000⟩,
   ⟨0x1120, 1, 3, 3, 3, 2, 1, 4, 1000⟩,
   ⟨0x1120, 1, 4, 4, 4, 4, 1, 4, 10000⟩]

def objects12a : List ObjRow :=
  [⟨0x1200, 1, 1, 1, 4, 4, 1, 2, 0⟩,
   ⟨0x1200, 1, 2, 2, 2, 1, 1, 2, 24⟩,
   ⟨0x1200, 1, 3, 3, 4, 4, 1, 2, 0⟩,
   ⟨0x1200, 1, 4, 4, 1, 1, 1, 2, 0⟩,
   ⟨0x1200, 1, 5, 5, 12, 16, 1, 2, 0⟩,
   ⟨0x1200, 1, 6, 6, 2, 1, 1, 2, 64⟩,
   ⟨0x1200, 1, 7, 7, 3, 2, 1, 2, 41920⟩,
   ⟨0x1200, 1, 8, 8, 1, 1, 1, 2, 0⟩,
   ⟨0x1200, 1, 9, 9, 3, 2, 1, 2, 1⟩,
   ⟨0x1201, 1, 1, 2, 12, 6, 0, 0, 0⟩,
   ⟨0x1210, 1, 1, 1, 2, 1, 0, 0, 0⟩,
   ⟨0x1210, 1, 2, 2, 3, 2, 1, 2, 30⟩,
   ⟨0x1210, 1, 3, 3, 4, 4, 0, 0, 0⟩,
   ⟨0x1210, 1, 4, 4, 4, 4, 4, 0, 0⟩,
   ⟨0x1210, 1, 5, 5, 4, 4, 4, 0, 0⟩,
   ⟨0x1210, 1, 6, 6, 4, 4, 4, 0, 0⟩,
   ⟨0x1210, 1, 7, 7, 4, 4, 4, 0, 0⟩,
   ⟨0x1210, 1, 8, 8, 4, 4, 4, 0, 0⟩,
   ⟨0x1211, 1, 1, 16, 5, 8, 0, 0, 0⟩,
   ⟨0x1220, 1, 1, 1, 4, 4, 0, 0, 0⟩,
   ⟨0x1240, 1, 1, 1, 2, 1, 0, 0, 0⟩,
   ⟨0x1240, 1, 2, 2, 2, 1, 0, 0, 0⟩,
   ⟨0x1240, 1, 3, 3, 4, 4, 4, 0, 0⟩,
   ⟨0x1240, 1, 4, 4, 4, 4, 4, 0, 0⟩,
   ⟨0x1240, 1, 5, 5, 4, 4, 4, 0, 0⟩,
   ⟨0x1240, 1, 6, 6, 2, 1, 0, 0, 1⟩,
   ⟨0x1241, 1, 1, 1, 4, 4, 0, 0, 0⟩,
   ⟨0x1241, 1, 2, 2, 4, 4, 4, 0, 0⟩,
   ⟨0x1241, 1, 3, 3, 4, 4, 0, 0, 0⟩,
   ⟨0x1241, 1, 4, 4, 4, 4, 4, 0, 0⟩,
   ⟨0x1241, 1, 5, 5, 4, 4, 4, 0, 0⟩,
   ⟨0x1241, 1, 6, 6, 4, 4, 0, 0, 0⟩,
   ⟨0x1241, 1, 7, 7, 4, 4, 4, 0, 0⟩,
   ⟨0x1241, 1, 8, 8, 4, 4, 4, 0, 0⟩,
   ⟨0x1241, 1, 9, 9, 4, 4, 4, 0, 0⟩,
   ⟨0x1242, 1, 1, 1, 4, 4, 4, 0, 0⟩,
   ⟨0x1242, 1, 2, 2, 4, 4, 4, 0, 0⟩,
   ⟨0x1242, 1, 3, 3, 5, 8, 0, 0, 0⟩,
   ⟨0x1242, 1, 4, 4, 4, 4, 0, 0, 0⟩,
   ⟨0x1242, 1, 5, 5, 5, 8, 0, 0, 0⟩]

def objects12b : List ObjRow :=
  [⟨0x1242, 1, 6, 6, 4, 4, 0, 0, 0⟩,
   ⟨0x1243, 1, 1, 22, 4, 4, 4, 0, 0⟩,
   ⟨0x1244, 1, 1, 1, 4, 4, 1, 0, 0⟩,
   ⟨0x1244, 1, 2, 2, 13, 64, 0, 0, 0⟩,
   ⟨0x1245, 1, 1, 1, 3, 2, 1, 0, 0⟩,
   ⟨0x1245, 1, 2, 2, 5, 8, 0, 0, 0⟩]

def objects14 : List ObjRow :=
  [⟨0x1400, 1, 1, 1, 13, 12288, 2, 8, 0⟩,
   ⟨0x1400, 1, 2, 2, 2, 1, 2, 0, 0⟩,
   ⟨0x1400, 1, 3, 3, 2, 1, 0, 0, 0⟩,
   ⟨0x1400, 1, 4, 4, 2, 1, 0, 0, 0⟩,
   ⟨0x1400, 1, 5, 5, 3, 2, 0, 0, 0⟩,
   ⟨0x1401, 1, 1, 1, 2, 1, 0, 0, 0⟩,
   ⟨0x1401, 1, 2, 2, 4, 4, 0, 0, 0⟩,
   ⟨0x1401, 1, 3, 3, 2, 1, 0, 0, 2⟩,
   ⟨0x1401, 1, 4, 4, 2, 1, 1, 4, 0⟩,
   ⟨0x1401, 1, 5, 5, 4, 4, 0, 0, 0⟩,
   ⟨0x1402, 1, 1, 15, 2, 1, 0, 0, 0⟩,
   ⟨0x1403, 1, 1, 15, 11, 8, 0, 0, 0⟩,
   ⟨0x1410, 1, 1, 1, 2, 1, 1, 0, 0⟩,
   ⟨0x1410, 1, 2, 2, 4, 4, 1, 0, 0⟩,
   ⟨0x1410, 1, 3, 3, 2, 1, 2, 0, 0⟩,
   ⟨0x1410, 1, 4, 4, 2, 1, 0, 0, 0⟩,
   ⟨0x1410, 1, 5, 5, 4, 4, 0, 0, 0⟩,
   ⟨0x1410, 1, 6, 6, 4, 4, 0, 0, 0⟩,
   ⟨0x1410, 1, 7, 7, 2, 1, 0, 0, 0⟩,
   ⟨0x1410, 1, 8, 8, 4, 4, 0, 0, 0⟩]

def objects20 : List ObjRow :=
  [⟨0x2000, 1, 1, 32, 2, 1, 0, 0, 0⟩,
   ⟨0x2001, 1, 1, 32, 4, 4, 0, 0, 0⟩,
   ⟨0x2002, 1, 1, 1, 4, 4, 4, 0, 0⟩,
   ⟨0x2002, 1, 2, 2, 4, 4, 4, 0, 0⟩,
   ⟨0x2002, 1, 3, 3, 4, 4, 4, 0, 0⟩,
   ⟨0x2002, 1, 4, 4, 4, 4, 4, 0, 0⟩,
   ⟨0x2010, 1, 1, 32, 3, 2, 0, 0, 0⟩,
   ⟨0x2011, 1, 1, 32, 4, 4, 4, 0, 0⟩,
   ⟨0x2012, 1, 1, 32, 2, 1, 0, 0, 0⟩,
   ⟨0x2020, 1, 1, 1, 4, 4, 0, 0, 0⟩,
   ⟨0x2020, 1, 2, 2, 4, 4, 0, 0, 41472⟩,
   ⟨0x2021, 1, 1, 1, 3, 2, 1, 0, 0⟩,
   ⟨0x2021, 1, 2, 2, 5, 8, 1, 0, 0⟩,
   ⟨0x2021, 1, 3, 3, 5, 8, 1, 0, 0⟩,
   ⟨0x2021, 1, 4, 4, 2, 1, 2, 0, 0⟩,
   ⟨0x2021, 1, 5, 5, 2, 1, 0, 0, 0⟩,
   ⟨0x2021, 1, 6, 6, 2, 1, 0, 0, 0⟩,
   ⟨0x2021, 1, 7, 7, 4, 4, 0, 0, 0⟩,
   ⟨0x2030, 1, 1, 64, 4, 4, 0, 0, 0⟩,
   ⟨0x2040, 1, 1, 1, 3, 2, 1, 0, 240⟩,
   ⟨0x2040, 1, 2, 2, 2, 1, 0, 0, 0⟩,
   ⟨0x2040, 1, 3, 3, 4, 4, 0, 0, 0⟩,
   ⟨0x2040, 1, 4, 4, 4, 4, 4, 0, 0⟩]

def objects21 : List ObjRow :=
  [⟨0x2100, 1, 1, 100, 2, 1, 0, 0, 0⟩,
   ⟨0x2101, 1, 1, 100, 4, 4, 0, 0, 0⟩,
   ⟨0x2102, 1, 1, 100, 4, 4, 4, 0, 0⟩,
   ⟨0x2103, 1, 1, 1, 4, 4, 4, 0, 0⟩,
   ⟨0x2103, 1, 2, 2, 4, 4, 4, 0, 0⟩,
   ⟨0x2103, 1, 3, 3, 4, 4, 4, 0, 0⟩,
   ⟨0x2103, 1, 4, 4, 2, 1, 0, 0, 0⟩,
   ⟨0x2103, 1, 5, 5, 4, 4, 4, 0, 0⟩,
   ⟨0x2103, 1, 6, 6, 5, 8, 0, 0, 0⟩,
   ⟨0x2110, 1, 1, 1, 4, 4, 1, 3, 256⟩,
   ⟨0x2110, 1, 2, 2, 3, 2, 0, 0, 384⟩,
   ⟨0x2110, 1, 3, 3, 4, 4, 0, 0, 85000⟩,
   ⟨0x2110, 1, 4, 4, 3, 2, 0, 0, 1500⟩,
   ⟨0x2111, 1, 1, 1, 13, 1156, 1, 0, 0⟩,
   ⟨0x2111, 1, 2, 2, 4, 4, 1, 0, 0⟩,
   ⟨0x2111, 1, 3, 3, 2, 1, 2, 0, 0⟩,
   ⟨0x2111, 1, 4, 4, 2, 1, 0, 0, 0⟩,
   ⟨0x2111, 1, 5, 5, 4, 4, 0, 0, 0⟩,
   ⟨0x2111, 1, 6, 6, 13, 1156, 0, 0, 0⟩,
   ⟨0x2111, 1, 7, 7, 3, 2, 0, 0, 512⟩,
   ⟨0x2111, 1, 8, 8, 3, 2, 0, 0, 512⟩]

def objects30 : List ObjRow :=
  [⟨0x3000, 1, 1, 1, 2, 1, 2, 0, 0⟩,
   ⟨0x3000, 1, 2, 2, 4, 4, 1, 0, 0⟩,
   ⟨0x3000, 1, 3, 3, 2, 1, 0, 0, 0⟩,
   ⟨0x3000, 1, 4, 4, 4, 4, 0, 0, 0⟩,
   ⟨0x3000, 1, 5, 5, 4, 4, 0, 0, 0⟩,
   ⟨0x3000, 1, 6, 6, 3, 2, 0, 0, 201⟩,
   ⟨0x3000, 1, 7, 7, 3, 2, 0, 0, 309⟩,
   ⟨0x3000, 1, 8, 8, 5, 8, 0, 0, 0⟩,
   ⟨0x3000, 1, 9, 9, 5, 8, 0, 0, 0⟩,
   ⟨0x3000, 1, 10, 10, 4, 4, 0, 0, 0⟩,
   ⟨0x3003, 1, 1, 1, 4, 4, 1, 0, 0⟩,
   ⟨0x3003, 1, 2, 2, 13, 232000, 0, 8, 0⟩,
   ⟨0x3004, 1, 1, 32, 1, 1, 1, 3, 1⟩,
   ⟨0x3005, 1, 1, 32, 2, 1, 0, 0, 0⟩,
   ⟨0x3010, 1, 1, 8, 2, 1, 0, 0, 0⟩,
   ⟨0x3010, 1, 9, 9, 4, 4, 0, 0, 5760000⟩,
   ⟨0x3010, 1, 10, 10, 4, 4, 4, 0, 0⟩,
   ⟨0x3020, 1, 1, 1, 2, 1, 0, 0, 0⟩,
   ⟨0x3020, 1, 2, 2, 4, 4, 4, 0, 0⟩,
   ⟨0x3020, 1, 3, 3, 4, 4, 4, 0, 0⟩,
   ⟨0x3020, 1, 4, 4, 4, 4, 4, 0, 0⟩,
   ⟨0x3020, 1, 5, 5, 2, 1, 0, 0, 8⟩]

def objects31 : List ObjRow :=
  [⟨0x3100, 16, 1, 1, 2, 1, 1, 3, 0⟩,
   ⟨0x3100, 16, 2, 2, 4, 4, 1, 3, 0⟩,
   ⟨0x3100, 16, 3, 3, 4, 4, 1, 3, 65537⟩,
   ⟨0x3100, 16, 4, 4, 12, 36, 1, 3, 0⟩,
   ⟨0x3100, 16, 5, 5, 4, 4, 1, 3, 0⟩,
   ⟨0x3100, 16, 6, 6, 4, 4, 0, 0, 0⟩,
   ⟨0x3100, 16, 7, 7, 1, 1, 3, 0, 0⟩,
   ⟨0x3100, 16, 8, 8, 1, 1, 0, 0, 0⟩,
   ⟨0x3100, 16, 9, 9, 4, 4, 4, 0, 0⟩,
   ⟨0x3100, 16, 10, 10, 2, 1, 2, 0, 0⟩,
   ⟨0x3180, 1, 1, 1, 2, 1, 1, 0, 0⟩,
   ⟨0x3180, 1, 2, 2, 5, 8, 1, 0, 0⟩,
   ⟨0x3180, 1, 3, 3, 4, 4, 1, 0, 0⟩,
   ⟨0x3180, 1, 4, 4, 2, 1, 2, 0, 0⟩,
   ⟨0x3180, 1, 5, 5, 2, 1, 0, 0, 0⟩,
   ⟨0x3180, 1, 6, 6, 4, 4, 0, 0, 0⟩,
   ⟨0x3180, 1, 7, 7, 4, 4, 4, 0, 0⟩,
   ⟨0x3190, 1, 1, 1, 2, 1, 1, 0, 0⟩,
   ⟨0x3190, 1, 2, 2, 2, 1, 0, 0, 0⟩,
   ⟨0x3190, 1, 3, 3, 2, 1, 2, 0, 0⟩,
   ⟨0x3190, 1, 4, 4, 2, 1, 0, 0, 0⟩,
   ⟨0x3190, 1, 5, 5, 4, 4, 4, 0, 0⟩,
   ⟨0x3190, 1, 6, 6, 2, 1, 0, 0, 0⟩]

def objects34 : List ObjRow :=
  [⟨0x3400, 2, 1, 9, 6, 2, 1, 3, 0⟩,
   ⟨0x3402, 2, 1, 1, 13, 6154, 1, 3, 0⟩,
   ⟨0x3404, 1, 1, 3, 3, 2, 1, 3, 256⟩,
   ⟨0x3410, 1, 1, 1, 1, 1, 1, 3, 0⟩,
   ⟨0x3410, 1, 2, 2, 5, 8, 1, 0, 0⟩,
   ⟨0x3410, 1, 3, 3, 4, 4, 1, 0, 0⟩,
   ⟨0x3410, 1, 4, 4, 2, 1, 2, 0, 0⟩,
   ⟨0x3410, 1, 5, 5, 2, 1, 0, 0, 0⟩,
   ⟨0x3410, 1, 6, 6, 4, 4, 4, 0, 0⟩,
   ⟨0x3410, 1, 7, 7, 4, 4, 0, 0, 0⟩,
   ⟨0x3411, 1, 1, 1, 13, 1444, 0, 0, 0⟩,
   ⟨0x3412, 1, 1, 1, 3, 2, 1, 0, 0⟩,
   ⟨0x3412, 1, 2, 2, 5, 8, 1, 0, 0⟩,
   ⟨0x3412, 1, 3, 3, 4, 4, 1, 0, 0⟩,
   ⟨0x3412, 1, 4, 4, 4, 4, 1, 0, 0⟩,
   ⟨0x3412, 1, 5, 5, 2, 1, 2, 0, 0⟩,
   ⟨0x3412, 1, 6, 6, 2, 1, 0, 0, 0⟩,
   ⟨0x3412, 1, 7, 7, 4, 4, 0, 0, 0⟩,
   ⟨0x3412, 1, 8, 8, 4, 4, 0, 0, 0⟩,
   ⟨0x3412, 1, 9, 9, 2, 1, 0, 0, 0⟩,
   ⟨0x3420, 1, 1, 1, 3, 2, 1, 4, 16383⟩,
   ⟨0x3420, 1, 2, 2, 13, 28804, 1, 3, 0⟩,
   ⟨0x3420, 1, 3, 3, 3, 2, 1, 3, 512⟩,
   ⟨0x3420, 1, 4, 4, 13, 57600, 0, 0, 0⟩,
   ⟨0x3420, 1, 5, 5, 3, 2, 0, 0, 0⟩,
   ⟨0x3420, 1, 6, 6, 4, 4, 4, 0, 0⟩,
   ⟨0x3430, 1, 1, 1, 1, 1, 1, 3, 1⟩,
   ⟨0x3430, 1, 2, 2, 2, 1, 0, 0, 0⟩,
   ⟨0x3440, 1, 1, 1, 13, 86404, 1, 3, 0⟩,
   ⟨0x3440, 1, 2, 2, 13, 345600, 1, 0, 0⟩,
   ⟨0x3440, 1, 3, 3, 4, 4, 0, 0, 0⟩,
   ⟨0x3440, 1, 4, 4, 13, 484, 1, 0, 0⟩,
   ⟨0x3440, 1, 5, 5, 2, 1, 2, 0, 0⟩,
   ⟨0x3440, 1, 6, 6, 4, 4, 1, 0, 3600⟩,
   ⟨0x3450, 1, 1, 2, 4, 4, 4, 0, 0⟩,
   ⟨0x3450, 1, 3, 3, 4, 4, 4, 0, 0⟩]

def objects38 : List ObjRow :=
  [⟨0x3800, 1, 1, 1, 2, 1, 1, 3, 0⟩,
   ⟨0x3800, 1, 2, 2, 2, 1, 1, 3, 0⟩,
   ⟨0x3800, 1, 3, 3, 2, 1, 1, 3, 0⟩,
   ⟨0x3800, 1, 4, 4, 2, 1, 1, 3, 0⟩,
   ⟨0x3800, 1, 5, 5, 2, 1, 1, 3, 0⟩,
   ⟨0x3800, 1, 6, 6, 4, 4, 1, 0, 0⟩,
   ⟨0x3800, 1, 7, 7, 2, 1, 2, 0, 0⟩,
   ⟨0x3800, 1, 8, 8, 2, 1, 0, 0, 0⟩,
   ⟨0x3800, 1, 9, 9, 4, 4, 0, 0, 0⟩,
   ⟨0x3801, 1, 1, 1, 2, 1, 0, 0, 120⟩,
   ⟨0x3801, 1, 2, 2, 4, 4, 0, 0, 462963⟩,
   ⟨0x3801, 1, 3, 3, 6, 2, 0, 0, 0⟩,
   ⟨0x3801, 1, 4, 4, 3, 2, 0, 0, 720⟩,
   ⟨0x3801, 1, 5, 5, 4, 4, 0, 0, 0⟩,
   ⟨0x3801, 1, 6, 6, 4, 4, 0, 0, 0⟩,
   ⟨0x3810, 1, 1, 1, 2, 1, 1, 3, 0⟩,
   ⟨0x3810, 1, 2, 2, 2, 1, 0, 0, 0⟩,
   ⟨0x3810, 1, 3, 3, 3, 2, 1, 2, 10⟩,
   ⟨0x3810, 1, 4, 4, 2, 1, 1, 0, 2⟩,
   ⟨0x3810, 1, 5, 5, 4, 4, 4, 0, 0⟩,
   ⟨0x3810, 1, 6, 6, 4, 4, 0, 0, 0⟩,
   ⟨0x3820, 1, 1, 1, 2, 1, 0, 0, 0⟩,
   ⟨0x3820, 1, 2, 2, 2, 1, 0, 0, 0⟩,
   ⟨0x3820, 1, 3, 3, 4, 4, 4, 0, 0⟩,
   ⟨0x3820, 1, 4, 4, 4, 4, 4, 0, 0⟩,
   ⟨0x3830, 1, 1, 128, 4, 4, 4, 0, 0⟩,
   ⟨0x3831, 1, 1, 1, 5, 8, 0, 0, 0⟩,
   ⟨0x3840, 1, 1, 1, 2, 1, 0, 0, 0⟩,
   ⟨0x3840, 1, 2, 2, 7, 4, 0, 0, 0⟩,
   ⟨0x3840, 1, 3, 3, 4, 4, 4, 0, 0⟩]

def objects40 : List ObjRow :=
  [⟨0x4000, 128, 1, 1, 2, 1, 0, 0, 4⟩,
   ⟨0x4000, 128, 2, 2, 2, 1, 0, 0, 0⟩,
   ⟨0x4000, 128, 3, 3, 4, 4, 0, 0, 0⟩,
   ⟨0x4000, 128, 4, 4, 2, 1, 0, 0, 0⟩,
   ⟨0x4000, 128, 5, 5, 3, 2, 0, 0, 0⟩,
   ⟨0x4000, 128, 6, 6, 3, 2, 0, 0, 0⟩,
   ⟨0x4000, 128, 7, 7, 1, 1, 0, 0, 0⟩,
   ⟨0x4000, 128, 8, 8, 2, 1, 1, 0, 1⟩,
   ⟨0x4000, 128, 9, 9, 4, 4, 0, 0, 0⟩,
   ⟨0x4000, 128, 10, 10, 4, 4, 4, 0, 0⟩,
   ⟨0x4000, 128, 11, 11, 4, 4, 4, 0, 0⟩,
   ⟨0x4000, 128, 12, 12, 4, 4, 4, 0, 0⟩,
   ⟨0x4000, 128, 13, 13, 4, 4, 4, 0, 0⟩]

def objects41 : List ObjRow :=
  [⟨0x4100, 256, 1, 1, 2, 1, 0, 0, 0⟩,
   ⟨0x4100, 256, 2, 2, 2, 1, 0, 0, 0⟩,
   ⟨0x4100, 256, 3, 3, 4, 4, 4, 0, 0⟩,
   ⟨0x4100, 256, 4, 4, 4, 4, 4, 0, 0⟩,
   ⟨0x4100, 256, 5, 5, 2, 1, 0, 0, 0⟩,
   ⟨0x4100, 256, 6, 6, 4, 4, 4, 0, 0⟩,
   ⟨0x4100, 256, 7, 7, 2, 1, 0, 0, 0⟩,
   ⟨0x4100, 256, 8, 8, 4, 4, 4, 0, 0⟩,
   ⟨0x4100, 256, 9, 9, 4, 4, 4, 0, 0⟩,
   ⟨0x4100, 256, 10, 10, 4, 4, 4, 0, 0⟩,
   ⟨0x4100, 256, 11, 11, 2, 1, 0, 0, 0⟩,
   ⟨0x4100, 256, 12, 12, 2, 1, 1, 0, 0⟩,
   ⟨0x4100, 256, 13, 13, 4, 4, 4, 0, 0⟩,
   ⟨0x4100, 256, 14, 14, 4, 4, 0, 0, 0⟩]

def objects42 : List ObjRow :=
  [⟨0x4200, 1, 1, 1, 2, 1, 1, 0, 4⟩,
   ⟨0x4200, 1, 2, 2, 2, 1, 1, 0, 8⟩,
   ⟨0x4200, 1, 3, 3, 1, 1, 1, 0, 1⟩,
   ⟨0x4200, 1, 4, 4, 1, 1, 1, 0, 1⟩,
   ⟨0x4200, 1, 5, 5, 2, 1, 0, 0, 0⟩,
   ⟨0x4200, 1, 6, 6, 2, 1, 0, 0, 0⟩,
   ⟨0x4200, 1, 7, 7, 3, 2, 0, 0, 0⟩]

def objects44 : List ObjRow :=
  [⟨0x4400, 1, 1, 1, 2, 1, 1, 0, 1⟩,
   ⟨0x4400, 1, 2, 2, 2, 1, 1, 0, 0⟩,
   ⟨0x4400, 1, 3, 3, 2, 1, 1, 0, 1⟩,
   ⟨0x4400, 1, 4, 4, 3, 2, 1, 4, 24000⟩,
   ⟨0x4400, 1, 5, 5, 6, 2, 1, 0, 0⟩,
   ⟨0x4400, 1, 6, 6, 2, 1, 0, 0, 1⟩,
   ⟨0x4400, 1, 7, 7, 6, 2, 0, 0, 0⟩,
   ⟨0x4401, 1, 1, 1, 13, 76, 1, 3, 0⟩,
   ⟨0x4401, 1, 2, 2, 13, 52, 1, 3, 0⟩,
   ⟨0x4402, 1, 1, 1, 4, 4, 1, 0, 5000⟩,
   ⟨0x4402, 1, 2, 2, 4, 4, 4, 0, 0⟩,
   ⟨0x4402, 1, 3, 3, 3, 2, 0, 0, 0⟩,
   ⟨0x4402, 1, 4, 4, 7, 4, 0, 0, 0⟩,
   ⟨0x4402, 1, 5, 5, 4, 4, 4, 0, 0⟩,
   ⟨0x4402, 1, 6, 6, 4, 4, 1, 4, 20000⟩,
   ⟨0x4402, 1, 7, 7, 2, 1, 2, 0, 0⟩,
   ⟨0x4403, 1, 1, 1, 3, 2, 0, 0, 0⟩,
   ⟨0x4403, 1, 2, 2, 2, 1, 0, 0, 0⟩,
   ⟨0x4403, 1, 3, 3, 13, 8, 0, 0, 0⟩,
   ⟨0x4403, 1, 4, 4, 4, 4, 4, 0, 0⟩,
   ⟨0x4403, 1, 5, 5, 4, 4, 4, 0, 0⟩,
   ⟨0x4410, 1, 1, 1, 13, 1540, 1, 3, 0⟩,
   ⟨0x4410, 1, 2, 2, 13, 1536, 0, 0, 0⟩,
   ⟨0x4410, 1, 3, 3, 13, 1536, 0, 0, 0⟩,
   ⟨0x4410, 1, 4, 4, 3, 2, 0, 0, 0⟩,
   ⟨0x4420, 1, 1, 1, 4, 4, 0, 0, 0⟩,
   ⟨0x4420, 1, 2, 2, 2, 1, 0, 0, 0⟩,
   ⟨0x4420, 1, 3, 3, 4, 4, 4, 0, 0⟩,
   ⟨0x4420, 1, 4, 4, 2, 1, 0, 0, 0⟩,
   ⟨0x4420, 1, 5, 5, 4, 4, 4, 0, 0⟩,
   ⟨0x4420, 1, 6, 6, 4, 4, 0, 0, 0⟩]

def objects48a : List ObjRow :=
  [⟨0x4800, 2, 1, 1, 1, 1, 1, 0, 0⟩,
   ⟨0x4800, 2, 2, 2, 2, 1, 1, 0, 0⟩,
   ⟨0x4800, 2, 3, 3, 2, 1, 1, 0, 0⟩,
   ⟨0x4800, 2, 4, 4, 2, 1, 1, 0, 0⟩,
   ⟨0x4800, 2, 5, 5, 2, 1, 1, 0, 0⟩,
   ⟨0x4800, 2, 6, 6, 2, 1, 0, 0, 0⟩,
   ⟨0x4800, 2, 7, 7, 7, 4, 0, 0, 0⟩,
   ⟨0x4800, 2, 8, 8, 4, 4, 0, 0, 0⟩,
   ⟨0x4800, 2, 9, 9, 12, 8, 0, 0, 0⟩,
   ⟨0x4802, 1, 1, 1, 2, 1, 0, 0, 2⟩,
   ⟨0x4802, 1, 2, 2, 2, 1, 0, 0, 0⟩,
   ⟨0x4802, 1, 3, 3, 7, 4, 0, 0, 0⟩,
   ⟨0x4802, 1, 4, 4, 4, 4, 4, 0, 0⟩,
   ⟨0x4802, 1, 5, 5, 10, 10, 0, 0, 0⟩,
   ⟨0x4802, 1, 6, 6, 1, 1, 1, 0, 1⟩,
   ⟨0x4802, 1, 7, 7, 6, 2, 1, 0, 65533⟩,
   ⟨0x4802, 1, 8, 8, 13, 16, 1, 0, 0⟩,
   ⟨0x4802, 1, 9, 9, 13, 8, 0, 0, 0⟩,
   ⟨0x4810, 2, 1, 1, 13, 16, 4, 0, 0⟩,
   ⟨0x4810, 2, 2, 2, 2, 1, 0, 0, 0⟩,
   ⟨0x4810, 2, 3, 3, 4, 4, 4, 0, 0⟩,
   ⟨0x4810, 2, 4, 4, 1, 1, 3, 0, 0⟩,
   ⟨0x4812, 2, 1, 1, 2, 1, 0, 0, 0⟩,
   ⟨0x4812, 2, 2, 2, 4, 4, 4, 0, 0⟩,
   ⟨0x4812, 2, 3, 3, 4, 4, 4, 0, 0⟩,
   ⟨0x4820, 1, 1, 1, 10, 10, 1, 0, 0⟩,
   ⟨0x4820, 1, 2, 2, 5, 8, 1, 0, 0⟩,
   ⟨0x4820, 1, 3, 3, 10, 10, 1, 0, 0⟩,
   ⟨0x4820, 1, 4, 4, 5, 8, 0, 0, 0⟩,
   ⟨0x4820, 1, 5, 5, 4, 4, 0, 0, 0⟩,
   ⟨0x4820, 1, 6, 6, 2, 1, 2, 0, 0⟩,
   ⟨0x4821, 1, 1, 1, 2, 1, 0, 0, 0⟩,
   ⟨0x4821, 1, 2, 2, 7, 4, 0, 0, 0⟩,
   ⟨0x4821, 1, 3, 3, 7, 4, 0, 0, 0⟩,
   ⟨0x4821, 1, 4, 4, 7, 4, 0, 0, 0⟩,
   ⟨0x4821, 1, 5, 5, 4, 4, 4, 0, 0⟩,
   ⟨0x4821, 1, 6, 6, 4, 4, 0, 0, 0⟩,
   ⟨0x4821, 1, 7, 7, 3, 2, 1, 0, 40⟩,
   ⟨0x4830, 1, 1, 1, 3, 2, 1, 0, 0⟩,
   ⟨0x4830, 1, 2, 2, 3, 2, 1, 0, 0⟩]

def objects48b : List ObjRow :=
  [⟨0x4830, 1, 3, 3, 4, 4, 4, 0, 0⟩,
   ⟨0x4840, 1, 1, 1, 1, 1, 1, 0, 1⟩,
   ⟨0x4840, 1, 2, 2, 2, 1, 1, 0, 0⟩,
   ⟨0x4840, 1, 3, 3, 4, 4, 4, 0, 0⟩,
   ⟨0x4840, 1, 4, 4, 4, 4, 4, 0, 0⟩,
   ⟨0x4840, 1, 5, 5, 3, 2, 0, 0, 0⟩,
   ⟨0x4880, 8, 1, 1, 2, 1, 0, 0, 0⟩,
   ⟨0x4880, 8, 2, 2, 2, 1, 0, 0, 0⟩,
   ⟨0x4880, 8, 3, 3, 3, 2, 0, 0, 0⟩,
   ⟨0x4880, 8, 4, 4, 3, 2, 0, 0, 0⟩,
   ⟨0x4880, 8, 5, 5, 4, 4, 0, 0, 0⟩,
   ⟨0x4880, 8, 6, 6, 7, 4, 0, 0, 0⟩,
   ⟨0x4880, 8, 7, 7, 1, 1, 0, 0, 0⟩,
   ⟨0x4880, 8, 8, 8, 4, 4, 4, 0, 0⟩,
   ⟨0x4880, 8, 9, 9, 1, 1, 1, 0, 1⟩,
   ⟨0x48C0, 4, 1, 1, 2, 1, 1, 3, 0⟩,
   ⟨0x48C0, 4, 2, 2, 3, 2, 1, 3, 1⟩,
   ⟨0x48C0, 4, 3, 3, 7, 4, 1, 3, 0⟩,
   ⟨0x48C0, 4, 4, 4, 4, 4, 1, 3, 1000⟩,
   ⟨0x48C0, 4, 5, 5, 1, 1, 1, 3, 1⟩,
   ⟨0x48C0, 4, 6, 6, 10, 10, 1, 3, 0⟩,
   ⟨0x48C0, 4, 7, 7, 5, 8, 1, 3, 0⟩,
   ⟨0x48C0, 4, 8, 8, 4, 4, 1, 3, 0⟩,
   ⟨0x48D0, 4, 1, 1, 2, 1, 1, 0, 0⟩,
   ⟨0x48D0, 4, 2, 2, 3, 2, 1, 0, 0⟩,
   ⟨0x48D0, 4, 3, 3, 13, 16, 4, 0, 0⟩,
   ⟨0x48D0, 4, 4, 4, 2, 1, 0, 0, 0⟩,
   ⟨0x48D0, 4, 5, 5, 4, 4, 4, 0, 0⟩,
   ⟨0x48D0, 4, 6, 6, 1, 1, 3, 0, 0⟩]

def objects50 : List ObjRow :=
  [⟨0x5000, 128, 1, 1, 2, 1, 0, 0, 0⟩,
   ⟨0x5000, 128, 2, 2, 2, 1, 0, 0, 0⟩,
   ⟨0x5000, 128, 3, 3, 3, 2, 0, 0, 3900⟩,
   ⟨0x5000, 128, 4, 4, 2, 1, 0, 0, 0⟩,
   ⟨0x5000, 128, 5, 5, 4, 4, 4, 0, 0⟩,
   ⟨0x5000, 128, 6, 6, 4, 4, 4, 0, 0⟩,
   ⟨0x5000, 128, 7, 7, 4, 4, 4, 0, 0⟩,
   ⟨0x5000, 128, 8, 8, 4, 4, 4, 0, 0⟩,
   ⟨0x5000, 128, 9, 9, 4, 4, 4, 0, 0⟩,
   ⟨0x5000, 128, 10, 10, 13, 4, 0, 0, 0⟩,
   ⟨0x5000, 128, 11, 11, 13, 4, 0, 0, 0⟩,
   ⟨0x5000, 128, 12, 12, 13, 8, 0, 0, 0⟩,
   ⟨0x5000, 128, 13, 13, 2, 1, 0, 0, 0⟩,
   ⟨0x5000, 128, 14, 14, 2, 1, 0, 0, 0⟩,
   ⟨0x5000, 128, 15, 15, 4, 4, 4, 0, 0⟩,
   ⟨0x5080, 4, 1, 1, 6, 2, 0, 0, 0⟩,
   ⟨0x5080, 4, 2, 2, 2, 1, 0, 0, 0⟩,
   ⟨0x5080, 4, 3, 3, 4, 4, 4, 0, 0⟩,
   ⟨0x5080, 4, 4, 4, 4, 4, 4, 0, 0⟩,
   ⟨0x5090, 1, 1, 1, 2, 1, 0, 0, 0⟩,
   ⟨0x5090, 1, 2, 2, 3, 2, 0, 0, 0⟩,
   ⟨0x5090, 1, 3, 3, 3, 2, 1, 0, 10⟩,
   ⟨0x5090, 1, 4, 4, 1, 1, 1, 0, 1⟩,
   ⟨0x5090, 1, 5, 5, 2, 1, 0, 0, 0⟩,
   ⟨0x5090, 1, 6, 6, 2, 1, 0, 0, 0⟩]

def objects51 : List ObjRow :=
  [⟨0x5100, 128, 1, 1, 2, 1, 0, 0, 0⟩,
   ⟨0x5100, 128, 2, 2, 2, 1, 0, 0, 0⟩,
   ⟨0x5100, 128, 3, 3, 4, 4, 4, 0, 0⟩,
   ⟨0x5100, 128, 4, 4, 4, 4, 4, 0, 0⟩,
   ⟨0x5100, 128, 5, 5, 13, 16, 0, 0, 0⟩,
   ⟨0x5180, 1, 1, 1, 3, 2, 1, 0, 878⟩,
   ⟨0x5180, 1, 2, 2, 1, 1, 1, 0, 1⟩,
   ⟨0x5180, 1, 3, 3, 4, 4, 0, 0, 0⟩,
   ⟨0x5180, 1, 4, 4, 4, 4, 4, 0, 0⟩,
   ⟨0x5180, 1, 5, 5, 4, 4, 4, 0, 0⟩]

def objects54 : List ObjRow :=
  [⟨0x5400, 1, 1, 52, 6, 2, 0, 0, 0⟩,
   ⟨0x5401, 1, 1, 52, 2, 1, 0, 0, 0⟩,
   ⟨0x5402, 1, 1, 52, 6, 2, 0, 0, 0⟩,
   ⟨0x5403, 1, 1, 1, 6, 2, 0, 0, 0⟩,
   ⟨0x5403, 1, 2, 2, 13, 8, 0, 0, 0⟩,
   ⟨0x5403, 1, 3, 3, 2, 1, 0, 0, 10⟩,
   ⟨0x5403, 1, 4, 4, 4, 4, 4, 0, 0⟩,
   ⟨0x5404, 1, 1, 1, 6, 2, 0, 0, 0⟩,
   ⟨0x5404, 1, 2, 2, 2, 1, 0, 0, 0⟩,
   ⟨0x5404, 1, 3, 3, 2, 1, 0, 0, 1⟩,
   ⟨0x5404, 1, 4, 4, 4, 4, 4, 0, 0⟩,
   ⟨0x5410, 1, 1, 1, 2, 1, 0, 0, 0⟩,
   ⟨0x5410, 1, 2, 2, 2, 1, 0, 0, 0⟩,
   ⟨0x5410, 1, 3, 3, 6, 2, 1, 0, 9200⟩,
   ⟨0x5410, 1, 4, 4, 3, 2, 1, 0, 150⟩,
   ⟨0x5410, 1, 5, 5, 3, 2, 1, 2, 4095⟩,
   ⟨0x5410, 1, 6, 6, 3, 2, 0, 0, 4095⟩,
   ⟨0x5410, 1, 7, 7, 1, 1, 0, 0, 0⟩,
   ⟨0x5410, 1, 8, 8, 4, 4, 4, 0, 0⟩,
   ⟨0x5410, 1, 9, 9, 4, 4, 4, 0, 0⟩,
   ⟨0x5411, 1, 1, 1, 2, 1, 0, 0, 0⟩,
   ⟨0x5411, 1, 2, 2, 4, 4, 4, 0, 0⟩,
   ⟨0x5411, 1, 3, 3, 4, 4, 0, 0, 0⟩,
   ⟨0x5420, 1, 1, 1, 2, 1, 2, 0, 0⟩,
   ⟨0x5420, 1, 2, 2, 2, 1, 2, 0, 0⟩,
   ⟨0x5430, 1, 1, 26, 2, 1, 0, 0, 0⟩,
   ⟨0x5430, 1, 27, 28, 2, 1, 0, 0, 2⟩,
   ⟨0x5430, 1, 29, 29, 2, 1, 0, 0, 0⟩,
   ⟨0x5430, 1, 30, 38, 2, 1, 0, 0, 2⟩,
   ⟨0x5430, 1, 39, 39, 2, 1, 0, 0, 0⟩,
   ⟨0x5430, 1, 40, 40, 2, 1, 0, 0, 2⟩,
   ⟨0x5431, 1, 1, 40, 4, 4, 4, 0, 0⟩,
   ⟨0x5432, 1, 1, 1, 4, 4, 4, 0, 0⟩]

def objects58 : List ObjRow :=
  [⟨0x5800, 24, 1, 1, 2, 1, 1, 0, 0⟩,
   ⟨0x5800, 24, 2, 2, 4, 4, 1, 0, 0⟩,
   ⟨0x5800, 24, 3, 3, 5, 8, 1, 0, 0⟩,
   ⟨0x5800, 24, 4, 4, 5, 8, 1, 0, 0⟩,
   ⟨0x5800, 24, 5, 5, 2, 1, 1, 0, 0⟩,
   ⟨0x5800, 24, 6, 6, 5, 8, 1, 0, 0⟩,
   ⟨0x5800, 24, 7, 7, 5, 8, 1, 0, 0⟩,
   ⟨0x5800, 24, 8, 8, 13, 256, 2, 8, 0⟩,
   ⟨0x5800, 24, 9, 9, 2, 1, 2, 0, 0⟩,
   ⟨0x5800, 24, 10, 10, 2, 1, 0, 0, 0⟩,
   ⟨0x5800, 24, 11, 11, 5, 8, 0, 0, 0⟩,
   ⟨0x5800, 24, 12, 12, 4, 4, 4, 0, 0⟩,
   ⟨0x5820, 1, 1, 1, 2, 1, 0, 0, 0⟩,
   ⟨0x5820, 1, 2, 2, 2, 1, 0, 0, 0⟩,
   ⟨0x5820, 1, 3, 3, 4, 4, 0, 0, 0⟩,
   ⟨0x5820, 1, 4, 4, 4, 4, 4, 0, 0⟩,
   ⟨0x5820, 1, 5, 5, 4, 4, 4, 0, 0⟩,
   ⟨0x5820, 1, 6, 6, 4, 4, 4, 0, 0⟩,
   ⟨0x5820, 1, 7, 7, 4, 4, 4, 0, 0⟩,
   ⟨0x5820, 1, 8, 8, 3, 2, 0, 0, 0⟩,
   ⟨0x5820, 1, 9, 9, 3, 2, 0, 0, 0⟩,
   ⟨0x5820, 1, 10, 10, 3, 2, 1, 0, 0⟩,
   ⟨0x5820, 1, 11, 11, 13, 64, 0, 0, 0⟩,
   ⟨0x5821, 1, 1, 1, 3, 2, 1, 0, 512⟩,
   ⟨0x5821, 1, 2, 2, 13, 52, 1, 8, 0⟩,
   ⟨0x5821, 1, 3, 3, 4, 4, 0, 0, 0⟩,
   ⟨0x5821, 1, 4, 4, 2, 1, 0, 0, 0⟩,
   ⟨0x5822, 1, 1, 1, 2, 1, 1, 0, 4⟩,
   ⟨0x5822, 1, 2, 2, 13, 52, 1, 8, 0⟩,
   ⟨0x5822, 1, 3, 3, 4, 4, 0, 0, 0⟩,
   ⟨0x5822, 1, 4, 4, 2, 1, 0, 0, 0⟩,
   ⟨0x5822, 1, 5, 5, 4, 4, 4, 0, 0⟩]

def objects60 : List ObjRow :=
  [⟨0x6000, 1, 1, 1, 4, 4, 0, 0, 0⟩,
   ⟨0x6000, 1, 2, 2, 13, 32, 4, 0, 0⟩,
   ⟨0x6000, 1, 3, 3, 4, 4, 0, 0, 0⟩,
   ⟨0x6000, 1, 4, 4, 4, 4, 4, 0, 0⟩,
   ⟨0x6010, 1, 1, 1, 4, 4, 2, 0, 0⟩,
   ⟨0x6010, 1, 2, 2, 2, 1, 0, 0, 0⟩,
   ⟨0x6010, 1, 3, 3, 4, 4, 0, 0, 0⟩,
   ⟨0x6011, 1, 1, 1, 2, 1, 0, 0, 0⟩,
   ⟨0x6011, 1, 2, 2, 3, 2, 0, 0, 0⟩,
   ⟨0x6011, 1, 3, 3, 3, 2, 0, 0, 0⟩,
   ⟨0x6012, 1, 1, 1, 2, 1, 0, 0, 0⟩,
   ⟨0x6012, 1, 2, 2, 4, 4, 4, 0, 0⟩,
   ⟨0x6020, 1, 1, 1, 3, 2, 1, 0, 10⟩,
   ⟨0x6020, 1, 2, 2, 4, 4, 4, 0, 0⟩,
   ⟨0x6020, 1, 3, 3, 2, 1, 0, 0, 0⟩,
   ⟨0x6030, 1, 1, 1, 4, 4, 1, 0, 485⟩,
   ⟨0x6030, 1, 2, 2, 4, 4, 0, 0, 0⟩,
   ⟨0x6030, 1, 3, 3, 4, 4, 3, 0, 0⟩]

def objects61 : List ObjRow :=
  [⟨0x6100, 1, 1, 1, 13, 232000, 2, 8, 0⟩,
   ⟨0x6100, 1, 2, 2, 2, 1, 2, 0, 0⟩,
   ⟨0x6100, 1, 3, 3, 2, 1, 0, 0, 0⟩,
   ⟨0x6100, 1, 4, 4, 2, 1, 0, 0, 1⟩,
   ⟨0x6100, 1, 5, 5, 13, 232000, 0, 0, 0⟩]

/-- The rows whose indexes lie in the same 256 as `index`. -/
def rowsNear (index : Nat) : List ObjRow :=
  match index / 256 with
  | 0x10 => objects10
  | 0x11 => objects11
  | 0x12 => objects12a ++ objects12b
  | 0x14 => objects14
  | 0x20 => objects20
  | 0x21 => objects21
  | 0x30 => objects30
  | 0x31 => objects31
  | 0x34 => objects34
  | 0x38 => objects38
  | 0x40 => objects40
  | 0x41 => objects41
  | 0x42 => objects42
  | 0x44 => objects44
  | 0x48 => objects48a ++ objects48b
  | 0x50 => objects50
  | 0x51 => objects51
  | 0x54 => objects54
  | 0x58 => objects58
  | 0x60 => objects60
  | 0x61 => objects61
  | _ => []

/-- The row of index:subindex, for subindexes from 1 on. -/
def objRow (index sub : Nat) : Option ObjRow :=
  (rowsNear index).find? fun r =>
    decide (r.base ≤ index) && decide (index < r.base + r.count) && decide (r.lo ≤ sub) && decide (sub ≤ r.hi)

/-- Every row, in ascending order of index and subindex within each unit's block. -/
def allRows : List ObjRow :=
  objects10 ++ objects11 ++ objects12a ++ objects12b ++ objects14 ++ objects20 ++ objects21 ++ objects30 ++ objects31
    ++ objects34 ++ objects38 ++ objects40 ++ objects41 ++ objects42 ++ objects44 ++ objects48a ++ objects48b ++
    objects50 ++ objects51 ++ objects54 ++ objects58 ++ objects60 ++ objects61

/-! ### Defaults that are tables -/

/-- A DOMAIN followed by its CRC-32C, fold word ((index << 16) | subindex) (R180, R334). -/
def withCrc (index sub : Nat) (bs : List Byte) : List Byte := bs ++ natLE (crc32c (index * 65536 + sub) bs) 4

/-- The default view table (R178): slopes (SX, SY) of view (u, v) in place 24 v + u. -/
def defaultView : List (Int × Int) :=
  (List.range 288).map fun n => ((2 * (n % 24 : Nat) - 23 : Int) * 256, (2 * (n / 24 : Nat) - 11 : Int) * 256)

/-- A view table as the bytes of 0x2111:01 (R180). -/
def viewBytes (t : List (Int × Int)) : List Byte :=
  withCrc 0x2111 1 (packLE 4 (t.map fun e => ofSigned 16 e.1 + 65536 * ofSigned 16 e.2))

/-- The default curve (R316). -/
def defaultCurve : List Nat := (List.range 1024).map (16 * ·) ++ [16383]

/-- The default monostable band table (R486), as twelve-byte entries. -/
def defaultMono : List Byte :=
  ([(21600, 6, 1, 64, 14, 2, 12, 200), (18000, 6, 1, 96, 14, 2, 6, 60), (16200, 6, 1, 128, 14, 2, 4, 30),
    (15000, 6, 2, 160, 14, 2, 3, 20), (14400, 6, 2, 192, 14, 2, 2, 15), (13800, 6, 2, 256, 14, 2, 2, 10)].map
    fun (v4, a, inv, f, on, off, ov, st) =>
      natLE v4 2 ++ natLE a 1 ++ natLE inv 1 ++ natLE f 2 ++ natLE on 1 ++ natLE off 1 ++ natLE ov 1 ++ [0] ++
        natLE st 2).flatten

/-- The default bistable band table (R490), as eight-byte entries. -/
def defaultBi : List Byte :=
  ([(23400, 5, 2, 950, 40), (21000, 5, 1, 950, 20), (19800, 5, 1, 800, 10), (18600, 5, 1, 650, 8),
    (18000, 5, 1, 550, 6), (17400, 5, 1, 500, 5)].map
    fun (v4, a, rep, tw, st) => natLE v4 2 ++ natLE a 1 ++ natLE rep 1 ++ natLE tw 2 ++ natLE st 2).flatten

/-- The default aging curves (0x3440:04): ep all 0x8000, kp[j] = j · 2^40. -/
def defaultAging : List Byte :=
  ((List.range 3).map fun _ =>
    ((List.range 16).map fun j => natLE (j * 2 ^ 40) 8 ++ natLE 0x8000 2).flatten).flatten

/-- Default of index:subindex as the little-endian number of its bytes. -/
def objDefault (index sub : Nat) : Nat :=
  if index = 0x2111 ∧ (sub = 1 ∨ sub = 6) then leNat (viewBytes defaultView)
  else if 0x3400 ≤ index ∧ index ≤ 0x3401 then (if sub % 4 = 1 then 8192 else 0)
  else if 0x3402 ≤ index ∧ index ≤ 0x3403 then
    leNat (withCrc index 1 ((List.range 3).map fun _ => packLE 2 defaultCurve).flatten)
  else if index = 0x3420 ∧ sub = 2 then leNat (withCrc index 2 (packLE 2 (List.replicate 14400 16383)))
  else if index = 0x3440 ∧ sub = 1 then leNat (withCrc index 1 (packLE 2 (List.replicate 43200 0x8000)))
  else if index = 0x3440 ∧ sub = 4 then leNat (withCrc index 4 defaultAging)
  else if index = 0x4410 ∧ sub = 1 then leNat (withCrc index 1 (List.replicate 1536 0))
  else if index = 0x4401 ∧ sub = 1 then leNat (withCrc index 1 defaultMono)
  else if index = 0x4401 ∧ sub = 2 then leNat (withCrc index 2 defaultBi)
  else if (index = 0x4800 ∨ index = 0x4801) ∧ sub = 1 then 0x4801 - index
  else if (index = 0x4800 ∨ index = 0x4801) ∧ sub = 3 then index - 0x4800
  else ((objRow index sub).map (·.dflt)).getD 0

/-- The key of index:subindex. -/
def key (index sub : Nat) : Nat := 256 * index + sub

end Sys2Proof.Machine
end

