-- ==== Sys2Proof/WellFormed.lean ====
section
/-!
DEFINITION. Which commands name units, lanes, windows and fields that the manual numbers at all (R27, R29). A command
outside these ranges names nothing; whether a unit in range is present on the part is the machine's business.
-/
namespace Sys2Proof

/-- The operands of a command lie in the ranges the manual numbers its units by. -/
def Instr.wellFormed (i : Instr) : Bool :=
  match i with
  | .lineStart _ _ => true
  | .linkUnderrun l _ => decide (l < 256)
  | .eve => true
  | .calends => true
  | .patchRequest sc => decide (sc < 100)
  | .patchComplete strip patch => decide (strip < 720) && decide (patch < 32)
  | .windowFetch strip patch layer block _ _ => decide (strip < 720) && decide (patch < 32) && decide (layer < 32) && decide (block < 32768)
  | .clusterFault sc => decide (sc < 100)
  | .windowStoreEccError sc _ _ => decide (sc < 100)
  | .clusterHeartbeatTimeout sc => decide (sc < 100)
  | .patchWatchdogExpiry strip patch => decide (strip < 720) && decide (patch < 32)
  | .redoQuarterComplete sc => decide (sc < 100)
  | .spareFault sc => decide (sc < 100)
  | .overlayEngineFault e => decide (e < 8)
  | .colourResidueFail strip patch _ => decide (strip < 720) && decide (patch < 32)
  | .gainMapReadFault _ _ => true
  | .ceilingScaleRecompute => true
  | .freezeCacheStripRead strip _ _ => decide (strip < 720)
  | .chunkDecode de _ => decide (de < 32)
  | .indexRecordResume de => decide (de < 32)
  | .decoderFault de => decide (de < 32)
  | .internalMarkerComplete src => decide (src < 64)
  | .copyComplete layer => decide (layer < 32)
  | .clipRegister => true
  | .clipVerify => true
  | .clipUnregister => true
  | .clipVerificationComplete entry => decide (entry < 4096)
  | .viewTableSubmit => true
  | .commitRequest => true
  | .shadowWrite index sub _ => decide (index < 65536) && decide (sub < 256)
  | .protectedLoad => true
  | .protectedLoadComplete slot => decide (slot < 20)
  | .protectedErase => true
  | .protectedSlotRead slot block _ _ => decide (slot < 20) && decide (block < 2048)
  | .regionLearn r => decide (r < 16)
  | .safeShowNAssert => true
  | .safeShowNRelease => true
  | .safetyRelease => true
  | .safetyReleaseCancel => true
  | .gainMapBaseWrite _ => true
  | .gainMapCheck => true
  | .gainMapCheckComplete => true
  | .bandSubmit => true
  | .bandCopyComplete band => decide (band < 720)
  | .hardwareCeilingWrite _ => true
  | .agingRefresh => true
  | .rasterSubmit => true
  | .hostSilenceTimeout => true
  | .laneSleepEnter l => decide (l < 256)
  | .laneWake l => decide (l < 256)
  | .statusReceive l _ => decide (l < 256)
  | .trainReceive l _ => decide (l < 256)
  | .trainReqReceive l => decide (l < 256)
  | .capUpReceive l _ => decide (l < 256)
  | .testResultReceive l _ => decide (l < 256)
  | .telemReceive l _ => decide (l < 256)
  | .upstreamSleepReceive l _ => decide (l < 256)
  | .upstreamViolation l => decide (l < 256)
  | .upstreamLockGain l => decide (l < 256)
  | .upstreamLockLoss l => decide (l < 256)
  | .upstreamLaneLost l => decide (l < 256)
  | .portBlindTimeout p => decide (p < 128)
  | .linkTransmitFault l => decide (l < 256)
  | .trainingTimerExpiry l => decide (l < 256)
  | .presetSweepStep l => decide (l < 256)
  | .linkAbsentRetry l => decide (l < 256)
  | .portTakedownRetrain p => decide (p < 128)
  | .linkSpeedRaise l => decide (l < 256)
  | .testLoopNear l => decide (l < 256)
  | .testLoopFar l => decide (l < 256)
  | .testLoopPattern l => decide (l < 256)
  | .testLoopOff l => decide (l < 256)
  | .driverPowerUp p => decide (p < 128)
  | .driverSolReceive l _ _ => decide (l < 256)
  | .driverKeepReceive l _ => decide (l < 256)
  | .driverFrameEndReceive l _ _ => decide (l < 256)
  | .driverDownstreamLockLoss l => decide (l < 256)
  | .driverStatusSend l margin => decide (l < 256) && decide (margin < 64)
  | .driverTelemSend l value => decide (l < 256) && decide (value < 4294967296)
  | .driverTrainReceive l _ => decide (l < 256)
  | .driverPatternEnd l _ => decide (l < 256)
  | .driveFrameBoundary => true
  | .zoneTargetReached z => decide (z < 12288)
  | .zoneReportReceive z => decide (z < 12288)
  | .pulsePhaseEnd => true
  | .biasSourceStart _ => true
  | .biasMeasure _ _ _ _ _ => true
  | .biasOvervoltageTrip => true
  | .biasRetry => true
  | .dcMonitorSample out _ => decide (out < 536)
  | .forcedInversion out => decide (out < 536)
  | .dcStop out => decide (out < 536)
  | .layerRestart => true
  | .outputFault out => decide (out < 536)
  | .lensBandChange => true
  | .driveDieReset => true
  | .holdupSwitch => true
  | .driveDieSupplyRestore => true
  | .vholdLowLog _ => true
  | .epLinkUp p _ => decide (p < 2)
  | .epLinkDown p => decide (p < 2)
  | .epRateAlternate p => decide (p < 2)
  | .ethernetFrameReceive p _ _ => decide (p < 2)
  | .ethernetTransmit p _ => decide (p < 2)
  | .ptpMessageReceive p _ => decide (p < 2)
  | .ptpLockoutEnd p => decide (p < 2)
  | .transmitStampEnqueue p msgtype domain seqId => decide (p < 2) && decide (msgtype < 16) && decide (domain < 256) && decide (seqId < 65536)
  | .transmitStampRead p => decide (p < 2)
  | .syncTimeout src => decide (src < 2)
  | .sourceInvalid src => decide (src < 2)
  | .sourceStandbyRestore src => decide (src < 2)
  | .relock => true
  | .frameEpochWrite sub _ => decide (1 ≤ sub) && decide (sub ≤ 3)
  | .tilePortHello t _ => decide (t < 8)
  | .helloSend t => decide (t < 8)
  | .markerReceive t _ _ => decide (t < 8)
  | .markerFollowSend t => decide (t < 8)
  | .markerFollowReceive t _ => decide (t < 8)
  | .eveBlockReceive t _ => decide (t < 8)
  | .safetyReceive t _ => decide (t < 8)
  | .tilePortViolation t => decide (t < 8)
  | .tilePortLockTimeout t => decide (t < 8)
  | .safetyRepeat => true
  | .safetyOriginCommand value => decide (value < 256)
  | .safetyOriginExpiry origin => decide (origin < 4096)
  | .timeOutPulse j _ => decide (j < 4)
  | .timeInEdge j _ _ => decide (j < 4)
  | .captureEntryRead j => decide (j < 4)
  | .perst => true
  | .flr => true
  | .bar2Write _ data => decide (0 < data.length) && decide (data.length ≤ 4096)
  | .bar2Read _ len => decide (len ≤ 4096)
  | .wcmRequest => true
  | .writeCompleteMarkerDone => true
  | .dmaWindowWrite n field _ => decide (n < 32) && decide (field < 3)
  | .bar0RegisterWrite off data => decide (off < 67108864) && decide (0 < data.length)
  | .queueCreate => true
  | .queueDelete => true
  | .submissionDoorbell q count gen => decide (q < 1048576) && decide (count < 4294967296) && decide (gen < 256)
  | .completionDoorbell q count gen => decide (q < 1048576) && decide (count < 4294967296) && decide (gen < 256)
  | .hostViolation _ => true
  | .update q _ _ => decide (q < 1048576)
  | .play q _ _ => decide (q < 1048576)
  | .stop q _ _ => decide (q < 1048576)
  | .pulse q _ _ _ _ => decide (q < 1048576)
  | .modeCue q _ _ => decide (q < 1048576)
  | .zones q _ _ _ => decide (q < 1048576)
  | .visible q _ _ _ => decide (q < 1048576)
  | .cancel q _ _ _ => decide (q < 1048576)
  | .signal q _ _ _ => decide (q < 1048576)
  | .completionPost ring _ => decide (ring < 1048576)
  | .mailboxDoorbell value => decide (value < 4294967296)
  | .hbmTrainingComplete _ => true
  | .readDelayCheck lane _ _ => decide (lane < 512)
  | .refreshDue pc _ => decide (pc < 128)
  | .stackTemperatureRead stack _ => decide (stack < 4)
  | .selfRefreshEntry pc => decide (pc < 128)
  | .selfRefreshExitDone pc => decide (pc < 128)
  | .hbmReadError pc _ => decide (pc < 128)
  | .mirrorReadComplete pc _ _ => decide (pc < 128)
  | .patrolScrubStep _ _ => true
  | .atomicAdd _ _ _ => true
  | .atomicSwap _ _ _ => true
  | .bankUncorrectableWord addr => decide (addr < 134217728)
  | .backgroundRowTestStart => true
  | .rowTestComplete _ => true
  | .rowTestAbandon => true
  | .start u => decide (u < 24)
  | .feed u => decide (u < 24)
  | .feedComplete u _ => decide (u < 24)
  | .finish u => decide (u < 24)
  | .abort u _ => decide (u < 24)
  | .checkUnitParityFail u => decide (u < 24)
  | .storeWriteComplete _ => true
  | .recordWrite rec payload => decide (rec < 1024) && decide (payload.length ≤ 52)
  | .ringWrite ring payload => decide (ring < 16) && decide (payload.length ≤ 52)
  | .pageContentsRead => true
  | .sensorReading i _ => decide (i < 52)
  | .sensorConversionTimeout i => decide (i < 52)
  | .tdCrossCheck _ => true
  | .sensorRepair i => decide (i < 52)
  | .retireSensor i => decide (i < 256)
  | .restoreSensor i => decide (i < 256)
  | .octaveEvaluate => true
  | .octaveClockStepApply => true
  | .thermalFaultEnter => true
  | .thermalFaultEnd => true
  | .domainPowerGood pd => decide (pd < 40)
  | .domainWakeTimeout pd => decide (pd < 40)
  | .decoderDomainIdleOff => true
  | .onHoursWrite => true
  | .throttleWrite => true
  | .ncpHello _ _ nc => decide (nc.length = 16)
  | .ncpOpen _ _ nc nd => decide (nc.length = 16) && decide (nd.length = 16)
  | .ncpClose _ => true
  | .ncpMalformedFrame p _ _ => decide (p < 2)
  | .challengeExpiry => true
  | .sessionIdleTimeout slot => decide (slot < 16)
  | .sourceIgnoreEnd _ => true
  | .ncpAddressApply => true
  | .readObject _ _ => true
  | .writeObject _ _ => true
  | .readSeg _ _ => true
  | .writeSeg _ _ => true
  | .segmentTransferTimeout slot => decide (slot < 17)
  | .describe _ _ => true
  | .nextObject _ _ => true
  | .keepalive _ _ => true
  | .imageVerify => true
  | .imageCommit => true
  | .modeSubmit => true
  | .lifecycleTransition _ value => decide (value < 4294967296)
  | .erasureComplete => true
  | .keyWrite _ slot _ => decide (slot < 8)
  | .raiseMinimumVersion v => decide (v < 256)
  | .ceilingWrite _ _ => true
  | .powerOn => true
  | .firstCalends => true
  | .hbmRelease => true
  | .firmwareBoot _ _ => true
  | .lightFieldReady => true
  | .sysReset => true
  | .railBad => true
  | .managementRestartCommand => true
  | .mainDieResetCommand => true
  | .driveDieResetCommand => true
  | .watchdogRefresh => true
  | .watchdogExpiry => true
  | .managementRestartComplete => true
  | .eventRead => true
  | .proxyStore => true
  | .proxyErase => true
  | .refclockLoss quadrant => decide (quadrant < 4)
  | .driverDownstreamLockGain l => decide (l < 256)
  | .driverLockLossTimeout p => decide (p < 128)
  | .driverTrainSend l margin => decide (l < 256) && decide (margin < 64)
  | .patternTestResultSend l _ => decide (l < 256)
  | .sysResetRelease => true
  | .hbmCommandParityError pc => decide (pc < 128)
  | .stackControlFailure stack => decide (stack < 4)
  | .tilePortLockGain t lane => decide (t < 8) && decide (lane < 4)
  | .tilePortLockLoss t lane => decide (t < 8) && decide (lane < 4)
  | .tilePortTakeDownEnd t => decide (t < 8)
  | .tileSerdesDomainOff => true
  | .pcieLinkTrained speed width => decide (1 ≤ speed) && decide (speed ≤ 7) && [1, 2, 4, 8, 16].contains width
  | .pcieLinkDown => true
  | .storeSelectionComplete => true
  | .managementCoresStop => true

end Sys2Proof
end

