-- ==== Sys2Proof/Machine/Ops.lean ====
section
/-!
DEFINITION. The operations every meaning is built from: registers of the object dictionary, counters, scopes, the
three outcomes of a command, the parts and their units, the event log, the HBM address map, and the store queue.
-/
namespace Sys2Proof.Machine

/-! ### Registers of the object dictionary -/

/-- Value of a dictionary object that is not shadow; an unlisted one holds its default. -/
def State.reg (s : State) (index sub : Nat) : Nat :=
  (amGet s.dev.od (key index sub)).getD (objDefault index sub)

/-- Shadow value of a shadow object (R241). -/
def State.shad (s : State) (index sub : Nat) : Nat :=
  (amGet s.dev.shadow (key index sub)).getD (objDefault index sub)

/-- Value of a shadow object in committed state `c`. -/
def Committed.obj (c : Committed) (index sub : Nat) : Nat :=
  (amGet c.objs (key index sub)).getD (objDefault index sub)

/-- Value of a shadow object in the committed state of the current frame. -/
def State.com (s : State) (index sub : Nat) : Nat := s.dev.live.obj index sub

/-- `s` with a device that `f` makes. -/
def State.modDev (f : Dev → Dev) (s : State) : State := { s with dev := f s.dev }

/-- Set a dictionary object that is not shadow. -/
def State.setReg (index sub v : Nat) (s : State) : State :=
  s.modDev fun d => { d with od := amPut d.od (key index sub) v }

/-- Set the shadow of a shadow object. -/
def State.setShad (index sub v : Nat) (s : State) : State :=
  s.modDev fun d => { d with shadow := amPut d.shadow (key index sub) v }

/-- Count one on a statistics counter, which saturates (R21). -/
def State.bump (index sub : Nat) (s : State) (by' : Nat := 1) : State :=
  s.setReg index sub (min (s.reg index sub + by') 0xFFFFFFFF)

/-- Count on a _SEQ counter, which wraps (R21). -/
def State.bumpSeq (index sub : Nat) (s : State) (by' : Nat := 1) : State :=
  s.setReg index sub ((s.reg index sub + by') % 2 ^ 32)

/-- Apply `f` when `c` holds. -/
def State.iff (c : Bool) (f : State → State) (s : State) : State := if c then f s else s

/-- Apply `f` for each element in order. -/
def State.each {α : Type} (xs : List α) (f : α → State → State) (s : State) : State :=
  xs.foldl (fun t x => f x t) s

/-! ### Scopes: which parts of the state a meaning may change -/

/-- The parts of the device, one for each field of `Dev`. -/
inductive DevPart where
  | od | shadow | live | captured | commitPending | commitCaptured | timing | synth | gov | bandUpdates |
  regions | jobs | waiting | lastChunk | copies | changed | clipReady | late | lost | due | holdSlots | clips |
  players | protectedDefs | protectedSlots | protectedLogged | freeze | links | ports | drivers | lens | clock |
  sources | eth | tiles | safety | timeIn | timeOut | host | ncp | memory | units | thermal | images | bringup |
  events | eventBuffer | eventMessages | delayed | drawn
deriving DecidableEq, Repr

/-- The device `new` with every part outside `ps` as it is in `old`. -/
def Dev.within (ps : List DevPart) (new old : Dev) : Dev where
  od := if ps.contains .od then new.od else old.od
  shadow := if ps.contains .shadow then new.shadow else old.shadow
  live := if ps.contains .live then new.live else old.live
  captured := if ps.contains .captured then new.captured else old.captured
  commitPending := if ps.contains .commitPending then new.commitPending else old.commitPending
  commitCaptured := if ps.contains .commitCaptured then new.commitCaptured else old.commitCaptured
  timing := if ps.contains .timing then new.timing else old.timing
  synth := if ps.contains .synth then new.synth else old.synth
  gov := if ps.contains .gov then new.gov else old.gov
  bandUpdates := if ps.contains .bandUpdates then new.bandUpdates else old.bandUpdates
  regions := if ps.contains .regions then new.regions else old.regions
  jobs := if ps.contains .jobs then new.jobs else old.jobs
  waiting := if ps.contains .waiting then new.waiting else old.waiting
  lastChunk := if ps.contains .lastChunk then new.lastChunk else old.lastChunk
  copies := if ps.contains .copies then new.copies else old.copies
  changed := if ps.contains .changed then new.changed else old.changed
  clipReady := if ps.contains .clipReady then new.clipReady else old.clipReady
  late := if ps.contains .late then new.late else old.late
  lost := if ps.contains .lost then new.lost else old.lost
  due := if ps.contains .due then new.due else old.due
  holdSlots := if ps.contains .holdSlots then new.holdSlots else old.holdSlots
  clips := if ps.contains .clips then new.clips else old.clips
  players := if ps.contains .players then new.players else old.players
  protectedDefs := if ps.contains .protectedDefs then new.protectedDefs else old.protectedDefs
  protectedSlots := if ps.contains .protectedSlots then new.protectedSlots else old.protectedSlots
  protectedLogged := if ps.contains .protectedLogged then new.protectedLogged else old.protectedLogged
  freeze := if ps.contains .freeze then new.freeze else old.freeze
  links := if ps.contains .links then new.links else old.links
  ports := if ps.contains .ports then new.ports else old.ports
  drivers := if ps.contains .drivers then new.drivers else old.drivers
  lens := if ps.contains .lens then new.lens else old.lens
  clock := if ps.contains .clock then new.clock else old.clock
  sources := if ps.contains .sources then new.sources else old.sources
  eth := if ps.contains .eth then new.eth else old.eth
  tiles := if ps.contains .tiles then new.tiles else old.tiles
  safety := if ps.contains .safety then new.safety else old.safety
  timeIn := if ps.contains .timeIn then new.timeIn else old.timeIn
  timeOut := if ps.contains .timeOut then new.timeOut else old.timeOut
  host := if ps.contains .host then new.host else old.host
  ncp := if ps.contains .ncp then new.ncp else old.ncp
  memory := if ps.contains .memory then new.memory else old.memory
  units := if ps.contains .units then new.units else old.units
  thermal := if ps.contains .thermal then new.thermal else old.thermal
  images := if ps.contains .images then new.images else old.images
  bringup := if ps.contains .bringup then new.bringup else old.bringup
  events := if ps.contains .events then new.events else old.events
  eventBuffer := if ps.contains .eventBuffer then new.eventBuffer else old.eventBuffer
  eventMessages := if ps.contains .eventMessages then new.eventMessages else old.eventMessages
  delayed := if ps.contains .delayed then new.delayed else old.delayed
  drawn := if ps.contains .drawn then new.drawn else old.drawn

/-- `DevPart.same p d d'`: the two devices agree on part `p`. -/
def DevPart.same (p : DevPart) (d d' : Dev) : Prop :=
  match p with
  | .od => d'.od = d.od
  | .shadow => d'.shadow = d.shadow
  | .live => d'.live = d.live
  | .captured => d'.captured = d.captured
  | .commitPending => d'.commitPending = d.commitPending
  | .commitCaptured => d'.commitCaptured = d.commitCaptured
  | .timing => d'.timing = d.timing
  | .synth => d'.synth = d.synth
  | .gov => d'.gov = d.gov
  | .bandUpdates => d'.bandUpdates = d.bandUpdates
  | .regions => d'.regions = d.regions
  | .jobs => d'.jobs = d.jobs
  | .waiting => d'.waiting = d.waiting
  | .lastChunk => d'.lastChunk = d.lastChunk
  | .copies => d'.copies = d.copies
  | .changed => d'.changed = d.changed
  | .clipReady => d'.clipReady = d.clipReady
  | .late => d'.late = d.late
  | .lost => d'.lost = d.lost
  | .due => d'.due = d.due
  | .holdSlots => d'.holdSlots = d.holdSlots
  | .clips => d'.clips = d.clips
  | .players => d'.players = d.players
  | .protectedDefs => d'.protectedDefs = d.protectedDefs
  | .protectedSlots => d'.protectedSlots = d.protectedSlots
  | .protectedLogged => d'.protectedLogged = d.protectedLogged
  | .freeze => d'.freeze = d.freeze
  | .links => d'.links = d.links
  | .ports => d'.ports = d.ports
  | .drivers => d'.drivers = d.drivers
  | .lens => d'.lens = d.lens
  | .clock => d'.clock = d.clock
  | .sources => d'.sources = d.sources
  | .eth => d'.eth = d.eth
  | .tiles => d'.tiles = d.tiles
  | .safety => d'.safety = d.safety
  | .timeIn => d'.timeIn = d.timeIn
  | .timeOut => d'.timeOut = d.timeOut
  | .host => d'.host = d.host
  | .ncp => d'.ncp = d.ncp
  | .memory => d'.memory = d.memory
  | .units => d'.units = d.units
  | .thermal => d'.thermal = d.thermal
  | .images => d'.images = d.images
  | .bringup => d'.bringup = d.bringup
  | .events => d'.events = d.events
  | .eventBuffer => d'.eventBuffer = d.eventBuffer
  | .eventMessages => d'.eventMessages = d.eventMessages
  | .delayed => d'.delayed = d.delayed
  | .drawn => d'.drawn = d.drawn

/-- The device with the parts `ps` as `f` leaves them. -/
def partsOf (ps : List DevPart) (f : State → State) (s : State) : Dev := (f s).dev.within ps s.dev

/-- Only parts `ps` of the device change. -/
def onDev (ps : List DevPart) (f : State → State) (s : State) : State := { s with dev := partsOf ps f s }

/-- Parts of the device and HBM change. -/
def onMem (ps : List DevPart) (f : State → State) (s : State) : State :=
  { s with dev := partsOf ps f s, hbm := (f s).hbm }

/-- Parts of the device and the banks change. -/
def onBank (ps : List DevPart) (f : State → State) (s : State) : State :=
  { s with dev := partsOf ps f s, bank := (f s).bank }

/-- Parts of the device and the store change. -/
def onNv (ps : List DevPart) (f : State → State) (s : State) : State :=
  { s with dev := partsOf ps f s, nv := (f s).nv }

/-- Parts of the device, the banks and the store change. -/
def onBankNv (ps : List DevPart) (f : State → State) (s : State) : State :=
  { s with dev := partsOf ps f s, bank := (f s).bank, nv := (f s).nv }

/-- Parts of the device, HBM and the store change. -/
def onMemNv (ps : List DevPart) (f : State → State) (s : State) : State :=
  { s with dev := partsOf ps f s, hbm := (f s).hbm, nv := (f s).nv }

/-- Parts of the device, the store and the ceilings change. -/
def onCeil (ps : List DevPart) (f : State → State) (s : State) : State :=
  { s with dev := partsOf ps f s, nv := (f s).nv, ceilings := (f s).ceilings }

/-- Everything but the waiting commands, local time and the fuses may change. -/
def onAll (f : State → State) (s : State) : State :=
  { f s with pending := s.pending, now := s.now, fuses := s.fuses }

/-- Everything but the waiting commands and local time may change. -/
def onFuses (f : State → State) (s : State) : State := { f s with pending := s.pending, now := s.now }

/-! ### Outcomes -/

abbrev Out := Host.Outcome State Fault Refusal

/-- The outcome of command `i`: turned away when its operands name nothing, otherwise the next state. -/
def run (i : Instr) (t : State) : Out := if i.wellFormed then .next t else .refused .illFormed

/-- The outcome of command `i` on a unit: where the part lacks the unit, no object of it exists (R8, R9) and nothing
changes. -/
def runOn (i : Instr) (here : Bool) (s t : State) : Out := run i (if here then t else s)

/-! ### Part and units (R1, R3, R4) -/

def isSmall (s : State) : Bool := s.fuses.part == .rkz9620

/-- The part has the high-voltage lens section (R4). -/
def hasLens (s : State) : Bool := !(s.fuses.part == .rkz9632)

/-- Driver links present. -/
def nLinks (s : State) : Nat := if isSmall s then 128 else 256

/-- Driver ports present. -/
def nPorts (s : State) : Nat := if isSmall s then 64 else 128

/-- Pseudo-channels present. -/
def nPcs (s : State) : Nat := if isSmall s then 64 else 128

/-- HBM stacks present. -/
def nStacks (s : State) : Nat := if isSmall s then 2 else 4

/-- Tile ports present. -/
def nTiles (s : State) : Nat := if isSmall s then 4 else 8

/-- Cluster SC`i` is present. -/
def clusterHere (s : State) (i : Nat) : Bool :=
  decide (i < 100) && !(isSmall s && decide (48 ≤ i) && decide (i < 96))

/-- Part code (R10). -/
def partCode (s : State) : Nat :=
  match s.fuses.part with
  | .rkz9640 => 0x9640
  | .rkz9632 => 0x9632
  | .rkz9620 => 0x9620

/-! ### Time -/

/-- Number of the current frame (R15). -/
def frameNo (s : State) : Nat := s.dev.timing.count % 2 ^ 32

/-- The times of `xs` that lie within the second that ends now. -/
def within1s (now : Nat) (xs : List Nat) : List Nat := xs.filter fun t => decide (now < t + 1000000000000)

/-- A time in ps as TIME80: 48 bits of seconds below 32 bits of nanoseconds (R532). -/
def time80 (ps : Nat) : Nat := (ps / 1000000000000) % 2 ^ 48 + ps / 1000 % 1000000000 * 2 ^ 48

/-- The time of a TIME80, ps. -/
def psOf80 (t : Nat) : Nat := t % 2 ^ 48 * 1000000000000 + bits t 79 48 * 1000

/-- Local time, ps. -/
def localTime (s : State) : Int :=
  let c := s.dev.clock
  s.now + c.adj + (c.freq * (s.now - c.movedAt : Nat)).tdiv 1000000000

/-! ### Abort codes (R770) -/

/-- An answer to a request: its abort code, 0 for none, and the state it leaves. -/
abbrev Ans := Nat × State

def abNone : Nat := 0x0A010001
def abNotDomain : Nat := 0x0A010002
def abDenied : Nat := 0x0A020001
def abType : Nat := 0x0A030001
def abRange : Nat := 0x0A030002
def abMalformed : Nat := 0x0A030003
def abRefused : Nat := 0x0A030004
def abInUse : Nat := 0x0A040001
def abService : Nat := 0x0A050001
def abOrder : Nat := 0x0A050002
def abTooLong : Nat := 0x0A050003
def abStore : Nat := 0x0A060001

/-- A free value, drawn by the model's own counter (log 5): the value, and the state with the counter advanced. -/
def freeValue (s : State) : Nat := Config.freeNat s.dev.drawn

def drawFree (s : State) : State := s.modDev fun d => { d with drawn := d.drawn + 1 }

/-! ### Event log (R869 to R871) -/

/-- HBM is trained. -/
def hbmTrained (s : State) : Bool := decide (2 ≤ s.reg 0x5090 1)

/-- Write an event, which vector 2,047 signals (R618). It waits on chip until HBM is trained; a full ring loses its
oldest entry and a full buffer the new one. -/
def logEvent (rule cls index sub data : Nat) (s : State) : State :=
  let e : Event :=
    { rule := rule, cls := cls, index := index, sub := sub, frame := frameNo s, time := time80 (localTime s).toNat,
      data := data % 2 ^ 64, seq := (s.reg 0x6000 1 + 1) % 2 ^ 32 }
  if hbmTrained s then
    let full := decide (65536 ≤ s.dev.events.length)
    ((s.bumpSeq 0x6000 1).iff full (·.bump 0x6000 4)).modDev fun d =>
      { d with events := (if full then d.events.drop 1 else d.events) ++ [e], eventMessages := d.eventMessages + 1 }
  else if 4096 ≤ s.dev.eventBuffer.length then s.bump 0x6000 4
  else (s.bumpSeq 0x6000 1).modDev fun d => { d with eventBuffer := d.eventBuffer ++ [e] }

/-- Latch a condition of FAULT_N (R873). -/
def latch (b : Nat) (s : State) : State := s.setReg 0x6030 3 (setBit (s.reg 0x6030 3) b)

/-! ### Updaters of the device's parts -/

def modTiming (f : Timing → Timing) (s : State) : State := s.modDev fun d => { d with timing := f d.timing }
def modSynth (f : Synth → Synth) (s : State) : State := s.modDev fun d => { d with synth := f d.synth }
def modGov (f : Governor → Governor) (s : State) : State := s.modDev fun d => { d with gov := f d.gov }
def modFreeze (f : Freeze → Freeze) (s : State) : State := s.modDev fun d => { d with freeze := f d.freeze }
def modLens (f : Lens → Lens) (s : State) : State := s.modDev fun d => { d with lens := f d.lens }
def modSafety (f : Safety → Safety) (s : State) : State := s.modDev fun d => { d with safety := f d.safety }
def modHost (f : HostIf → HostIf) (s : State) : State := s.modDev fun d => { d with host := f d.host }
def modNcp (f : Ncp → Ncp) (s : State) : State := s.modDev fun d => { d with ncp := f d.ncp }
def modMemory (f : Memory → Memory) (s : State) : State := s.modDev fun d => { d with memory := f d.memory }
def modThermal (f : Thermal → Thermal) (s : State) : State := s.modDev fun d => { d with thermal := f d.thermal }
def modImages (f : Images → Images) (s : State) : State := s.modDev fun d => { d with images := f d.images }
def modBringup (f : Bringup → Bringup) (s : State) : State := s.modDev fun d => { d with bringup := f d.bringup }
def modNv (f : NvStore → NvStore) (s : State) : State := { s with nv := f s.nv }

def State.link (s : State) (l : Nat) : Link := amGetD s.dev.links l {}
def modLink (l : Nat) (f : Link → Link) (s : State) : State :=
  s.modDev fun d => { d with links := amMod d.links l {} f }
def State.port (s : State) (p : Nat) : Port := amGetD s.dev.ports p {}
def modPort (p : Nat) (f : Port → Port) (s : State) : State :=
  s.modDev fun d => { d with ports := amMod d.ports p {} f }
def State.driver (s : State) (p : Nat) : Driver := amGetD s.dev.drivers p {}
def modDriver (p : Nat) (f : Driver → Driver) (s : State) : State :=
  s.modDev fun d => { d with drivers := amMod d.drivers p {} f }
def State.region (s : State) (r : Nat) : Region := amGetD s.dev.regions r {}
def modRegion (r : Nat) (f : Region → Region) (s : State) : State :=
  s.modDev fun d => { d with regions := amMod d.regions r {} f }
def State.clip (s : State) (e : Nat) : ClipEntry := amGetD s.dev.clips e {}
def modClip (e : Nat) (f : ClipEntry → ClipEntry) (s : State) : State :=
  s.modDev fun d => { d with clips := amMod d.clips e {} f }
def State.player (s : State) (p : Nat) : Player := amGetD s.dev.players p {}
def modPlayer (p : Nat) (f : Player → Player) (s : State) : State :=
  s.modDev fun d => { d with players := amMod d.players p {} f }
def State.source (s : State) (c : Nat) : Source := amGetD s.dev.sources c {}
def modSource (c : Nat) (f : Source → Source) (s : State) : State :=
  s.modDev fun d => { d with sources := amMod d.sources c {} f }
def State.eth (s : State) (p : Nat) : EthPort := amGetD s.dev.eth p {}
def modEth (p : Nat) (f : EthPort → EthPort) (s : State) : State :=
  s.modDev fun d => { d with eth := amMod d.eth p {} f }
def State.tile (s : State) (t : Nat) : TilePort := amGetD s.dev.tiles t {}
def modTile (t : Nat) (f : TilePort → TilePort) (s : State) : State :=
  s.modDev fun d => { d with tiles := amMod d.tiles t {} f }
def State.pc (s : State) (i : Nat) : Pc := amGetD s.dev.memory.pcs i {}
def modPc (i : Nat) (f : Pc → Pc) (s : State) : State := modMemory (fun m => { m with pcs := amMod m.pcs i {} f }) s
def State.unit (s : State) (u : Nat) : CheckUnit := amGetD s.dev.units u {}
def modUnit (u : Nat) (f : CheckUnit → CheckUnit) (s : State) : State :=
  s.modDev fun d => { d with units := amMod d.units u {} f }
def State.sensor (s : State) (i : Nat) : Sensor := amGetD s.dev.thermal.sensors i {}
def modSensor (i : Nat) (f : Sensor → Sensor) (s : State) : State :=
  modThermal (fun t => { t with sensors := amMod t.sensors i {} f }) s
def State.queue (s : State) (q : Nat) : Queue := amGetD s.dev.host.queues q {}
def modQueue (q : Nat) (f : Queue → Queue) (s : State) : State :=
  modHost (fun h => { h with queues := amMod h.queues q {} f }) s

/-! ### Addresses of NCP (R773) -/

/-- Object 0x1200:`sub` as it is in force: a written address takes effect 10 ms after its answer. -/
def addressInForce (s : State) (sub : Nat) : Nat :=
  match s.dev.ncp.oldAddress with
  | none => s.reg 0x1200 sub
  | some old => nth old (sub - 1)

/-- Keep the addresses in force until NCP_ADDRESS_APPLY. -/
def holdAddress (s : State) : State :=
  if s.dev.ncp.oldAddress.isSome then s
  else
    let old := (List.range 9).map fun i => s.reg 0x1200 (i + 1)
    modNcp (fun n => { n with oldAddress := some old }) s

/-! ### The HBM address map (R637 to R648) -/

/-- The size of one pseudo-channel, bytes (R639). -/
def pcSize : Nat := 0x48000000

/-- Owner of pseudo-channel `i` by its index modulo 32 (R41): 0 group A, 1 group B, 2 per-emitter, 3 library,
4 host writes, 5 management. -/
def pcOwner (i : Nat) : Nat :=
  let k := i % 32
  if k < 8 then 0 else if k < 16 then 1 else if k < 20 then 2 else if k < 29 then 3 else if k < 31 then 4 else 5

/-- The pseudo-channels of owner `o` on the part, in ascending order. -/
def pcsOf (s : State) (o : Nat) : List Nat := (List.range (nPcs s)).filter fun i => pcOwner i == o

/-- The primaries of owner `o` (R643). -/
def primariesOf (s : State) (o : Nat) : List Nat := (pcsOf s o).filter fun i => i / 32 % 2 == 0

/-- Bytes an area's owner holds at the bottom of each of its pseudo-channels (R641, R642). -/
def ownerSize (s : State) (o : Nat) : Nat :=
  let mib := if isSmall s then [1024, 1024, 896, 1152, 512, 1024] else [512, 512, 704, 1152, 256, 1024]
  nth mib o * 0x100000

/-- Where a byte lies: its copies, in the order in which a read tries them (R648), and its address within each. -/
structure Place where
  copies : List Nat
  addr : Nat
deriving DecidableEq, Repr

/-- Byte `off` of an area interleaved over `pcs` from address `base` within each (R643, R644). -/
def placeOver (pcs : List Nat) (base off : Nat) (mirrored : Bool) : Option Place :=
  let u := off / 4096
  let pc := nth pcs (u % pcs.length)
  let a := base + u / pcs.length * 4096 + off % 4096
  if pcs.isEmpty then none
  else if mirrored then
    some { copies := if u % 2 = 0 then [pc, pc + 32] else [pc + 32, pc], addr := a }
  else some { copies := [pc], addr := a }

/-- Byte `off` of the guest runs of the library space, in the order of R646. -/
def placeGuest (s : State) : List Nat → Nat → Option Place
  | [], _ => none
  | o :: os, off =>
    let ext := (pcSize - ownerSize s o) * (pcsOf s o).length
    if off < ext then placeOver (pcsOf s o) (ownerSize s o) off false else placeGuest s os (off - ext)

/-- Guest capacity of the library, bytes. -/
def librarySize (s : State) : Nat := (if isSmall s then 29440 else 96768) * 0x100000

/-- A half-size tile is driven (0x3800:02 in the committed state). -/
def halfTile (s : State) : Bool := s.com 0x3800 2 == 1

/-- The freeze caches of R645: base offset of each, its size, and whether they are copies of one another. -/
def cacheSize (s : State) : Nat := if isSmall s && halfTile s then 0x80000000 else 0x100000000
def cacheBase1 (s : State) : Nat := 0x4C0000000 + cacheSize s
def cachesMirrored (s : State) : Bool := !(isSmall s && !halfTile s)

/-- The place of HBM offset `off`, or none for a reserved offset (R641 to R646). -/
def place (s : State) (off : Nat) : Option Place :=
  if off < 0x200000000 then
    if off < 0x1EA000000 then placeOver (primariesOf s 0) 0 off true else none
  else if off < 0x400000000 then
    if off < 0x3EA000000 then placeOver (primariesOf s 1) 0 (off - 0x200000000) true else none
  else if off < 0x4C0000000 then placeOver (pcsOf s 2) 0 (off - 0x400000000) false
  else if off < 0x6C0000000 then
    let g := 0xC0000000 / (pcsOf s 2).length
    if cachesMirrored s then
      if off < cacheBase1 s then
        (placeOver (primariesOf s 2) g (off - 0x4C0000000) false)
      else if off < cacheBase1 s + cacheSize s then
        (placeOver (primariesOf s 2) g (off - cacheBase1 s) false).map
          fun p => { p with copies := p.copies.map (· + 32) }
      else none
    else if off < 0x5C0000000 then placeOver (pcsOf s 2) g (off - 0x4C0000000) false
    else none
  else if off < 0x740000000 then placeOver (pcsOf s 4) 0 (off - 0x6C0000000) false
  else if off < 0x7C0000000 then
    if isSmall s && decide (0x780000000 ≤ off) then none
    else placeOver (primariesOf s 5) 0 (off - 0x740000000) true
  else if off < 0x1000000000 then none
  else if off < 0x1000000000 + librarySize s then
    let o := off - 0x1000000000
    let own := pcSize * (pcsOf s 3).length
    if o < own then placeOver (pcsOf s 3) 0 o false else placeGuest s [0, 1, 2, 4] (o - own)
  else none

/-- Pseudo-channel `i` has failed (R674). -/
def pcFailed (s : State) (i : Nat) : Bool := s.reg (0x5000 + i) 1 == 5

/-- The number of the 32-byte access that holds address `a` of PC`i` (R639). -/
def accessOf (i a : Nat) : Nat := (i * pcSize + a) / 32

/-- PC`i` gives good data at address `a`: it has not failed, and its access is not uncorrectable (R672, R673). -/
def copyGood (s : State) (a i : Nat) : Bool := !pcFailed s i && !s.dev.memory.bad.contains (accessOf i a)

/-- The byte at HBM offset `off`, read under R648 and R672; none when it is reserved or has no good copy (R673). -/
def hbmByte (s : State) (off : Nat) : Option Byte :=
  match place s off with
  | none => none
  | some p =>
    match p.copies.find? (copyGood s p.addr) with
    | none => none
    | some i => some (cellGet s.hbm (i * pcSize + p.addr))

/-- `len` bytes from HBM offset `off`; none when one of them cannot be read. -/
def hbmRead (s : State) (off len : Nat) : Option (List Byte) :=
  (List.range len).mapM fun i => hbmByte s (off + i)

/-- Write one byte on every copy that has not failed (R653, R675). -/
def hbmPut (s : State) (m : List Host.Cell) (off : Nat) (b : Byte) : List Host.Cell :=
  match place s off with
  | none => m
  | some p => (p.copies.filter fun i => !pcFailed s i).foldl (fun m i => cellPut m (i * pcSize + p.addr) b) m

/-- Memory after bytes are written from HBM offset `off` on. -/
def hbmPuts (s : State) : List Host.Cell → Nat → List Byte → List Host.Cell
  | m, _, [] => m
  | m, off, b :: bs => hbmPuts s (hbmPut s m off b) (off + 1) bs

/-- The accesses that `len` bytes from HBM offset `off` on cover whole, on every copy. -/
def accessesIn (s : State) (off len : Nat) : List Nat :=
  ((List.range (len / 32)).map fun u =>
    let a := (off + 31) / 32 * 32 + 32 * u
    match if a + 32 ≤ off + len then place s a else none with
    | none => []
    | some p => p.copies.map (accessOf · p.addr)).flatten

/-- Write bytes to HBM from offset `off` on; an access that is written whole is good again (DEDUCED, log 196). -/
def hbmWrite (off : Nat) (bs : List Byte) (s : State) : State :=
  let s := { s with hbm := hbmPuts s s.hbm off bs }
  if s.dev.memory.bad.isEmpty then s
  else modMemory (fun m => { m with bad := m.bad.filter fun x => !(accessesIn s off bs.length).contains x }) s

/-- Every byte of the range is in an area (R641). -/
def inAreas (s : State) (off len : Nat) : Bool := (List.range len).all fun i => (place s (off + i)).isSome

/-- A little-endian number of `len` bytes in HBM, 0 where it cannot be read. -/
def hbmNat (s : State) (off len : Nat) : Nat := ((hbmRead s off len).map leNat).getD 0

/-! ### The store queue (R709 to R711, R718, R724) -/

/-- First page of a ring and its number of pages (R722). -/
def ringBase (r : Nat) : Nat × Nat :=
  if r = 0 then (2048, 64) else if r = 1 then (2112, 64) else if r = 2 then (2176, 32)
  else if r = 3 then (2208, 32) else (2240 + 64 * (r - 4), 64)

/-- Record type of record `r`, 0 for a reserved record (R717). -/
def recordType (r : Nat) : Nat :=
  if r = 0 then 1 else if r < 3 then 2 else if r = 3 then 3 else if r < 12 then 4 else if r = 12 then 5
  else if r = 13 then 6 else if r < 16 then 7 else if r < 144 then 8 else if r < 192 then 9
  else if r < 512 then 0 else if r < 1024 then 0x40 else 0

/-- Record type of ring `r`. -/
def ringType (r : Nat) : Nat := if r < 4 then 0x0A + r else 0x41

/-- A record page (R715). -/
def recordPage (page typ copy seq : Nat) (payload : List Byte) : List Byte :=
  let body := natLE typ 1 ++ natLE copy 1 ++ natLE payload.length 1 ++ [0] ++ natLE seq 4 ++ padTo 52 payload
  body ++ natLE (crc32c (64 * page) body) 4

/-- The journal's requests go first (R503, R709). -/
def isJournal (r : StoreReq) : Bool :=
  match r.target with
  | .record n => decide (144 ≤ n) && decide (n < 192)
  | .ring n => decide (n < 2)
  | .page _ => false

/-- The copy (0 A, 1 B) that the next write of record `r` goes to (R718). -/
def nextCopy (nv : NvStore) (r : Nat) : Nat :=
  match amGet nv.records r with
  | none => if nv.worn.contains r then 1 else 0
  | some v =>
    if v.single then (if v.inA then 0 else 1)
    else if v.inA then (if nv.worn.contains (1024 + r) then 0 else 1)
    else if nv.worn.contains r then 1 else 0

/-- The slot after the latest, worn slots skipped (R724). -/
def nextSlot (nv : NvStore) (r : Nat) : Nat :=
  let (base, n) := ringBase r
  let start := match amGet nv.rings r with
    | none => 0
    | some v => (v.slot + 1) % n
  (((List.range n).map fun i => (start + i) % n).find? fun i => !nv.worn.contains (base + i)).getD start

/-- The page a request writes and its 64 bytes, decided when the write starts. -/
def pageOf (nv : NvStore) (r : StoreReq) : Nat × List Byte :=
  match r.target with
  | .page p => (p, r.bytes)
  | .record n =>
    let c := nextCopy nv n
    let seq := match amGet nv.records n with
      | none => 1
      | some v => (v.seq + 1) % 2 ^ 32
    let page := 1024 * c + n
    (page, recordPage page (recordType n) c seq r.bytes)
  | .ring n =>
    let seq := match amGet nv.rings n with
      | none => 1
      | some v => (v.seq + 1) % 2 ^ 32
    let page := (ringBase n).1 + nextSlot nv n
    (page, recordPage page (ringType n) 2 seq r.bytes)

/-- The management cores are stopped or restarting (R59, R865). -/
def coresStopped (s : State) : Bool := s.dev.bringup.firmwareRuns && s.reg 0x6020 3 != 0

/-- A write that the dictionary asked for: a value's, an image's or a proxy image's (R60). -/
def waitsFirmware (r : StoreReq) : Bool :=
  r.asked || match r.use with
    | .image _ => true
    | .pointer => true
    | .proxy _ => true
    | .proxyErase _ => true
    | _ => false

/-- Take the next request when no write runs: the journal's first, then in arrival order (R705, R709). On hold-up no
further write starts (R506), and none of the journal's while its update is paused (R507). While the management cores
are stopped the journal's and the hardware's writes go on, and the dictionary's wait (R60, R865). -/
def storeStart (s : State) : State :=
  if s.nv.writing.isSome || s.dev.lens.onHold then s
  else
    let go (r : StoreReq) (rest : List StoreReq) : State :=
      let (page, bytes) := pageOf s.nv r
      (modNv (fun nv => { nv with queue := rest, writing := some { req := r, page := page, bytes := bytes } }) s).bumpSeq
        0x5820 3
    match s.nv.queue.find? fun r => isJournal r && !s.dev.lens.paused with
    | some r => go r (s.nv.queue.erase r)
    | none =>
      match s.nv.queue.find? fun r => !(coresStopped s && waitsFirmware r) && !isJournal r with
      | none => s
      | some r => go r (s.nv.queue.erase r)

/-- Queue a store write: a queued write of the same record is replaced, and what was to follow that one still follows
(R710); requests beyond the 64 places wait at the end of the list (R709). -/
def storeRequest (r : StoreReq) (s : State) : State :=
  let q := match r.target with
    | .record _ =>
      if s.nv.queue.any fun x => x.target == r.target then
        s.nv.queue.map fun x =>
          if x.target == r.target then
            { r with
              use := if r.use == .none then x.use else r.use
              answers := x.answers ++ r.answers
              asked := x.asked && r.asked }
          else x
      else s.nv.queue ++ [r]
    | _ => s.nv.queue ++ [r]
  storeStart (modNv (fun nv => { nv with queue := q }) s)

/-- Payload of the selected value of record `r`. -/
def recordPayload (s : State) (r : Nat) : Option (List Byte) := (amGet s.nv.records r).map (·.payload)

/-- Write record `r`. -/
def writeRecord (r : Nat) (payload : List Byte) (use : StoreUse) (s : State) : State :=
  storeRequest { target := .record r, bytes := payload, use := use } s

/-- Write the next slot of ring `r`. -/
def writeRing (r : Nat) (payload : List Byte) (use : StoreUse) (s : State) : State :=
  storeRequest { target := .ring r, bytes := payload, use := use } s

/-! ### Host violations (R634, R635) -/

/-- Count a host violation, on queue `q` when one is named: 1,024 within 1 s halt the queue. -/
def hostViolation (q : Option Nat) (s : State) : State :=
  let s := s.bump 0x1241 5
  match q with
  | none => s
  | some q =>
    let c := s.queue q
    let times := s.now :: within1s s.now c.recent
    let s := modQueue q (fun c => { c with violations := min (c.violations + 1) 0xFFFFFFFF, recent := times }) s
    if c.typ ≠ 0 ∧ c.state = 1 ∧ 1024 ≤ times.length then
      ((modQueue q (fun c => { c with state := 2 }) s).bump 0x1241 6) |> logEvent 635 6 0 0 q
    else s

/-! ### Emptying and refilling -/

/-- The bytes of an empty store page (R716). -/
def emptyPage : List Byte := List.replicate 64 0xFF

/-- Page `p` of the store as a good read gives it. -/
def pageBytes (nv : NvStore) (p : Nat) : List Byte := (amGet nv.pages p).getD emptyPage

/-- No firmware slot has passed: the device stays in proxy content with the ROM pictogram (R858). -/
def noFirmware (s : State) : Bool := s.reg 0x6012 1 == 0xFF

/-- The proxy image of the store is valid for the raster setting in force (R856), and firmware was found (R858). -/
def proxyGood (s : State) : Bool :=
  s.dev.bringup.proxyValid && !noFirmware s && fieldLE (pageBytes s.nv 4096) 6 2 == (if halfTile s then 320 else 640)

end Sys2Proof.Machine
end

