-- ==== Sys2Proof/Machine/Units.lean ====
section
/-!
DEFINITION. What several families share about units: power domains, clusters, mode overlays, temperature bands, the
freeze state and the timing grid.
-/
namespace Sys2Proof.Machine

/-! ### Rates and lines (R350, R351, R357) -/

/-- Base rate in Hz of code `c` of 0x3800:01. -/
def rateHz (c : Nat) : Nat := nth [120, 100, 96, 60, 50, 48, 24, 1] c

/-- Length of a frame at `hz`, ps. -/
def framePs (hz : Nat) : Nat := 1000000000000 / hz

/-! ### Power domains (R754 to R758) -/

/-- Domain PD`d` is present on the part (R758). -/
def domainHere (s : State) (d : Nat) : Bool :=
  decide (d < 40) &&
    !(isSmall s && ((decide (12 ≤ d) && decide (d ≤ 23)) || d == 30 || d == 35 || d == 36)) &&
    (hasLens s || d != 38)

/-- Domain state: 0 off, 1 waking, 2 on, 3 failed. -/
def domainState (s : State) (d : Nat) : Nat := s.reg 0x5430 (d + 1)

/-- Switch a domain off, unless it has failed. -/
def domainOff (d : Nat) (s : State) : State := if domainState s d = 3 then s else s.setReg 0x5430 (d + 1) 0

/-- Start waking a domain that is off. -/
def domainWake (d : Nat) (s : State) : State :=
  if domainHere s d && domainState s d == 0 then (s.setReg 0x5430 (d + 1) 1).bump 0x5431 (d + 1) else s

/-- A domain that is never off is on. -/
def domainOn (d : Nat) (s : State) : State := if domainHere s d then s.setReg 0x5430 (d + 1) 2 else s

/-- PD0 to PD24: the cluster groups and the spares. -/
def clusterDomains : List Nat := List.range 25

/-! ### Clusters -/

/-- SC`i` has been marked failed (0x2100 holds 3). -/
def clusterFailed (s : State) (i : Nat) : Bool := s.reg 0x2100 (i + 1) == 3

/-- Every cluster of group `g` that is present has failed (R754). -/
def groupFailed (s : State) (g : Nat) : Bool :=
  (List.range 4).all fun k => !clusterHere s (4 * g + k) || clusterFailed s (4 * g + k)

/-- Mark SC`i` failed (R217, R221): a scheduled one can be replaced by a spare at the next calends (R223). -/
def clusterFail (i : Nat) (s : State) : State :=
  let s := latch 2 (s.setReg 0x2100 (i + 1) 3)
  if groupFailed s (i / 4) then domainOff (i / 4) s else s

/-! ### Modes (R800) -/

/-- The loaded image's section that mode `m` names: overlay `m`, or the base. -/
def overlayOf (im : Image) (m : Nat) : ImageSection := if m = 0 then im.base else im.overlays.getD (m - 1) {}

/-- Mode in force. -/
def modeInForce (s : State) : Nat := s.dev.live.mode

/-- A mode overlay of class SERVICE is in force (R800). -/
def serviceInForce (s : State) : Bool :=
  match s.dev.images.loaded with
  | none => false
  | some im => decide (1 ≤ modeInForce s) && (overlayOf im (modeInForce s)).cls == 4

/-! ### Temperature bands (R740, R512) -/

/-- Lower bound of band `b`, 0.01 °C. -/
def bandFloor (b : Nat) : Int := if b = 1 then 0 else if b = 2 then 4500 else if b = 3 then 7000
  else if b = 4 then 8500 else 9500

/-- The band that holds `t` by the bounds alone. -/
def bandHolding (t : Int) : Nat :=
  if t < 0 then 0 else if t < 4500 then 1 else if t < 7000 then 2 else if t < 8500 then 3
  else if t < 9500 then 4 else 5

/-- The band falls while `t` is at least 2 °C below the lower bound of the current one. -/
def bandFall : Nat → Int → Nat
  | 0, _ => 0
  | b + 1, t => if t ≤ bandFloor (b + 1) - 200 then bandFall b t else b + 1

/-- The next band from `b` at `t`: it rises at once and falls with hysteresis (R740). -/
def bandNext (b : Nat) (t : Int) : Nat := if b < bandHolding t then bandHolding t else bandFall b t

/-! ### Sensors (R732 to R735) -/

/-- State of TS`i`: 0 working, 1 failed, 2 retired. -/
def sensorState (s : State) (i : Nat) : Nat := s.reg 0x5401 (i + 1)

/-- The neighbours of TS`i` (R732). -/
def neighbours (i : Nat) : List Nat :=
  if i < 48 then
    (List.range 48).filter fun j =>
      j != i && decide (j % 8 ≤ i % 8 + 1) && decide (i % 8 ≤ j % 8 + 1) && decide (j / 8 ≤ i / 8 + 1) &&
        decide (i / 8 ≤ j / 8 + 1)
  else (List.range 52).filter fun j => decide (48 ≤ j) && j != i

/-- Readings of the working neighbours of TS`i`. -/
def workingNear (s : State) (i : Nat) : List Int :=
  ((neighbours i).filter fun j => sensorState s j == 0).map fun j => (s.sensor j).reading

/-- The largest of some readings, or `d` when there is none. -/
def maxOr (d : Int) : List Int → Int
  | [] => d
  | x :: xs => xs.foldl max x

/-- The effective reading of TS`i` (R731, R734). -/
def effective (s : State) (i : Nat) : Int :=
  if !s.dev.thermal.calibrated then s.dev.thermal.td
  else if sensorState s i = 0 then (s.sensor i).reading
  else maxOr s.dev.thermal.td (workingNear s i) + 1000

/-- The hottest reading H and its sensor (R735). -/
def hottest (s : State) : Int × Nat :=
  (List.range 52).foldl (fun b i => if b.1 < effective s i then (effective s i, i) else b) (effective s 0, 0)

/-- Some sensor is failed; a retired one does not count (R744). -/
def anySensorFailed (s : State) : Bool := (List.range 52).any fun i => sensorState s i == 1

/-- The lens temperature: the mean of the working sensors TS48 to TS51 plus the offset, TD when none works (R511). The
mean rounds towards zero (R26). -/
def lensTemperature (s : State) : Int :=
  let ws := [48, 49, 50, 51].filter fun i => sensorState s i == 0
  let m := if ws.isEmpty then s.dev.thermal.td
    else (ws.foldl (fun a i => a + effective s i) 0).tdiv ws.length
  m + toSigned 16 (s.reg 0x4400 5)

/-! ### Freeze and thermal state -/

/-- The freeze state is FROZEN in the current frame (0x2040:02). -/
def frozenNow (s : State) : Bool := s.reg 0x2040 2 == 2

/-- The clusters are off: FROZEN or a thermal fault shown (R754). -/
def clustersOff (s : State) : Bool := s.dev.live.frozen || s.dev.live.thermal

/-- The current limit that the octave requests from the base code (R742). -/
def requestedLimit (s : State) : Nat :=
  s.reg 0x5410 5 % 4096 * (50 - 3 * s.reg 0x5410 1) / 50

/-- Cluster clock at octave step `k`, whole MHz (R742). -/
def clockMHz (k : Nat) : Nat := (3000 - 75 * k) / 2

/-- The clock of the present step takes effect (R746). -/
def applyClock (s : State) : State :=
  modThermal (fun t => { t with clockPending := false }) (s.setReg 0x2110 4 (clockMHz (s.reg 0x5410 1)))

end Sys2Proof.Machine
end

