-- ==== Sys2Proof/Machine/MemOps.lean ====
section
/-!
DEFINITION. What several memory commands share: failing a pseudo-channel, meeting one in self-refresh, mirror reads,
and bank words.
-/
namespace Sys2Proof.Machine

/-- The owner's units are mirrored on (i, i + 32) (R42, R641). -/
def pcMirrored (i : Nat) : Bool := pcOwner i == 0 || pcOwner i == 1 || pcOwner i == 5

/-- The other copy of a pseudo-channel's units. -/
def pcMate (i : Nat) : Nat := if i / 32 % 2 = 0 then i + 32 else i - 32

/-- Pairs of which exactly one copy has failed (0x5090:05). -/
def pairsSingle (s : State) : Nat :=
  ((List.range (nPcs s)).filter fun i =>
    pcMirrored i && i / 32 % 2 == 0 && (pcFailed s i != pcFailed s (i + 32))).length

/-- The HBM PHY of a stack whose 32 pseudo-channels have all failed is off (R754). -/
def stackOff (k : Nat) (s : State) : State :=
  s.iff ((List.range 32).all fun j => pcFailed s (32 * k + j)) (domainOff (33 + k))

/-- Mark PC`i` failed with a cause (R674, R675). -/
def pcFail (i cause : Nat) (s : State) : State :=
  if pcFailed s i then s
  else
    let s := (s.setReg (0x5000 + i) 1 5).setReg (0x5000 + i) 0x0E cause
    let s := s.setReg 0x5090 6 (s.reg 0x5090 6 + 1)
    let s := stackOff (i / 32) (latch 2 (s.setReg 0x5090 5 (pairsSingle s)))
    if pcMirrored i && !pcFailed s (pcMate i) then logEvent 675 2 (0x5000 + i) 0 cause s
    else logEvent 674 4 (0x5000 + i) 0 cause s

/-- One more uncorrectable access (cause 2) on PC`i`: 16 within 1 s fail it (R674). -/
def pcUncorrectable (i : Nat) (s : State) : State :=
  let ts := s.now :: within1s s.now (s.pc i).uncorrectable
  let s := modPc i (fun p => { p with uncorrectable := ts }) s
  if 16 ≤ ts.length then pcFail i 2 s else s

/-- PC`i` is wanted, by a request or for R670: an entry is abandoned and counted, or an exit begins (R668). -/
def pcTouch (i : Nat) (s : State) : State :=
  match s.reg (0x5000 + i) 1 with
  | 2 => (s.setReg (0x5000 + i) 1 1).bump (0x5000 + i) 9
  | 3 => s.setReg (0x5000 + i) 1 4
  | _ => s

/-! ### Rows and requests (R639, R640, R649, R650, R655) -/

/-- Where the access at address `a` of a pseudo-channel lies (R640). -/
def pcColumn (a : Nat) : Nat := bits a 9 5
def pcPiece (a : Nat) : Nat := a / 1024
def pcBank (a : Nat) : Nat := pcPiece a % 48
def pcBankGroup (a : Nat) : Nat := pcBank a % 12
def pcBankInGroup (a : Nat) : Nat := pcBank a / 12
def pcRow (a : Nat) : Nat := pcPiece a / 48

/-- The page hint of a source's requests: keep open (R649). The hint of the management cores goes by access: of
theirs the table has FEED alone, which closes its page (DESIGN CHOICE, log 155). -/
def keepsOpen (src : Nat) : Bool :=
  decide (src < 32) || (decide (36 ≤ src) && decide (src ≤ 45)) || src == 47 || src == 53

/-- The row that holds address `a` of PC`i` is open: it has been used within 1 µs, and opened within 8 refresh intervals
(R650). -/
def rowOpen (s : State) (i a : Nat) : Bool :=
  (amGet (s.pc i).rows (pcBank a)).any fun r =>
    r.row == pcRow a && decide (s.now < r.usedAt + 1000000) &&
      decide (s.now < r.openedAt + 8 * (s.reg (0x5000 + i) 3 * 1000))

/-- PC`i` serves a request: its row stays open, or is closed with the access (R650). -/
def pcServe (i : Nat) (r : HbmRequest) (s : State) : State :=
  let b := pcBank r.addr
  let now := s.now
  let since := if rowOpen s i r.addr then ((amGet (s.pc i).rows b).map (·.openedAt)).getD now else now
  modPc i (fun p =>
    { p with rows := if keepsOpen r.src then amPut p.rows b { row := pcRow r.addr, openedAt := since, usedAt := now }
                     else amErase p.rows b }) s

/-- A request is a guest's: its address lies beyond the owner's, or a host write meets another owner's pseudo-channel
(R44, R642). -/
def isGuest (s : State) (i src a : Nat) : Bool :=
  decide (ownerSize s (pcOwner i) ≤ a) || (src == 44 && pcOwner i != 4)

/-- The class of a request (R655); class 1 is the refresh that can no longer be postponed. -/
def requestClass (r : HbmRequest) : Nat :=
  if r.guest then 5
  else if r.src = 36 ∨ r.src = 37 ∨ r.src = 39 then 2
  else if 32 ≤ r.src ∧ r.src ≤ 35 then 3
  else 4

/-- The request that PC`i` serves next of those that wait: of the first class that has any the oldest, but that the first
to hit an open row passes up to 16 older ones of its class (R655; that it does pass them is a DESIGN CHOICE, log 151). -/
def nextRequest (s : State) (i : Nat) (rs : List HbmRequest) : Option HbmRequest :=
  let c := rs.foldl (fun b r => min b (requestClass r)) 5
  let xs := rs.filter fun r => requestClass r == c
  ((xs.take 17).find? fun r => rowOpen s i r.addr).or xs.head?

/-- PC`i` serves up to `n` of the requests that wait. -/
def pcServeWaiting (i : Nat) : Nat → State → State
  | 0, s => s
  | n + 1, s =>
    match nextRequest s i (s.pc i).waiting with
    | none => s
    | some r => pcServeWaiting i n (pcServe i r (modPc i (fun p => { p with waiting := p.waiting.erase r }) s))

/-- Requests of class 2 or 3 wait at PC`i` (R663). -/
def pcUrgent (s : State) (i : Nat) : Bool := (s.pc i).waiting.any fun r => decide (requestClass r ≤ 3)

/-- Every row of PC`i` is closed: a refresh is due, or self-refresh is entered (R650). -/
def closeRows (i : Nat) (s : State) : State := modPc i (fun p => { p with rows := [] }) s

/-- A request of a source meets address `a` of PC`i`: it is served, or waits until the pseudo-channel is active again
(R655, R668). -/
def pcRequest (src i a : Nat) (s : State) : State :=
  let r : HbmRequest := { src := src, addr := a, guest := isGuest s i src a }
  let s := modPc i (fun p => { p with usedAt := s.now }) s
  match s.reg (0x5000 + i) 1 with
  | 1 => pcServe i r s
  | 2 => pcServe i r (pcTouch i s)
  | 3 => modPc i (fun p => { p with waiting := p.waiting ++ [r] }) (pcTouch i s)
  | 4 => modPc i (fun p => { p with waiting := p.waiting ++ [r] }) s
  | _ => s

/-- Requests of a source meet the pseudo-channels that hold a range of HBM, one for each row piece: a read goes to the
first copy that has not failed, a write to every such copy (R648, R653, R672). -/
def hbmAsk (src : Nat) (write : Bool) (off len : Nat) (s : State) : State :=
  s.each (List.range ((off % 1024 + len + 1023) / 1024)) fun u t =>
    match place t (max off (off / 1024 * 1024 + 1024 * u)) with
    | none => t
    | some p =>
      let live := p.copies.filter fun i => !pcFailed t i
      let reads := (live.filter (copyGood t p.addr)).head?.elim live fun i => (live.takeWhile (· != i)) ++ [i]
      t.each (if write then live else reads) fun i t => pcRequest src i p.addr t

/-- A source writes bytes to HBM. -/
def hbmStore (src off : Nat) (bs : List Byte) (s : State) : State := hbmWrite off bs (hbmAsk src true off bs.length s)

/-- Address `a` of PC`i` lies in a unit with two copies: a mirrored area, or the freeze caches where they are copies of
one another (R42, R642, R645). -/
def mirroredAt (s : State) (i a : Nat) : Bool :=
  decide (a < ownerSize s (pcOwner i)) &&
    (pcMirrored i || (pcOwner i == 2 && cachesMirrored s && decide (0xC0000000 / (pcsOf s 2).length ≤ a)))

/-- The access at address `a` of PC`i` has no good data until it is rewritten (R673). -/
def markBad (i a : Nat) (s : State) : State :=
  modMemory (fun m => { m with bad := accessOf i a :: m.bad.filter (· != accessOf i a) }) s

/-- An uncorrectable error on PC`i` at address `a`: the read is reissued to the other copy, which wakes for it, or is
returned poisoned (R668, R672, R673). The reissued read is no request of its own (DEDUCED, log 199). -/
def readError (i a : Nat) (s : State) : State :=
  let s := pcUncorrectable i s
  if mirroredAt s i a && !pcFailed s (pcMate i) then
    pcTouch (pcMate i) (modMemory (fun m => { m with mirrorReads := m.mirrorReads ++ [(i, a)] }) s)
  else markBad i a (s.bump (0x5000 + i) 6)

/-- The bank and row of bank-space address `a` (R677). -/
def bankOf (a : Nat) : Nat := bits a 9 3
def rowOf (a : Nat) : Nat := bits a 26 15

/-- Offset of a bank-space byte within the 256 bytes of its row. -/
def inRow (a : Nat) : Nat := bits a 14 10 * 8 + a % 8

/-- Bank-space address of byte `k` of a row. -/
def rowByte (bank row k : Nat) : Nat := row * 2 ^ 15 + k / 8 * 2 ^ 10 + bank * 8 + k % 8

/-- The byte at `a`: the save buffer serves the row under test (R686). -/
def bankGet (s : State) (a : Nat) : Byte :=
  match s.dev.memory.rowTest with
  | some t => if t.bank = bankOf a ∧ t.row = rowOf a then t.saved.getD (inRow a) 0 else cellGet s.bank a
  | none => cellGet s.bank a

/-- Write the byte at `a`, into the save buffer while its row is under test (R686). -/
def bankPut (a : Nat) (b : Byte) (s : State) : State :=
  match s.dev.memory.rowTest with
  | some t =>
    if t.bank = bankOf a ∧ t.row = rowOf a then
      modMemory (fun m => { m with rowTest := some { t with saved := setNth t.saved (inRow a) b } }) s
    else { s with bank := cellPut s.bank a b }
  | none => { s with bank := cellPut s.bank a b }

/-- `n` little-endian bytes of bank space. -/
def bankNat (s : State) (a n : Nat) : Nat := leNat ((List.range n).map fun i => bankGet s (a + i))

def bankWrite : Nat → List Byte → State → State
  | _, [], s => s
  | a, b :: bs, s => bankWrite (a + 1) bs (bankPut a b s)

end Sys2Proof.Machine
end

