-- ==== Sys2Proof/Machine/Banks.lean ====
section
/-!
DEFINITION. The on-chip banks: atomics, uncorrectable words and the background test (R677 to R690).
-/
namespace Sys2Proof.Machine

/-- An atomic of 4 or 8 bytes at `addr` may be performed: a general-store word, aligned to its size (R681, R683). -/
def atomicGood (addr : Nat) (wide : Bool) : Bool :=
  decide (0x7000000 ≤ addr) && decide (addr < 0x8000000) && addr % (if wide then 8 else 4) == 0

/-- An atomic: the old value is returned and `f` of it is written; one that may not be performed is an error, counted
and logged (R681 to R683). -/
def atomic (addr : Nat) (wide : Bool) (f : Nat → Nat) (s : State) : State :=
  let n := if wide then 8 else 4
  if atomicGood addr wide then
    let old := bankNat s addr n
    bankWrite addr (natLE (f old % 2 ^ (8 * n)) n) (modMemory (fun m => { m with atomic := some old }) s)
  else
    logEvent 683 1 0x5180 5 addr ((modMemory (fun m => { m with atomic := none }) s).bump 0x5180 5)

/-- An uncorrectable word (R680): a window-cache entry is invalidated (which one its address holds is free, log 18);
a general-store word is poisoned and logged; a strip-buffer word is missing to the link, which LINK_UNDERRUN shows. -/
def bankWordBad (addr : Nat) (s : State) : State :=
  let s := s.bump (0x5100 + bankOf addr) 4
  if addr < 0x4000000 then
    let n := s.dev.synth.cache.length
    drawFree (modSynth (fun y => { y with cache := y.cache.eraseIdx (freeValue s % (n + 1)) }) s)
  else if addr < 0x7000000 then s
  else logEvent 680 1 (0x5100 + bankOf addr) 0 addr s

/-- A row is saved, and its march begins (R684, R685). Rows follow in order of row and then bank. -/
def rowTestStart (s : State) : State :=
  if s.reg 0x5180 2 = 0 ∨ s.dev.memory.rowTest.isSome then s
  else
    let n := s.dev.memory.sweep
    let bank := n % 128
    let row := n / 128
    let saved := (List.range 256).map fun k => cellGet s.bank (rowByte bank row k)
    modMemory (fun m => { m with rowTest := some { bank := bank, row := row, saved := saved } }) s

/-- The save buffer is copied back and the sweep moves on (R685). -/
def rowRestore (t : RowTest) (s : State) : State :=
  let bank := (List.range 256).foldl (fun m k => cellPut m (rowByte t.bank t.row k) (t.saved.getD k 0)) s.bank
  let n := s.dev.memory.sweep + 1
  let s := modMemory (fun m => { m with rowTest := none, sweep := n % 524288 }) { s with bank := bank }
  if n = 524288 then s.bumpSeq 0x5180 3 else s

/-- Spare `k` of a bank replaces `row`: entry `k` of the repair map (R689). -/
def rowReplace (t : RowTest) (s : State) : State :=
  let i := 0x5100 + t.bank
  let k := s.reg i 2
  let s := s.setReg i 5 (s.reg i 5 + (t.row + 0x8000) * 2 ^ (16 * k))
  let s := s.setReg i 2 (k + 1)
  s.setReg i 1 (if s.reg i 1 = 2 then 2 else 1)

/-- The march ends: a failing row takes a free spare, or the bank is degraded (R685, R688, R689). -/
def rowTestComplete (failed : Bool) (s : State) : State :=
  match s.dev.memory.rowTest with
  | none => s
  | some t =>
    let i := 0x5100 + t.bank
    let s' :=
      if !failed then s
      else if s.reg i 2 < 8 then
        let u := rowReplace t s
        if u.dev.bringup.firmwareRuns then writeRecord (16 + t.bank) (natLE (u.reg i 5) 16) .none u else u
      else s.setReg i 1 2
    rowRestore t s'

/-- The test of the row is abandoned and counted (R685). -/
def rowTestAbandon (s : State) : State :=
  match s.dev.memory.rowTest with
  | none => s
  | some t => rowRestore t (s.bump 0x5180 4)

/-- ATOMIC_ADD (R681). -/
def execAtomicAdd (addr : Nat) (wide : Bool) (value : Nat) (s : State) : Out :=
  run (.atomicAdd addr wide value) (onBank [.od, .memory, .events, .eventBuffer, .eventMessages] (atomic addr wide
      (· + value)) s)

/-- ATOMIC_SWAP (R681). -/
def execAtomicSwap (addr : Nat) (wide : Bool) (value : Nat) (s : State) : Out :=
  run (.atomicSwap addr wide value) (onBank [.od, .memory, .events, .eventBuffer, .eventMessages] (atomic addr wide
      fun _ => value) s)

/-- BANK_UNCORRECTABLE_WORD (R680). -/
def execBankUncorrectableWord (addr : Nat) (s : State) : Out :=
  run (.bankUncorrectableWord addr) (onDev [.od, .synth, .events, .eventBuffer, .eventMessages, .drawn]
      (bankWordBad addr) s)

/-- BACKGROUND_ROW_TEST_START (R684). -/
def execBackgroundRowTestStart (s : State) : Out := run .backgroundRowTestStart (onDev [.memory] rowTestStart s)

/-- ROW_TEST_COMPLETE (R685). -/
def execRowTestComplete (failed : Bool) (s : State) : Out :=
  run (.rowTestComplete failed) (onBankNv [.od, .memory] (rowTestComplete failed) s)

/-- ROW_TEST_ABANDON (R685). -/
def execRowTestAbandon (s : State) : Out := run .rowTestAbandon (onBank [.od, .memory] rowTestAbandon s)

end Sys2Proof.Machine
end

