-- ==== Sys2Proof/Machine/Grid.lean ====
section
/-!
DEFINITION. The frame grid, the frame DPLL and frame lock (R533 to R547, R565, R574).
-/
namespace Sys2Proof.Machine

/-! ### Segments of the grid (R533 to R535) -/

/-- Base rate in force, Hz. -/
def baseHz (s : State) : Nat := rateHz (s.com 0x3800 1)

/-- Network time of calends `n` in the segment in force, ps (R533). -/
def gridTime (s : State) (n : Nat) : Int :=
  let na := s.reg 0x4820 2
  psOf80 (s.reg 0x4820 3) + (((n : Int) - na) * 1000000000000).fdiv (baseHz s)

/-- The smallest count whose calends lies at or after network time `t` (R539). -/
def firstCountAt (s : State) (t : Int) : Nat :=
  let d := (t - psOf80 (s.reg 0x4820 3)) * baseHz s
  ((s.reg 0x4820 2 : Int) - (-d).fdiv 1000000000000).toNat

/-- A segment starts at count `n`: its anchor goes into the dictionary, and its record into the store (R535). The
record's layout is Na, then Ta (DESIGN CHOICE, log 20). -/
def startSegment (n : Nat) (s : State) : State :=
  let ta := time80 (gridTime s n).toNat
  let s := (s.setReg 0x4820 2 n).setReg 0x4820 3 ta
  writeRecord 13 (natLE n 8 ++ natLE ta 10) .none s

/-- Count of the next calends in the schedule (R387, R539). -/
def nextCount (s : State) : Nat := s.dev.timing.jump.getD (s.dev.timing.count + s.dev.timing.hold)

/-! ### Rate in force -/

/-- Rate of a frame of hold factor `k`, Hz (R381, R385). -/
def holdHz (s : State) (k : Nat) : Nat := baseHz s / max 1 k

/-- Line time at a rate, ps, half up (R351). -/
def lineTime (hz : Nat) : Nat := (1000000000000 + 9000 * hz) / (18000 * hz)

/-- Frame period in force, ps. -/
def periodPs (s : State) : Nat := framePs (max 1 (holdHz s s.dev.timing.hold))

/-- The eve offset L (R245) at `hz`: 192 lines, and 4 us, with 50 us more in FROZEN. -/
def eveOffset (hz : Nat) (frozen : Bool) : Nat :=
  let up (ps : Nat) := (ps * 18000 * hz + 999999999999) / 1000000000000
  192 + up 4000000 + if frozen then up 50000000 else 0

/-- L at the rate in force; it takes its FROZEN value in a thermal fault too (R245, R750). -/
def eveLead (s : State) : Nat :=
  eveOffset (max 1 (holdHz s s.dev.timing.hold)) (s.dev.live.frozen || s.dev.thermal.fault)

/-- The line at whose start the eve of the frame lies (R245): L lines before V. -/
def eveLine (s : State) : Nat := 17280 - eveLead s

/-- Lines of the current frame (R359, R539). -/
def totalLines (s : State) : Nat := (18000 + s.dev.timing.inter + s.dev.timing.stretch).toNat

/-! ### Frame lock (R539 to R544) -/

/-- Frame lock state: 0 FREE_RUN, 1 ACQUIRING, 2 LOCKED, 3 HOLDOVER. -/
def frameLock (s : State) : Nat := s.reg 0x4821 1

/-- The neighbour correction c, ps. -/
def correction (s : State) : Int := toSigned 32 (s.reg 0x4821 4)

/-- Tile port `t` is marker-locked. -/
def markerLocked (s : State) (t : Nat) : Bool := s.reg (0x4880 + t) 7 == 1

/-- The pairing role and port in force. -/
def pairingRole (s : State) : Nat := s.com 0x3800 4
def pairingPort (s : State) : Nat := s.com 0x3800 5

/-- Port `t` is the pairing port of a paired device. -/
def isPairing (s : State) (t : Nat) : Bool := pairingRole s != 0 && pairingPort s == t

/-- This device is a secondary LOCKED to its primary (R376). -/
def secondaryLocked (s : State) : Bool := pairingRole s == 2 && s.reg 0x3840 1 == 1

/-- An assigned frame at or after `n` moves by `d` (R540). -/
def movedCount (n : Nat) (d : Int) (m : Nat) : Nat := if n ≤ m then ((m : Int) + d).toNat else m

/-- A reported frame number at or after that of count `n` moves by `d` (R540). -/
def movedNumber (n : Nat) (d : Int) (v : Nat) : Nat :=
  if v = n % 2 ^ 32 || later 32 (n % 2 ^ 32) v then (((v : Int) + d) % (2 ^ 32 : Nat)).toNat else v

/-- The dispatcher's lists with the patches of the frames at or after `n` moved (R540). The signature inputs of the next
frame lie under its parity. -/
def moveSynth (n : Nat) (d : Int) (y : Synth) : Synth :=
  let m := movedCount n d
  let q (p : Patch) : Patch := { p with count := m p.count }
  let half := 16 * 17280 * 61440
  let key' (k : Nat) : Nat := if k / half = n % 2 then m n % 2 * half + k % half else k
  { y with
    queue := y.queue.map q, running := y.running.map fun e => (e.1, q e.2), complete := y.complete.map q
    missed := y.missed.map q, redoWaiting := y.redoWaiting.map fun r => (q r.1, r.2)
    redoRunning := y.redoRunning.map fun e => (e.1, q e.2.1, e.2.2), redoDone := y.redoDone.map fun r => (q r.1, r.2)
    recomputed := y.recomputed.map q, colourFailed := y.colourFailed.map q
    transparent := y.transparent.map fun e => (e.1, q e.2), missLogged := y.missLogged.map fun e => (m e.1, e.2)
    stores := y.stores.map fun e => (e.1, e.2.map fun w => { w with pins := w.pins.map q })
    signature := y.signature.foldl (fun a e => amPut a (key' e.1) e.2) [] }

/-- An assigned frame with its valid bit, as 0x3000:08 and 09 hold it, moves as the frame does. -/
def movedValid (n : Nat) (d : Int) (v : Nat) : Nat := if v = 0 then 0 else 2 ^ 32 + movedNumber n d (v % 2 ^ 32)

/-- Everything assigned to a frame keeps its distance from the calends across the step (R540). -/
def moveAssigned (n : Nat) (d : Int) (s : State) : State :=
  let m := movedCount n d
  let s := s.modDev fun v =>
    { v with
      commitPending := v.commitPending.map m
      commitCaptured := v.commitCaptured.map m
      bandUpdates := v.bandUpdates.map fun b => { b with target := m b.target }
      jobs := v.jobs.map fun j => { j with target := m j.target }
      copies := v.copies.map fun c => { c with target := m c.target }
      holdSlots := v.holdSlots.map fun h => (h.1, h.2.map m)
      players := v.players.map fun p =>
        (p.1, { p.2 with t0 := if p.2.state = 0 then p.2.t0 else ((p.2.t0 : Int) + d).toNat
                         endAt := p.2.endAt.map fun e => ((e : Int) + d).toNat })
      regions := v.regions.map fun r => (r.1, { r.2 with startAt := r.2.startAt.map m, endAt := r.2.endAt.map m })
      timeOut := v.timeOut.map fun o => (o.1, { o.2 with cues := o.2.cues.map fun c => { c with count := m c.count } })
      freeze := { v.freeze with enterAt := v.freeze.enterAt.map m, startAt := ((v.freeze.startAt : Int) + d).toNat }
      synth := moveSynth n d v.synth
      gov := { v.gov with badGain := v.gov.badGain.map fun r => (m r.1, r.2) }
      late := v.late.map fun l => (l.1, m l.2)
      lost := v.lost.map fun l => (l.1, m l.2)
      due := v.due.map fun l => (l.1, m l.2)
      captured := v.captured.map fun c =>
        { c with layers := c.layers.map fun l => (l.1, { l.2 with frame := m l.2.frame }) }
      clipReady := v.clipReady.map fun l => (l.1, l.2.1, { l.2.2 with frame := m l.2.2.frame })
      safety := { v.safety with release := v.safety.release.map m, due := v.safety.due.map m
                                origins := v.safety.origins.map fun o => { o with target := m o.target } } }
  let s := modHost (fun h => { h with items := h.items.map fun i => { i with target := m i.target } }) s
  let s := if s.dev.commitPending.isSome || s.dev.commitCaptured.isSome then
    ((s.setReg 0x3000 4 (movedNumber n d (s.reg 0x3000 4))).setReg 0x3000 8 (movedValid n d (s.reg 0x3000 8))).setReg
      0x3000 9 (movedValid n d (s.reg 0x3000 9)) else s
  let s := s.iff (!s.dev.bandUpdates.isEmpty) fun t => t.setReg 0x3412 7 (movedNumber n d (t.reg 0x3412 7))
  let s := s.iff (s.reg 0x1410 4 == 1) fun t => t.setReg 0x1410 5 (movedNumber n d (t.reg 0x1410 5))
  s

/-- The first acquisition after FREE_RUN, at V (R539, R540). -/
def acquire (s : State) : State :=
  let t := s.dev.timing
  let v := localTime s
  let n := t.count + t.hold
  let target := firstCountAt s (v + periodPs s / 2 - correction s)
  let d := (target : Int) - n
  let s := moveAssigned n d s
  let tl := lineTime (max 1 (holdHz s t.hold))
  let rest := (gridTime s target + correction s - v + tl / 2) / tl
  let s := modTiming (fun t => { t with jump := some target, stretch := rest - 720, inter := 0, trimNext := 0, inLock := 0, outLock := 0 }) s
  logEvent 540 0 0x4821 0 (ofSigned 64 d) (logEvent 539 0 0x4821 0 target (s.setReg 0x4821 1 1))

/-- `e / n` rounded half away from zero (R541). -/
def divRoundAway (e : Int) (n : Nat) : Int := if 0 ≤ e then (2 * e + n) / (2 * n) else -((2 * -e + n) / (2 * n))

/-- Network time at which the timing generator will place the next calends, as seen at V (R541). -/
def predictedCalends (s : State) : Int :=
  let rest : Int := periodPs s / 25
  localTime s + rest + (rest * s.dev.timing.trim).tdiv 1000000000

/-- The phase error e, ps (R541, R544). -/
def phaseError (s : State) : Int :=
  if secondaryLocked s then -toSigned 32 (s.reg 0x3840 2)
  else predictedCalends s - (gridTime s (nextCount s) + correction s)

/-- Intercalary lines for a phase error (R541). -/
def linesFor (e : Int) (tl : Nat) : Int :=
  if (tl : Int).tdiv 2 ≤ e || e ≤ -(tl : Int).tdiv 2 then clamp (-8) 8 (-divRoundAway e tl) else 0

/-- Trim for a residual, ppb (R541). -/
def trimFor (r : Int) (tf : Nat) : Int := clamp (-20000) 20000 ((-(r * 500000000)).tdiv tf)

/-- Some neighbour is marker-locked. -/
def anyMarkerLocked (s : State) : Bool := (List.range (nTiles s)).any (markerLocked s)

/-- The frame lock state machine's conditions on e (R543). -/
def lockStep (e : Int) (s : State) : State :=
  let t := s.dev.timing
  let near := if e.natAbs ≤ 20000 then t.inLock + 1 else 0
  let far := if 100000 < e.natAbs then t.outLock + 1 else 0
  let s := modTiming (fun t => { t with inLock := near, outLock := far }) s
  if frameLock s = 1 ∧ 16 ≤ near then
    logEvent 543 0 0x4821 0 0 (modTiming (fun t => { t with everLocked := true }) (s.setReg 0x4821 1 2))
  else if frameLock s = 2 ∧ 2 ≤ far then
    (modTiming (fun t => { t with inLock := 0 }) (s.setReg 0x4821 1 1)).bump 0x4821 5
  else s

/-- The frame DPLL at V (R539, R541, R543): intercalary lines of this frame and trim of the next. -/
def dpll (s : State) : State :=
  if frameLock s = 0 then
    if s.reg 0x4802 2 = 1 ∨ anyMarkerLocked s then acquire s
    else modTiming (fun t => { t with inter := 0, trimNext := 0 }) s
  else
    let e := phaseError s
    let tl := lineTime (max 1 (holdHz s s.dev.timing.hold))
    let i := linesFor e tl
    let trim := trimFor (e + i * tl) (periodPs s)
    let s := modTiming (fun t => { t with inter := i, trimNext := trim }) s
    let s := (s.setReg 0x4821 2 (ofSigned 32 (saturate 32 e))).setReg 0x4821 3 (ofSigned 32 trim)
    let s := (s.setReg 0x3801 3 (ofSigned 16 i)).setReg 0x3801 4 (720 + i).toNat
    let s := if 0 ≤ i then s.bumpSeq 0x3801 5 i.toNat else s.bumpSeq 0x3801 6 (-i).toNat
    lockStep e s

/-- Local time enters HOLDOVER (R527, R543). -/
def enterHoldover (s : State) : State :=
  let s := (s.setReg 0x4802 1 2).iff (s.reg 0x4802 2 == 1) (·.setReg 0x4802 2 2)
  if frameLock s = 1 ∨ frameLock s = 2 then s.setReg 0x4821 1 3 else s

/-- Local time is synchronised to source `c` (R523, R527, R543). -/
def synchronise (c : Nat) (s : State) : State :=
  let s := (s.setReg 0x4802 1 c).setReg 0x4802 2 1
  if frameLock s = 3 then modTiming (fun t => { t with inLock := 0, outLock := 0 }) (s.setReg 0x4821 1 1) else s

/-! ### Jubilee (R573) -/

/-- The calends of count `n` is a jubilee. -/
def jubilee (n : Nat) (s : State) : State :=
  if n % 2 ^ 32 = 0 ∧ n ≠ 0 then (logEvent 573 0 0x4821 6 n s).bump 0x4821 6 else s

/-! ### Targets (R249, R387, R538, R574) -/

/-- The earliest count an item processed now can take: R249, with the hold schedule of R389. -/
def earliest (s : State) : Nat :=
  let t := s.dev.timing
  let n1 := t.jump.getD (t.count + t.hold)
  if t.eveDone then n1 + t.holdNext else n1

/-- The frame that R249 gives a request of the dictionary: R389 reads calends H + 2k after the eve of a hold frame,
whether or not frame H + k is a hold frame. -/
def earliestRequest (s : State) : Nat :=
  let t := s.dev.timing
  if t.inHold && t.eveDone then t.jump.getD (t.count + t.hold) + t.hold else earliest s

/-- The latest calends at or before `target` in the schedule (R387), and whether the eve of the frame that ends there
is still to come. -/
def inTime (s : State) (target : Nat) : Bool := decide (earliest s ≤ target)

/-- The count of the frame numbered `t` nearest ahead of the current frame. -/
def countOf (s : State) (t : Nat) : Nat := s.dev.timing.count + ahead 32 s.dev.timing.count t

/-- Test a non-zero target (R538, R574, R387): a refusal reason of R619, or the count. -/
def testTarget (s : State) (t : Nat) : Except Nat Nat :=
  let d := ahead 32 s.dev.timing.count t
  if frameLock s = 0 then .error 6
  else if d = 0 ∨ 2 ^ 31 < d then .error 4
  else if d = 2 ^ 31 then .error 5
  else if inTime s (countOf s t) then .ok (countOf s t) else .error 4

end Sys2Proof.Machine
end

