-- ==== Sys2Proof/Machine/Queue.lean ====
section
/-!
DEFINITION. Completion rings, doorbells and host memory (R588, R595 to R602, R612 to R618).
-/
namespace Sys2Proof.Machine

/-- Window `n` (R585). -/
def State.window (s : State) (n : Nat) : Window := amGetD s.dev.host.windows n {}

/-- `len` bytes from `a` lie inside one enabled window of `lo` to `lo` + 15. -/
def inWindow (s : State) (lo a len : Nat) : Bool :=
  (List.range 16).any fun i =>
    let w := s.window (lo + i)
    w.enable && decide (w.base ≤ a) && decide (a + len ≤ w.limit + 1)

/-- A completion entry (R614). -/
def completionBytes (c : Completion) (phase : Nat) : List Byte :=
  natLE c.tag 4 ++ natLE (c.queue % 2 ^ 20 + c.gen % 256 * 2 ^ 20 + phase * 2 ^ 31) 4 ++ natLE c.frame 4 ++
    natLE c.status 1 ++ natLE c.reason 1 ++ natLE c.detail 1 ++ [0]

/-- Entries posted and not consumed of a ring. -/
def ringUsed (c : Queue) : Nat := (c.tail + 2 ^ 32 - c.head) % 2 ^ 32

/-- The bytes of a completion go to slot tail mod size of the ring; outside every window of the function they are
counted (R588, R615). -/
def ringWrite (r : Nat) (c : Completion) (s : State) : State :=
  let q := s.queue r
  let phase := (q.tail / 2 ^ q.sizeLog2 + 1) % 2
  let a := q.ring + 16 * (q.tail % 2 ^ q.sizeLog2)
  if inWindow s 0 a 16 then
    modHost (fun h => { h with memory := cellsPut h.memory a (completionBytes c phase) }) s
  else s.bump 0x1241 9

/-- The ring's vector is messaged once until its consumer counter moves (R618). -/
def ringMessage (r : Nat) (s : State) : State :=
  if (s.queue r).messaged then s else modHost (fun h => { h with messages := (s.queue r).vector :: h.messages }) s

/-- Write a completion into the ring's next slot (R588, R615, R618). -/
def ringPut (r : Nat) (c : Completion) (s : State) : State :=
  modQueue r (fun q => { q with tail := (q.tail + 1) % 2 ^ 32, messaged := true }) (ringMessage r (ringWrite r c s))

/-- Post a completion: into the ring, into the overflow store, or dropped (R594, R617). -/
def postCompletion (r : Nat) (c : Completion) (s : State) : State :=
  let q := s.queue r
  if q.typ ≠ 4 then s.bump 0x1241 7
  else if ringUsed q < 2 ^ q.sizeLog2 ∧ !(s.dev.host.overflow.any fun e => e.1 == r) then ringPut r c s
  else if s.dev.host.overflow.length < 4096 then modHost (fun h => { h with overflow := h.overflow ++ [(r, c)] }) s
  else s.bump 0x1241 7

/-- Completions that wait for ring `r` are posted while it has room (R617). -/
def drainOverflow (r : Nat) : Nat → State → State
  | 0, s => s
  | n + 1, s =>
    match s.dev.host.overflow.find? fun e => e.1 == r with
    | none => s
    | some e =>
      if ringUsed (s.queue r) < 2 ^ (s.queue r).sizeLog2 then
        drainOverflow r n (ringPut r e.2 (modHost (fun h => { h with overflow := h.overflow.erase e }) s))
      else s

/-- Post the final completion of an item of a queue (R613); a ring that is gone drops it (R579, R594). -/
def postFinal (i : Item) (frame status detail : Nat) (s : State) : State :=
  if !i.host then s
  else
    let c : Completion := { tag := i.tag, queue := i.queue, gen := i.gen, frame := frame % 2 ^ 32, status := status
                            reason := 0, detail := detail }
    if (s.queue i.cq).gen = i.cqGen then postCompletion i.cq c s else s.bump 0x1241 7

/-- Neither copy of the context of queue `q` can be read: on failed pseudo-channels, or uncorrectable (R596, R673).
Where a context lies in the management area is free (R595, R903, log 153). -/
def contextLost (s : State) (q : Nat) : Bool :=
  let ps := primariesOf s 5
  let i := nth ps (Config.contextPair q % max 1 ps.length)
  let a := Config.contextAt q % 0x1000000 * 64
  let lost (i : Nat) : Bool := !copyGood s a i || !copyGood s (a + 32) i
  lost i && lost (i + 32)

/-- A queue is halted (R596, R635). -/
def haltQueue (q rule cls : Nat) (s : State) : State :=
  if (s.queue q).typ ≠ 0 ∧ (s.queue q).state = 1 then
    logEvent rule cls 0 0 q ((modQueue q (fun c => { c with state := 2 }) s).bump 0x1241 6)
  else s

/-- The context of queue `q` is cached, or read: the least recently used of 8,192 leaves. One that fails on both copies
halts its queue (R596). -/
def touchContext (q : Nat) (s : State) : State :=
  let hit := s.dev.host.cache.contains q
  let s := s.iff (!hit) (·.bump 0x1241 2)
  let s := s.iff (!hit && contextLost s q) (haltQueue q 596 2)
  modHost (fun h => { h with cache := (q :: h.cache.filter (· != q)).take 8192 }) s

/-- A doorbell or a write arrives: a silent host is silent no more (R391). -/
def hostHeard (s : State) : State := modTiming (fun t => { t with silent := false }) s

/-- A doorbell is processed (R391, R595). -/
def doorbellSeen (q : Nat) (s : State) : State := touchContext q (hostHeard (s.bumpSeq 0x1241 3))

/-- A submission doorbell is processed (R599). -/
def submitDoorbell (q count gen : Nat) (s : State) : State :=
  let s := doorbellSeen q s
  let c := s.queue q
  if c.typ = 0 ∨ c.gen ≠ gen ∨ c.typ = 4 then s.bump 0x1241 4
  else if c.state = 2 ∨ count = c.tail then s
  else if 2 ^ c.sizeLog2 < (count + 2 ^ 32 - c.head) % 2 ^ 32 || !later 32 c.tail count then hostViolation (some q) s
  else modQueue q (fun c => { c with tail := count }) s

/-- A doorbell of a completion ring moves HEAD (R597, R617, R618, R634). -/
def headDoorbell (q count gen : Nat) (s : State) : State :=
  let s := doorbellSeen q s
  let c := s.queue q
  if c.typ = 0 ∨ c.gen ≠ gen ∨ c.typ ≠ 4 then s.bump 0x1241 4
  else if c.state = 2 then s
  else if later 32 c.tail count || earlier 32 c.head count then hostViolation (some q) s
  else
    let s := modQueue q (fun c => { c with head := count, messaged := false }) s
    drainOverflow q s.dev.host.overflow.length s

/-- A doorbell arrives; it acts as a write-complete marker (R598). -/
def doorbellArrive (q count gen : Nat) (s : State) : State :=
  modHost (fun h => { h with markers := h.markers ++ [.doorbell q count gen] }) (hostHeard s)

/-- The admission engine takes doorbells in order of arrival, and starts on the next when every entry of the one before it
has been answered (R601, R602). -/
def engineRun : Nat → State → State
  | 0, s => s
  | n + 1, s =>
    if s.dev.host.serving.isSome then s
    else
      match s.dev.host.doorbells with
      | [] => s
      | (q, count, gen) :: rest =>
        let s := modHost (fun h => { h with doorbells := rest }) s
        if (s.queue q).typ = 4 then engineRun n (headDoorbell q count gen s)
        else
          let s := submitDoorbell q count gen s
          let c := s.queue q
          engineRun n (s.iff (c.typ != 0 && c.head != c.tail) (modHost fun h => { h with serving := some q }))

/-- The engine is free again once queue `q` has no entry left, and takes the next doorbell. -/
def engineNext (q : Nat) (s : State) : State :=
  if s.dev.host.serving = some q ∧ (s.queue q).head = (s.queue q).tail then
    engineRun s.dev.host.doorbells.length (modHost (fun h => { h with serving := none }) s)
  else s

/-- The oldest marker completes (R584, R598). -/
def markerDone (s : State) : State :=
  match s.dev.host.markers with
  | [] => s
  | m :: ms =>
    let s := modHost (fun h => { h with markers := ms }) s
    match m with
    | .wcm => modHost (fun h => { h with wcmDone := (h.wcmDone + 1) % 2 ^ 64 }) s
    | .doorbell q count gen =>
      let s := modHost (fun h => { h with doorbells := h.doorbells ++ [(q, count, gen)] }) s
      engineRun s.dev.host.doorbells.length s

/-- SUBMISSION_DOORBELL (R599). -/
def execSubmissionDoorbell (q count gen : Nat) (s : State) : Out :=
  run (.submissionDoorbell q count gen) (onDev [.timing, .host] (doorbellArrive q count gen) s)

/-- COMPLETION_DOORBELL (R617). -/
def execCompletionDoorbell (q count gen : Nat) (s : State) : Out :=
  run (.completionDoorbell q count gen) (onDev [.timing, .host] (doorbellArrive q count gen) s)

/-- WRITE_COMPLETE_MARKER_DONE (R584). -/
def execWriteCompleteMarkerDone (s : State) : Out :=
  run .writeCompleteMarkerDone (onDev [.od, .timing, .host, .events, .eventBuffer, .eventMessages] markerDone s)

/-- COMPLETION_POST (R615). -/
def execCompletionPost (ring : Nat) (c : Completion) (s : State) : Out :=
  run (.completionPost ring c) (onDev [.od, .host] (postCompletion ring c) s)

end Sys2Proof.Machine
end

