-- ==== Sys2Proof/Machine/Rays.lean ====
section
/-!
DEFINITION. From committed state to composed values: the view table, plane steps, overlays, safety and substitute
images (R175 to R206, R226 to R238, R281 to R288, R295).
-/
namespace Sys2Proof.Machine

/-- Linear RGB, or premultiplied RGBA, as u16 values; alpha is 0 where it plays no part. -/
structure Rgba where
  r : Nat := 0
  g : Nat := 0
  b : Nat := 0
  a : Nat := 0
deriving DecidableEq, Repr

/-! ### Geometry -/

/-- Hogel columns and rows of the tile that is driven. -/
def hogelCols (c : Committed) : Nat := if c.obj 0x3800 2 = 1 then 1280 else 2560
def hogelRows : Nat := 1440

/-- Patches of a strip (R200). -/
def patchesPerStrip (c : Committed) : Nat := hogelCols c / 80

/-- Hogel (hx, hy) is rendered in 2D (R176, R177). -/
def is2D (c : Committed) (hx hy : Nat) : Bool := hasBit c.zones2D (hy / 60 * 512 + hx / 5)

/-- Slopes of view (u, v) (R178). -/
def slope (c : Committed) (u v : Nat) : Int × Int :=
  if c.view.isEmpty then ((2 * (u : Int) - 23) * 256, (2 * (v : Int) - 11) * 256) else c.view.getD (24 * v + u) (0, 0)

/-- The view table of a committed state. -/
def viewTable (c : Committed) : List (Int × Int) :=
  (List.range 288).map fun i => slope c (i % 24) (i / 24)

/-- The steps Δx and Δy of a table (R182). -/
def tableSteps (t : List (Int × Int)) : Nat × Nat :=
  let at' (u v : Nat) : Int × Int := t.getD (24 * v + u) (0, 0)
  let big (xs : List Nat) : Nat := xs.foldl max 0
  (big ((List.range 276).map fun i => ((at' (i % 23 + 1) (i / 23)).1 - (at' (i % 23) (i / 23)).1).natAbs),
   big ((List.range 264).map fun i => ((at' (i % 24) (i / 24 + 1)).2 - (at' (i % 24) (i / 24)).2).natAbs))

/-- Tap and weight of a position in units of 2^-22 hogel pitch (R186). -/
def tapOf (p22 : Int) (ls : Nat) : Int × Nat :=
  let c := (p22 * 2 ^ ls + 8192) / 16384 - 128
  (c / 256, (c % 256).toNat)

/-- Position of hogel index `h` under slope `sl` at raw depth `d` (R184). -/
def pos3D (h : Nat) (d sl : Int) : Int := (h : Int) * 4194304 + 2097152 + d * sl

/-- Position of emitter column `xe` and line `ye` (R185). -/
def pos2Dx (xe : Nat) : Int := ((2 * (xe : Int) + 1) * 4194304 + 24) / 48
def pos2Dy (ye : Nat) : Int := ((2 * (ye : Int) + 1) * 4194304 + 12) / 24

/-! ### Taps and samples (R188, R189) -/

/-- A block's content as fetched: index tile and palette slot. -/
abbrev Blocks := AMap (List Byte × List Byte)

/-- A palette entry, premultiplied (R188). -/
def premultiply (e : Nat) : Rgba :=
  let a := bits e 55 48 * 257
  let f (c : Nat) : Nat := (c * a + 0x8000) / 65536
  { r := f (bits e 15 0), g := f (bits e 31 16), b := f (bits e 47 32), a := a }

/-- Cell mask of block `b`, 0 when it is unoccupied. -/
def cellsOf (ct : Content) (b : Nat) : Nat := amGetD ct.occ b 0

/-- The value of a tap at a stored position (R84, R188); a block that is not in `bs` is transparent. -/
def tapValue (ct : Content) (bs : Blocks) (cx cy : Int) : Rgba :=
  if cx < 0 ∨ cy < 0 ∨ (ct.w : Int) ≤ cx ∨ (ct.h : Int) ≤ cy then {}
  else
    let x := cx.toNat
    let y := cy.toNat
    let b := y / 64 * (ct.w / 64) + x / 64
    if hasBit (cellsOf ct b) (y % 64 / 16 * 4 + x % 64 / 16) then
      match amGet bs b with
      | none => {}
      | some (tile, pal) =>
        let i := (tile.getD (64 * (y % 64) + x % 64) 0).toNat
        premultiply (fieldLE pal (8 * i) 8)
    else {}

/-- Bilinear blend of one channel (R189). -/
def lerp2 (v00 v10 v01 v11 fx fy : Nat) : Nat :=
  ((v00 * (256 - fx) + v10 * fx) * (256 - fy) + (v01 * (256 - fx) + v11 * fx) * fy + 0x8000) / 65536

/-- Bilinear blend of four taps. -/
def blend4 (a b c d : Rgba) (fx fy : Nat) : Rgba :=
  { r := lerp2 a.r b.r c.r d.r fx fy, g := lerp2 a.g b.g c.g d.g fx fy
    b := lerp2 a.b b.b c.b d.b fx fy, a := lerp2 a.a b.a c.a d.a fx fy }

/-- Compositing state: colour so far and transmittance. -/
structure Acc where
  r : Nat := 0
  g : Nat := 0
  b : Nat := 0
  t : Nat := 0x10000
deriving DecidableEq, Repr

/-- One plane step, or one overlay (R190, R231). -/
def Acc.over (c : Acc) (s : Rgba) : Acc :=
  let f (x v : Nat) : Nat := min 0xFFFF (x + (c.t * v + 0x8000) / 65536)
  { r := f c.r s.r, g := f c.g s.g, b := f c.b s.b, t := c.t - (c.t * s.a + 0x8000) / 65536 }

/-- Plane steps front first, with early termination at a threshold (R190 to R192). -/
def composite (threshold : Nat) : Acc → List Rgba → Acc
  | c, [] => c
  | c, s :: ss =>
    let d := c.over s
    if d.t < threshold then d else composite threshold d ss

/-! ### What is visible (R183, R901) -/

/-- Layer `j`'s content when it is visible and has an occupied block. -/
def visibleContent (c : Committed) (j : Nat) : Option Content :=
  if c.obj 0x3004 (j + 1) = 1 then
    match (amGetD c.layers j {}).content with
    | none => none
    | some ct => if ct.occ.isEmpty then none else some ct
  else none

/-- Visited planes: number and content, in ascending depth and then layer number (R183). -/
def visitedPlanes (c : Committed) : List (Nat × Content) :=
  let ps := (List.range 16).filterMap fun j => (visibleContent c j).map fun ct => (j, ct)
  sortBy (fun a b => decide (a.2.depth < b.2.depth) || (a.2.depth == b.2.depth && decide (a.1 ≤ b.1))) ps

/-- Visible overlays with content, in descending stacking order, the higher layer first on a tie (R231). -/
def visibleOverlays (c : Committed) : List (Nat × Content) :=
  let os := (List.range 16).filterMap fun j => (visibleContent c (16 + j)).map fun ct => (16 + j, ct)
  sortBy (fun a b => decide (b.2.order < a.2.order) || (b.2.order == a.2.order && decide (b.1 ≤ a.1))) os

/-! ### Planes -/

/-- The sample of a plane for emitter (xe, ye) (R184 to R189). -/
def planeSample (c : Committed) (ct : Content) (bs : Blocks) (xe ye : Nat) : Rgba :=
  let hx := xe / 24
  let hy := ye / 12
  let sl := slope c (xe % 24) (ye % 12)
  let flat := is2D c hx hy
  let (x0, fx) := tapOf (if flat then pos2Dx xe else pos3D hx ct.depth sl.1) ct.ls
  let (y0, fy) := tapOf (if flat then pos2Dy ye else pos3D hy ct.depth sl.2) ct.ls
  let x := x0 - ct.ox
  let y := y0 - ct.oy
  blend4 (tapValue ct bs x y) (tapValue ct bs (x + 1) y) (tapValue ct bs x (y + 1)) (tapValue ct bs (x + 1) (y + 1))
    fx fy

/-! ### Overlays (R228 to R231) -/

/-- Hogel (hx, hy) lies in an overlay's destination. -/
def inDest (ct : Content) (hx hy : Nat) : Bool :=
  decide (ct.dx ≤ hx) && decide (hx < ct.dx + ct.dw) && decide (ct.dy ≤ hy) && decide (hy < ct.dy + ct.dh)

/-- Taps and weight of an overlay axis: index `i` of `n`, source size `w` (R229). -/
def overlayTap (i n w : Nat) : Nat × Nat × Nat :=
  let c : Int := (((2 * i + 1) * w * 256 + n) / (2 * n) : Nat) - 128
  let x0 := c / 256
  ((clamp 0 (w - 1 : Nat) x0).toNat, (clamp 0 (w - 1 : Nat) (x0 + 1)).toNat, (c % 256).toNat)

/-- Taps of an overlay for emitter (xe, ye): xa, xb, fx, ya, yb, fy. -/
def overlayTaps (flat : Bool) (ct : Content) (xe ye : Nat) : Nat × Nat × Nat × Nat × Nat × Nat :=
  let (xa, xb, fx) := if flat then overlayTap (xe - 24 * ct.dx) (24 * ct.dw) ct.w
    else overlayTap (xe / 24 - ct.dx) ct.dw ct.w
  let (ya, yb, fy) := if flat then overlayTap (ye - 12 * ct.dy) (12 * ct.dh) ct.h
    else overlayTap (ye / 12 - ct.dy) ct.dh ct.h
  (xa, xb, fx, ya, yb, fy)

/-- The overlay sample of emitter (xe, ye) (R227, R230). -/
def overlaySample (flat : Bool) (ct : Content) (bs : Blocks) (xe ye : Nat) : Rgba :=
  let (xa, xb, fx, ya, yb, fy) := overlayTaps flat ct xe ye
  blend4 (tapValue ct bs xa ya) (tapValue ct bs xb ya) (tapValue ct bs xa yb) (tapValue ct bs xb yb) fx fy

/-- The composed value over a ray value (R231). -/
def composeOver (c : Committed) (overlays : List (Content × Blocks)) (xe ye : Nat) (ray : Rgba) : Rgba :=
  let flat := is2D c (xe / 24) (ye / 12)
  let acc := overlays.foldl (fun (k : Acc) o =>
    if inDest o.1 (xe / 24) (ye / 12) then k.over (overlaySample flat o.1 o.2 xe ye) else k) {}
  let f (x v : Nat) : Nat := min 0xFFFF (x + (acc.t * v + 0x8000) / 65536)
  { r := f acc.r ray.r, g := f acc.g ray.g, b := f acc.b ray.b }

/-- The sample of a protected image over black; outside its destination black (R288, R295). -/
def imageSample (c : Committed) (img : Content × Blocks) (xe ye : Nat) : Rgba := composeOver c [img] xe ye {}

/-! ### Tap rectangles (R197, R204, R205) -/

/-- The tap rectangle, in stored positions and clipped, of hogel columns `h0` to `h1` and rows `r0` to `r1`. -/
def tapRect (c : Committed) (ct : Content) (h0 h1 r0 r1 : Nat) : Option (Nat × Nat × Nat × Nat) :=
  let sxs := (viewTable c).map (·.1)
  let sys := (viewTable c).map (·.2)
  let lo (xs : List Int) : Int := xs.foldl min (xs.headD 0)
  let hi (xs : List Int) : Int := xs.foldl max (xs.headD 0)
  let t (h : Nat) (sl : Int) : Int := (tapOf (pos3D h ct.depth sl) ct.ls).1
  let ex (xe : Nat) : Int := (tapOf (pos2Dx xe) ct.ls).1
  let ey (ye : Nat) : Int := (tapOf (pos2Dy ye) ct.ls).1
  let xl := lo [t h0 (lo sxs), t h0 (hi sxs), ex (24 * h0)] - ct.ox
  let xh := hi [t h1 (lo sxs), t h1 (hi sxs), ex (24 * h1 + 23)] + 1 - ct.ox
  let yl := lo [t r0 (lo sys), t r0 (hi sys), ey (12 * r0)] - ct.oy
  let yh := hi [t r1 (lo sys), t r1 (hi sys), ey (12 * r1 + 11)] + 1 - ct.oy
  if xh < 0 ∨ yh < 0 ∨ (ct.w : Int) ≤ xl ∨ (ct.h : Int) ≤ yl then none
  else some ((max 0 xl).toNat, (min xh (ct.w - 1 : Nat)).toNat, (max 0 yl).toNat, (min yh (ct.h - 1 : Nat)).toNat)

/-- Blocks of a stored rectangle. -/
def rectBlocks (ct : Content) (q : Nat × Nat × Nat × Nat) : List Nat :=
  let (xl, xh, yl, yh) := q
  ((List.range (yh / 64 + 1 - yl / 64)).map fun j =>
    (List.range (xh / 64 + 1 - xl / 64)).map fun i => (yl / 64 + j) * (ct.w / 64) + xl / 64 + i).flatten

/-- Occupied blocks of a plane in the footprint of patch `p` of strip `s` (R205). -/
def footprintBlocks (c : Committed) (ct : Content) (strip patch : Nat) : List Nat :=
  match tapRect c ct (80 * patch) (80 * patch + 79) (2 * strip) (2 * strip + 1) with
  | none => []
  | some q => (rectBlocks ct q).filter fun b => cellsOf ct b != 0

/-- An occupied cell meets a stored rectangle. -/
def cellMeets (ct : Content) (q : Nat × Nat × Nat × Nat) : Bool :=
  let (xl, xh, yl, yh) := q
  (rectBlocks ct q).any fun b =>
    let bx := b % (ct.w / 64) * 64
    let by' := b / (ct.w / 64) * 64
    (List.range 16).any fun k =>
      hasBit (cellsOf ct b) k && decide (bx + k % 4 * 16 ≤ xh) && decide (xl ≤ bx + k % 4 * 16 + 15) &&
        decide (by' + k / 4 * 16 ≤ yh) && decide (yl ≤ by' + k / 4 * 16 + 15)

/-- Blocks that an overlay's taps reach in a patch (R230). -/
def overlayBlocks (c : Committed) (ct : Content) (strip patch : Nat) : List Nat :=
  let es := (List.range 46080).map fun i => (1920 * patch + i % 1920, 24 * strip + i / 1920)
  let bs := (es.filter fun e => inDest ct (e.1 / 24) (e.2 / 12)).map fun e =>
    let (xa, xb, _, ya, yb, _) := overlayTaps (is2D c (e.1 / 24) (e.2 / 12)) ct e.1 e.2
    [(xa, ya), (xb, ya), (xa, yb), (xb, yb)].map fun q => q.2 / 64 * (ct.w / 64) + q.1 / 64
  (bs.flatten.filter fun b => cellsOf ct b != 0).eraseDups

/-! ### Plane-store groups (R126 to R132, R140, R141, R259) -/

/-- HBM offset of the group that holds the content for calends `n` (R132). -/
def groupBase (n : Nat) : Nat := if n % 2 = 0 then 0 else 0x200000000

/-- Group offset of a slot: a layer's own, or hold slot `slot` − 1 (R126, R259). -/
def slotOffset (layer slot : Nat) : Nat :=
  if slot = 0 then layer * 0x0C400000 else 0x188000000 + (slot - 1) * 0x0C400000

/-- One of the accesses of `len` bytes at address `a` of PC`i` is uncorrectable. -/
def bytesBad (s : State) (i a len : Nat) : Bool :=
  s.dev.memory.bad.any fun x => decide (accessOf i a ≤ x) && decide (x ≤ accessOf i (a + len - 1))

/-- Bytes from HBM offset `off`, all within one 4 KiB unit, as copy `k` of the unit gives them; none where it has
failed or gives no good data (R672). -/
def copyBytes (s : State) (off len k : Nat) : Option (List Byte) :=
  match place s off with
  | none => none
  | some p => match p.copies[k]? with
    | none => none
    | some pc =>
      if pcFailed s pc || bytesBad s pc p.addr len then none else some (cellsGet s.hbm (pc * pcSize + p.addr) len)

/-- A block descriptor's CHECK matches under a fold (R131). -/
def descGood (d : List Byte) (fold : Nat) : Bool :=
  d.length == 16 && fieldLE d 12 4 == crc32c (fold % 2 ^ 32) (d.take 12)

/-- A block descriptor (R131): its 16 bytes. -/
def descBytes (lease : Nat) (occ : Bool) (cells count frame fold : Nat) : List Byte :=
  let body := natLE lease 2 ++ natLE (ofBool occ) 2 ++ natLE cells 2 ++ natLE count 2 ++ natLE frame 4
  body ++ natLE (crc32c (fold % 2 ^ 32) body) 4

/-- Bytes of one 4 KiB unit from either copy, the first that can be read (R43). -/
def unitBytes (s : State) (off len : Nat) : Option (List Byte) := (copyBytes s off len 0).or (copyBytes s off len 1)

/-- What a fetch gives when it reads copy `k` of the descriptor of block `b` of a layer's slot under a lease: the index
tile and the palette slot, each from either copy of its own unit (R43, R140, R141). -/
def blockCopy (s : State) (count layer slot lease b k : Nat) : Option (List Byte × List Byte) :=
  let g := slotOffset layer slot
  let base := groupBase count + g
  match copyBytes s (base + 16 * b) 16 k with
  | none => none
  | some d =>
    if descGood d (g + 16 * b) && fieldLE d 0 2 == lease then
      match unitBytes s (base + 0x4200000 + 4096 * b) 4096, unitBytes s (base + 0x100000 + 2048 * b) 2048 with
      | some t, some p => some (t, p)
      | _, _ => none
    else none

/-- The pseudo-channel of copy `k` of a block's descriptor. -/
def descriptorPc (s : State) (count layer slot b k : Nat) : Option Nat :=
  (place s (groupBase count + slotOffset layer slot + 16 * b)).bind fun p => p.copies[k]?

/-- A read of bytes within one 4 KiB unit whose first copy gives no good data and whose second does: the event is
counted on the first copy, which is rewritten from the second unless it has failed (R672). -/
def mirrorRead (off len : Nat) (s : State) : State :=
  let at' := off / 32 * 32
  let n := (off % 32 + len + 31) / 32 * 32
  match (place s off).map (·.copies), copyBytes s off len 0, copyBytes s at' n 1 with
  | some (i :: _), none, some bs =>
    let s := s.bump (0x5000 + i) 7
    if pcFailed s i then s else hbmWrite at' bs s
  | _, _, _ => s

/-- The index tile and the palette slot of a block are read, each under R672. -/
def tileMirrors (count layer slot b : Nat) (s : State) : State :=
  let base := groupBase count + slotOffset layer slot
  mirrorRead (base + 0x100000 + 2048 * b) 2048 (mirrorRead (base + 0x4200000 + 4096 * b) 4096 s)

/-- A memory fault is counted on the first copy of a block whose descriptor its mirror has served (R141): one that cannot
be read is counted and rewritten under R672. -/
def mirrorServed (count layer slot b : Nat) (s : State) : State :=
  let off := groupBase count + slotOffset layer slot + 16 * b
  if (copyBytes s off 16 0).isNone then mirrorRead off 16 s
  else match descriptorPc s count layer slot b 0 with
    | some i => s.bump (0x5000 + i) 7
    | none => s

/-- A block of a layer that a patch has fetched: from the window store of a cluster that works on the patch, or the
window cache (R144, R207, R208). -/
def cachedBlock (s : State) (q : Patch) (layer lease b : Nat) : Option (List Byte × List Byte) :=
  let g := q.count % 2
  let held := (s.dev.synth.stores.map (·.2)).flatten.find? fun w =>
    w.layer == layer && w.group == g && w.block == b && w.lease == lease && w.pins.contains q
  match held with
  | some w => some (w.tile, w.palette)
  | none =>
    (s.dev.synth.cache.find? fun e => e.layer == layer && e.group == g && e.block == b && e.lease == lease).map
      fun e => (e.tile, e.palette)

/-- The descriptor that was fetched with a block of a layer. -/
def cachedDescriptor (s : State) (q : Patch) (layer lease b : Nat) : Option (List Byte) :=
  let g := q.count % 2
  let held := (s.dev.synth.stores.map (·.2)).flatten.find? fun w =>
    w.layer == layer && w.group == g && w.block == b && w.lease == lease && w.pins.contains q
  match held with
  | some w => some w.descriptor
  | none =>
    (s.dev.synth.cache.find? fun e => e.layer == layer && e.group == g && e.block == b && e.lease == lease).map
      (·.descriptor)

/-- A block of a layer as a patch reads it: fetched before, or the first copy that passes (R141). -/
def fetchBlock (s : State) (q : Patch) (layer slot lease b : Nat) : Option (List Byte × List Byte) :=
  (cachedBlock s q layer lease b).or
    ((blockCopy s q.count layer slot lease b 0).or (blockCopy s q.count layer slot lease b 1))

/-! ### The protected store (R275 to R281) -/

/-- HBM offset of protected slot `k`. -/
def protectedBase (k : Nat) : Nat := 0x740000000 + k * 0x1000000

/-- What a read gives of block `b` of protected slot `k` from copy `j` of its descriptor (R277, R281). -/
def protectedCopy (s : State) (k b j : Nat) : Option (List Byte × List Byte) :=
  let base := protectedBase k
  match copyBytes s (base + 0x10000 + 16 * b) 16 j with
  | none => none
  | some d =>
    if descGood d (k * 0x1000000 + 0x10000 + 16 * b) then
      match unitBytes s (base + 0x420000 + 4096 * b) 4096, unitBytes s (base + 0x20000 + 2048 * b) 2048 with
      | some t, some p => some (t, p)
      | _, _ => none
    else none

/-- A protected slot's definition and its blocks, without those that fail on both copies; none when it is invalid. -/
def protectedImage (s : State) (k : Nat) : Option (Content × Blocks) :=
  (amGet s.dev.protectedDefs k).map fun ct =>
    (ct, (ct.occ.filter fun o => !s.dev.synth.protectedBad.contains (k, o.1)).filterMap fun o =>
      ((protectedCopy s k o.1 0).or (protectedCopy s k o.1 1)).map fun x => (o.1, x))

/-! ### Regions (R282 to R290) -/

/-- Hogel (hx, hy) lies in region `r`'s rectangle, and view (u, v) is in its mask (R283). -/
def inRegion (c : Committed) (r xe ye : Nat) : Bool :=
  let org := c.obj (0x3100 + r) 2
  let size := c.obj (0x3100 + r) 3
  let hx0 := bits org 11 0
  let hy0 := bits org 27 16
  let hx := xe / 24
  let hy := ye / 12
  decide (hx0 ≤ hx) && decide (hx < hx0 + bits size 11 0) && decide (hy0 ≤ hy) && decide (hy < hy0 + bits size 27 16) &&
    hasBit (c.obj (0x3100 + r) 4) (24 * (ye % 12) + xe % 24)

/-- A region's action applies in the frame of count `n` (R289, R290): it was active and has not ended, or it has
started, again perhaps after its end. -/
def Region.acts (x : Region) (n : Nat) : Bool :=
  let open' := x.endAt.all (decide <| n < ·)
  (x.active && open') || x.startAt.any fun a => decide (a ≤ n) && (open' || x.endAt.any (decide <| · < a))

def regionActs (s : State) (r n : Nat) : Bool := (s.region r).acts n

/-- The composed value after the actions of the regions (R288); the higher-numbered region is taken last. -/
def regionValue (s : State) (c : Committed) (n xe ye : Nat) (v : Rgba) : Rgba :=
  (List.range 16).foldl (fun w r =>
    let action := c.obj (0x3100 + r) 1
    if decide (2 ≤ action) && regionActs s r n && inRegion c r xe ye then
      if action = 2 then
        match protectedImage s (4 + r) with
        | some img => imageSample c img xe ye
        | none => {}
      else {}
    else w) v

/-! ### A patch -/

/-- A patch of the frame of count `n`: the committed state it uses (R201). -/
def stateOf (s : State) (n : Nat) : Committed :=
  if n = s.dev.timing.count then s.dev.live else s.dev.captured.getD s.dev.live

/-- Blocks of a layer for a patch, fetched under its lease; a transparent layer has none. -/
def layerBlocks (s : State) (c : Committed) (q : Patch) (j : Nat) (need : List Nat) : Blocks :=
  if s.dev.synth.transparent.contains (j, q) then []
  else
    let l := amGetD c.layers j {}
    need.filterMap fun b => (fetchBlock s q j l.slot l.lease b).map fun x => (b, x)

/-- Blocks that a patch needs of layer `j`. -/
def neededBlocks (c : Committed) (q : Patch) (j : Nat) (ct : Content) : List Nat :=
  if j < 16 then footprintBlocks c ct q.strip q.patch else overlayBlocks c ct q.strip q.patch

/-- The composed value of emitter (xe, ye) in a normal frame. -/
def composed (c : Committed) (planes overlays : List (Content × Blocks)) (xe ye : Nat) : Rgba :=
  let a := composite (c.obj 0x2110 1) {} (planes.map fun p => planeSample c p.1 p.2 xe ye)
  composeOver c overlays xe ye { r := a.r, g := a.g, b := a.b, a := min 0xFFFF (0x10000 - a.t) }

/-- The ROM pictogram at a hogel (R298, R848). -/
def pictogram (hx hy : Nat) : Rgba :=
  { r := Config.romPictogram hx hy 0 % 65536, g := Config.romPictogram hx hy 1 % 65536
    b := Config.romPictogram hx hy 2 % 65536 }

/-- The safety image that a committed state shows; none for the ROM pictogram (R297, R298). -/
def shownImage (s : State) (c : Committed) : Option (Content × Blocks) :=
  if c.image < 4 then protectedImage s c.image else none

/-- The safety content at an emitter (R295, R298). -/
def safetyValue (c : Committed) (img : Option (Content × Blocks)) (xe ye : Nat) : Rgba :=
  match img with
  | some i => imageSample c i xe ye
  | none => pictogram (xe / 24) (ye / 12)

/-- The composed values of a patch by line and column (R233): 24 lines of 1,920. -/
def patchValues (s : State) (q : Patch) : List (List Rgba) :=
  let c := stateOf s q.count
  let blocks (v : Nat × Content) : Content × Blocks := (v.2, layerBlocks s c q v.1 (neededBlocks c q v.1 v.2))
  let planes := (visitedPlanes c).map blocks
  let overlays := (visibleOverlays c).map blocks
  let img := shownImage s c
  (List.range 24).map fun l => (List.range 1920).map fun x =>
    let xe := 1920 * q.patch + x
    let ye := 24 * q.strip + l
    if c.safety then safetyValue c img xe ye else composed c planes overlays xe ye

end Sys2Proof.Machine
end

