-- ==== Sys2Proof/Machine/Host.lean ====
section
/-!
DEFINITION. The PCI Express function: resets, BAR2, DMA windows and queue administration (R576 to R596).
-/
namespace Sys2Proof.Machine

/-! ### Resets and the link (R577 to R580) -/

/-- Device ID and class code of the function (R576). -/
def deviceId (s : State) : Nat := partCode s % 65536
def classCode : Nat := 0x038000

/-- BAR2 takes a size of `gib` GiB (R576, R581, R636). -/
def bar2Resize (gib : Nat) (s : State) : State := s.setReg 0x1240 6 gib

/-- The function, every queue and every DMA window are reset; the completions that wait are dropped and counted. A
queue keeps its generation, so that no completion of an earlier one reaches a later ring (DEDUCED, log 33). -/
def functionReset (s : State) : State :=
  let lost := s.dev.host.overflow.length
  let s := bar2Resize 1 (s.bump 0x1241 7 lost)
  let s := s.setReg 0x1241 6 0
  modHost (fun h =>
    { h with aperture := 0, wcmDone := 0, markers := [], doorbells := [], serving := none, windows := [], overflow := [], cache := []
             admin := 0, adminStatus := 0, adminError := 0, adminGen := 0
             queues := h.queues.map fun q => (q.1, { gen := q.2.gen }) }) s

/-- The link is down. -/
def linkDown (s : State) : State := modHost (fun h => { h with linkUp := false }) ((s.setReg 0x1240 1 0).setReg 0x1240 2 0)

/-- PERST_N low: the function is reset, and its domain is off (R754). -/
def perst (s : State) : State := domainOff 28 (linkDown (functionReset s))

/-- The link trains at a speed code and a width (R577, R754); training while it is up is a retrain. -/
def linkTrained (speed width : Nat) (s : State) : State :=
  let s := s.iff s.dev.host.linkUp (·.bump 0x1240 3)
  modHost (fun h => { h with linkUp := true }) (domainOn 28 ((s.setReg 0x1240 1 speed).setReg 0x1240 2 width))

/-! ### BAR2 (R583, R587) -/

/-- Bytes of BAR2. -/
def bar2Size (s : State) : Nat := s.reg 0x1240 6 * 0x40000000

/-- HBM offset of a BAR2 offset; the aperture's bits below the size are taken as 0 (R583). -/
def bar2Offset (s : State) (off : Nat) : Nat :=
  let n := max 1 (bar2Size s)
  s.dev.host.aperture / n * n + off

/-- The range lies on a management pseudo-channel. -/
def onManagement (s : State) (a : Nat) : Bool := (place s a).any fun p => p.copies.any fun i => pcOwner i == 5

/-- A write request of BAR2 (R587); one to a reserved offset or to a failed pseudo-channel is dropped (R641, R675). -/
def bar2Write (off : Nat) (data : List Byte) (s : State) : State :=
  if 4096 < off % 4096 + data.length ∨ bar2Size s < off + data.length then s
  else
    let a := bar2Offset s off
    let lost := (place s a).all fun p => p.copies.all (pcFailed s)
    if !inWindow s 16 a data.length || onManagement s a || lost then s.bump 0x1241 8
    else hbmStore 44 a data s

/-- A range is read unit by unit; a unit whose first copy gives no good data is served by the other (R672). -/
def mirrorReads (off len : Nat) (s : State) : State :=
  s.each (List.range ((off % 4096 + len + 4095) / 4096)) fun u t =>
    let lo := max off (off / 4096 * 4096 + 4096 * u)
    mirrorRead lo (min (off + len) (off / 4096 * 4096 + 4096 * (u + 1)) - lo) t

/-- A read of BAR2: reserved offsets give zeros; data with no good copy come back poisoned, and AER reports it (R673;
the counter is DEDUCED, log 154). -/
def bar2Read (off len : Nat) (s : State) : State :=
  let a := bar2Offset s off
  let byte (i : Nat) : Option Byte := if (place s (a + i)).isNone then some 0 else hbmByte s (a + i)
  let bs := (List.range len).map byte
  let s := s.iff (bs.any (·.isNone)) (·.bump 0x1240 5)
  modHost (fun h => { h with answer := bs.map (·.getD 0), poisoned := bs.any (·.isNone) })
    (mirrorReads a len (hbmAsk 45 false a len s))

/-! ### DMA windows (R585, R586) -/

/-- A write of field 0 BASE, 1 LIMIT or 2 ENABLE and LOCK of window `n`; a locked window is read-only. -/
def windowWrite (n field value : Nat) (s : State) : State :=
  let w := s.window n
  if w.lock then hostViolation none s
  else
    let v := value % 2 ^ 64
    let w := match field with
      | 0 => { w with base := v / 4096 * 4096 }
      | 1 => { w with limit := v / 4096 * 4096 + 0xFFF }
      | _ => { w with enable := hasBit value 0, lock := hasBit value 1 }
    modHost (fun h => { h with windows := amPut h.windows n w }) s

/-! ### Queue administration (R590 to R594) -/

/-- The fields of the administration block. -/
def adminField (s : State) (hi lo : Nat) : Nat := bits s.dev.host.admin hi lo

/-- A command's result. -/
def adminDone (error q : Nat) (s : State) : State :=
  modHost (fun h =>
    { h with adminStatus := if error = 0 then 2 else 3, adminError := error, adminGen := (amGetD h.queues q {}).gen }) s

/-- What CREATE finds, as ERROR. -/
def createError (s : State) : Nat :=
  let q := adminField s 19 0
  let typ := adminField s 35 32
  let k := adminField s 40 36
  let ring := adminField s 127 64
  let bytes := 2 ^ k * if typ = 4 then 16 else 64
  if (s.queue q).typ ≠ 0 then 1
  else if typ = 0 ∨ 4 < typ ∨ k < 4 ∨ 16 < k ∨ (typ = 4 ∧ 2046 < adminField s 51 41) ∨ ring % 4096 ≠ 0 then 2
  else if !inWindow s (if typ = 4 then 0 else 16) ring bytes then 3
  else if typ ≠ 4 ∧ (s.queue (adminField s 147 128)).typ ≠ 4 then 4
  else 0

/-- CREATE (R592, R593). -/
def queueCreate (s : State) : State :=
  let q := adminField s 19 0
  let error := createError s
  let s := if error ≠ 0 then s
    else modQueue q (fun c =>
      { c with typ := adminField s 35 32, state := 1, gen := (c.gen + 1) % 256, sizeLog2 := adminField s 40 36, head := 0
               tail := 0, ring := adminField s 127 64, cq := adminField s 147 128, vector := adminField s 51 41, seq := none
               messaged := false }) s
  adminDone error q s

/-- What DELETE finds, as ERROR. -/
def deleteError (s : State) : Nat :=
  let q := adminField s 19 0
  if (s.queue q).typ = 0 then 1
  else if (s.queue q).typ = 4 && s.dev.host.queues.any fun x => decide (1 ≤ x.2.typ) && decide (x.2.typ ≤ 3) && x.2.cq == q then 5
  else 0

/-- DELETE (R592, R594). -/
def queueDelete (s : State) : State :=
  let q := adminField s 19 0
  let error := deleteError s
  let s := if error ≠ 0 then s
    else
      let s := s.iff ((s.queue q).state == 2) fun t => t.setReg 0x1241 6 (t.reg 0x1241 6 - 1)
      let lost := (s.dev.host.overflow.filter fun e => e.1 == q).length
      let s := modHost (fun h => { h with overflow := h.overflow.filter fun e => e.1 != q }) (s.bump 0x1241 7 lost)
      engineNext q (modQueue q (fun c => { gen := c.gen }) s)
  adminDone error q s

/-! ### Commands -/

/-- PERST (R578). -/
def execPerst (s : State) : Out := run .perst (onDev [.od, .host] perst s)

/-- FLR (R579). -/
def execFlr (s : State) : Out := run .flr (onDev [.od, .host] functionReset s)

/-- BAR2_WRITE (R587). -/
def execBar2Write (off : Nat) (data : List Byte) (s : State) : Out :=
  run (.bar2Write off data) (onMem [.od, .memory] (bar2Write off data) s)

/-- BAR2_READ (R587). -/
def execBar2Read (off len : Nat) (s : State) : Out :=
  run (.bar2Read off len) (onMem [.od, .host, .memory] (bar2Read off len) s)

/-- WCM_REQUEST (R584). -/
def execWcmRequest (s : State) : Out :=
  run .wcmRequest (onDev [.host] (modHost fun h => { h with markers := h.markers ++ [.wcm] }) s)

/-- DMA_WINDOW_WRITE (R585). -/
def execDmaWindowWrite (n field value : Nat) (s : State) : Out :=
  run (.dmaWindowWrite n field value) (onDev [.od, .host, .events, .eventBuffer, .eventMessages] (windowWrite n
      field value) s)

/-- QUEUE_CREATE (R593). -/
def execQueueCreate (s : State) : Out := run .queueCreate (onDev [.host] queueCreate s)

/-- QUEUE_DELETE (R594). -/
def execQueueDelete (s : State) : Out :=
  run .queueDelete (onDev [.od, .timing, .host, .events, .eventBuffer, .eventMessages] queueDelete s)

/-- A violation that no other command shows; a poisoned write is dropped, and AER reports it too (R634, R636). -/
def violation (v : Violation) (s : State) : State :=
  hostViolation v.queue (s.iff v.poisoned (·.bump 0x1240 5))

/-- HOST_VIOLATION (R635). -/
def execHostViolation (v : Violation) (s : State) : Out :=
  run (.hostViolation v) (onDev [.od, .host, .events, .eventBuffer, .eventMessages] (violation v) s)

/-- PCIE_LINK_TRAINED (R577). -/
def execPcieLinkTrained (speed width : Nat) (s : State) : Out :=
  run (.pcieLinkTrained speed width) (onDev [.od, .host] (linkTrained speed width) s)

/-- PCIE_LINK_DOWN (R580). -/
def execPcieLinkDown (s : State) : Out := run .pcieLinkDown (onDev [.od, .host] linkDown s)

end Sys2Proof.Machine
end

