-- ==== Sys2Proof/Machine/Hbm.lean ====
section
/-!
DEFINITION. The stacks and their pseudo-channels: training, refresh, self-refresh, errors, the patrol scrub
(R656 to R676).
-/
namespace Sys2Proof.Machine

/-- A delay of byte lane `k` (0 to 3) of PC`i` at subindex `sub` moves to `v`. -/
def setLane (i sub k v : Nat) (s : State) : State :=
  let old := s.reg (0x5000 + i) sub
  s.setReg (0x5000 + i) sub (old - (old >>> (8 * k)) % 256 * 2 ^ (8 * k) + v % 256 * 2 ^ (8 * k))

/-- The delay moves one step away from the side that fails; two failing sides are a margin event (R660). -/
def readDelayCheck (lane : Nat) (lowBad highBad : Bool) (s : State) : State :=
  let i := lane / 4
  let d := (s.reg (0x5000 + i) 0x0A >>> (8 * (lane % 4))) % 256
  match lowBad, highBad with
  | true, true => logEvent 660 1 (0x5000 + i) 0 (lane % 4) s
  | true, false => (setLane i 0x0A (lane % 4) (min 63 (d + 1)) s).bump (0x5000 + i) 0x0F
  | false, true => (setLane i 0x0A (lane % 4) (d - 1) s).bump (0x5000 + i) 0x0F
  | false, false => s

/-- A refresh falls due on PC`i`; `busy` says that requests of class 2 or 3 wait, beside those of this model (R661, R663).
One that is not postponed is issued, and the owed ones with it when no request of any class waits, or when the limit of
postponement is reached (DEDUCED, log 200). -/
def refreshDue (i : Nat) (busy : Bool) (s : State) : State :=
  let owed := s.reg (0x5000 + i) 4
  let busy := busy || pcUrgent s i
  let s := s.iff (s.reg (0x5000 + i) 1 == 1) (closeRows i)
  if s.reg (0x5000 + i) 1 ≠ 1 then s
  else if busy = true ∧ owed < 8 ∧ s.reg (0x5080 + i / 32) 2 ≠ 2 then s.setReg (0x5000 + i) 4 (owed + 1)
  else if busy = false ∧ (s.pc i).waiting ≠ [] then s
  else s.setReg (0x5000 + i) 4 0

/-- The pseudo-channels of stack `k`. -/
def pcsOfStack (k : Nat) : List Nat := (List.range 32).map (32 * k + ·)

/-- A stack reports its temperature in °C, or its read fails and counts as 95 °C (R661, R662, R664). -/
def stackTemperature (k : Nat) (temp : Option Int) (s : State) : State :=
  let s := if temp.isNone then logEvent 662 1 (0x5080 + k) 0 0 (s.bump (0x5080 + k) 4) else s
  let t := temp.getD 95
  let since := if t ≤ 83 then some ((amGetD s.dev.memory.coolSince k none).getD s.now) else none
  let s := modMemory (fun m => { m with coolSince := amPut m.coolSince k since }) s
  let doubled := s.reg (0x5080 + k) 2 ≠ 0
  let s := s.setReg (0x5080 + k) 1 (ofSigned 16 t)
  if 85 ≤ t then
    let s := s.setReg (0x5080 + k) 2 (if 95 < t then 2 else 1)
    if doubled then s
    else
      (s.bump (0x5080 + k) 3).each (pcsOfStack k) fun i u =>
        closeRows i ((u.setReg (0x5000 + i) 3 1950).setReg (0x5000 + i) 4 0)
  else if doubled then
    match since with
    | some t0 =>
      if t0 + 1000000000000 ≤ s.now then
        (s.setReg (0x5080 + k) 2 0).each (pcsOfStack k) fun i u => u.setReg (0x5000 + i) 3 3900
      else s.setReg (0x5080 + k) 2 1
    | none => s.setReg (0x5080 + k) 2 1
  else s

/-- R667: whether PC`i`'s owner lets it enter self-refresh now. No cluster is dispatched in FROZEN, and from the eve that
captures its end on one may be (R172, R670). -/
def selfRefreshAllowed (s : State) (i : Nat) : Bool :=
  match pcOwner i with
  | 0 | 1 => s.reg 0x2040 2 == 2 && s.dev.synth.running.isEmpty && s.dev.captured.all (·.frozen)
  | 2 => s.dev.timing.inHold
  | 5 => false
  | _ => true

/-- PC`i` has been idle for the entry delay of 0x5090:03 (R667): no request waits, and none has come within it. -/
def pcIdle (s : State) (i : Nat) : Bool :=
  (s.pc i).waiting.isEmpty && decide ((s.pc i).usedAt + s.reg 0x5090 3 * 1000000 ≤ s.now)

/-- PC`i` has been idle for the entry delay: it begins entering, its postponed refreshes issued; when it is entering
already, the entry command is issued (R668). -/
def selfRefreshEntry (i : Nat) (s : State) : State :=
  match s.reg (0x5000 + i) 1 with
  | 1 => if selfRefreshAllowed s i && pcIdle s i then closeRows i ((s.setReg (0x5000 + i) 1 2).setReg (0x5000 + i) 4 0) else s
  | 2 => (s.setReg (0x5000 + i) 1 3).bump (0x5000 + i) 8
  | _ => s

/-- The exit time has passed: active again, the requests that wait are served, and refresh has a fresh interval (R668). -/
def selfRefreshExitDone (i : Nat) (s : State) : State :=
  if s.reg (0x5000 + i) 1 = 4 then
    let s := (s.setReg (0x5000 + i) 1 1).setReg (0x5000 + i) 4 0
    pcServeWaiting i (s.pc i).waiting.length s
  else s

/-- The mirror answers: good data rewrite the failing copy and are counted; bad data return poisoned (R672, R673). -/
def mirrorReadComplete (i a : Nat) (good : Bool) (s : State) : State :=
  if !s.dev.memory.mirrorReads.contains (i, a) then s
  else
    let s := modMemory (fun m => { m with mirrorReads := m.mirrorReads.erase (i, a) }) s
    if good then
      let from' := pcMate i * pcSize + a / 32 * 32
      let bs := cellsGet s.hbm from' 32
      let s := if pcFailed s i then s else
        modMemory (fun m => { m with bad := m.bad.filter (· != accessOf i a) })
          { s with hbm := cellsPut s.hbm (i * pcSize + a / 32 * 32) bs }
      logEvent 672 1 (0x5000 + i) 0 (a % 2 ^ 32) (s.bump (0x5000 + i) 7)
    else markBad i a (markBad (pcMate i) a ((pcUncorrectable (pcMate i) s).bump (0x5000 + i) 6))

/-- 4 KiB units of a pseudo-channel. -/
def unitsPerPc : Nat := pcSize / 4096

/-- Unit `n` of the scrub is no owner's and no guest's: the controller scratch of a management pseudo-channel (R642,
R676). -/
def isScratch (s : State) (n : Nat) : Bool :=
  pcOwner (n / unitsPerPc) == 5 && decide (ownerSize s 5 ≤ n % unitsPerPc * 4096)

/-- The unit that the scrub reads after unit `n`. -/
def scrubAfter (s : State) (n : Nat) : Nat :=
  (if isScratch s (n + 1) then ((n + 1) / unitsPerPc + 1) * unitsPerPc else n + 1) % (nPcs s * unitsPerPc)

/-- The patrol scrub reads the next unit (R676). A mirrored unit on a failed pseudo-channel is read from the other
copy, and counted (R672); another on a failed one is passed over. -/
def patrolScrub (single uncorrectable : Bool) (s : State) : State :=
  if s.reg 0x5090 4 = 0 then s
  else
    let n := s.dev.memory.scrub
    let i := n / unitsPerPc
    let a := n % unitsPerPc * 4096
    let s := modMemory (fun m => { m with scrub := scrubAfter s n }) s
    if pcFailed s i then
      if mirroredAt s i a && !pcFailed s (pcMate i) then (pcRequest 54 (pcMate i) a s).bump (0x5000 + i) 7 else s
    else
      let s := pcRequest 54 i a s
      let s := s.iff single (·.bump (0x5000 + i) 5)
      s.iff uncorrectable (readError i a)

/-- 16 command-parity errors within 1 s fail the pseudo-channel (R674). -/
def commandParity (i : Nat) (s : State) : State :=
  let ts := s.now :: within1s s.now (s.pc i).parity
  let s := modPc i (fun p => { p with parity := ts }) s
  if 16 ≤ ts.length then pcFail i 3 s else s

/-- A failed control interface fails the stack's 32 pseudo-channels (R674). -/
def stackControlFailure (k : Nat) (s : State) : State := s.each (pcsOfStack k) (pcFail · 4)

/-- A passing window of a lane that does not fail its pseudo-channel, 8 to 64 steps wide within the 64, from two free
numbers: the delay in its middle, and its width (R657, R658). -/
def laneWindow (first width : Nat) : Nat × Nat :=
  let w := 8 + width % 57
  let a := first % (65 - w)
  ((a + (a + w - 1)) / 2, w)

/-- A window that stays narrower than 8 steps, from two free numbers: the middle of it, and its width (R657, R658). -/
def narrowWindow (first width : Nat) : Nat × Nat :=
  let w := width % 8
  let a := first % (65 - w)
  ((a + (a + w - 1)) / 2, w)

/-- Training leaves delays, widths and lane repairs on PC`i`; which ones is free (log 7). One that fails has a lane
whose read window is narrower than 8 steps although it was repaired (R657, R658). -/
def trainPc (i : Nat) (fails : Bool) (s : State) : State :=
  let t := (List.range 4).map fun k => Config.laneTraining (4 * i + k)
  let bad (k : Nat) : Bool := fails && k == Config.trainingLane i % 4
  let rd := (List.range 4).map fun k =>
    let x := t.getD k (0, 0, 0, 0, false)
    if bad k then narrowWindow x.1 x.2.1 else laneWindow x.1 x.2.1
  let wr := t.map fun x => laneWindow x.2.2.1 x.2.2.2.1
  let s := s.setReg (0x5000 + i) 0x0A (leNat (rd.map fun x => BitVec.ofNat 8 x.1))
  let s := s.setReg (0x5000 + i) 0x0B (leNat (wr.map fun x => BitVec.ofNat 8 x.1))
  let s := s.setReg (0x5000 + i) 0x0C
    (leNat (List.zipWith (fun r w => [BitVec.ofNat 8 r.2, BitVec.ofNat 8 w.2]) rd wr).flatten)
  let s := s.setReg (0x5000 + i) 0x0D
    (((List.range 4).filter fun k => bad k || (t.getD k (0, 0, 0, 0, false)).2.2.2.2).foldl (fun b k => b + 2 ^ k) 0)
  if fails then pcFail i 1 s else if pcFailed s i then s else s.setReg (0x5000 + i) 1 1

/-- The events buffered on chip reach the ring (R869). -/
def flushEvents (s : State) : State :=
  s.modDev fun d => 
    { d with events := lastN 65536 (d.events ++ d.eventBuffer), eventBuffer := []
             eventMessages := d.eventMessages + d.eventBuffer.length }

/-- Training that has begun ends (R659): every pseudo-channel is active or failed, the temperature of each stack sets its
refresh interval (R656; what it reads is free, log 7), PCIe leaves Request Retry Status (R850), the
buffered events are written, and the cluster groups and the decoders wake for their self-test (R756, R851). The target
speed of R451 follows from the training state. -/
def trainingComplete (failed : List Nat) (s : State) : State :=
  if s.reg 0x5090 1 ≠ 1 then s
  else
    let s := s.each (List.range (nPcs s)) fun i t => trainPc i (failed.contains i) t
    let s := s.each (List.range (nStacks s)) fun k t => stackTemperature k (some (Config.trainingTemperature k)) t
    let s := s.setReg 0x5090 1 (if s.reg 0x5090 6 = 0 then 2 else 3)
    let s := s.setReg 0x5090 2 ((s.now - s.dev.memory.releasedAt.getD s.now) / 1000000000 % 65536)
    let s := s.each (List.range 26) domainWake
    flushEvents (modHost (fun h => { h with retryStatus := false }) s)

/-- HBM_TRAINING_COMPLETE (R659). -/
def execHbmTrainingComplete (failed : List Nat) (s : State) : Out :=
  run (.hbmTrainingComplete failed) (onDev [.od, .host, .memory, .events, .eventBuffer, .eventMessages] (trainingComplete
      failed) s)

/-- READ_DELAY_CHECK (R660). -/
def execReadDelayCheck (lane : Nat) (lowBad highBad : Bool) (s : State) : Out :=
  runOn (.readDelayCheck lane lowBad highBad) (lane < 4 * nPcs s) s (onDev [.od, .events, .eventBuffer,
      .eventMessages] (readDelayCheck lane lowBad highBad) s)

/-- REFRESH_DUE (R663). -/
def execRefreshDue (pc : Nat) (busy : Bool) (s : State) : Out :=
  runOn (.refreshDue pc busy) (pc < nPcs s) s (onDev [.od, .memory] (refreshDue pc busy) s)

/-- STACK_TEMPERATURE_READ (R662). -/
def execStackTemperatureRead (stack : Nat) (temp : Option Int) (s : State) : Out :=
  runOn (.stackTemperatureRead stack temp) (stack < nStacks s) s (onDev [.od, .memory, .events, .eventBuffer,
      .eventMessages] (stackTemperature stack temp) s)

/-- SELF_REFRESH_ENTRY (R668). -/
def execSelfRefreshEntry (pc : Nat) (s : State) : Out :=
  runOn (.selfRefreshEntry pc) (pc < nPcs s) s (onDev [.od, .memory] (selfRefreshEntry pc) s)

/-- SELF_REFRESH_EXIT_DONE (R668). -/
def execSelfRefreshExitDone (pc : Nat) (s : State) : Out :=
  runOn (.selfRefreshExitDone pc) (pc < nPcs s) s (onDev [.od, .memory] (selfRefreshExitDone pc) s)

/-- HBM_READ_ERROR (R672). -/
def execHbmReadError (pc addr : Nat) (s : State) : Out :=
  runOn (.hbmReadError pc addr) (pc < nPcs s) s (onMem [.od, .memory, .events, .eventBuffer, .eventMessages]
      (readError pc addr) s)

/-- MIRROR_READ_COMPLETE (R672). -/
def execMirrorReadComplete (pc addr : Nat) (good : Bool) (s : State) : Out :=
  runOn (.mirrorReadComplete pc addr good) (pc < nPcs s) s (onMem [.od, .memory, .events, .eventBuffer,
      .eventMessages] (mirrorReadComplete pc addr good) s)

/-- PATROL_SCRUB_STEP (R676). -/
def execPatrolScrubStep (single uncorrectable : Bool) (s : State) : Out :=
  run (.patrolScrubStep single uncorrectable) (onMem [.od, .memory, .events, .eventBuffer, .eventMessages]
      (patrolScrub single uncorrectable) s)

/-- HBM_COMMAND_PARITY_ERROR (R674). -/
def execHbmCommandParityError (pc : Nat) (s : State) : Out :=
  runOn (.hbmCommandParityError pc) (pc < nPcs s) s (onDev [.od, .memory, .events, .eventBuffer, .eventMessages]
      (commandParity pc) s)

/-- STACK_CONTROL_FAILURE (R674). -/
def execStackControlFailure (stack : Nat) (s : State) : Out :=
  runOn (.stackControlFailure stack) (stack < nStacks s) s (onDev [.od, .events, .eventBuffer, .eventMessages]
      (stackControlFailure stack) s)

end Sys2Proof.Machine
end

