-- ==== Sys2Proof/Machine/Lens.lean ====
section
/-!
DEFINITION. The drive die's lens section: bias levels, monostable and bistable drive, the DC-balance monitor, targets
and transitions, the bistable journal, and lens faults (chapter 9).
-/
namespace Sys2Proof.Machine

/-! ### Band tables and levels (R476 to R490) -/

/-- Field of `k` bytes at `off` of the monostable entry of band `b` in table `t` (R486). -/
def monoField (t b off k : Nat) : Nat := (t >>> (8 * (12 * b + off))) % 2 ^ (8 * k)

/-- Field of the bistable entry of band `b` in table `t` (R490). -/
def biField (t b off k : Nat) : Nat := (t >>> (8 * (8 * b + off))) % 2 ^ (8 * k)

/-- The tables in force in the drive; before the first boundary, those of the committed state (R486). -/
def monoTable (s : State) : Nat := if s.dev.lens.mono = 0 then s.com 0x4401 1 else s.dev.lens.mono
def biTable (s : State) : Nat := if s.dev.lens.bi = 0 then s.com 0x4401 2 else s.dev.lens.bi

/-- V4 of the band in force, mV, at the ceiling when it exceeds it (R477, R479). -/
def v4Setting (s : State) : Nat :=
  let b := s.dev.lens.band
  min (if s.dev.lens.bistable then biField (biTable s) b 0 2 else monoField (monoTable s) b 0 2)
    s.ceilings.rec2.lensVoltage

/-- The bias ratio a of the band in force. -/
def biasRatio (s : State) : Nat :=
  let b := s.dev.lens.band
  if s.dev.lens.bistable then biField (biTable s) b 2 1 else monoField (monoTable s) b 2 1

/-- Levels V0 to V4, mV (R476). -/
def biasLevels (s : State) : List Nat :=
  let v := v4Setting s
  let a := biasRatio s
  [v / a, 2 * v / a, (a - 2) * v / a, (a - 1) * v / a, v]

/-- The pump factor that V4 needs at the measured 3.3 V supply, mV (R477). -/
def pumpFactor (v4 v33 : Nat) : Nat := max 2 (min 8 ((10 * v4 + 9 * v33 - 1) / (9 * v33)))

/-- Settle time and overdrive frames of a band (R486, R490). -/
def settleMs (s : State) (b : Nat) : Nat :=
  if s.dev.lens.bistable then biField (biTable s) b 6 2 else monoField (monoTable s) b 10 2
def overdriveFrames (s : State) : Nat := monoField (monoTable s) s.dev.lens.band 8 1

/-- A zone in the ON state of a monostable layer, or of a high-pulse target of a bistable one (R474): `is2D` is its
state. -/
def isHigh (s : State) (is2D : Bool) : Bool := is2D != s.dev.lens.highIs3D

/-- The subslots of its selected slot in which a zone's segment carries the ON level: those of the drive frame or pulse
phase that runs, although its target has changed since (R484, R487, R500). -/
def zoneDuty (s : State) (z : Nat) : Nat :=
  let on := isHigh s (hasBit s.dev.lens.target z)
  match amGet s.dev.lens.held z with
  | some k => k
  | none =>
    if s.dev.lens.bistable then (if on then 16 else 0)
    else
      match amGet s.dev.lens.transitions z with
      | some { overdrive := some (_ + 1), .. } => if on then 16 else 0
      | _ => monoField (monoTable s) s.dev.lens.band (if on then 6 else 7) 1

/-- The level of a common in a slot (R483): selected or not, of either polarity. -/
def commonLevel (s : State) (selected negative : Bool) : Nat :=
  let v := biasLevels s
  if selected then (if negative then 0 else nth v 4) else if negative then nth v 3 else nth v 0

/-- The level of a segment in a subslot (R483). -/
def segmentLevel (s : State) (on negative : Bool) : Nat :=
  let v := biasLevels s
  if on then (if negative then nth v 4 else 0) else if negative then nth v 2 else nth v 1

/-- Inversion mode of the band in force: 0 FRAME, 1 LINE, 2 DOT (R485, R486). -/
def inversionMode (s : State) : Nat := monoField (monoTable s) s.dev.lens.band 3 1

/-- The polarity is turned in half slot `h` of the drive frame by the forced inversions before it (R492). -/
def turnedAt (l : Lens) (h : Nat) : Bool := (l.flips.filter (decide <| · ≤ h)).length % 2 == 1

/-- Polarity of a slot of the drive frame, in DOT that of its first or second half (R485, R492). -/
def slotNegative (s : State) (slot half : Nat) : Bool :=
  let base := s.dev.lens.inverted != turnedAt s.dev.lens (2 * slot + half)
  match inversionMode s with
  | 0 => base
  | 1 => base != (slot % 2 == 1)
  | _ => base != (half == 1)

/-- The half slot of the drive frame that runs at present, 48 once its time is over (R482). -/
def halfSlotNow (s : State) : Nat :=
  min 48 ((s.now - s.dev.lens.phaseAt) * (48 * monoField (monoTable s) s.dev.lens.band 4 2) / 1000000000000)

/-- Where a forced inversion acts: the next slot boundary, in DOT the next half (R492). -/
def nextTurn (s : State) : Nat :=
  let h := halfSlotNow s
  min 48 (if inversionMode s = 2 then h + 1 else 2 * (h / 2 + 1))

/-- Subslot `sub` of 16 carries the ON level under duty `k` (R484, R485). -/
def subslotOn (dot : Bool) (k sub : Nat) : Bool :=
  if dot then (if sub < 8 then decide (sub < (k + 1) / 2) else decide (sub - 8 < k / 2)) else decide (sub < k)

/-- Output `out` (0 to 511 SEG, 512 + c COMc) is held at high impedance (R473, R514). -/
def highImpedance (s : State) (out : Nat) : Bool :=
  s.dev.lens.hiZ.contains out || (halfTile s && decide (256 ≤ out) && decide (out < 512))

/-- Level of an output of a monostable layer in subslot `sub` of slot `slot` of the drive frame, mV: none at high
impedance, ground while the layer is not driven (R482 to R485, R493). -/
def frameLevel (s : State) (out slot sub : Nat) : Option Nat :=
  let neg := slotNegative s slot (sub / 8)
  if highImpedance s out then none
  else if s.dev.lens.bias ≠ 1 ∨ s.dev.lens.onHold then some 0
  else if 512 ≤ out then some (commonLevel s (slot == out - 512) neg)
  else some (segmentLevel s (subslotOn (inversionMode s == 2) (zoneDuty s (512 * slot + out)) sub) neg)

/-- Level of an output of a bistable layer in part `part` of the pulse phase that runs: 0 the positive half, 1 the
negative half, 2 the rest; outside pulse phases it is at ground (R487, R489). -/
def phaseLevel (s : State) (out part : Nat) : Option Nat :=
  if highImpedance s out then none
  else
    match s.dev.lens.phase, s.dev.lens.commons with
    | .pulsing, c :: _ =>
      if 2 ≤ part then some 0
      else if 512 ≤ out then some (commonLevel s (c == out - 512) (part == 1))
      else some (segmentLevel s (decide (0 < zoneDuty s (512 * c + out))) (part == 1))
    | _, _ => some 0

/-- 384 times the square of the RMS value that a zone with duty `k` sees over a drive frame, mV² (R485). -/
def meanSquare384 (v4 a k : Nat) : Nat :=
  k * v4 ^ 2 + (16 - k) * ((a - 2) * v4 / a) ^ 2 + 16 * 23 * (v4 / a) ^ 2

/-! ### Zone maps -/

/-- Every zone of the part and the tile (R473). -/
def zonesHere (s : State) : List Nat :=
  if !hasLens s then [] else (List.range 12288).filter fun z => !halfTile s || decide (z % 512 < 256)

/-- Every zone in 2D. -/
def all2D (s : State) : Nat := (zonesHere s).foldl setBit 0

/-- The committed zone targets of a committed state: in a thermal fault every zone's is 2D (R495, R513). -/
def committedMap (s : State) (c : Committed) : Nat := if c.thermal then all2D s else c.obj 0x4410 1 % 2 ^ 12288

/-- The zone-target map that the drive die is given: the bring-up map, or the committed one (R495, R845). -/
def wantedMap (s : State) : Nat := if s.dev.bringup.bringupMap then all2D s else committedMap s s.dev.live

/-- Zones at which two maps differ. -/
def zonesDiffering (s : State) (a b : Nat) : List Nat := (zonesHere s).filter fun z => hasBit a z != hasBit b z

/-- Commons that hold a zone of a list, as a mask. -/
def commonsOf (zs : List Nat) : Nat := zs.foldl (fun m z => setBit m (z / 512)) 0

/-- Commons of a mask in ascending order. -/
def commonList (m : Nat) : List Nat := (List.range 24).filter (hasBit m)

/-! ### The journal (R502 to R505) -/

/-- Payload of LENS_BEGIN: number, mask of commons, band (DESIGN CHOICE of the places, log 14). -/
def beginPayload (s : State) : List Byte :=
  natLE s.dev.lens.writing 4 ++ natLE s.dev.lens.mask 3 ++ natLE s.dev.lens.band 1

/-- Target bits of half-row (c, h) (R502). -/
def halfRowBits (map c h : Nat) : Nat := (map >>> (512 * c + 256 * h)) % 2 ^ 256

/-- Payload of LENS_ROW (c, h): number and 256 target bits. -/
def rowPayload (s : State) (c h : Nat) : List Byte :=
  natLE s.dev.lens.writing 4 ++ natLE (halfRowBits s.dev.lens.target c h) 32

/-- Zones on their way whose pulse phases are not done, or whose overdrive has not begun. -/
def undone (l : Lens) : List Nat := (l.transitions.filter fun e => e.2.overdrive.isNone).map (·.1)

/-- The latest update starts to run: a status SUPERSEDED of the one before it gives way (R500; DEDUCED, log 188). -/
def updateRuns (s : State) : State := if s.reg 0x4420 2 = 3 then s.setReg 0x4420 2 1 else s

/-- Begin the journal sequence of the latest update, over the commons that hold a zone still to be written (R498, R500,
R502 step 1). -/
def journalStart (s : State) : State :=
  let n := s.reg 0x4420 1
  let s := updateRuns s
  let s := modLens (fun l =>
    { l with phase := .writingBegin, queued := false, writing := n, mask := commonsOf (undone l), commons := [] }) s
  writeRing 0 (beginPayload s) .journalBegin s

/-- The journal goes on with a newer update when one waits (R500). -/
def orNewer (f : State → State) (s : State) : State := if s.dev.lens.queued then journalStart s else f s

/-- LENS_BEGIN is verified: write the half-rows whose targets change (R502 step 2). A half-row without a record has the
targets 0 that a reset gives it (R508). -/
def journalBegun (s : State) : State :=
  if s.dev.lens.phase ≠ .writingBegin then s
  else
    orNewer (fun s =>
      let rows := ((List.range 48).filter fun r => hasBit s.dev.lens.mask (r / 2)).filter fun r =>
        match recordPayload s (144 + r) with
        | none => halfRowBits s.dev.lens.target (r / 2) (r % 2) != 0
        | some p => fieldLE p 4 32 != halfRowBits s.dev.lens.target (r / 2) (r % 2)
      let s := modLens (fun l =>
        { l with phase := if rows.isEmpty then .starting else .writingRows rows.length }) s
      s.each rows fun r t => writeRecord (144 + r) (rowPayload t (r / 2) (r % 2)) .journalRow t) (s.setReg 0x4420 4 1)

/-- A half-row is verified; after the last one the source may start (R502, R489). -/
def journalRowDone (s : State) : State :=
  match s.dev.lens.phase with
  | .writingRows (n + 2) => modLens (fun l => { l with phase := .writingRows (n + 1) }) s
  | .writingRows _ => orNewer (modLens fun l => { l with phase := .starting }) s
  | _ => s

/-- The status of the last update: complete when none of its zones is left (R498, R500). -/
def updateStatus (s : State) : State :=
  if s.reg 0x4420 2 = 1 ∧ (s.dev.lens.transitions.all fun e => e.2.update != s.reg 0x4420 1) then s.setReg 0x4420 2 2
  else s

/-- LENS_END is verified: the journal is closed, and an update that waits begins (R502 step 4, R509, R510). -/
def journalEnded (s : State) : State :=
  if s.dev.lens.phase ≠ .writingEnd then s
  else
    let s := s.setReg 0x4420 4 0
    let s := modBringup (fun b => { b with journalClosed := true }) s
    orNewer id (modLens (fun l => { l with phase := .idle, redrive := false }) s)

/-- A zone is written by no pulse phase of update `n` or an older one: its update fails before its first pulse. -/
def failsWith (n : Nat) (t : Transition) : Bool := t.overdrive.isNone && !later 32 n t.update

/-- An update has failed before its first pulse: its zones keep the targets they were driven to last, and those that
had not reached them go on settling (R488, R514). -/
def unpulsed (l : Lens) : Lens :=
  let failed := l.transitions.filter fun e => failsWith l.writing e.2
  { l with
    target := failed.foldl (fun m e => putBit m e.1 e.2.prior) l.target
    transitions := (l.transitions.filter fun e => !failsWith l.writing e.2 || e.2.prior != hasBit l.reached e.1).map
      fun (z, t) => if failsWith l.writing t then (z, { t with to2D := t.prior, overdrive := some 0 }) else (z, t) }

/-- A journal write has failed: the update fails before its first pulse, and one that waits begins (R514). -/
def journalFailed (s : State) : State :=
  let l := s.dev.lens
  let log (s : State) : State := logEvent 514 4 0x4420 0 l.writing s
  let before : Bool := match l.phase with
    | .writingBegin => true
    | .writingRows _ => true
    | _ => false
  if before then
    let s := modLens (fun l => { unpulsed l with phase := .idle }) s
    orNewer id (log (if s.reg 0x4420 1 = l.writing then s.setReg 0x4420 2 4 else s))
  else if l.phase = .writingEnd then orNewer id (log (modLens (fun l => { l with phase := .idle }) s))
  else s

/-! ### Updates (R496 to R501, R905) -/

/-- What a taken zone is driven with until the running drive frame or pulse phase ends (R500). -/
def holdDuties (zs : List Nat) (s : State) : AMap Nat :=
  if s.dev.lens.bias ≠ 1 then s.dev.lens.held
  else zs.foldl (fun m z => amPut m z (zoneDuty s z)) s.dev.lens.held

/-- What the drive gave zone `z` last: its target, or the one before it where no pulse phase or drive frame has begun
towards that. -/
def drivenTo (l : Lens) (z : Nat) : Bool :=
  match amGet l.transitions z with
  | some t => if t.overdrive.isNone then t.prior else hasBit l.target z
  | none => hasBit l.target z

/-- Take the zones of a list as one update towards map `m` (R496, R500). Each older update with a zone among them is
superseded; the status says so until the new update starts to run (DEDUCED, log 188). -/
def lensTake (zs : List Nat) (m : Nat) (s : State) : State :=
  if zs.isEmpty then s
  else
    let l := s.dev.lens
    let old := ((zs.filterMap fun z => (amGet l.transitions z).map (·.update)).eraseDups).filter fun u =>
      !l.superseded.contains u
    let s := s.iff (!old.isEmpty) (·.bump 0x4420 3 old.length)
    let n := (s.reg 0x4420 1 + 1) % 2 ^ 32
    let s := ((s.setReg 0x4420 1 n).setReg 0x4420 2 (if old.contains (s.reg 0x4420 1) then 3 else 1)).bumpSeq 0x4420 6
    let held := holdDuties zs s
    let tr := zs.foldl (fun t z =>
      amPut t z { to2D := hasBit m z, overdrive := none, settle := 0, update := n, prior := drivenTo l z }) l.transitions
    let s := modLens (fun l =>
      { l with target := m, transitions := tr, held := held
               superseded := (old ++ l.superseded).filter fun u => tr.any fun e => e.2.update == u }) s
    if !l.bistable then s
    else
      match l.phase with
      | .idle => journalStart s
      | .starting => journalStart s
      | _ => modLens (fun l => { l with queued := true }) s

/-- The calends: every zone whose committed target differs from its current one (R496). While the source is off after
a fault, while the re-drive runs, and with the journal open at bring-up, no update starts (R905, R508, R510). -/
def lensCalends (s : State) : State :=
  let l := s.dev.lens
  if 2 ≤ l.bias || l.redrive || l.onHold || l.inReset || !hasLens s then s
  else lensTake (zonesDiffering s l.target (wantedMap s)) (wantedMap s) s

/-- The re-drive of all 24 commons to the journalled targets waits for its source; the zones of affected commons are on
their way (R508). -/
def redriveStart (s : State) : State :=
  let number := s.reg 0x4420 1
  let zs := (zonesHere s).filter fun z => hasBit s.dev.lens.affected (z / 512)
  modLens (fun l =>
    { l with redrive := true, phase := .starting, mask := 0xFFFFFF, commons := [], writing := number
             transitions := zs.foldl (fun t z =>
               amPut t z { to2D := hasBit l.target z, overdrive := none, settle := 0, update := number
                           prior := hasBit l.target z })
               l.transitions }) s

/-- The pump factor for V4 of the band in force, at the supply measured last (R477). -/
def pumpSet (s : State) : State :=
  s.setReg 0x4403 2 (if s.dev.lens.pump then pumpFactor (v4Setting s) s.dev.lens.v33 else 0)

/-- Every zone whose reported state differs from its committed target is taken as one update, and the committed targets
are the current ones (R905). -/
def restartTake (s : State) : State :=
  let m := wantedMap s
  modLens (fun l => { l with target := m }) (lensTake (zonesDiffering s s.dev.lens.reached m) m s)

/-- The source restarts after a bias fault or a DC stop (R905): that of a monostable layer turns on. A re-drive that has
not ended begins again (R508). -/
def lensRestart (s : State) : State :=
  let s := modLens (fun l => { l with bias := if l.bistable then 0 else 1, outOfRange := [], transitions := [] }) s
  let s := s.iff (!s.dev.lens.bistable) fun s => pumpSet (domainWake 38 s)
  if s.dev.lens.redrive then redriveStart s else restartTake s

/-- The source turns off with code `b`: outputs at ground, a monostable layer's zones are reported in their OFF state,
and a running or paused update fails; a bistable layer keeps the states reported (R514). -/
def biasOff (b : Nat) (s : State) : State :=
  let l := s.dev.lens
  let off := if l.highIs3D then all2D s else 0
  let st := s.reg 0x4420 2
  let s := if st = 1 ∨ st = 3 ∨ st = 5 then s.setReg 0x4420 2 4 else s
  let s := domainOff 38 (s.setReg 0x4403 2 0)
  if l.bistable then
    modLens (fun l =>
      { l with bias := b, transitions := [], held := [], commons := [], phase := .idle, queued := false, paused := false
               target := if l.redrive then l.target else l.reached }) s
  else
    let changed := (zonesDiffering s l.reached off).map fun z => (z, hasBit off z)
    modLens (fun l =>
      { l with bias := b, transitions := [], held := [], reached := off, reports := l.reports ++ changed }) s

/-- A bias fault (R480, R481, R514). -/
def biasFault (s : State) : State := logEvent 514 5 0x4403 4 0 ((biasOff 2 s).bump 0x4403 4)

/-! ### Drive -/

/-- A drive-frame boundary of a monostable layer (R482, R485, R486, R492, R497). -/
def driveFrame (s : State) : State :=
  let l := s.dev.lens
  if l.bistable || l.bias != 1 || l.onHold then s
  else
    let band := l.nextBand.getD l.band
    let mono := s.com 0x4401 1
    let now := s.now
    let s := modLens (fun l =>
      { l with band := band, nextBand := none, mono := mono, frames := l.frames + 1
               inverted := l.inverted == turnedAt l 48, flips := [], phaseAt := now, held := [] }) s
    let s := pumpSet ((updateRuns s).setReg 0x4400 6 band)
    let n := overdriveFrames s
    let ms := settleMs s band
    modLens (fun l => { l with transitions := l.transitions.map fun (z, t) =>
      (z, { t with overdrive := match t.overdrive with
                     | none => some n
                     | some k => some (k - 1)
                   settle := max t.settle ms }) }) s

/-- An output of the zone stands at high impedance, so it never reports a new target (R514). -/
def zoneDead (s : State) (z : Nat) : Bool :=
  s.dev.lens.hiZ.contains (z % 512) || s.dev.lens.hiZ.contains (512 + z / 512)

/-- Zone `z`'s settle time elapses: it has reached its target and is reported (R497 to R499). -/
def zoneReached (z : Nat) (s : State) : State :=
  match amGet s.dev.lens.transitions z with
  | some t =>
    if t.overdrive = some 0 ∧ !zoneDead s z then
      updateStatus (modLens (fun l =>
        { l with reached := putBit l.reached z t.to2D, transitions := amErase l.transitions z
                 reports := l.reports ++ [(z, t.to2D)] }) s)
    else s
  | none => s

/-- The main die receives zone `z`'s report; the next eve acts on it (R35, R499). -/
def zoneReport (z : Nat) (s : State) : State :=
  match s.dev.lens.reports.find? fun r => r.1 == z with
  | none => s
  | some r =>
    if s.dev.bringup.inReset then s
    else modLens (fun l => { l with reports := l.reports.erase r, arrived := l.arrived ++ [r] }) s

/-- Repeats of the band in force (R488). -/
def biRepeats (s : State) : Nat := max 1 (biField (biTable s) s.dev.lens.band 3 1)

/-- A pulse phase begins: a band or table change applies at the phase boundary (R486, R512). -/
def phaseBegin (s : State) : State :=
  let band := s.dev.lens.nextBand.getD s.dev.lens.band
  let bi := s.com 0x4401 2
  let now := s.now
  let s := modLens (fun l =>
    { l with band := band, nextBand := none, bi := bi, phase := .pulsing, phaseAt := now, held := [] }) s
  pumpSet (s.setReg 0x4400 6 band)

/-- The first or the next common is due, with the repeats of the band in force (R488). -/
def nextCommon (s : State) : State :=
  let s := phaseBegin s
  let n := biRepeats s
  modLens (fun l => { l with repeats := n }) s

/-- The source may start: a monostable layer's at any time, a bistable layer's before the pulse phases of an update whose
journal rows are written (R489); not after a fault or stop, on hold-up or in a reset. -/
def biasMayStart (s : State) : Bool :=
  let l := s.dev.lens
  decide (l.bias < 2) && !l.onHold && !l.inReset && !l.paused && (!l.bistable || l.phase == .starting)

/-- The source starts with V33 at `v33` mV (R477, R489): a monostable layer is driven, a bistable update begins its first
phase. -/
def biasStart (v33 : Nat) (s : State) : State :=
  if !biasMayStart s || v33 == 0 then s
  else
    let l := s.dev.lens
    let s := pumpSet (modLens (fun l => { l with v33 := v33, outOfRange := [], bias := 1 }) s)
    let s := domainOn 38 (if domainState s 38 = 0 then s.bump 0x5431 39 else s)
    if !l.bistable then s else nextCommon (modLens (fun l => { l with commons := commonList l.mask }) s)

/-- The zones of common `c` that the running update writes begin to settle (R498). -/
def settleCommon (c : Nat) (s : State) : State :=
  let ms := settleMs s s.dev.lens.band
  modLens (fun l => { l with transitions := l.transitions.map fun (z, t) =>
    if z / 512 == c && !later 32 l.writing t.update then
      (z, { t with overdrive := some 0, settle := max t.settle ms })
    else (z, t) }) s

/-- The source is off and every output at ground between phases (R489). -/
def phaseOff (s : State) : State :=
  domainOff 38 ((modLens (fun l => { l with bias := 0 }) s).setReg 0x4403 2 0)

/-- The update pauses with its journal open (R507). -/
def updatePause (s : State) : State :=
  let st := s.reg 0x4420 2
  let s := if st = 1 ∨ st = 3 then s.setReg 0x4420 2 5 else s
  modLens (fun l => { l with paused := true }) s

/-- In a reset of the main die an update goes no further (R507). -/
def orPause (s : State) : State := s.iff s.dev.bringup.inReset updatePause

/-- A reset of the main die: a bistable update that is not in a pulse phase pauses at once (R507). -/
def lensPause (s : State) : State :=
  let l := s.dev.lens
  if l.bistable && l.phase != .idle && l.phase != .pulsing then updatePause s else s

/-- A pulse phase of the first common left completes (R487, R488, R498, R500, R506, R507). After a reset of the main die
the commons that are not completely written follow (DEDUCED, log 189). -/
def pulseEnd (s : State) : State :=
  let l := s.dev.lens
  match l.phase, l.commons with
  | .pulsing, c :: cs =>
    let s := modLens (fun l => { l with held := [] }) s
    if l.onHold then phaseOff (modLens (fun l => { l with phase := .idle }) s)
    else if l.queued then
      orPause (journalStart (phaseOff (if l.repeats ≤ 1 then settleCommon c s else s)))
    else if 1 < l.repeats then
      if s.dev.bringup.inReset then
        updatePause (phaseOff (modLens (fun l => { l with phase := .starting, mask := (c :: cs).foldl setBit 0 }) s))
      else modLens (fun l => { l with repeats := l.repeats - 1 }) (phaseBegin s)
    else
      let s := settleCommon c (modLens (fun l => { l with commons := cs }) s)
      if cs.isEmpty then
        let s := phaseOff (modLens (fun l => { l with phase := .writingEnd }) s)
        orPause (writeRing 1 (natLE l.writing 4) .journalEnd s)
      else if s.dev.bringup.inReset then
        updatePause (phaseOff (modLens (fun l => { l with phase := .starting, mask := cs.foldl setBit 0 }) s))
      else nextCommon s
  | _, _ => s

/-- The main die is out of reset: a paused update continues from its next common (R507). -/
def lensResume (s : State) : State :=
  if s.dev.lens.paused then
    let s := modLens (fun l => { l with paused := false }) s
    storeStart (if s.reg 0x4420 2 = 5 then s.setReg 0x4420 2 1 else s)
  else s

/-- A measured level stays outside ±3 % of its setting (R481). -/
def outside3 (m setting : Nat) : Bool := decide (3 * setting < 100 * (m - setting)) || decide (3 * setting < 100 * (setting - m))

/-- The measurement of every 1 ms: V4 and V0 to V3, mV (R481). -/
def biasMeasure (v4 v0 v1 v2 v3 : Nat) (s : State) : State :=
  let s := (s.setReg 0x4403 1 (v4 % 65536)).setReg 0x4403 3 (leNat (packLE 2 [v0, v1, v2, v3]))
  if s.dev.lens.bias ≠ 1 then s
  else
    let vs := biasLevels s
    let counts := (List.range 5).map fun k =>
      if outside3 (nth [v0, v1, v2, v3, v4] k) (nth vs k) then nth s.dev.lens.outOfRange k + 1 else 0
    let s := modLens (fun l => { l with outOfRange := counts }) s
    if counts.any (decide <| 10 ≤ ·) then biasFault s else s

/-- The over-voltage comparator trips (R480). -/
def overVoltage (s : State) : State := if s.dev.lens.bias = 1 then biasFault s else s

/-- One second after a bias fault the source retries, at most 3 times (R514). -/
def biasRetry (s : State) : State :=
  if s.dev.lens.bias = 2 ∧ s.dev.lens.retries < 3 then
    lensRestart (modLens (fun l => { l with retries := l.retries + 1 }) s)
  else s

/-- The layer is driven: not every output sits at one level, as they do in the rest of a pulse phase (R487, R491). -/
def layerDriven (s : State) : Bool :=
  let l := s.dev.lens
  l.bias == 1 && (!l.bistable ||
    (l.phase == .pulsing && decide (s.now < l.phaseAt + 2 * biField (biTable s) l.band 4 2 * 1000000)))

/-- The output with the largest integral, and that integral. -/
def worstIntegral (m : AMap Int) : Nat × Int :=
  m.foldl (fun b e => if b.2.natAbs < e.2.natAbs then e else b) (0, 0)

/-- One 1 us sample of output `out`, at `vout` mV (R491). -/
def dcSample (out : Nat) (vout : Int) (s : State) : State :=
  if !layerDriven s then s
  else
    let v4 : Int := v4Setting s
    let s := modLens (fun l => { l with integrals := amMod l.integrals out 0 (· + (2 * vout - v4)) }) s
    let w := worstIntegral s.dev.lens.integrals
    (s.setReg 0x4402 3 w.1).setReg 0x4402 4 (ofSigned 32 (saturate 32 (w.2.tdiv 2000)))

/-- The magnitude of an output's integral exceeds `n` mV·ms. -/
def integralOver (s : State) (out n : Nat) : Bool := decide (2000 * n < (amGetD s.dev.lens.integrals out 0).natAbs)

/-- An integral above the DC limit forces an inversion from the next slot boundary or half on; bistable phases are never
altered (R492). -/
def forcedInversion (out : Nat) (s : State) : State :=
  if integralOver s out (s.reg 0x4402 1) && !s.dev.lens.bistable then
    let h := nextTurn s
    (modLens (fun l => { l with flips := h :: l.flips }) s).bump 0x4402 2
  else s

/-- An integral at 4 times the limit stops the layer (R493, R514). -/
def dcStop (out : Nat) (s : State) : State :=
  if decide (2000 * (4 * s.reg 0x4402 1) ≤ (amGetD s.dev.lens.integrals out 0).natAbs) && s.dev.lens.bias != 3 then
    logEvent 493 5 0x4402 5 out ((biasOff 3 s).bump 0x4402 5)
  else s

/-- Writing 1 to 0x4402:07 restarts after a DC stop or a bias fault (R493, R905). -/
def layerRestart (s : State) : State :=
  if 2 ≤ s.dev.lens.bias then lensRestart (modLens (fun l => { l with retries := 0 }) s) else s

/-- An output off its level goes to high impedance (R514). -/
def outputFault (out : Nat) (s : State) : State :=
  if s.dev.lens.hiZ.contains out then s
  else
    let s := modLens (fun l => { l with hiZ := l.hiZ ++ [out] }) s
    logEvent 514 4 0x4403 5 out (latch 2 (s.bump 0x4403 5))

/-- The lens temperature has crossed a bound: its band applies at the next boundary, and a band that waits there has the
hysteresis (R512). -/
def lensBandChange (s : State) : State :=
  let b := bandNext (s.dev.lens.nextBand.getD s.dev.lens.band) (lensTemperature s)
  modLens (fun l => { l with nextBand := if b = l.band then none else some b }) s

/-- V33 falls below 3.00 V: the drive die runs from VHOLD, finishes the page write and the pulse phase in progress, and
starts nothing further (R506, R882, R883). -/
def holdupSwitch (s : State) : State :=
  let s := modBringup (fun b => { b with v33Low := true }) (modLens (fun l => { l with onHold := true }) s)
  if s.dev.lens.phase = .pulsing then s
  else domainOff 38 ((modLens (fun l => { l with bias := 0 }) s).setReg 0x4403 2 0)

/-- VHOLD stands below 10.0 V while V33 is within tolerance (R885). -/
def vholdLow (mv : Nat) (s : State) : State :=
  if mv < 10000 ∧ s.dev.bringup.v33Low = false then logEvent 885 2 0 0 mv s else s

/-! ### The drive die's reset (R475, R504, R508) -/

/-- The journal is open: the latest LENS_BEGIN carries a later number than the latest LENS_END (R504). -/
def journalOpen (nv : NvStore) : Bool :=
  match amGet nv.rings 0, amGet nv.rings 1 with
  | none, _ => false
  | some _, none => true
  | some b, some e => later 32 (fieldLE e.payload 0 4) (fieldLE b.payload 0 4)

/-- Targets of the 48 half-row records (R502). -/
def journalledMap (s : State) : Nat :=
  (List.range 48).foldl (fun m r =>
    match recordPayload s (144 + r) with
    | none => m
    | some p => m + fieldLE p 4 32 * 2 ^ (256 * r)) 0

/-- The lens section after a reset of the drive die: the kind, polarity and source are read, and an open journal starts
the re-drive, whose affected zones keep the state reported of them until they are reached (R475, R508). A monostable
layer relaxes to its OFF state (R862). After a bias fault or a DC stop the reset restarts the source (R905). -/
def lensReset (s : State) : State :=
  let stopped := decide (2 ≤ s.dev.lens.bias)
  let bi := s.reg 0x4400 1 == 2
  let high3D := s.reg 0x4400 2 == 1
  let opened := bi && journalOpen s.nv
  let map := if bi then journalledMap s else if high3D then all2D s else 0
  let band := bandNext 1 (lensTemperature s)
  let number := match amGet s.nv.rings 0 with
    | none => 0
    | some b => fieldLE b.payload 0 4
  let affected := if opened then ((amGet s.nv.rings 0).map fun b => fieldLE b.payload 4 3).getD 0 else 0
  let reached := ((zonesHere s).filter fun z => hasBit affected (z / 512)).foldl
    (fun m z => putBit m z (hasBit s.dev.lens.reached z)) map
  let changed := (zonesDiffering s s.dev.lens.reached reached).map fun z => (z, hasBit reached z)
  let s := modLens (fun _ =>
    { bistable := bi, highIs3D := high3D, pump := s.reg 0x4400 3 == 1, reached := reached, target := map, band := band
      reports := changed, affected := affected }) s
  let s := ((s.setReg 0x4400 6 band).setReg 0x4420 1 number).setReg 0x4420 4 (ofBool opened)
  let s := domainOff 38 (((s.setReg 0x4403 2 0).setReg 0x4402 3 0).setReg 0x4402 4 0)
  let s := s.setReg 0x4420 2 0
  let s := if opened then redriveStart (s.bump 0x4420 5) else s.iff stopped restartTake
  modBringup (fun b => { b with journalClosed := !opened }) s

/-! ### Commands -/

/-- DRIVE_FRAME_BOUNDARY (R482). -/
def execDriveFrameBoundary (s : State) : Out := runOn .driveFrameBoundary (hasLens s) s (onDev [.od, .lens] driveFrame s)

/-- ZONE_TARGET_REACHED (R497). -/
def execZoneTargetReached (z : Nat) (s : State) : Out := runOn (.zoneTargetReached z) (hasLens s) s
    (onDev [.od, .lens] (zoneReached z) s)

/-- ZONE_REPORT_RECEIVE (R499). -/
def execZoneReportReceive (z : Nat) (s : State) : Out := runOn (.zoneReportReceive z) (hasLens s) s
    (onDev [.lens] (zoneReport z) s)

/-- PULSE_PHASE_END (R487). -/
def execPulsePhaseEnd (s : State) : Out := runOn .pulsePhaseEnd (hasLens s) s (onNv [.od, .lens] pulseEnd s)

/-- BIAS_SOURCE_START (R489). -/
def execBiasSourceStart (v33 : Nat) (s : State) : Out := runOn (.biasSourceStart v33) (hasLens s) s
    (onDev [.od, .lens] (biasStart v33) s)

/-- BIAS_MEASURE (R481). -/
def execBiasMeasure (v4 v0 v1 v2 v3 : Nat) (s : State) : Out :=
  runOn (.biasMeasure v4 v0 v1 v2 v3) (hasLens s) s (onDev [.od, .lens, .events, .eventBuffer, .eventMessages]
      (biasMeasure v4 v0 v1 v2 v3) s)

/-- BIAS_OVERVOLTAGE_TRIP (R480). -/
def execBiasOvervoltageTrip (s : State) : Out :=
  runOn .biasOvervoltageTrip (hasLens s) s (onDev [.od, .lens, .events, .eventBuffer, .eventMessages] overVoltage
      s)

/-- BIAS_RETRY (R514). -/
def execBiasRetry (s : State) : Out := runOn .biasRetry (hasLens s) s (onNv [.od, .lens] biasRetry s)

/-- DC_MONITOR_SAMPLE (R491). -/
def execDcMonitorSample (out : Nat) (vout : Int) (s : State) : Out :=
  runOn (.dcMonitorSample out vout) (hasLens s) s (onDev [.od, .lens] (dcSample out vout) s)

/-- FORCED_INVERSION (R492). -/
def execForcedInversion (out : Nat) (s : State) : Out :=
  runOn (.forcedInversion out) (hasLens s) s (onDev [.od, .lens] (forcedInversion out) s)

/-- DC_STOP (R493). -/
def execDcStop (out : Nat) (s : State) : Out :=
  runOn (.dcStop out) (hasLens s) s (onDev [.od, .lens, .events, .eventBuffer, .eventMessages] (dcStop out) s)

/-- LAYER_RESTART (R905). -/
def execLayerRestart (s : State) : Out := runOn .layerRestart (hasLens s) s (onNv [.od, .lens] layerRestart s)

/-- OUTPUT_FAULT (R514). -/
def execOutputFault (out : Nat) (s : State) : Out :=
  runOn (.outputFault out) (hasLens s) s (onDev [.od, .lens, .events, .eventBuffer, .eventMessages] (outputFault
      out) s)

/-- LENS_BAND_CHANGE (R512). -/
def execLensBandChange (s : State) : Out := runOn .lensBandChange (hasLens s) s (onDev [.lens] lensBandChange s)

/-- HOLDUP_SWITCH (R882). -/
def execHoldupSwitch (s : State) : Out := run .holdupSwitch (onDev [.od, .lens, .bringup] holdupSwitch s)

/-- VHOLD_LOW_LOG (R885). -/
def execVholdLowLog (mv : Nat) (s : State) : Out :=
  run (.vholdLowLog mv) (onDev [.od, .events, .eventBuffer, .eventMessages] (vholdLow mv) s)

end Sys2Proof.Machine
end

