-- ==== Sys2Proof/Machine/Etsan.lean ====
section
/-!
DEFINITION. Etsan updates: chunk headers, definitions, occupancy, palette and index records, and the checks of R117 in
the order of R118 (R61 to R119).
-/
namespace Sys2Proof.Machine

/-! ### Chunks (R62 to R74) -/

/-- A chunk as it lies in memory. -/
structure Chunk where
  off : Nat
  header : List Byte
  len : Nat
  payload : List Byte
deriving DecidableEq, Repr

def Chunk.typ (c : Chunk) : Nat := fieldLE c.header 4 1
def Chunk.seq (c : Chunk) : Nat := fieldLE c.header 12 4
def Chunk.layer (c : Chunk) : Nat := fieldLE c.header 16 1
def Chunk.lease (c : Chunk) : Nat := fieldLE c.header 18 2

/-- The chunk at offset `off` of an update; bytes that cannot be read are taken as none. -/
def chunkAt (rd : Nat → Nat → List Byte) (off : Nat) : Chunk :=
  let h := rd off 32
  let len := fieldLE h 8 4
  { off := off, header := h, len := len, payload := if len ≤ 4194304 then rd (off + 32) len else [] }

/-- Where the chunks of an update start, from `off` on (R62), as far as they can be followed. The fuel bounds their
number. A chunk is found through the Payload length of the one before it, whether or not that one has been tested
(DESIGN CHOICE, log 172). -/
def chunkOffsets (rd : Nat → Nat → List Byte) (total : Nat) : Nat → Nat → List Nat
  | 0, _ => []
  | n + 1, off =>
    if total ≤ off then []
    else
      let len := fieldLE (rd off 32) 8 4
      off :: (if len ≤ 4194304 ∧ off + 32 + len ≤ total then chunkOffsets rd total n (off + 32 + len) else [])

/-- Bytes of the update at a staging offset of HBM. -/
def stagingBytes (s : State) (staging : Nat) (off len : Nat) : List Byte := (hbmRead s (staging + off) len).getD []

/-- What a chunk is checked against: the update's length, the expected sequence, layer, lease and payload length. -/
structure Expect where
  total : Nat
  seq : Option Nat := none
  /-- The first sequence must be later than this one (R69). -/
  after : Option Nat := none
  layer : Option Nat := none
  lease : Option Nat := none
  /-- Leases of the layers' previous contents, by layer (R110). -/
  taken : Nat → Nat → Bool := fun _ _ => false
  occLength : Option Nat := none

/-- Payload length of a type, when fixed (R75). -/
def typeLength (e : Expect) (typ : Nat) : Option Nat :=
  if typ = 1 ∨ typ = 5 then some 32 else if typ = 0x0F then some 8 else if typ = 4 then e.occLength else none

/-- The chunk's layer differs from its update's, or lies outside its definition type's range (R70, R75). -/
def badLayer (e : Expect) (c : Chunk) : Bool :=
  e.layer.any (· != c.layer) ||
    if c.typ = 1 then decide (16 ≤ c.layer)
    else if c.typ = 5 then decide (c.layer < 16) || decide (32 ≤ c.layer)
    else decide (32 ≤ c.layer)

/-- The checks 0x01 to 0x09 of R118 on a chunk: none when all pass. -/
def headerFail (e : Expect) (c : Chunk) : Option Nat :=
  let h := c.header
  if fieldLE h 0 4 ≠ 0x4E535445 ∨ e.total < c.off + 32 + c.len then some 1
  else if fieldLE h 5 1 ≠ 1 then some 2
  else if !([1, 2, 3, 4, 5, 0x0F].contains c.typ) then some 3
  else if c.len % 8 ≠ 0 ∨ 4194304 < c.len ∨ ((c.typ = 2 ∨ c.typ = 3) ∧ c.len = 0) ∨
      (typeLength e c.typ).any (· != c.len) then some 4
  else if fieldLE h 28 4 ≠ crc32c c.seq (h.take 28 ++ c.payload) then some 5
  else if e.seq.any (· != c.seq) || (e.seq.isNone && e.after.any fun n => !later 32 n c.seq) then some 6
  else if badLayer e c then some 7
  else if c.lease = 0 || e.lease.any (· != c.lease) || e.taken c.layer c.lease then some 8
  else if !(allZero (slice h 6 2) && allZero (slice h 17 1) && allZero (slice h 20 8)) then some 9
  else none

/-! ### Definitions and occupancy (R83 to R93) -/

/-- A definition: its content without occupancy, and the numbers of occupied blocks and cells. -/
structure Definition where
  content : Content
  blocks : Nat
  cells : Nat
deriving DecidableEq, Repr

/-- The definition payload of a type. -/
def definition (typ : Nat) (p : List Byte) : Definition :=
  if typ = 1 then
    { content := { overlay := false, w := fieldLE p 0 2, h := fieldLE p 2 2, ox := toSigned 16 (fieldLE p 4 2)
                   oy := toSigned 16 (fieldLE p 6 2), depth := toSigned 16 (fieldLE p 8 2), ls := fieldLE p 10 1 % 4 }
      blocks := fieldLE p 12 4, cells := fieldLE p 16 4 }
  else
    { content := { overlay := true, w := fieldLE p 0 2, h := fieldLE p 2 2, dx := fieldLE p 4 2, dy := fieldLE p 6 2
                   dw := fieldLE p 8 2, dh := fieldLE p 10 2, order := fieldLE p 12 1 }
      blocks := fieldLE p 16 4, cells := fieldLE p 20 4 }

/-- Reserved fields of a definition payload are 0. -/
def definitionClean (typ : Nat) (p : List Byte) : Bool :=
  if typ = 1 then fieldLE p 10 1 / 4 == 0 && allZero (slice p 11 1) && allZero (slice p 20 12)
  else allZero (slice p 13 3) && allZero (slice p 24 8)

/-- Blocks of a content's stored area. -/
def blockCount (ct : Content) : Nat := ct.w / 64 * (ct.h / 64)

/-- A definition's fields are in range (R83, R86, R87); `wMax` and `hMax` bound an overlay's source. -/
def geometryGood (cols wMax hMax : Nat) (d : Definition) : Bool :=
  let c := d.content
  let size (n top : Nat) : Bool := decide (64 ≤ n) && decide (n ≤ top) && n % 64 == 0
  decide (d.blocks ≤ blockCount c) && decide (d.cells ≤ 16 * d.blocks) &&
    if c.overlay then
      size c.w wMax && size c.h hMax && decide (1 ≤ c.dw) && decide (1 ≤ c.dh) && decide (c.dx + c.dw ≤ cols) &&
        decide (c.dy + c.dh ≤ hogelRows) && decide (c.order ≤ 15)
    else size c.w 16384 && size c.h 8192 && decide (c.ls < 3)

/-- The sampling density is within its limit (R198). -/
def densityGood (table : List (Int × Int)) (ct : Content) : Bool :=
  let (dx, dy) := tableSteps table
  decide (ct.depth.natAbs * dx * 2 ^ ct.ls ≤ 4 * 2 ^ 22) && decide (ct.depth.natAbs * dy * 2 ^ ct.ls ≤ 4 * 2 ^ 22)

/-- The scaler limits (R234). -/
def scalerGood (ct : Content) : Bool :=
  decide (ct.w ≤ 8 * ct.dw) && decide (3 * ct.dw ≤ 2 * ct.w) && decide (ct.h ≤ 3 * ct.dh) && decide (3 * ct.dh ≤ 4 * ct.h)

/-- Bytes of the block flag map, and of the whole OCCUPANCY payload (R90). -/
def mapBytes (ct : Content) : Nat := (blockCount ct + 63) / 64 * 8
def occupancyLength (d : Definition) : Nat := mapBytes d.content + (2 * d.blocks + 7) / 8 * 8
/-- The same length, from a content whose counts have been checked. -/
def occupancySize (ct : Content) : Nat := mapBytes ct + (2 * ct.occ.length + 7) / 8 * 8

/-- Occupied blocks of an OCCUPANCY payload with their cell masks. -/
def occupancyOf (d : Definition) (p : List Byte) : List (Nat × Nat) :=
  let flags := leNat (p.take (mapBytes d.content))
  let bs := (List.range (blockCount d.content)).filter (hasBit flags)
  (bs.zip (List.range bs.length)).map fun x => (x.1, fieldLE p (mapBytes d.content + 2 * x.2) 2)

/-- The pad bits and bytes of an OCCUPANCY payload are 0 (R67, R90). -/
def occupancyClean (d : Definition) (p : List Byte) : Bool :=
  leNat (p.take (mapBytes d.content)) < 2 ^ blockCount d.content &&
    allZero (p.drop (mapBytes d.content + 2 * d.blocks))

/-- A reserved field, reserved bit or pad of an OCCUPANCY payload of content `ct` is set. -/
def occupancySet (ct : Content) (p : List Byte) : Bool :=
  !(decide (leNat (p.take (mapBytes ct)) < 2 ^ blockCount ct) && allZero (p.drop (mapBytes ct + 2 * ct.occ.length)))

/-- R91 and R92 hold. -/
def occupancyGood (d : Definition) (p : List Byte) : Bool :=
  let occ := occupancyOf d p
  occ.length == d.blocks && (occ.map fun o => popCount o.2 16).foldl (· + ·) 0 == d.cells && occ.all fun o => o.2 != 0

/-! ### Palette records (R94 to R96) -/

/-- A palette record: block, count and entries. -/
structure PaletteRecord where
  block : Nat
  count : Nat
  entries : List Byte
deriving DecidableEq, Repr

/-- The first failing check of a chunk in the order of R118's table, when one fails (R117). -/
def firstFail : List Nat → Option Nat
  | [] => none
  | x :: xs => some (xs.foldl min x)

/-- The palette records of a payload and the checks they fail, up to one that reaches past the payload (DESIGN CHOICE, log
170); `bad` says that a block breaks R78 against records of
other chunks. The fuel is the payload's length in words. -/
def paletteRecords (ct : Content) (bad : Nat → Bool) :
    Nat → List Byte → Option Nat → List PaletteRecord → List Nat → List PaletteRecord × List Nat
  | _, [], _, acc, fs => (acc.reverse, fs)
  | 0, _, _, acc, fs => (acc.reverse, fs)
  | n + 1, p, last, acc, fs =>
    let b := fieldLE p 0 4
    let k := fieldLE p 4 2
    let e := slice p 8 (8 * k)
    let order := decide (blockCount ct ≤ b) || (last.any fun a => decide (b ≤ a)) || bad b
    let fs := fs ++ (if allZero (slice p 6 2) then [] else [9]) ++ (if order then [0x10] else []) ++
      (if k = 0 ∨ 256 < k ∨ (order = false ∧ cellsOf ct b = 0) then [0x11] else [])
    if p.length < 8 + 8 * k then (acc.reverse, fs ++ [0x12])
    else
      let fs := fs ++ if (List.range k).any fun i => fieldLE e (8 * i + 7) 1 != 0 then [9] else []
      paletteRecords ct bad n (p.drop (8 + 8 * k)) (some b) ({ block := b, count := k, entries := e } :: acc) fs

/-- The bytes of a palette slot (R130). -/
def paletteSlot (r : PaletteRecord) : List Byte := padTo 2048 r.entries

/-! ### Index records (R97 to R108) -/

/-- Where COPY reads: the previous content and its index bytes by block, none when there is no such content. -/
structure Previous where
  content : Content
  tile : Nat → Option (List Byte)

/-- COPY may be used: the previous content has the same size, and scale for a plane (R108). -/
def copyAllowed (ct : Content) : Option Previous → Bool
  | none => false
  | some p => p.content.w == ct.w && p.content.h == ct.h && (ct.overlay || p.content.ls == ct.ls)

/-- Index of the previous content at a stored position; none outside its occupied blocks (R107). A source block whose
descriptor fails on both copies, or cannot be read, has no index either, and the sub-block fails with BAD_COPY
(DESIGN CHOICE, log 131). -/
def previousIndex (p : Previous) (x y : Int) : Option Nat :=
  if x < 0 ∨ y < 0 ∨ (p.content.w : Int) ≤ x ∨ (p.content.h : Int) ≤ y then none
  else
    let b := y.toNat / 64 * (p.content.w / 64) + x.toNat / 64
    if cellsOf p.content b = 0 then none
    else (p.tile b).map fun t => (t.getD (64 * (y.toNat % 64) + x.toNat % 64) 0).toNat

/-- Coded size of a sub-block of a mode (R99). -/
def codedSize (m : Nat) : Nat := if m = 0 then 2 else if m = 1 then 11 else if m = 2 then 49 else if m = 3 then 65 else 5

/-- The 64 indices of a sub-block, or a detail code (R101 to R108). `op` are its operands, `count` the palette's, when
the block has one. -/
def subBlock (ct : Content) (prev : Option Previous) (b sub m : Nat) (count : Option Nat) (op : List Byte) :
    Except Nat (List Nat) :=
  let at' (i : Nat) : Nat := (op.getD i 0).toNat
  let checked (used : List Nat) (idx : List Nat) : Except Nat (List Nat) :=
    if used.all fun i => count.all fun k => decide (i < k) then .ok idx else .error 0x14
  match m with
  | 0 => checked [at' 0] (List.replicate 64 (at' 0))
  | 1 =>
    let mask := fieldLE op 2 8
    checked [at' 0, at' 1] ((List.range 64).map fun k => if hasBit mask k then at' 1 else at' 0)
  | 2 =>
    checked ((List.range 16).map at') ((List.range 64).map fun k =>
      let n := at' (16 + k / 2)
      at' (if k % 2 = 1 then n / 16 else n % 16))
  | 3 => checked ((List.range 64).map at') ((List.range 64).map at')
  | _ =>
    match prev with
    | none => .error 0x15
    | some p =>
      if !copyAllowed ct prev then .error 0x15
      else
        let x0 : Int := (64 * (b % (ct.w / 64)) + 8 * (sub % 8) : Nat) + toSigned 16 (fieldLE op 0 2)
        let y0 : Int := (64 * (b / (ct.w / 64)) + 8 * (sub / 8) : Nat) + toSigned 16 (fieldLE op 2 2)
        match (List.range 64).mapM fun k => previousIndex p (x0 + (k % 8 : Nat)) (y0 + (k / 8 : Nat)) with
        | none => .error 0x15
        | some idx => checked idx idx

/-- The coded sub-blocks of a record from sub-block `64 − n` on: their indices, and the checks they fail. -/
def subBlocks (ct : Content) (prev : Option Previous) (b : Nat) (count : Option Nat) :
    Nat → List Byte → List (List Nat) → List Nat → List (List Nat) × List Nat
  | 0, p, acc, fs => (acc.reverse, if p.isEmpty then fs else fs ++ [0x12])
  | n + 1, p, acc, fs =>
    let mb := fieldLE p 0 1
    let m := mb % 8
    if p.isEmpty then (acc.reverse, fs ++ [0x12])
    else
      let fs := if 8 ≤ mb then fs ++ [9] else fs
      if 4 < m then (acc.reverse, fs ++ [0x13])
      else if p.length < codedSize m then (acc.reverse, fs ++ [0x12])
      else
        let rest := p.drop (codedSize m)
        match subBlock ct prev b (63 - n) m count (slice p 1 (codedSize m - 1)) with
        | .error e => subBlocks ct prev b count n rest ([] :: acc) (fs ++ [e])
        | .ok idx => subBlocks ct prev b count n rest (idx :: acc) fs

/-- The index tile of 64 sub-blocks (R129). -/
def tileOf (subs : List (List Nat)) : List Byte :=
  (List.range 4096).map fun i =>
    let x := i % 64
    let y := i / 64
    BitVec.ofNat 8 (nth (subs.getD (y / 8 * 8 + x / 8) []) (y % 8 * 8 + x % 8))

/-- Header of an index record at the head of a payload: block, length, size with its pad. -/
def indexHeader (p : List Byte) : Nat × Nat × Nat :=
  let n := fieldLE p 4 4
  (fieldLE p 0 4, n, (8 + n + 7) / 8 * 8)

/-- The checks on an index record before its sub-blocks that fail (R78, R79, R97, R98); `none'` says that its block has
no posted palette. -/
def indexFails (ct : Content) (last : Option Nat) (bad none' : Bool) (p : List Byte) : List Nat :=
  let (b, n, size) := indexHeader p
  let occ := cellsOf ct b != 0
  (if decide (blockCount ct ≤ b) || (last.any fun a => decide (b ≤ a)) || bad then [0x10] else []) ++
    (if decide (b < blockCount ct) && !occ then [0x16] else []) ++ (if occ && none' then [0x0A] else []) ++
    (if decide (p.length < size) || allZero (slice p (8 + n) (size - 8 - n)) then [] else [9]) ++
    if n < 128 ∨ 4160 < n ∨ p.length < size then [0x12] else []

/-- What the index records of a chunk give. -/
structure IndexRun where
  tiles : AMap (List Byte) := []
  /-- Blocks in record order. -/
  blocks : List Nat := []
  fails : List Nat := []
  /-- Sub-blocks expanded. -/
  expanded : Nat := 0
  /-- Byte offset and block of the first record whose palette Count is awaited (R123). -/
  wait : Option (Nat × Nat) := none
  /-- Blocks of the previous content that COPY sub-blocks read. -/
  copied : List Nat := []
deriving DecidableEq, Repr

/-- Blocks of the previous content that the COPY sub-blocks of a record's coded bytes read (R106). -/
def copiedBlocks (ct : Content) (p : Previous) (b : Nat) : Nat → List Byte → List Nat
  | 0, _ => []
  | n + 1, bs =>
    let m := fieldLE bs 0 1 % 8
    if bs.isEmpty ∨ 4 < m ∨ bs.length < codedSize m then []
    else
      let rest := copiedBlocks ct p b n (bs.drop (codedSize m))
      if m ≠ 4 then rest
      else
        let sub := 63 - n
        let x0 : Int := (64 * (b % (ct.w / 64)) + 8 * (sub % 8) : Nat) + toSigned 16 (fieldLE bs 1 2)
        let y0 : Int := (64 * (b / (ct.w / 64)) + 8 * (sub / 8) : Nat) + toSigned 16 (fieldLE bs 3 2)
        [(0, 0), (7, 0), (0, 7), (7, 7)].filterMap (fun d =>
          let x := x0 + d.1
          let y := y0 + d.2
          if x < 0 ∨ y < 0 ∨ (p.content.w : Int) ≤ x ∨ (p.content.h : Int) ≤ y then none
          else some (y.toNat / 64 * (p.content.w / 64) + x.toNat / 64)) ++ rest

/-- The index records of a payload, each against its palette's Count. They are followed as far as the extents of
records hold: past one that is broken neither its own sub-blocks nor later records are tested (DESIGN CHOICE, log 170).
`count` gives the Count of a block's palette record in an earlier chunk, `awaited` says that such a record may still be
posted, `bad` that a block breaks R78 against records of other chunks. -/
def indexRecords (ct : Content) (prev : Option Previous) (count : Nat → Option Nat) (awaited bad : Nat → Bool) :
    Nat → Nat → List Byte → IndexRun → IndexRun
  | _, _, [], r => r
  | 0, _, _, r => r
  | n + 1, off, p, r =>
    let (b, len, size) := indexHeader p
    let k := count b
    let wait := if r.wait.isNone && cellsOf ct b != 0 && k.isNone && awaited b then some (off, b) else r.wait
    let fs := indexFails ct r.blocks.getLast? (bad b) k.isNone p
    let r := { r with fails := r.fails ++ fs, blocks := r.blocks ++ [b], wait := wait }
    if fs.contains 0x12 then r
    else
      let (subs, es) := subBlocks ct prev b k 64 (slice p 8 len) [] []
      indexRecords ct prev count awaited bad n (off + size) (p.drop size)
        { r with
          fails := r.fails ++ es
          expanded := r.expanded + subs.length
          tiles := amPut r.tiles b (tileOf subs)
          copied := r.copied ++ (prev.map fun x => (copiedBlocks ct x b 64 (slice p 8 len)).eraseDups).getD [] }

/-! ### Reserved fields of a payload (R118) -/

/-- A reserved field or bit, or a pad byte, of the chunk's payload is set, wherever the chunk stands in its update;
`ct` is the update's content, when its definition has been read. The pads of an OCCUPANCY payload are known only
then. -/
def payloadSet (ct : Option Content) (c : Chunk) : Bool :=
  let k := ct.getD {}
  match c.typ with
  | 1 => !definitionClean 1 c.payload
  | 5 => !definitionClean 5 c.payload
  | 4 => ct.any fun d => occupancySet d c.payload
  | 2 => (paletteRecords k (fun _ => false) (c.len / 8) c.payload none [] []).2.contains 9
  | 3 => (indexRecords k none (fun _ => none) (fun _ => false) (fun _ => false) (c.len / 8) 0 c.payload {}).fails.contains 9
  | _ => !allZero (slice c.payload 4 4)

/-- The detail code of a chunk that stands where R76 allows none of its type. -/
def misplaced (ct : Option Content) (c : Chunk) : Nat := if payloadSet ct c then 9 else 0x0A

/-! ### Whole updates (R151, R278) -/

/-- A decoded update. -/
structure Decoded where
  layer : Nat
  lease : Nat
  content : Content
  palettes : AMap PaletteRecord
  tiles : AMap (List Byte)
deriving DecidableEq, Repr

/-- Largest key of a table. -/
def lastKey {α : Type} (m : AMap α) : Option Nat := (m.getLast?).map (·.1)

/-- The checks of an END chunk, the `n`-th of the update: its own come first, and then those for records never found
(R96, R98, R117). A count above 65,536 breaks R81; R118 names no other code for it (DEDUCED, log 130). -/
def endFail (ct : Content) (c : Chunk) (n next total : Nat) (pal idx : Nat → Bool) : Option Nat :=
  if !allZero (slice c.payload 4 4) then some 9
  else if fieldLE c.payload 0 4 ≠ n ∨ 65536 < n ∨ next ≠ total then some 0x17
  else if !(ct.occ.all fun o => pal o.1) then some 0x11
  else if !(ct.occ.all fun o => idx o.1) then some 0x16
  else none

/-- Chunks after OCCUPANCY, one after another: `n` is fuel, `k` the chunk's ordinal, `x` the sub-blocks expanded so
far, which the result carries beside the update or its detail code. -/
def wholeChunks (rd : Nat → Nat → List Byte) (e : Expect) (prev : Option Previous) :
    Nat → Nat → Nat → Nat → Decoded → Nat × Except Nat Decoded
  | 0, _, _, x, _ => (x, .error 0x17)
  | n + 1, k, off, x, d =>
    let c := chunkAt rd off
    let next := off + 32 + c.len
    let go := wholeChunks rd { e with seq := e.seq.map fun q => (q + 1) % 2 ^ 32 } prev n (k + 1) next
    let early := if d.content.occ.isEmpty then [0x0A] else []
    if off = e.total then (x, .error 0x17)
    else
      match headerFail e c, c.typ with
      | some f, _ => (x, .error f)
      | none, 0x0F =>
        match endFail d.content c (k + 1) next e.total (fun b => (amGet d.palettes b).isSome)
            (fun b => (amGet d.tiles b).isSome) with
        | some f => (x, .error f)
        | none => (x, .ok d)
      | none, 2 =>
        let (rs, fs) := paletteRecords d.content (fun b => (lastKey d.palettes).any fun a => decide (b ≤ a)) (c.len / 8)
          c.payload none [] early
        match firstFail fs with
        | some f => (x, .error f)
        | none => go x { d with palettes := rs.foldl (fun m r => amPut m r.block r) d.palettes }
      | none, 3 =>
        let r := indexRecords d.content prev (fun b => (amGet d.palettes b).map (·.count)) (fun _ => false)
          (fun b => (lastKey d.tiles).any fun a => decide (b ≤ a)) (c.len / 8) 0 c.payload { fails := early }
        match firstFail r.fails with
        | some f => (x + r.expanded, .error f)
        | none => go (x + r.expanded) { d with tiles := r.tiles.foldl (fun m t => amPut m t.1 t.2) d.tiles }
      | none, _ => (x, .error (misplaced (some d.content) c))

/-- What the definition and OCCUPANCY chunks give an admission or a decode. -/
structure Admitted where
  layer : Nat
  lease : Nat
  seq : Nat
  content : Content
  /-- Offset of the third chunk. -/
  next : Nat
deriving DecidableEq, Repr

/-- The settings of the definition checks. -/
structure DefChecks where
  cols : Nat
  wMax : Nat := 8192
  hMax : Nat := 4096
  table : List (Int × Int)
  /-- The update is a LOAD's: an OVERLAY_DEF, whose stacking order is ignored (R278). -/
  overlayOnly : Bool := false
  /-- R89: the stacking order is taken. -/
  orderTaken : Nat → Nat → Content → Bool

/-- The checks on the definition chunk in the order of R117 (R82, R113). -/
def defFail (rd : Nat → Nat → List Byte) (e : Expect) (k : DefChecks) : Option Nat :=
  let c := chunkAt rd 0
  match headerFail e c with
  | some x => some x
  | none =>
    let d := definition c.typ c.payload
    let d := if k.overlayOnly then { d with content := { d.content with order := 0 } } else d
    let isDef := c.typ == 1 || c.typ == 5
    if !isDef || (k.overlayOnly && c.typ == 1) then some (misplaced none c)
    else if !definitionClean c.typ c.payload then some 9
    else if !geometryGood k.cols k.wMax k.hMax d then some 0x0B
    else if !d.content.overlay && !densityGood k.table d.content then some 0x0C
    else if d.content.overlay && !scalerGood d.content then some 0x0D
    else if k.orderTaken c.layer d.blocks d.content then some 0x0E
    else none

/-- The checks on the definition and OCCUPANCY chunks. An update that ends before its OCCUPANCY chunk
has reached its total length with no END chunk (R117). -/
def admitChunks (rd : Nat → Nat → List Byte) (e : Expect) (k : DefChecks) : Except Nat Admitted :=
  match defFail rd e k with
  | some x => .error x
  | none =>
    let c := chunkAt rd 0
    let d := definition c.typ c.payload
    let off := 32 + c.len
    let o := chunkAt rd off
    let e2 : Expect := { total := e.total, seq := some ((c.seq + 1) % 2 ^ 32), layer := some c.layer
                         lease := some c.lease, occLength := some (occupancyLength d) }
    match if e.total ≤ off then some 0x17 else headerFail e2 o with
    | some x => .error x
    | none =>
      if o.typ ≠ 4 then .error (misplaced (some d.content) o)
      else if !occupancyClean d o.payload then .error 9
      else if !occupancyGood d o.payload then .error 0x0F
      else
        .ok { layer := c.layer, lease := c.lease, seq := c.seq
              content := { d.content with occ := occupancyOf d o.payload }, next := off + 32 + o.len }

/-- Decode a whole update: the sub-blocks expanded, and a detail code or its content. -/
def decodeWhole (rd : Nat → Nat → List Byte) (e : Expect) (k : DefChecks) (prev : Option Previous) :
    Nat × Except Nat Decoded :=
  match admitChunks rd e k with
  | .error x => (0, .error x)
  | .ok a =>
    wholeChunks rd
      { total := e.total, seq := some ((a.seq + 2) % 2 ^ 32), layer := some a.layer, lease := some a.lease
        occLength := some (occupancySize a.content) }
      prev (e.total / 32 + 2) 2 a.next 0
      { layer := a.layer, lease := a.lease, content := a.content, palettes := [], tiles := [] }

end Sys2Proof.Machine
end

