-- ==== Sys2Proof/Machine/Operands.lean ====
section
/-!
DEFINITION. The operand forms of the object dictionary: which objects exist on the part, the form of a value, reserved
fields, ranges, trailing checks, gates and rights (R8, R9, R19, R20, R760 to R768, R826 to R834, R900).
-/
namespace Sys2Proof.Machine

/-! ### Existence (R8, R9, R761) -/

/-- The unit instance of index:subindex is present. -/
def instanceHere (s : State) (index sub : Nat) : Bool :=
  if 0x2100 ≤ index ∧ index ≤ 0x2102 then clusterHere s (sub - 1)
  else if index = 0x3830 then decide (sub ≤ nPorts s)
  else if 0x4000 ≤ index ∧ index < 0x4080 then decide (index - 0x4000 < nPorts s)
  else if 0x4100 ≤ index ∧ index < 0x4200 then decide (index - 0x4100 < nLinks s)
  else if 0x4400 ≤ index ∧ index < 0x4500 then hasLens s
  else if 0x4880 ≤ index ∧ index < 0x4888 then decide (index - 0x4880 < nTiles s)
  else if 0x5000 ≤ index ∧ index < 0x5080 then decide (index - 0x5000 < nPcs s)
  else if 0x5080 ≤ index ∧ index < 0x5084 then decide (index - 0x5080 < nStacks s)
  else if index = 0x5430 ∨ index = 0x5431 then domainHere s (sub - 1)
  else true

/-- Some subindex of the index exists on the part. -/
def indexHere (s : State) (index : Nat) : Bool :=
  (rowsNear index).any fun r =>
    decide (r.base ≤ index) && decide (index < r.base + r.count) &&
      (List.range (r.hi + 1 - r.lo)).any fun i => instanceHere s index (r.lo + i)

/-- Highest subindex defined at an index, absent instances included (R761). -/
def highestSub (index : Nat) : Nat :=
  (rowsNear index).foldl (fun m r => if r.base ≤ index ∧ index < r.base + r.count then max m r.hi else m) 0

/-- Subindex 0 of an index (R761). -/
def subZeroRow (index : Nat) : ObjRow :=
  { base := index, count := 1, lo := 0, hi := 0, typ := 2, size := 1, access := 0, attr := 0, dflt := highestSub index }

/-- The object at index:subindex, when it exists on the part. -/
def objHere (s : State) (index sub : Nat) : Option ObjRow :=
  if sub = 0 then if indexHere s index then some (subZeroRow index) else none
  else if instanceHere s index sub then objRow index sub
  else none

/-- The attributes of R765. -/
def ObjRow.shadow (r : ObjRow) : Bool := hasBit r.attr 0
def ObjRow.imageable (r : ObjRow) : Bool := hasBit r.attr 1
def ObjRow.stored (r : ObjRow) : Bool := hasBit r.attr 2
def ObjRow.variable (r : ObjRow) : Bool := hasBit r.attr 3

/-! ### Form (R762 to R764) -/

/-- A value of `len` bytes fits the object (R763, R764). -/
def lengthGood (r : ObjRow) (len : Nat) : Bool :=
  if r.typ = 0x0B then decide (len ≤ r.size)
  else if r.variable then decide (1 ≤ len) && decide (len ≤ r.size)
  else len == r.size

/-! ### Reserved fields (R20) -/

/-- A value as the object keeps it: reserved fields read 0. -/
def cleaned (index sub v : Nat) : Nat :=
  if index = 0x3003 ∧ sub = 1 then v / 256 * 256
  else if 0x3100 ≤ index ∧ index < 0x3110 ∧ (sub = 2 ∨ sub = 3) then v &&& 0x0FFF0FFF
  else if index = 0x3404 then v % 512
  else if (index = 0x1120 ∧ sub = 1) ∨ (index = 0x5410 ∧ sub = 5) ∨ (index = 0x4830 ∧ sub = 1) then v % 4096
  else if index = 0x1200 ∧ sub = 9 then v - v / 4096 % 2 * 4096
  else if index = 0x1410 ∧ sub = 1 then v % 16 + v / 128 * 128
  else if index = 0x6030 ∧ sub = 1 then v % 1024
  else if index = 0x1103 ∧ sub = 1 then v % 32
  else if index = 0x4401 ∧ sub = 1 then
    let p := natLE v 72
    leNat (withCrc 0x4401 1 ((List.range 6).map fun b =>
      slice p (12 * b) 9 ++ [0] ++ slice p (12 * b + 10) 2).flatten)
  else v

/-! ### Ranges -/

/-- `n` little-endian fields of `k` bytes of a value all meet `p`. -/
def fieldsAll (v n k : Nat) (p : Nat → Bool) : Bool := (List.range n).all fun i => p ((v >>> (8 * k * i)) % 2 ^ (8 * k))

/-- V4 of a band-table entry is in range (R478). -/
def levelGood (s : State) (v4 a : Nat) : Bool :=
  decide (v4 ≤ s.ceilings.rec2.lensVoltage) && (s.reg 0x4400 3 != 1 || decide (v4 ≤ 23760)) && decide (4 ≤ a) &&
    decide (a ≤ 7)

/-- The monostable band table is in range (R478, R486). -/
def monoGood (s : State) (v : Nat) : Bool :=
  (List.range 6).all fun b =>
    let f (off k : Nat) : Nat := (v >>> (8 * (12 * b + off))) % 2 ^ (8 * k)
    levelGood s (f 0 2) (f 2 1) && decide (f 3 1 ≤ 2) && decide (64 ≤ f 4 2) && decide (f 4 2 ≤ 256) &&
      decide (1 ≤ f 6 1) && decide (f 6 1 ≤ 16) && decide (f 7 1 ≤ 15) && decide (f 7 1 < f 6 1) && decide (f 8 1 ≤ 32)

/-- The bistable band table is in range (R478, R490). -/
def biGood (s : State) (v : Nat) : Bool :=
  (List.range 6).all fun b =>
    let f (off k : Nat) : Nat := (v >>> (8 * (8 * b + off))) % 2 ^ (8 * k)
    levelGood s (f 0 2) (f 2 1) && decide (1 ≤ f 3 1) && decide (f 3 1 ≤ 4) && decide (100 ≤ f 4 2) && decide (f 4 2 ≤ 950)

/-- A hold rate code divides the base rate in force (R381). -/
def holdAllowed (s : State) (code : Nat) : Bool :=
  code == 0 || (decide (code ≤ 3) && baseHz s % nth [1, 30, 10, 1] code == 0 && nth [1, 30, 10, 1] code ≤ baseHz s)

/-- The width of a pulse is less than its period (R565, R567): `g` gives the pin's settings. -/
def pulseGood (hz : Nat) (g : Nat → Nat) : Bool :=
  if g 1 = 1 then decide (g 4 * 1000 * hz < g 2 * 1000000000000)
  else if g 1 = 2 then g 7 == 0 || decide (g 4 < g 7)
  else true

/-- A STR's bytes (R763). -/
def strGood (v len : Nat) : Bool := (natLE v len).all fun b => decide (0x20 ≤ b.toNat) && decide (b.toNat ≤ 0x7E)

/-- `v` lies within `lo` and `hi`. -/
def within (lo hi v : Nat) : Bool := decide (lo ≤ v) && decide (v ≤ hi)

/-- Ranges of the objects at indexes below 0x3000. -/
def rangeLow (s : State) (index sub v : Nat) : Bool :=
  match index, sub with
  | 0x1120, 1 => within 0 4095 v
  | 0x1120, 2 => within 200 1000 v
  | 0x1120, 3 => within 200 1000 v
  | 0x1120, 4 => within 1000 10000 v
  | 0x1200, 2 => within 1 30 v
  | 0x1200, 6 => within 1 127 v
  | 0x1200, 7 => within 1024 65535 v
  | 0x1200, 9 => within 1 4094 (v % 4096)
  | 0x1210, 2 => within 5 3600 v
  | 0x1244, 1 => within 0 0xFFFFF v
  | 0x1400, 2 => within 1 2 v
  | 0x1401, 4 => match s.dev.images.live with
    | none => v == 0
    | some im => decide (v ≤ im.overlays.length)
  | 0x1410, 3 => v == 1
  | 0x2021, 1 => within 0 4095 v
  | 0x2021, 4 => within 1 3 v
  | 0x2110, 1 => within 0 65536 v
  | 0x2111, 3 => v == 1
  | _, _ => true

/-- Ranges of the objects of 0x3000 to 0x3FFF. -/
def rangeMid (s : State) (index sub v : Nat) : Bool :=
  if 0x3100 ≤ index ∧ index < 0x3110 then
    if sub = 1 then within 0 3 v else if sub = 10 then v == 1 else true
  else
    match index, sub with
    | 0x3000, 1 => v == 1
    | 0x3180, 1 => within 0 19 v
    | 0x3180, 4 => within 1 2 v
    | 0x3190, 1 => within 0 3 v
    | 0x3190, 3 => v == 1
    | 0x3404, _ => within 0 0x100 v
    | 0x3410, 2 => v % 4096 == 0
    | 0x3410, 4 => v == 1
    | 0x3412, 1 => within 0 719 v
    | 0x3412, 2 => v % 4096 == 0
    | 0x3412, 5 => v == 1
    | 0x3420, 1 => within 0 16383 v
    | 0x3420, 2 => fieldsAll v 14400 2 (within 0 16383)
    | 0x3440, 1 => fieldsAll v 43200 2 (within 0x4000 0xFFFF)
    | 0x3440, 5 => v == 1
    | 0x3800, 1 => within 0 7 v
    | 0x3800, 2 => within 0 1 v
    | 0x3800, 3 => within 0 1 v
    | 0x3800, 4 => within 0 2 v
    | 0x3800, 5 => within 0 7 v
    | 0x3800, 7 => v == 1
    | 0x3810, 1 => holdAllowed s v
    | 0x3810, 4 => v != 0 && holdAllowed s v
    | _, _ => true

/-- Ranges of the objects from 0x4000 on. -/
def rangeHigh (s : State) (index sub v : Nat) : Bool :=
  if 0x4100 ≤ index ∧ index < 0x4200 then sub != 0x0C || within 0 3 v
  else if 0x48C0 ≤ index ∧ index < 0x48C4 then
    let g (k : Nat) : Nat := if k = sub then v else s.shad index k
    let i := toSigned 32 v
    (if sub = 1 then within 0 3 v else if sub = 2 then within 1 65535 v
     else if sub = 3 then decide (-1000000 ≤ i) && decide (i ≤ 1000000000) else if sub = 4 then within 8 1000000000 v
     else if sub = 6 then decide (bits v 79 48 < 1000000000) else true) && pulseGood (baseHz s) g
  else if 0x48D0 ≤ index ∧ index < 0x48D4 then
    if sub = 1 then within 0 3 v else if sub = 2 then within 0 1000 v else true
  else if 0x5800 ≤ index ∧ index < 0x5818 then
    if sub = 1 then within 0 3 v else if sub = 3 then decide (v < 2 ^ crcWidth (s.reg index 1))
    else if sub = 5 then within 0 2 v else if sub = 9 then within 1 4 v else true
  else
    match index, sub with
    | 0x4200, 1 => within 1 4 v
    | 0x4200, 2 => within 1 63 v
    | 0x4400, 1 => within 1 2 v
    | 0x4400, 2 => within 0 1 v
    | 0x4400, 3 => within 0 1 v
    | 0x4400, 4 => within 0 24000 v
    | 0x4401, 1 => monoGood s v
    | 0x4401, 2 => biGood s v
    | 0x4402, 1 => within 100 s.ceilings.rec2.dcBalance v
    | 0x4402, 6 => within 100 20000 v
    | 0x4402, 7 => v == 1
    | 0x4800, 2 => within 0 127 v
    | 0x4801, 2 => within 0 127 v
    | 0x4800, 3 => within 0 1 v
    | 0x4801, 3 => within 0 1 v
    | 0x4800, 4 => within 0 1 v
    | 0x4801, 4 => within 0 1 v
    | 0x4800, 5 => within 0 2 v
    | 0x4801, 5 => within 0 2 v
    | 0x4802, 7 => decide (-5 ≤ toSigned 16 v) && decide (toSigned 16 v ≤ 0)
    | 0x4820, 1 => decide (bits v 79 48 < 1000000000)
    | 0x4820, 3 => decide (bits v 79 48 < 1000000000)
    | 0x4820, 6 => v == 1
    | 0x4821, 7 => within 0 40 v
    | 0x4840, 2 => within 0 4 v
    | 0x5090, 3 => within 1 10000 v
    | 0x5180, 1 => within 512 65535 v
    | 0x5410, 3 => within 7000 10000 v && decide (v + 7 * s.reg 0x5410 4 ≤ 10400)
    | 0x5410, 4 => within 50 300 v && decide (s.reg 0x5410 3 + 7 * v ≤ 10400)
    | 0x5820, 10 => within 0 8191 v
    | 0x5821, 1 => within 0 1023 v
    | 0x5822, 1 => within 0 15 v
    | 0x6020, 1 => within 10 3600 v
    | 0x6100, 2 => within 1 2 v
    | _, _ => true

/-- The value lies within its object's range (R763 and the rule of each object). -/
def rangeGood (s : State) (r : ObjRow) (index sub v len : Nat) : Bool :=
  (r.typ != 1 || decide (v ≤ 1)) && (r.typ != 0x0B || strGood v len) &&
    (if index < 0x3000 then rangeLow s index sub v
     else if index < 0x4000 then rangeMid s index sub v else rangeHigh s index sub v)

/-! ### Trailing checks (R334) and structure -/

/-- The object's value ends with the CRC of R334. -/
def carriesCrc (index sub : Nat) : Bool :=
  index == 0x3402 || index == 0x3403 || (index == 0x3420 && sub == 2) || (index == 0x3440 && (sub == 1 || sub == 4)) ||
    index == 0x4401 || (index == 0x4410 && sub == 1)

/-- The trailing CRC of a value passes (R334). -/
def crcPasses (index sub : Nat) (bs : List Byte) : Bool :=
  fieldLE bs (bs.length - 4) 4 == crc32c (index * 65536 + sub) (bs.take (bs.length - 4))

/-- The aging curves keep the rules of R345. -/
def agingGood (v : Nat) : Bool :=
  (List.range 3).all fun c =>
    let kp (j : Nat) : Nat := (v >>> (8 * (160 * c + 10 * j))) % 2 ^ 64
    let ep (j : Nat) : Nat := (v >>> (8 * (160 * c + 10 * j + 8))) % 2 ^ 16
    (List.range 16).all fun j =>
      within 0x4000 0xFFFF (ep j) && (j == 15 || (decide (kp j < kp (j + 1)) && decide (ep j ≤ ep (j + 1))))

/-- The curves of a set keep R314 (R316). -/
def gammaGood (v : Nat) : Bool :=
  (List.range 3).all fun c =>
    let g (i : Nat) : Nat := (v >>> (8 * (2050 * c + 2 * i))) % 65536
    (List.range 1025).all fun i => decide (g i ≤ 16383) && (i == 0 || decide (g (i - 1) ≤ g i))

/-- What the value of a write breaks, as an abort in the order of R771; `abNone` 0 when nothing. -/
def valueAbort (s : State) (r : ObjRow) (index sub : Nat) (bs : List Byte) : Nat :=
  if !rangeGood s r index sub (cleaned index sub (leNat bs)) bs.length then abRange
  else if carriesCrc index sub && !crcPasses index sub bs then abMalformed
  else if index = 0x3440 ∧ sub = 4 ∧ agingGood (leNat bs) = false then abRefused
  else 0

/-! ### Gates and rights (R767, R826 to R834) -/

/-- The code of a life-cycle state (R818). -/
def LifeCycle.code : LifeCycle → Nat
  | .blank => 0
  | .maker => 1
  | .openState => 2
  | .locked => 3
  | .returned => 4
  | .retired => 5

/-- The gate that R834 opens to SERVICE: MAKER and RETURNED, and OPEN and LOCKED under a SERVICE overlay. -/
def serviceGate (s : State) : Nat := if serviceInForce s then 0x1E else 0x12

/-- The object is gated to SERVICE by R834. -/
def serviceObject (index sub : Nat) : Bool :=
  (decide (0x4100 ≤ index) && decide (index < 0x4200) && sub == 0x0C) || (index == 0x5090 && sub == 4) ||
    (index == 0x5180 && sub == 2) || (index == 0x5420 && (sub == 1 || sub == 2))

/-- Identity and capability objects, open in every state (R10, R834). -/
def openObject (index sub : Nat) : Bool :=
  index == 0x1000 || index == 0x1010 || (index == 0x1100 && decide (sub ≤ 3))

/-- Read gate (R833, R834). -/
def readGate (s : State) (index sub : Nat) : Nat :=
  if openObject index sub then 0x3F
  else if index = 0x1104 ∧ sub = 1 then 0x1F
  else if index = 0x5820 ∧ (sub = 10 ∨ sub = 11) then 0x12
  else if index = 0x5821 ∧ sub = 2 ∧ within 4 11 (s.reg 0x5821 1) then 0
  else 0x1E

/-- Write gate (R768, R820, R833, R834). Records 0 to 511 and rings 0 to 3 are never written through 0x5821 and 0x5822
(R727). -/
def writeGate (s : State) (r : ObjRow) (index sub : Nat) : Nat :=
  if index = 0x1100 ∧ sub = 4 then 0x1F
  else if index = 0x1101 then (if sub = 1 then 0x03 else 0x1E)
  else if index = 0x1104 ∧ sub = 1 then 0x01
  else if serviceObject index sub then serviceGate s
  else if r.access = 0 ∨ r.access = 4 then readGate s index sub
  else if index = 0x5820 ∧ sub = 10 then 0x12
  else if (index = 0x5821 ∧ sub = 2 ∧ s.reg 0x5821 1 < 512) ∨ (index = 0x5822 ∧ sub = 2 ∧ s.reg 0x5822 1 < 4) then 0
  else if r.imageable && !r.shadow then 0x16
  else 0x1E

/-- Rights (R827), as bit numbers. -/
def rMonitor : Nat := 0
def rOperate : Nat := 1
def rConfigure : Nat := 2
def rService : Nat := 3
def rKeys : Nat := 4

/-- The right a read needs (R832, R834); none for the identity objects. -/
def readRight (index sub : Nat) : Option Nat :=
  if openObject index sub then none
  else if index = 0x5820 ∧ (sub = 10 ∨ sub = 11) then some rService
  else some rMonitor

/-- The right a write needs (R768, R832, R834). -/
def writeRight (r : ObjRow) (index sub : Nat) : Option Nat :=
  if r.access = 0 ∨ r.access = 4 then readRight index sub
  else if index = 0x1100 ∧ sub = 4 then none
  else if index = 0x1101 then (if sub = 1 then none else some rKeys)
  else if index = 0x1104 ∧ sub = 1 then none
  else if (index = 0x1104 ∧ sub = 4) ∨ (index = 0x1103 ∧ sub = 1) then some rKeys
  else if index = 0x1400 ∧ sub = 2 then some rConfigure
  else if index = 0x6010 ∧ sub = 1 then some rConfigure
  else if serviceObject index sub ∨ (index = 0x5820 ∧ sub = 10) then some rService
  else if r.shadow ∨ r.access = 2 then some rOperate
  else some rConfigure

end Sys2Proof.Machine
end

