-- ==== Sys2Proof/Machine/Blocks.lean ====
section
/-!
DEFINITION. The blocks and line packets of a driver link, for both ends: control blocks with their CRC, the scrambler,
and the payload of each depth (R395 to R415).
-/
namespace Sys2Proof.Machine

/-- One bit through the scrambler: the bit sent and the next state of 58 scrambled bits (R398). -/
def scramble (st inp : Nat) : Nat × Nat :=
  let o := (inp + bit st 38 + bit st 57) % 2
  (o, (2 * st + o) % 2 ^ 58)

/-- One bit through the descrambler (R398). -/
def descramble (st inp : Nat) : Nat × Nat :=
  ((inp + bit st 38 + bit st 57) % 2, (2 * st + inp) % 2 ^ 58)

/-- The payload of a block through the scrambler from bit 0 up: the 64 bits sent and the next state (R396, R398). -/
def scrambleBlock (st payload : Nat) : Nat × Nat :=
  (List.range 64).foldl (fun (acc : Nat × Nat) i =>
    let (o, st') := scramble acc.2 (bit payload i)
    (acc.1 + o * 2 ^ i, st')) (0, st)

/-- The payload of a block through the descrambler. -/
def descrambleBlock (st payload : Nat) : Nat × Nat :=
  (List.range 64).foldl (fun (acc : Nat × Nat) i =>
    let (o, st') := descramble acc.2 (bit payload i)
    (acc.1 + o * 2 ^ i, st')) (0, st)

/-- The data blocks that follow a control block on its lane, each with its sync header, bit 0 sent first (R395, R398). -/
def dataWire : Nat → List Nat → List Nat
  | _, [] => []
  | st, b :: bs => let (o, st') := scrambleBlock st b; (2 + 4 * o) :: dataWire st' bs

/-- The scrambler after data blocks. -/
def scrambledTo (st : Nat) (bs : List Nat) : Nat := bs.foldl (fun st b => (scrambleBlock st b).2) st

/-- A control block on a lane at a time, after what the lane sent last and the data blocks that went with it: its sync
header and its scrambled payload, and the scrambler after it. A block that follows at the same time goes on from the last
58 scrambled bits; after IDLE blocks, whose number is not fixed, they are free (R395, R398; log 124). -/
def controlWire (lane now : Nat) (last : Option Wire) (data : List Nat) (payload : Nat) : Wire :=
  let fresh := (Config.scramblerState lane now % 2 ^ 58, [])
  let (st, before) := match last with
    | none => fresh
    | some w =>
      if w.sentAt = now then (scrambledTo w.scrambler data, w.before ++ w.bits :: dataWire w.scrambler data) else fresh
  let (o, st') := scrambleBlock st payload
  { sentAt := now, before := before, bits := 1 + 4 * o, scrambler := st' }

/-! ### Block lock and adaptation (R438, R439) -/

/-- One block header meets a receiver: it hunts, gains lock or loses it (R438). -/
def Receiver.header (r : Receiver) (valid : Bool) : Receiver :=
  if r.locked then
    let recent := (valid :: r.recent).take 64
    if !valid && decide (16 ≤ recent.count false) then
      { r with locked := false, slip := (r.slip + 1) % 66, good := 0, recent := [] }
    else { r with recent := recent }
  else if valid then
    if 64 ≤ r.good + 1 then { r with locked := true, good := 0, recent := [] } else { r with good := r.good + 1 }
  else { r with slip := (r.slip + 1) % 66, good := 0 }

/-- 64 valid headers in a row, the last at a time; IDLE blocks are counted from there (R439). -/
def Receiver.gain (now : Nat) (r : Receiver) : Receiver :=
  { (List.replicate 64 true).foldl Receiver.header r with heardAt := now }

/-- 16 invalid headers. -/
def Receiver.loss (r : Receiver) : Receiver := (List.replicate 16 false).foldl Receiver.header r

/-- A block that is not IDLE comes at a time: the adaptation thaws (R439). -/
def Receiver.hear (now : Nat) (r : Receiver) : Receiver := { r.header true with heardAt := now }

/-- The upstream receiver of a link has block lock. -/
def Link.upLock (x : Link) : Bool := x.rx.locked

/-- The downstream receiver of a driver's lane has block lock. -/
def DriverLane.lock (x : DriverLane) : Bool := x.rx.locked

/-! ### Pattern blocks (R468) -/

/-- One bit of the PRBS31 sequence x^31 + x^28 + 1: the bit and the next state of 31 bits. -/
def prbsStep (st : Nat) : Nat × Nat :=
  let o := (bit st 30 + bit st 27) % 2
  (o, (2 * st + o) % 2 ^ 31)

/-- The payload of the next pattern block, from bit 0 up, and the generator's next state. -/
def patternBlock (st : Nat) : Nat × Nat :=
  (List.range 64).foldl (fun (acc : Nat × Nat) i =>
    let (o, st') := prbsStep acc.2
    (acc.1 + o * 2 ^ i, st')) (0, st)

/-- The payloads of `n` pattern blocks. -/
def patternBlocks : Nat → Nat → List Nat
  | 0, _ => []
  | n + 1, st => let (b, st') := patternBlock st; b :: patternBlocks n st'

/-- Bits of the received blocks that differ from the pattern (R446, R467). -/
def patternErrors (st : Nat) (blocks : List Nat) : Nat :=
  ((patternBlocks blocks.length st).zip blocks).foldl
    (fun n e => n + ((List.range 64).filter fun i => bit e.1 i != bit e.2 i).length) 0

/-- Type of a control block (R396). -/
def blockType (b : Nat) : Nat := b % 256

/-- A control block from its bits [47:0] and the fold of its CRC (R400). -/
def block (fold body : Nat) : Nat := body % 2 ^ 48 + crc16 fold (natLE body 6) * 2 ^ 48

/-- The CRC of a control block passes under a fold (R400). -/
def blockGood (fold b : Nat) : Bool := decide (b < 2 ^ 64) && b / 2 ^ 48 == crc16 fold (natLE b 6)

/-- SOL of a line, depth and SEQ, on a link (R402). -/
def solBlock (l line depth seq : Nat) : Nat :=
  block l (0x2D + line * 2 ^ 8 + depth * 2 ^ 24 + seq % 2 ^ 16 * 2 ^ 32)
/-- KEEP of a line (R402). -/
def keepBlock (l line seq : Nat) : Nat := block l (0x3C + line * 2 ^ 8 + seq % 2 ^ 16 * 2 ^ 32)
/-- FRAME_END before `count` commands (R402, R428). -/
def frameEndBlock (l frame count copy : Nat) : Nat :=
  block l (0x55 + frame % 2 ^ 32 * 2 ^ 8 + count * 2 ^ 40 + copy * 2 ^ 44)
/-- CMD (R402). -/
def cmdBlock (l opcode arg : Nat) : Nat := block l (0x66 + opcode * 2 ^ 8 + arg % 2 ^ 32 * 2 ^ 16)
/-- CAP (R402); its fold is 0. -/
def capBlock (l speed : Nat) (wide : Bool) : Nat :=
  block 0 (0x4B + l * 2 ^ 8 + l % 2 * 2 ^ 16 + ofBool wide * 2 ^ 17 + speed * 2 ^ 18 + 2 ^ 24)
/-- Downstream TRAIN (R402). -/
def trainDown (step speed : Nat) : Nat := block 0 (0x78 + step * 2 ^ 8 + speed * 2 ^ 12)
/-- Upstream TRAIN (R402). -/
def trainUp (step : Nat) (locked : Bool) (margin : Nat) : Nat :=
  block 0 (0x78 + step * 2 ^ 8 + ofBool locked * 2 ^ 12 + margin % 64 * 2 ^ 16)
/-- TEST before `count` pattern blocks (R402). -/
def testBlock (count : Nat) : Nat := block 0 (0x69 + count * 2 ^ 8)
/-- TEST_RESULT (R402). -/
def resultBlock (errors : Nat) : Nat := block 0 (0x69 + min errors 0xFFFFFFFF * 2 ^ 8)
/-- SLEEP (R402). -/
def sleepBlock (l : Nat) : Nat := block l 0x5A
/-- TELEM (R402). -/
def telemBlock (l item value : Nat) : Nat := block l (0x6C + item * 2 ^ 8 + value % 2 ^ 32 * 2 ^ 16)
/-- STATUS (R402). -/
def statusBlock (l : Nat) (lo hi urgent feMiss emit : Bool) (margin seq discards : Nat) : Nat :=
  block l (0x33 + ofBool lo * 2 ^ 8 + ofBool hi * 2 ^ 9 + ofBool urgent * 2 ^ 10 + ofBool feMiss * 2 ^ 11 +
    ofBool emit * 2 ^ 12 + margin % 64 * 2 ^ 16 + seq % 2 ^ 16 * 2 ^ 24 + min discards 255 * 2 ^ 40)

/-- An intact STATUS on link `l`: type, CRC and reserved fields (R400, R402). -/
def statusGood (l b : Nat) : Bool :=
  blockGood l b && blockType b == 0x33 && bits b 15 13 == 0 && bits b 23 22 == 0

/-- An intact upstream TRAIN. -/
def trainUpGood (b : Nat) : Bool :=
  blockGood 0 b && blockType b == 0x78 && bits b 15 13 == 0 && bits b 47 22 == 0

/-- An intact downstream TRAIN. -/
def trainDownGood (b : Nat) : Bool := blockGood 0 b && blockType b == 0x78 && bits b 47 15 == 0

/-- An intact CAP. -/
def capGood (b : Nat) : Bool :=
  blockGood 0 b && blockType b == 0x4B && bits b 23 21 == 0 && bits b 47 32 == 0

/-- An intact CAP_UP part. -/
def capUpGood (b : Nat) : Bool :=
  blockGood 0 b && blockType b == 0x4B && decide (bits b 9 8 < 2) && bits b 15 10 == 0 &&
    (if bits b 9 8 = 0 then bits b 31 29 == 0 else bits b 47 44 == 0)

/-- An intact TEST_RESULT. -/
def resultGood (b : Nat) : Bool := blockGood 0 b && blockType b == 0x69 && bits b 47 40 == 0

/-- An intact TELEM on link `l`. -/
def telemGood (l b : Nat) : Bool := blockGood l b && blockType b == 0x6C

/-! ### Line packets (R404 to R409) -/

/-- Numbers of `w` bits packed from bit 0 up. -/
def packBits (w : Nat) : List Nat → Nat
  | [] => 0
  | c :: cs => c % 2 ^ w + 2 ^ w * packBits w cs

/-- How a lane is driven under preset `p`, its swing held to a ceiling (R889). -/
def presetDrive (p ceiling : Nat) : TxDrive where
  swing := min (if p < 4 then 800 else 1000) ceiling
  pre := nth [0, 0, 0, 0, 15, 15, 25, 25] p
  post := nth [0, 20, 35, 60, 35, 60, 60, 90] p

/-- `n` numbers of `w` bits unpacked. -/
def unpackBits (w n x : Nat) : List Nat := (List.range n).map fun i => (x >>> (w * i)) % 2 ^ w

/-- The HALF code of a 10-bit code (R409). -/
def halfCode (c : Nat) : Nat := (c * 31 + 511) / 1023

/-- The 10-bit code a driver shows for a HALF code (R409). -/
def halfShown (h : Nat) : Nat := (h <<< 5) ||| h

/-- Codes a packet of a depth carries (R405): 0 FULL, 1 HALF, 2 PROXY. -/
def codesOf (wide : Bool) (depth : Nat) : Nat :=
  (if depth = 0 then 720 else if depth = 1 then 1440 else 60) * (if wide then 2 else 1)

/-- Bits of one code of a depth. -/
def codeBits (depth : Nat) : Nat := if depth = 1 then 5 else 10

/-- Bytes of the payload, of the pad, and of the whole data part (R405, R406). -/
def payloadBytes (wide : Bool) (depth : Nat) : Nat := (codesOf wide depth * codeBits depth + 7) / 8
def dataBytes (wide : Bool) (depth : Nat) : Nat :=
  let n := payloadBytes wide depth
  n + (12 - n % 8) % 8 + 4

/-- Blocks of a packet, its SOL included (R408). -/
def packetBlocks (wide : Bool) (depth : Nat) : Nat := 1 + dataBytes wide depth / 8

/-- The data part of a line packet: payload, pad and check (R404 to R407). -/
def packetData (l line depth : Nat) (wide : Bool) (sol : Nat) (codes : List Nat) : List Byte :=
  let n := dataBytes wide depth - 4
  let body := natLE (packBits (codeBits depth) codes) n
  body ++ natLE (crc32c (l * 2 ^ 16 + line) (slice (natLE sol 8) 1 5 ++ body)) 4

/-- The data blocks of a packet, as 64-bit payloads. -/
def dataBlocks (bs : List Byte) : List Nat :=
  (List.range (bs.length / 8)).map fun i => fieldLE bs (8 * i) 8

/-! ### Line budget (R413, R414) -/

/-- Mbit/s of a speed code (R393). -/
def laneMbps (code : Nat) : Nat := if code = 0 then 0 else 2500 * 2 ^ (code - 1)

/-- The receiver's adaptation is frozen: 4,096 IDLE blocks have followed the last other block at `mbps` (R439). -/
def Receiver.frozen (now mbps : Nat) (r : Receiver) : Bool :=
  r.locked && decide (0 < mbps) && decide (r.heardAt + 4096 * 66 * 1000000 / mbps ≤ now)

/-- Blocks a lane carries in a line at a base rate (R413). -/
def lineBudget (hz code : Nat) : Nat := laneMbps code * 1000000 / (hz * 18000 * 66)

/-- A depth fits a lane (R413). -/
def depthFits (wide : Bool) (depth hz code : Nat) : Bool := decide (packetBlocks wide depth + 5 ≤ lineBudget hz code)

end Sys2Proof.Machine
end

