-- ==== Sys2Proof/Machine/Pixel.lean ====
section
/-!
DEFINITION. From composed values to drive codes: matrix, dead emitters, gamma, gain, governor and dither; the strip
buffer, the freeze caches, and the patches that complete (R33, R165, R169, R303 to R340, R346, R347).
-/
namespace Sys2Proof.Machine

/-! ### Stages (R305 to R315, R329, R331, R338) -/

/-- The colour unit of an emitter column (R303). -/
def halfOf (xe : Nat) : Nat := if xe < 30720 then 0 else 1

/-- Channel `k` of a composed value. -/
def Rgba.chan (v : Rgba) (k : Nat) : Nat := if k = 0 then v.r else if k = 1 then v.g else v.b

/-- Stage 1 of colour `k` (R309). -/
def matrixStage (c : Committed) (h k : Nat) (v : Rgba) : Nat :=
  let m (j : Nat) : Int := toSigned 16 (c.obj (0x3400 + h) (3 * k + j + 1))
  let acc : Int := m 0 * v.r + m 1 * v.g + m 2 * v.b
  (clamp 0 0xFFFF ((acc + 0x1000) / 8192)).toNat

/-- Point `i` of the curve of colour `k` (R316). -/
def curvePoint (c : Committed) (h k i : Nat) : Nat := (c.obj (0x3402 + h) 1 >>> (8 * (2050 * k + 2 * i))) % 65536

/-- Stage 3 (R315). -/
def gammaStage (c : Committed) (h k x : Nat) : Nat :=
  let i := x / 64
  let f := x % 64
  (curvePoint c h k i * (64 - f) + curvePoint c h k (i + 1) * f + 32) / 64

/-- Bytes of a band slot (R318). -/
def bandSize (c : Committed) : Nat := 24 * (24 * hogelCols c) * 3

/-- HBM offset of the gain byte of colour `k` of emitter (xe, ye) (R318 to R320). -/
def gainAt (s : State) (c : Committed) (xe ye k : Nat) : Nat :=
  let band := ye / 24
  s.reg 0x3410 2 + amGetD c.bands band band * bandSize c + 3 * (24 * hogelCols c * (ye % 24) + xe) + k

/-- The gain byte of the frame of count `n`, 0x80 where the map is disabled or cannot be read (R321). -/
def gainByte (s : State) (c : Committed) (n xe ye k : Nat) : Nat :=
  if c.obj 0x3410 1 = 0 then 0x80
  else
    let a := gainAt s c xe ye k
    if s.dev.gov.badGain.any fun r => r.1 == n && decide (r.2.1 ≤ a) && decide (a < r.2.1 + r.2.2) then 0x80
    else ((hbmByte s a).map (·.toNat)).getD 0x80

/-- Governor zone of an emitter (R330). -/
def zoneOf (c : Committed) (xe ye : Nat) : Nat := hogelCols c / 16 * (ye / 12 / 16) + xe / 24 / 16

/-- Governor zones of the tile. -/
def zoneCount (c : Committed) : Nat := hogelCols c / 16 * 90

/-- Aging factor of a zone and colour (R340). -/
def agingFactor (c : Committed) (z k : Nat) : Nat := (c.obj 0x3440 1 >>> (16 * (3 * z + k))) % 65536

/-- Stage 4 (R329). -/
def gainStage (code g a : Nat) : Nat := min 0x3FFF ((code * g * a + 2 ^ 21) / 2 ^ 22)

/-- Scale of a zone, u1.16. -/
def zoneScale (s : State) (z : Nat) : Nat := amGetD s.dev.gov.scale z 0x10000

/-- Budget of a zone in a committed state, under the hardware ceiling in force (R330). -/
def zoneBudget (s : State) (c : Committed) (z : Nat) : Nat :=
  min ((c.obj 0x3420 2 >>> (16 * z)) % 65536) s.ceilings.rec2.radiance * 221184

/-- The target scale for a sum and a budget (R332). -/
def scaleTarget (pre budget : Nat) : Nat := if budget < pre then budget * 65536 / pre else 0x10000

/-- The freeze state that the frame of count `n` has. -/
def freezeState (s : State) (n : Nat) : Nat := if n = s.dev.timing.count then s.reg 0x2040 2 else s.dev.freeze.next

/-- Scale of a zone in the frame of count `n`. The zones of the strips that are coloured before the frame's calends have
their whole sum of the frame before by then, and take the scale that the calends will compute from it (R332, R333). -/
def zoneScaleAt (s : State) (c : Committed) (n z : Nat) : Nat :=
  if n = s.dev.timing.count ∨ freezeState s n = 1 then zoneScale s z
  else min (scaleTarget (amGetD s.dev.gov.pre z 0) (zoneBudget s c z)) (min 0x10000 (zoneScale s z + c.obj 0x3420 3))

/-- The dither offset d (R338, R339). -/
def ditherOffset (c : Committed) (hold : Bool) (frame xe ye k : Nat) : Nat :=
  let b4 := [0, 8, 2, 10, 12, 4, 14, 6, 3, 11, 1, 9, 15, 7, 13, 5]
  let f := if hold then 0 else frame % 4
  if c.obj 0x3430 1 = 0 then 8
  else (nth b4 (4 * (ye % 4) + xe % 4) + 4 * nth [0, 2, 1, 3] ((f + k) % 4)) % 16

/-- Stage 6 (R338). -/
def ditherStage (code d : Nat) : Nat := min 1023 ((code + d) / 16)

/-- The sum of the shares that emitter (xe, ye) receives in colour `k`; `lin` gives stage 1 by column of the patch
(R311 to R313). -/
def shares (s : State) (c : Committed) (q : Patch) (ye k : Nat) (lin : Nat → Nat) (x : Nat) : Nat :=
  let base := 1920 * q.patch
  let near (a b : Nat) : Bool :=
    (base + a) / 24 == (base + b) / 24 || (is2D c ((base + a) / 24) (ye / 12) && is2D c ((base + b) / 24) (ye / 12))
  let share (n : Nat) : Nat :=
    if decide (n < 1920) && near n x && gainByte s c q.count (base + n) ye k == 0 then
      (lin n * c.obj 0x3404 (k + 1) + 0x100) / 512
    else 0
  (if x = 0 then 0 else share (x - 1)) + share (x + 1)

/-- The code of colour `k` before the governor (R305 stages 1 to 4). -/
def preCode (s : State) (c : Committed) (q : Patch) (l k : Nat) (vals : List Rgba) (x : Nat) : Nat :=
  let xe := 1920 * q.patch + x
  let ye := 24 * q.strip + l
  let h := halfOf xe
  let lin (n : Nat) : Nat := matrixStage c (halfOf (1920 * q.patch + n)) k (vals.getD n {})
  let g := gainByte s c q.count xe ye k
  let v := if g = 0 then 0 else min 0xFFFF (lin x + shares s c q ye k lin x)
  gainStage (gammaStage c h k v) g (agingFactor c (zoneOf c xe ye) k)

/-! ### A patch through the colour unit -/

/-- One emitter colour: sums, and its drive code. -/
structure Shade where
  zone : Nat
  colour : Nat
  pre : Nat
  post : Nat
  code : Nat
deriving DecidableEq, Repr

/-- A line of a patch through the colour unit. -/
def shadeLine (s : State) (c : Committed) (q : Patch) (l : Nat) (vals : List Rgba) : List Shade :=
  (List.range 5760).map fun i =>
    let x := i / 3
    let k := i % 3
    let xe := 1920 * q.patch + x
    let ye := 24 * q.strip + l
    let z := zoneOf c xe ye
    let pre := preCode s c q l k vals x
    let post := pre * zoneScaleAt s c q.count z / 65536
    { zone := z, colour := k, pre := pre, post := post
      code := ditherStage post (ditherOffset c (decide (1 ≤ freezeState s q.count)) q.count xe ye k) }

/-- Key of a line of a patch in the strip buffer (R203). -/
def stripKey (strip line patch : Nat) : Nat := (strip % 8 * 24 + line) * 32 + patch

/-- The codes of line `l` of a strip in the strip buffer, in column order. -/
def stripLine (s : State) (c : Committed) (strip l : Nat) : List Nat :=
  ((List.range (patchesPerStrip c)).map fun p => amGetD s.dev.synth.strips (stripKey strip l p) []).flatten

/-- Key of an emitter's value among the signature inputs. -/
def signatureKey (count r xe ye : Nat) : Nat := ((count % 2 * 16 + r) * 17280 + ye) * 61440 + xe

/-- The regions' inputs of a patch are kept for its frame's signatures (R283, R285, R292). -/
def takeSignature (c : Committed) (q : Patch) (vals : List (List Rgba)) (s : State) : State :=
  if c.safety then s
  else
    s.each (List.range 16) fun r s =>
      if c.obj (0x3100 + r) 4 = 0 then s
      else
        s.each (List.range 24) fun l s => s.each (List.range 1920) fun x s =>
          let xe := 1920 * q.patch + x
          let ye := 24 * q.strip + l
          if inRegion c r xe ye then
            let v := (vals.getD l []).getD x {}
            let k := signatureKey q.count r xe ye
            modSynth (fun y => { y with signature := amPut y.signature k (v.r + v.g * 65536 + v.b * 2 ^ 32) }) s
          else s

/-! ### Freeze caches (R164 to R169) -/

/-- Bytes of a strip in a freeze cache (R165). -/
def cacheStripBytes (c : Committed) : Nat := 24 * (24 * hogelCols c) * 30 / 8

/-- HBM offset of freeze cache `k`. -/
def cacheBase (s : State) (k : Nat) : Nat := if k = 0 then 0x4C0000000 else cacheBase1 s

/-- The flatten generation of the frame of count `n`: a flatten that starts at the next calends has the next one, and
its first strips are coloured before that calends (R168, R169). -/
def flattenGeneration (s : State) (n : Nat) : Nat :=
  if n ≠ s.dev.timing.count ∧ s.dev.freeze.next = 1 ∧ s.reg 0x2040 2 = 0 then (s.reg 0x2040 3 + 1) % 2 ^ 32
  else s.reg 0x2040 3

/-- Fold of a strip's check word under a generation. -/
def cacheFold (generation strip : Nat) : Nat := generation % 2 ^ 22 * 1024 + strip

/-- Write a complete strip of the frame of count `n` and its check word into both caches (R165, R166, R169). The codes
follow each other line by line, by ascending column, red first, each from its lowest bit (DESIGN CHOICE, log 129). -/
def cacheWrite (n strip : Nat) (s : State) : State :=
  let c := stateOf s n
  let g := flattenGeneration s n
  let len := cacheStripBytes c
  let codes := ((List.range 24).map fun l => stripLine s c strip l).flatten
  let bytes := natLE (packBits 10 codes) len
  let word := natLE (crc32c (cacheFold g strip) bytes) 4 ++ natLE g 4
  s.each (if cachesMirrored s then [0, 1] else [0]) fun k s =>
    hbmStore 38 (cacheBase s k + 720 * len + 8 * strip) word (hbmStore 38 (cacheBase s k + strip * len) bytes s)

/-- The strip as cache `k` holds it, when its check word passes (R170). -/
def cacheRead (s : State) (strip k : Nat) : Option (List Byte) :=
  let n := cacheStripBytes s.dev.live
  if k = 1 && !cachesMirrored s then none
  else
    match hbmRead s (cacheBase s k + strip * n) n, hbmRead s (cacheBase s k + 720 * n + 8 * strip) 8 with
    | some b, some w =>
      if fieldLE w 0 4 == crc32c (cacheFold (s.reg 0x2040 3) strip) b && fieldLE w 4 4 == s.reg 0x2040 3 then some b
      else none
    | _, _ => none

/-- Strip `q.strip` is one that flatten frame `q.count` sends to the caches (R169). -/
def flattens (s : State) (q : Patch) : Bool :=
  freezeState s q.count == 1 && decide (s.dev.freeze.startAt ≤ q.count) && q.strip % 8 == q.count - s.dev.freeze.startAt

/-- A complete strip of a flatten frame goes to the caches (R169). A strip one of whose patches is sent with KEEP is
never complete and is not written, so that FROZEN finds its check word wrong (DESIGN CHOICE, log 132). -/
def flattenStrip (q : Patch) (s : State) : State :=
  if flattens s q &&
      (List.range (patchesPerStrip (stateOf s q.count))).all fun p => s.dev.synth.complete.contains { q with patch := p } then
    cacheWrite q.count q.strip s
  else s

/-! ### Lease misses (R142, R143, R230) -/

/-- Layer `j` is transparent for a patch: counted once per patch, logged once per layer and frame. -/
def leaseMiss (j : Nat) (q : Patch) (s : State) : State :=
  if s.dev.synth.transparent.contains (j, q) then s
  else
    let s := (modSynth (fun y => { y with transparent := (j, q) :: y.transparent }) s).bump 0x2011 (j + 1)
    if s.dev.synth.missLogged.contains (q.count, j) then s
    else
      logEvent 143 3 0x2011 (j + 1) (q.count % 2 ^ 32 + q.strip * 2 ^ 32 + q.patch * 2 ^ 42)
        (modSynth (fun y => { y with missLogged := (q.count, j) :: y.missLogged }) s)

/-! ### Window fetches (R140 to R144, R207, R208) -/

/-- The requests of a source for the descriptor, the index tile and the palette slot of a block (R140). -/
def askBlock (src n layer slot b : Nat) (s : State) : State :=
  let off := groupBase n + slotOffset layer slot
  hbmAsk src false (off + 0x100000 + 2048 * b) 2048
    (hbmAsk src false (off + 0x4200000 + 4096 * b) 4096 (hbmAsk src false (off + 16 * b) 16 s))

/-- Slots of a window store after a block is put into it for a patch: a slot that holds the block is pinned by the
patch too; of 512 slots the oldest that no patch pins gives way (DESIGN CHOICE, log 177). Where patches pin all 512, the
block gets none (R207). -/
def putSlot (q : Patch) (w : WindowSlot) (xs : List WindowSlot) : List WindowSlot :=
  let same (o : WindowSlot) : Bool := o.layer == w.layer && o.group == w.group && o.block == w.block && o.lease == w.lease
  match xs.find? same with
  | some o => xs.map fun x => if same x then { w with pins := q :: o.pins.filter (· != q) } else x
  | none =>
    if xs.length < 512 then { w with pins := [q] } :: xs
    else match xs.reverse.find? fun x => x.pins.isEmpty with
      | some o => { w with pins := [q] } :: xs.erase o
      | none => xs

/-- Clusters that work on a patch: the one that runs it, and the spares that redo its quarters. -/
def holders (s : State) (q : Patch) : List Nat :=
  (s.dev.synth.running.filter fun e => e.2 == q).map (·.1) ++
    (s.dev.synth.redoRunning.filter fun e => e.2.1 == q).map (·.1)

/-- Entries of the window cache: 64 MiB of tiles and palettes (R47); the oldest give way (DESIGN CHOICE, log 133). -/
def cacheEntries : Nat := 10922

/-- A fetched block goes into the window cache, and the block of a plane into the window stores of the clusters that
work on the patch (R207, R208). -/
def keepFetched (q : Patch) (e : CacheEntry) (s : State) : State :=
  let w : WindowSlot :=
    { layer := e.layer, group := e.group, block := e.block, lease := e.lease, descriptor := e.descriptor
      tile := e.tile, palette := e.palette }
  let hs := if e.layer < 16 then holders s q else []
  modSynth (fun y =>
    { y with
      cache := (e :: y.cache.filter fun o =>
        !(o.layer == e.layer && o.group == e.group && o.block == e.block && o.lease == e.lease)).take cacheEntries
      stores := hs.foldl (fun m i => amMod m i [] (putSlot q w)) y.stores }) s

/-- A block is fetched for a patch: from the window cache, or from the plane-store group with the lease check, the
mirror when the first copy fails, or not at all; `bad0` and `bad1` say that a copy is read with an uncorrectable error
(R141, R142, R144, R208, R672). -/
def fetchFor (q : Patch) (layer block : Nat) (bad0 bad1 : Bool) (s : State) : State :=
  let l := amGetD (stateOf s q.count).layers layer {}
  let off := groupBase q.count + slotOffset layer l.slot
  let entry (x : List Byte × List Byte) (k : Nat) : CacheEntry :=
    { layer := layer, group := q.count % 2, block := block, lease := l.lease
      descriptor := ((cachedDescriptor s q layer l.lease block).or (copyBytes s (off + 16 * block) 16 k)).getD []
      tile := x.1, palette := x.2 }
  let try' (k : Nat) (bad : Bool) := if bad then none else blockCopy s q.count layer l.slot l.lease block k
  let note (k : Nat) (bad : Bool) (s : State) : State := match descriptorPc s q.count layer l.slot block k with
    | some i => if bad then pcUncorrectable i s else s
    | none => s
  let cached := cachedBlock s q layer l.lease block
  let s := s.iff cached.isNone (askBlock 32 q.count layer l.slot block)
  match cached.or (try' 0 bad0) with
  | some x => keepFetched q (entry x 0) (s.iff cached.isNone (tileMirrors q.count layer l.slot block))
  | none =>
    let s := note 0 bad0 s
    match try' 1 bad1 with
    | some x =>
      let s := tileMirrors q.count layer l.slot block (mirrorServed q.count layer l.slot block s)
      let s := if bad0 then
          match copyBytes s (off + 16 * block) 16 1 with
          | some d => hbmWrite (off + 16 * block) d (hbmWrite (off + 0x4200000 + 4096 * block) x.1
              (hbmWrite (off + 0x100000 + 2048 * block) x.2 s))
          | none => s
        else s
      keepFetched q (entry x 1) s
    | none => leaseMiss layer q (note 1 bad1 s)

/-- The fetches of a patch for the blocks it needs. A layer one of whose blocks fails on both copies is transparent for
the patch, and no more of its blocks are fetched. -/
def patchFetches (q : Patch) (s : State) : State :=
  let c := stateOf s q.count
  if c.safety then s
  else
    s.each (visitedPlanes c ++ visibleOverlays c) fun v s =>
      s.each (neededBlocks c q v.1 v.2) fun b s =>
        if s.dev.synth.transparent.contains (v.1, q) then s else fetchFor q v.1 b false false s

/-! ### Reads of the protected store (R281) -/

/-- A descriptor is read from its second copy. Where the first has an uncorrectable error (`bad`), or gives no good
data, the mirror read is counted and the first is rewritten (R672). -/
def rewriteFirst (off : Nat) (bad : Bool) (s : State) : State :=
  match bad && (copyBytes s off 16 0).isSome, (place s off).map (·.copies), copyBytes s (off / 32 * 32) 32 1 with
  | true, some (i :: _), some bs => hbmWrite (off / 32 * 32) bs (s.bump (0x5000 + i) 7)
  | _, _, _ => mirrorRead off 16 s

/-- A read of block `b` of slot `k`; `bad0` and `bad1` say that a copy is read with an uncorrectable error (R281). -/
def protectedRead (k b : Nat) (bad0 bad1 : Bool) (s : State) : State :=
  match amGet s.dev.protectedDefs k with
  | none => s
  | some _ =>
    let note (j : Nat) (bad : Bool) (s : State) : State :=
      match (place s (protectedBase k + 0x10000 + 16 * b)).bind fun p => p.copies[j]? with
      | some i => if bad then pcUncorrectable i s else s
      | none => s
    let good (j : Nat) (bad : Bool) : Bool := !bad && (protectedCopy s k b j).isSome
    let base := protectedBase k
    let clean := modSynth fun y => { y with protectedBad := y.protectedBad.filter (· != (k, b)) }
    let s := hbmAsk 52 false (base + 0x20000 + 2048 * b) 2048
      (hbmAsk 52 false (base + 0x420000 + 4096 * b) 4096 (hbmAsk 52 false (base + 0x10000 + 16 * b) 16 s))
    let tiles (s : State) : State := mirrorRead (base + 0x20000 + 2048 * b) 2048 (mirrorRead (base + 0x420000 + 4096 * b) 4096 s)
    if good 0 bad0 then clean (tiles s)
    else
      let s := (note 0 bad0 s).bump 0x3180 7
      if good 1 bad1 then clean (tiles (rewriteFirst (base + 0x10000 + 16 * b) bad0 s))
      else
        let s := modSynth (fun y => { y with protectedBad := (k, b) :: y.protectedBad.filter (· != (k, b)) }) (note 1 bad1 s)
        if s.dev.protectedLogged then s
        else logEvent 281 3 0x3180 0 (k + b * 2 ^ 8) (s.modDev fun d => { d with protectedLogged := true })

/-- Protected slots that the composition of a patch samples: the safety image, or the substitutes of the regions whose
action applies in it (R288, R295). -/
def protectedNeeded (s : State) (q : Patch) : List Nat :=
  let c := stateOf s q.count
  if c.safety then (if c.image < 4 then [c.image] else [])
  else
    ((List.range 16).filter fun r =>
      c.obj (0x3100 + r) 1 == 2 && regionActs s r q.count &&
        ((List.range 24).any fun l => (List.range 1920).any fun x =>
          inRegion c r (1920 * q.patch + x) (24 * q.strip + l))).map (4 + ·)

/-- Reads of protected slot `k` for a patch, one for each block that its taps reach. One that has failed on both copies in
the frame falls back again (R281). -/
def protectedReads (k : Nat) (q : Patch) (s : State) : State :=
  match amGet s.dev.protectedDefs k with
  | none => s
  | some ct =>
    s.each (overlayBlocks (stateOf s q.count) ct q.strip q.patch) fun b s =>
      if s.dev.synth.protectedBad.contains (k, b) then s.bump 0x3180 7 else protectedRead k b false false s

/-- The reads of the protected store that the composition of a patch makes. -/
def protectedFetches (q : Patch) (s : State) : State := s.each (protectedNeeded s q) fun k s => protectedReads k q s

/-- The reads of the safety image that PROXY values of a strip make (R281, R751). -/
def proxyFetches (n strip : Nat) (s : State) : State :=
  let c := stateOf s n
  if c.safety && decide (c.image < 4) then
    s.each (List.range (patchesPerStrip c)) fun p s => protectedReads c.image { count := n, strip := strip, patch := p } s
  else s

/-! ### Completion (R210, R305, R336) -/

/-- The colour unit of a patch's half reads the gain bytes of its lines (R318, R649). -/
def gainReads (q : Patch) (s : State) : State :=
  let c := stateOf s q.count
  let x := 1920 * q.patch
  if c.obj 0x3410 1 = 0 then s
  else s.each (List.range 24) fun l s => hbmAsk (36 + halfOf x) false (gainAt s c x (24 * q.strip + l) 0) 5760 s

/-- The patch's drive codes are in the strip buffer, and its tiles are pinned no more (R207). The post sums of a strip
that goes to the caches are recorded (R342). -/
def patchDone (q : Patch) (s : State) : State :=
  let s := gainReads q (protectedFetches q (patchFetches q s))
  let c := stateOf s q.count
  let raw := patchValues s q
  let s := takeSignature c q raw s
  let lines := (List.range 24).map fun l =>
    let vals := (List.range 1920).map fun x =>
      let v := (raw.getD l []).getD x {}
      if c.safety then v else regionValue s c q.count (1920 * q.patch + x) (24 * q.strip + l) v
    shadeLine s c q l vals
  let s := s.each lines.flatten fun h s =>
    modGov (fun g =>
      if q.count = s.dev.timing.count then
        { g with pre := amMod g.pre h.zone 0 (· + h.pre), post := amMod g.post (3 * h.zone + h.colour) 0 (· + h.post) }
      else
        { g with preNext := amMod g.preNext h.zone 0 (· + h.pre)
                 postNext := amMod g.postNext (3 * h.zone + h.colour) 0 (· + h.post) }) s
  let s := if flattens s q then
      s.each lines.flatten fun h s =>
        modFreeze (fun f => { f with post := amMod f.post (3 * h.zone + h.colour) 0 (· + h.post) }) s
    else s
  let s := s.each (List.range 24) fun l s =>
    modSynth (fun y => { y with strips := amPut y.strips (stripKey q.strip l q.patch) ((lines.getD l []).map (·.code)) }) s
  flattenStrip q (modSynth (fun y =>
    { y with
      complete := q :: y.complete
      recomputed := y.recomputed.filter (· != q)
      stores := y.stores.map fun e => (e.1, e.2.map fun w => { w with pins := w.pins.filter (· != q) }) }) s)

/-- Frame count of a strip whose patch is being worked on outside synthesis (R296). -/
def stripCount (s : State) (strip : Nat) : Nat :=
  if 24 * strip + 24 ≤ s.dev.timing.line then nextCount s else s.dev.timing.count

/-- The patch that is running at (strip, patch), with its cluster; in a safety frame composition works without one. -/
def runningPatch (s : State) (strip patch : Nat) : Option (Option Nat × Patch) :=
  match s.dev.synth.running.find? fun e => e.2.strip == strip && e.2.patch == patch with
  | some e => some (some e.1, e.2)
  | none =>
    let q : Patch := { count := stripCount s strip, strip := strip, patch := patch }
    let c := stateOf s q.count
    if c.safety && !c.frozen && !c.thermal && !s.dev.synth.complete.contains q then some (none, q) else none

/-- The scan engines have read the line that held the place of line `l` of `q`'s strip in its slot: until then results
for it are held back (R203). -/
def lineFree (s : State) (q : Patch) (l : Nat) : Bool :=
  if q.count = s.dev.timing.count then decide (q.strip < 8) || decide (24 * (q.strip - 8) + l ≤ s.dev.timing.line)
  else decide (24 * (712 + q.strip) + l ≤ s.dev.timing.line)

/-- Every line of `q`'s slot is free: until then its patch cannot complete. -/
def slotFree (s : State) (q : Patch) : Bool := lineFree s q 23

/-- A patch completes (R203, R210, R220). -/
def patchComplete (strip patch : Nat) (s : State) : State :=
  match runningPatch s strip patch with
  | none => s
  | some (sc, q) =>
    if s.dev.synth.colourFailed.contains q || !slotFree s q then s
    else
      match sc with
      | none => patchDone q s
      | some i =>
        modSynth (fun y => { y with running := y.running.erase (i, q) }) (patchDone q (s.bumpSeq 0x2101 (i + 1)))

/-- The band that a committed state maps to a gain-map slot, when it maps one (R320). -/
def bandOfSlot (c : Committed) (slot : Nat) : Option Nat :=
  ((c.bands.find? fun e => e.2 == slot).map (·.1)).or (if (amGet c.bands slot).isNone then some slot else none)

/-- The frame whose map a byte of the gain map is being read for: that of the strip whose band the byte lies in, under the
band table of its frame, as synthesis works on it now. -/
def gainFrame (s : State) (off : Nat) : Nat :=
  let slot := (off - s.reg 0x3410 2) / max 1 (bandSize s.dev.live)
  let next := nextCount s
  if (bandOfSlot (stateOf s next) slot).any fun b => stripCount s b == next then next
  else ((bandOfSlot s.dev.live slot).map (stripCount s)).getD s.dev.timing.count

/-- A map read fails with an uncorrectable error over `len` bytes at HBM offset `off` (R321, R673, R674). -/
def gainFault (off len : Nat) (s : State) : State :=
  let n := gainFrame s off
  let s := match (place s off).map (·.copies) with
    | some (i :: _) => (pcUncorrectable i s).bump (0x5000 + i) 6
    | _ => s
  logEvent 321 3 0x3410 0 off ((modGov (fun g => { g with badGain := (n, off, len) :: g.badGain }) s).bump 0x3410 6)

/-! ### Commands -/

/-- PATCH_COMPLETE (R210). -/
def execPatchComplete (strip patch : Nat) (s : State) : Out :=
  run (.patchComplete strip patch) (onMem [.od, .synth, .gov, .protectedLogged, .freeze, .memory, .events,
      .eventBuffer, .eventMessages] (patchComplete strip patch) s)

/-- GAIN_MAP_READ_FAULT (R321). -/
def execGainMapReadFault (off len : Nat) (s : State) : Out :=
  run (.gainMapReadFault off len) (onDev [.od, .gov, .memory, .events, .eventBuffer, .eventMessages] (gainFault off
      len) s)

end Sys2Proof.Machine
end

