-- ==== Sys2Proof/Machine/Synthesis.lean ====
section
/-!
DEFINITION. Dispatch of patches, window fetches, cluster faults and redo (R140 to R144, R207 to R224, R239).
-/
namespace Sys2Proof.Machine

/-! ### Clusters (R212, R219, R223) -/

/-- SC`i` is a spare by number. -/
def isSpare (i : Nat) : Bool := decide (96 ≤ i) && decide (i < 100)

/-- SC`i` is in the scheduled set. -/
def scheduled (s : State) (i : Nat) : Bool :=
  clusterHere s i && !clusterFailed s i && (!isSpare i || s.dev.synth.drafted.contains i)

/-- A working spare that has not been drafted. -/
def undrafted (s : State) (i : Nat) : Bool :=
  isSpare i && clusterHere s i && !clusterFailed s i && !s.dev.synth.drafted.contains i

/-- A spare that can take a redo quarter now. -/
def freeSpare (s : State) (i : Nat) : Bool :=
  undrafted s i && !(s.dev.synth.redoRunning.any fun e => e.1 == i)

/-- State of SC`i` as its object shows it: 0 scheduled, 1 spare, 2 redoing, 3 failed, 4 off. -/
def clusterState (s : State) (i : Nat) : Nat :=
  if clusterFailed s i then 3
  else if clustersOff s || domainState s (i / 4) != 2 then 4
  else if s.dev.synth.redoRunning.any fun e => e.1 == i then 2
  else if undrafted s i then 1
  else 0

/-! ### Dispatch (R209 to R212) -/

/-- Hand out released patches in queue order to requests in the order they arrived. -/
def dispatchLoop : Nat → State → State
  | 0, s => s
  | n + 1, s =>
    match s.dev.synth.queue, s.dev.synth.requests with
    | q :: qs, i :: is =>
      dispatchLoop n (modSynth (fun y => { y with queue := qs, requests := is, running := y.running ++ [(i, q)] }) s)
    | _, _ => s

def dispatch (s : State) : State := dispatchLoop s.dev.synth.requests.length s

/-- The clusters work: in this frame, or for the next one, whose captured state woke them (R168, R172, R390, R750). -/
def clustersWork (s : State) : Bool :=
  !clustersOff s || (s.dev.timing.eveDone && s.dev.captured.any fun c => !c.frozen && !c.thermal)

/-- SC`i` asks for its next patch. -/
def patchRequest (i : Nat) (s : State) : State :=
  if scheduled s i && clustersWork s && !s.dev.synth.requests.contains i &&
      !(s.dev.synth.redoRunning.any fun e => e.1 == i) then
    dispatch (modSynth (fun y => { y with requests := y.requests ++ [i] }) s)
  else s

/-- The committed state holds a visible layer or overlay with content (R852). -/
def hasVisible (c : Committed) : Bool := !(visitedPlanes c).isEmpty || !(visibleOverlays c).isEmpty

/-- The frame of count `n` is a light-field frame (R852); without firmware none begins them (R858). -/
def lightFieldAt (s : State) (n : Nat) : Bool :=
  s.dev.timing.lightField || (n != s.dev.timing.count && !noFirmware s && hasVisible (stateOf s n))

/-- Strip `strip` of the frame of count `n` is released, unless its frame dispatches none (R209, R211, R296). -/
def releaseStrip (n strip : Nat) (s : State) : State :=
  let c := stateOf s n
  if c.safety || c.frozen || c.thermal || !lightFieldAt s n then s
  else
    let ps := (List.range (patchesPerStrip c)).map fun p => ({ count := n, strip := strip, patch := p } : Patch)
    dispatch (modSynth (fun y => { y with queue := y.queue ++ ps }) s)

/-! ### Redo (R217 to R221) -/

/-- Waiting quarters go to the free spares in order. -/
def assignRedo (s : State) : State :=
  s.each ((List.range 4).map (96 + ·)) fun i s =>
    match s.dev.synth.redoWaiting with
    | r :: rs =>
      if freeSpare s i then
        modSynth (fun y => { y with redoWaiting := rs, redoRunning := amPut y.redoRunning i r }) s
      else s
    | [] => s

/-- A patch is redone: its four quarters wait for spares, and its results so far are discarded. -/
def redoPatch (q : Patch) (s : State) : State :=
  let s := modSynth (fun y =>
    { y with redoWaiting := y.redoWaiting ++ (List.range 4).map fun k => (q, k)
             redoDone := y.redoDone.filter fun r => r.1 != q, recomputed := y.recomputed.filter (· != q)
             stores := y.stores.map fun e => (e.1, e.2.map fun w => { w with pins := w.pins.filter (· != q) }) }) s
  assignRedo (s.bump 0x2103 1)

/-- A quarter that was running on SC`i` is issued again, before those that wait (DESIGN CHOICE, log 179). -/
def reissueQuarter (i : Nat) (s : State) : State :=
  match amGet s.dev.synth.redoRunning i with
  | none => s
  | some r =>
    assignRedo (modSynth (fun y =>
      { y with redoRunning := amErase y.redoRunning i, redoWaiting := r :: y.redoWaiting }) s)

/-- The patch that SC`i` works on: the first of those it holds. -/
def workedPatch (s : State) (i : Nat) : Option Patch := (s.dev.synth.running.find? fun e => e.1 == i).map (·.2)

/-- SC`i` stops for good: the patch `worked` it works on is redone, the ones it has not started return to the head of
the queue (R217), and its window store is lost. -/
def dropPatches (i : Nat) (worked : Option Patch) (s : State) : State :=
  let mine := (s.dev.synth.running.filter fun e => e.1 == i).map (·.2)
  let s := modSynth (fun y =>
    { y with running := y.running.filter (fun e => e.1 != i), requests := y.requests.filter (· != i)
             queue := (mine.filter fun q => some q != worked) ++ y.queue, stores := amErase y.stores i }) s
  let s := dispatch s
  match worked with
  | none => s
  | some q => redoPatch q s

/-- A fault of SC`i`: it is stopped and marked failed (R216, R217, R221). -/
def clusterFault (i : Nat) (s : State) : State :=
  if clusterFailed s i then s
  else
    let s := (clusterFail i s).bump 0x2102 (i + 1)
    let cover := (List.range 100).any (undrafted s)
    logEvent 217 (if cover then 1 else 4) 0x2100 (i + 1) 0 (reissueQuarter i (dropPatches i (workedPatch s i) s))

/-- The tile of one slot of SC`i`'s window store is fetched again for the patches that pin it (R208, R216). -/
def refetch (i : Nat) (w : WindowSlot) (s : State) : State :=
  let s := modSynth (fun y => { y with stores := amMod y.stores i [] fun xs => xs.erase w }) s
  s.each w.pins fun q s => fetchFor q w.layer w.block false false s

/-- A window-store ECC error of SC`i`: corrected, fetched again, or a fault (R216). Which slot an error is in is free
(DESIGN CHOICE, log 187). -/
def windowEcc (i : Nat) (double again : Bool) (s : State) : State :=
  if !double then s.bump 0x2103 5
  else if again then clusterFault i s
  else
    let slots := amGetD s.dev.synth.stores i []
    match slots[freeValue s % max 1 slots.length]? with
    | none => s
    | some w => refetch i w (drawFree s)

/-- The watchdog of a patch expires: it is redone; a cluster's third expiry within 1 s fails it (R216, R218). -/
def watchdogExpiry (strip patch : Nat) (s : State) : State :=
  match s.dev.synth.running.find? fun e => e.2.strip == strip && e.2.patch == patch with
  | none => s
  | some (i, q) =>
    let ts := s.now :: within1s s.now (amGetD s.dev.synth.expiries i [])
    let s := modSynth (fun y => { y with expiries := amPut y.expiries i ts }) s
    let s := (s.bump 0x2103 2).bump 0x2102 (i + 1)
    let worked := (workedPatch s i).filter (· != q)
    let s := redoPatch q (modSynth (fun y => { y with running := y.running.erase (i, q) }) s)
    if 3 ≤ ts.length then
      logEvent 218 (if (List.range 100).any (undrafted s) then 1 else 4) 0x2100 (i + 1) 0
        (reissueQuarter i (dropPatches i worked (clusterFail i s)))
    else s

/-- A redo quarter completes on SC`i`, once the lines it writes are free (R203); after the fourth the patch is complete
(R219, R220). -/
def quarterComplete (i : Nat) (s : State) : State :=
  match amGet s.dev.synth.redoRunning i with
  | none => s
  | some r =>
    if !lineFree s r.1 (6 * r.2 + 5) then s
    else
    let s := (modSynth (fun y => { y with redoDone := r :: y.redoDone }) s).bumpSeq 0x2101 (i + 1)
    let all := (List.range 4).all fun k => s.dev.synth.redoDone.contains (r.1, k)
    let s := if all && !s.dev.synth.colourFailed.contains r.1 then
        patchDone r.1 (modSynth (fun y => { y with redoDone := y.redoDone.filter fun x => x.1 != r.1 }) s)
      else s
    assignRedo (modSynth (fun y => { y with redoRunning := amErase y.redoRunning i }) s)

/-- At a calends each failed scheduled cluster is replaced by an undrafted working spare (R223): the one of the lowest
number, also when it runs a quarter and another is idle (DESIGN CHOICE, log 178). -/
def draftSpares (s : State) : State :=
  let want := if isSmall s then 48 else 96
  s.each ((List.range 4).map (96 + ·)) fun i s =>
    if ((List.range 100).filter (scheduled s)).length < want && undrafted s i then
      let s := modSynth (fun y => { y with drafted := y.drafted ++ [i] }) s
      logEvent 223 2 0x2100 (i + 1) 0 (s.setReg 0x2103 4 s.dev.synth.drafted.length)
    else s

/-- Clusters that the planner's model runs with (R223, R224). -/
def scheduledCount (s : State) : Nat := ((List.range 100).filter (scheduled s)).length

/-! ### Deadlines (R210, R222) -/

/-- A patch is missed: counted and logged, and sent with KEEP, also for a colour fault (R222, R347). The spares that
redid it take other quarters (R219): work on it ends there, gives no results and counts nothing in 0x2101 (DESIGN
CHOICE, log 180). -/
def patchMissed (q : Patch) (s : State) : State :=
  let colour := s.dev.synth.recomputed.contains q || s.dev.synth.colourFailed.contains q
  let s := ((s.bump 0x2103 3).iff colour (·.bump 0x3450 3)).setReg 0x2103 6 (q.count % 2 ^ 32 + q.strip * 2 ^ 32 + q.patch * 2 ^ 42)
  let s := modSynth (fun y =>
    { y with missed := q :: y.missed, queue := y.queue.erase q, running := y.running.filter fun e => e.2 != q
             redoWaiting := y.redoWaiting.filter fun r => r.1 != q
             redoRunning := y.redoRunning.filter fun e => e.2.1 != q
             recomputed := y.recomputed.filter (· != q)
             stores := y.stores.map fun e => (e.1, e.2.map fun w => { w with pins := w.pins.filter (· != q) }) }) s
  assignRedo (logEvent 222 3 0x2103 0 (q.count % 2 ^ 32 + q.strip * 2 ^ 32 + q.patch * 2 ^ 42) s)

/-- D(s) of a strip of the frame of count `n`: patches that are not complete are sent with KEEP. -/
def stripDeadline (n strip : Nat) (s : State) : State :=
  let c := stateOf s n
  if c.frozen || c.thermal || !lightFieldAt s n then s
  else
    s.each (List.range (patchesPerStrip c)) fun p s =>
      let q : Patch := { count := n, strip := strip, patch := p }
      if s.dev.synth.complete.contains q then s else patchMissed q s

/-! ### Window fetch (R140 to R144) -/

/-- The patch at (strip, patch) that a cluster runs, or spares redo. -/
def workedAt (s : State) (strip patch : Nat) : Option Patch :=
  let here (q : Patch) : Bool := q.strip == strip && q.patch == patch
  ((s.dev.synth.running.map (·.2)).find? here).or
    (((s.dev.synth.redoRunning.map (·.2.1)) ++ (s.dev.synth.redoWaiting ++ s.dev.synth.redoDone).map (·.1)).find? here)

/-- A fetch of a block for a patch that is worked on (R141, R208). A single-bit error of the first copy's read is
corrected in place and counted (R671). -/
def windowFetch (strip patch layer block : Nat) (first : CopyRead) (bad1 : Bool) (s : State) : State :=
  match workedAt s strip patch with
  | none => s
  | some q =>
    let l := amGetD (stateOf s q.count).layers layer {}
    let s := match if first.single && (cachedBlock s q layer l.lease block).isNone then descriptorPc s q.count layer l.slot block 0
        else none with
      | some i => s.bump (0x5000 + i) 5
      | none => s
    fetchFor q layer block first.bad bad1 s

/-! ### Colour unit faults (R346, R347) -/

/-- A residue check fails in the colour unit: the patch is computed once more, or is sent with KEEP (R346, R347). -/
def residueFail (strip patch : Nat) (second : Bool) (s : State) : State :=
  match (workedAt s strip patch).or ((runningPatch s strip patch).map (·.2)) with
  | none => s
  | some q =>
    let s := s.bump 0x3450 (halfOf (1920 * patch) + 1)
    if second then
      assignRedo (modSynth (fun y =>
        { y with colourFailed := q :: y.colourFailed, running := y.running.filter fun e => e.2 != q
                 redoWaiting := y.redoWaiting.filter fun r => r.1 != q
                 redoRunning := y.redoRunning.filter fun e => e.2.1 != q
                 redoDone := y.redoDone.filter fun r => r.1 != q }) s)
    else modSynth (fun y => { y with recomputed := q :: y.recomputed.filter (· != q) }) s

/-- A residue check fails in overlay engine `e`: it is marked failed; its batches are computed again (R239). -/
def engineFault (e : Nat) (s : State) : State :=
  if s.reg 0x3010 (e + 1) = 1 then s
  else
    let s := (latch 2 (s.setReg 0x3010 (e + 1) 1)).bump 0x3010 10
    logEvent 239 (if (List.range 8).any fun i => s.reg 0x3010 (i + 1) == 0 then 1 else 4) 0x3010 (e + 1) 0 s

/-! ### Commands -/

/-- PATCH_REQUEST (R212). -/
def execPatchRequest (sc : Nat) (s : State) : Out :=
  runOn (.patchRequest sc) (clusterHere s sc) s (onDev [.synth] (patchRequest sc) s)

/-- WINDOW_FETCH (R141). -/
def execWindowFetch (strip patch layer block : Nat) (first : CopyRead) (bad1 : Bool) (s : State) : Out :=
  run (.windowFetch strip patch layer block first bad1) (onMem [.od, .synth, .memory, .events, .eventBuffer,
      .eventMessages] (windowFetch strip patch layer block first bad1) s)

/-- COLOUR_RESIDUE_FAIL (R346). -/
def execColourResidueFail (strip patch : Nat) (second : Bool) (s : State) : Out :=
  run (.colourResidueFail strip patch second) (onDev [.od, .synth] (residueFail strip patch second) s)

/-- CLUSTER_FAULT (R217). -/
def execClusterFault (sc : Nat) (s : State) : Out :=
  runOn (.clusterFault sc) (clusterHere s sc) s (onDev [.od, .synth, .events, .eventBuffer, .eventMessages]
      (clusterFault sc) s)

/-- WINDOW_STORE_ECC_ERROR (R216). -/
def execWindowStoreEccError (sc : Nat) (double again : Bool) (s : State) : Out :=
  runOn (.windowStoreEccError sc double again) (clusterHere s sc) s (onMem [.od, .synth, .memory, .events, .eventBuffer,
      .eventMessages, .drawn] (windowEcc sc double again) s)

/-- CLUSTER_HEARTBEAT_TIMEOUT (R216). -/
def execClusterHeartbeatTimeout (sc : Nat) (s : State) : Out :=
  runOn (.clusterHeartbeatTimeout sc) (clusterHere s sc) s (onDev [.od, .synth, .events, .eventBuffer,
      .eventMessages] (clusterFault sc) s)

/-- PATCH_WATCHDOG_EXPIRY (R218). -/
def execPatchWatchdogExpiry (strip patch : Nat) (s : State) : Out :=
  run (.patchWatchdogExpiry strip patch) (onDev [.od, .synth, .events, .eventBuffer, .eventMessages]
      (watchdogExpiry strip patch) s)

/-- REDO_QUARTER_COMPLETE (R219). -/
def execRedoQuarterComplete (sc : Nat) (s : State) : Out :=
  runOn (.redoQuarterComplete sc) (clusterHere s sc) s (onMem [.od, .synth, .gov, .protectedLogged, .freeze,
      .memory, .events, .eventBuffer, .eventMessages] (quarterComplete sc) s)

/-- SPARE_FAULT (R221). -/
def execSpareFault (sc : Nat) (s : State) : Out :=
  runOn (.spareFault sc) (clusterHere s sc) s (onDev [.od, .synth, .events, .eventBuffer, .eventMessages]
      (clusterFault sc) s)

/-- OVERLAY_ENGINE_FAULT (R239). -/
def execOverlayEngineFault (e : Nat) (s : State) : Out :=
  run (.overlayEngineFault e) (onDev [.od, .events, .eventBuffer, .eventMessages] (engineFault e) s)

end Sys2Proof.Machine
end

