-- ==== Sys2Proof/Machine/Library.lean ====
section
/-!
DEFINITION. What the show library and its players show at a frame to come: the frame table of a clip, the steps of a
binding and its end, and the content a bound layer has (R145 to R149, R156 to R160).
-/
namespace Sys2Proof.Machine

/-! ### The library (R145, R146, R151) -/

/-- HBM offset of the library space. -/
def libraryBase : Nat := 0x1000000000

/-- `len` bytes of the library from offset `off`. -/
def libraryBytes (s : State) (off len : Nat) : List Byte := (hbmRead s (libraryBase + off) len).getD []

/-- Clip layers of a mask, ascending. -/
def maskLayers (m : Nat) : List Nat := (List.range 32).filter (hasBit m)

/-- The offset and length of clip layer `i` (counted among those present) in clip frame `f` (R146). An entry that
cannot be read stands for an update that no check passes: its one byte holds no chunk (R675). -/
def tableEntry (s : State) (c : ClipEntry) (f i : Nat) : Nat × Nat × Nat :=
  let a := c.addr + 64 + 16 * (f * (maskLayers c.mask).length + i)
  match hbmRead s (libraryBase + a) 16 with
  | none => (0, 1, 0)
  | some b => (fieldLE b 0 8, fieldLE b 8 4, fieldLE b 12 4)

/-- Lease and content that the update of clip layer `i` in clip frame `f` names; none where the table has no update
there, or its definition cannot be read. -/
def clipContent (s : State) (c : ClipEntry) (f i : Nat) : Option (Nat × Content) :=
  let (off, len, _) := tableEntry s c f i
  if len = 0 then none
  else
    match admitChunks (stagingBytes s (libraryBase + c.addr + off)) { total := len }
        { cols := 2560, table := [], orderTaken := fun _ _ _ => false } with
    | .error _ => none
    | .ok a => some (a.lease, a.content)

/-! ### Bindings (R156 to R160) -/

/-- Device layers of a player's map. -/
def mapped (p : Player) : List Nat := p.map.filter fun l => l != 0xFF

/-- Device layer and clip layer of each present clip layer, in ascending order, with its index in the frame table. -/
def layersOf (s : State) (p : Player) : List (Nat × Nat × Nat) :=
  let ms := maskLayers (s.clip p.clip).mask
  (List.range ms.length).map fun i => (p.map.getD (ms.getD i 0) 0xFF, ms.getD i 0, i)

/-- End calends of a binding by itself (R157). -/
def naturalEnd (s : State) (p : Player) : Option Nat :=
  if p.loops = 0 then none else some (p.t0 + (s.clip p.clip).frames * p.loops * p.step)

/-- Clip frame that a binding applies at count `n` (R157, R159). -/
def clipStep (s : State) (p : Player) (n : Nat) : Option Nat :=
  let f := (s.clip p.clip).frames
  if n < p.t0 ∨ (n - p.t0) % max 1 p.step ≠ 0 ∨ f = 0 ∨ p.endAt.any (decide <| · ≤ n) then none
  else some ((n - p.t0) / max 1 p.step % f)

/-- The STOP cues that end a binding (R159). -/
def stopsOf (s : State) (p : Player) : List Nat :=
  s.dev.host.items.filterMap fun i => match i.kind with
    | .stop q => if q = p.id ∧ p.t0 < i.target then some i.target else none
    | _ => none

/-- End calends of a binding with the STOP cues admitted now (R157, R159). -/
def boundEnd (s : State) (p : Player) : Option Nat :=
  (stopsOf s p).foldl (fun e t => match e with
    | none => some t
    | some u => some (min t u)) (naturalEnd s p)

/-- A STOP cue at or before T0 cancels the PLAY (R159): every admitted PLAY of the player, also one admitted after the
STOP (DEDUCED, log 66). -/
def cancelledBy (s : State) (p : Player) : Bool :=
  s.dev.host.items.any fun i => match i.kind with
    | .stop q => q == p.id && decide (i.target ≤ p.t0)
    | _ => false

/-- A player binds its layers at count `n` (R160). -/
def bindsAt (p : Player) (n : Nat) : Bool :=
  p.state != 0 && decide (p.t0 ≤ n) && (match p.endAt with
    | none => true
    | some e => decide (n ≤ e))

/-- The players bound at count `n`, with their numbers. -/
def playersAt (s : State) (n : Nat) : List (Nat × Player) :=
  s.dev.players.filter fun p => bindsAt p.2 n && !cancelledBy s p.2

/-- The layers that a binding updates at count `n`: those of its clip frame, or every layer for CLEAR (R157, R158). -/
def clipTouches (s : State) (n : Nat) (p : Player) : List Nat :=
  match clipStep s p n with
  | some f => (layersOf s p).filterMap fun x => if (tableEntry s (s.clip p.clip) f x.2.2).2.1 = 0 then none else some x.1
  | none => if p.endAt = some n ∧ p.clear then (layersOf s p).map (·.1) else []

/-! ### What a bound layer shows -/

/-- The last update of a layer that a binding applies by count `n`: its count, and what it shows. -/
def clipLast (s : State) (p : Player) (x : Nat × Nat × Nat) (n : Nat) : Option (Nat × Layer) :=
  let c := s.clip p.clip
  let stop := min (n + 1) (p.endAt.getD (n + 1))
  if stop ≤ p.t0 ∨ c.frames = 0 then none
  else
    let last := (stop - 1 - p.t0) / max 1 p.step
    (List.range (min c.frames (last + 1))).findSome? fun i =>
      let t := p.t0 + (last - i) * max 1 p.step
      (clipContent s c ((last - i) % c.frames) x.2.2).map fun y =>
        (t, { lease := y.1, slot := 0, content := some y.2, frame := t })

/-- The lease after a lease: 0 is skipped (R158). -/
def nextLease (l : Nat) : Nat := if l + 1 = 0x10000 then 1 else l + 1

/-- What CLEAR leaves of layer `j` at count `n` (R158). A layer that has shown no content gets the smallest definition of
its type (DESIGN CHOICE, log 185). -/
def clearedLayer (n j : Nat) (l : Layer) : Layer :=
  { lease := nextLease l.lease, slot := 0, content := some { l.content.getD { overlay := decide (16 ≤ j) } with occ := [] }
    frame := n }

/-- The last change that a binding makes to a layer by count `n`, with CLEAR at its end; `l` is what the layer shows
now. -/
def clipShows (s : State) (p : Player) (x : Nat × Nat × Nat) (l : Layer) (n : Nat) : Option (Nat × Layer) :=
  match p.endAt with
  | none => clipLast s p x n
  | some e =>
    if p.clear ∧ e ≤ n ∧ p.t0 < e then some (e, clearedLayer e x.1 (((clipLast s p x e).map (·.2)).getD l))
    else clipLast s p x n

/-- The first change that a binding makes to a layer after count `n`: its count and lease. -/
def clipNext (s : State) (p : Player) (x : Nat × Nat × Nat) (l : Layer) (n : Nat) : Option (Nat × Nat) :=
  let c := s.clip p.clip
  let k := if n < p.t0 then 0 else (n - p.t0) / max 1 p.step + 1
  let step := (List.range c.frames).findSome? fun i =>
    let t := p.t0 + (k + i) * max 1 p.step
    if p.endAt.any (decide <| · ≤ t) then none
    else (clipContent s c ((k + i) % c.frames) x.2.2).map fun y => (t, y.1)
  step.or (match p.endAt with
    | none => none
    | some e => if p.clear ∧ n < e then (clipShows s p x l e).map fun y => (y.1, y.2.lease) else none)

/-- The admitted bindings that no STOP cancels, by their first calends. -/
def activePlayers (s : State) : List Player :=
  sortBy (fun a b => decide (a.t0 ≤ b.t0))
    ((s.dev.players.map (·.2)).filter fun p => p.state != 0 && !cancelledBy s p)

end Sys2Proof.Machine
end

