-- ==== Sys2Proof/Machine/Plan.lean ====
section
/-!
DEFINITION. What the frame planner sees: the committed state of a frame to come, and the budgets it tests an item
against (R48, R53 to R57, R134 to R139, R161, R181, R197, R213 to R215, R236 to R238, R620 to R626, R813).
-/
namespace Sys2Proof.Machine

/-! ### What changes committed state -/

/-- The raster setting's objects: they follow a raster submit and not a dictionary commit (R353, R392). -/
def rasterKey (k : Nat) : Bool := decide (key 0x3800 1 ≤ k) && decide (k ≤ key 0x3800 5)

/-- Committed objects after a dictionary commit (R243 step 1, R253). -/
def commitObjs (shadow : AMap Nat) (c : Committed) : Committed :=
  let keep := c.objs.filter fun e => rasterKey e.1
  { c with objs := (shadow.filter fun e => !rasterKey e.1).foldl (fun m e => amPut m e.1 e.2) keep }

/-- Value that a section of an image carries for an object. -/
def sectionValue (x : ImageSection) (k : Nat) : Option Nat := (x.entries.find? fun e => e.key == k).map (·.value)

/-- An imageable object's value in the base of an image, or its default (R813). -/
def baseValue (im : Option Image) (k : Nat) : Nat :=
  ((im.bind fun i => sectionValue i.base k).getD (objDefault (k / 256) (k % 256)))

/-- Keys of every imageable object of the part. -/
def imageableKeys (s : State) : List Nat :=
  ((allRows.filter fun r => r.imageable).map fun r =>
    ((List.range r.count).map fun i =>
      ((List.range (r.hi + 1 - r.lo)).filter fun j => instanceHere s (r.base + i) (r.lo + j)).map fun j =>
        key (r.base + i) (r.lo + j)).flatten).flatten

/-- The image a switch takes its values from (R813). -/
def switchImage (s : State) (reload : Bool) : Option Image := if reload then s.dev.images.live else s.dev.images.loaded

/-- Keys and values that a switch from mode `k` to mode `m` sets, in order (R813, R816). -/
def switchSets (s : State) (k m : Nat) (reload : Bool) : List (Nat × Nat) :=
  let im := switchImage s reload
  let entries (n : Nat) : List ImageEntry := match im with
    | none => []
    | some i => if n = 0 then [] else (overlayOf i n).entries
  let back :=
    if reload then (imageableKeys s).map fun x => (x, baseValue im x)
    else ((entries k).filter fun e => !((entries m).any fun f => f.key == e.key)).map fun e => (e.key, baseValue im e.key)
  back ++ (entries m).map fun e => (e.key, e.value)

/-- The object of a key is a shadow object. -/
def shadowKey (k : Nat) : Bool := ((objRow (k / 256) (k % 256)).map (·.shadow)).getD false

/-- Shadow objects that an item sets in committed state, and in their shadows (R610, R814). -/
def itemSets (s : State) (c : Committed) (i : Item) : List (Nat × Nat) :=
  match i.kind with
  | .mode m reload => (switchSets s c.mode m reload).filter fun e => shadowKey e.1
  | .zones map => [(key 0x4410 1, leNat (withCrc 0x4410 1 (natLE map 1536)))]
  | .visible mask values =>
    ((List.range 32).filter (hasBit mask)).map fun j => (key 0x3004 (j + 1), bit values j)
  | .raster rate tile width role port =>
    [(key 0x3800 1, rate), (key 0x3800 2, tile), (key 0x3800 3, width), (key 0x3800 4, role), (key 0x3800 5, port)]
  | _ => []

/-- Committed state after an item takes effect (R243). -/
def applyItem (s : State) (c : Committed) (i : Item) : Committed :=
  let c := { c with objs := (itemSets s c i).foldl (fun m e => amPut m e.1 e.2) c.objs }
  match i.kind with
  | .update layer content lease slot =>
    { c with layers := amPut c.layers layer { lease := lease, slot := slot, content := some content, frame := i.target } }
  | .mode m _ => { c with mode := m }
  | .view t => { c with view := t }
  | _ => c

/-- Shadows after an item takes effect: what it sets is in the shadow too (R610, R814). A raster setting's shadows were
its own when it was submitted. -/
def shadowAfter (s : State) (c : Committed) (i : Item) (shadow : AMap Nat) : AMap Nat :=
  match i.kind with
  | .raster _ _ _ _ _ => shadow
  | _ => (itemSets s c i).foldl (fun m e => amPut m e.1 e.2) shadow

def Item.isMode (i : Item) : Bool := match i.kind with
  | .mode _ _ => true
  | _ => false

/-- The layer of an update. -/
def Item.layer? (i : Item) : Option Nat := match i.kind with
  | .update l _ _ _ => some l
  | _ => none

/-- A fenced flip or a member of a fence group: it is decoded into a hold slot (R258, R260). -/
def Item.holds (i : Item) : Bool := i.fenced || i.members != 0

/-- Items in the order of R243: mode switches (step 2), then by admission number (step 3, R624). -/
def inOrder (xs : List Item) : List Item :=
  let ys := sortBy (fun a b => decide (a.num ≤ b.num)) xs
  ys.filter (·.isMode) ++ ys.filter (!·.isMode)

/-! ### Frames to come -/

/-- The last count whose committed state is already built. -/
def frontier (s : State) : Nat := if s.dev.timing.eveDone then nextCount s else s.dev.timing.count

/-- Items that have still to take effect: those with a later target, and flips that are held. -/
def openItems (s : State) : List Item :=
  s.dev.host.items.filter fun i =>
    i.stage != .failed && (decide (frontier s < i.target) || (i.holds && !i.released))

/-- Counts at which committed state changes after the frontier, in ascending order. -/
def changes (s : State) : List Nat :=
  sortBy (fun a b => decide (a ≤ b))
    ((openItems s).map (fun i => max i.target (frontier s + 1)) ++ s.dev.commitPending.toList).eraseDups

/-- Target of an open item, or the next count for a flip that is held. -/
def openTarget (s : State) (i : Item) : Nat := max i.target (frontier s + 1)

/-- A held flip that another update of its layer supersedes from the next count on (R267). -/
def superseded (s : State) (i : Item) : Bool :=
  i.holds && (openItems s).any fun u =>
    u.num != i.num && u.layer? == i.layer? && decide (i.target < u.target) && decide (u.target ≤ openTarget s i)

/-- Zones that count as 2D with a committed state's targets added (R238). -/
def addTargets (c : Committed) : Committed :=
  { c with zones2D := c.zones2D ||| (c.obj 0x4410 1 % 2 ^ 12288) }

/-- The committed state that `items` and a pending dictionary commit give at count `n`: a commit takes the shadows as the
items before it leave them (R243, R251, R610), and zones stay 2D until their return has been seen (R238). -/
def hostPlan (s : State) (items : List Item) (n : Nat) : Committed :=
  let base := s.dev.captured.getD s.dev.live
  let base := addTargets
    { base with zones2D := base.zones2D ||| s.dev.live.zones2D ||| base.count2D ||| s.dev.live.count2D }
  (((changes s).filter fun f => decide (f ≤ n)).foldl (fun (x : Committed × AMap Nat) f =>
    let c := if s.dev.commitPending = some f then addTargets (commitObjs x.2 x.1) else x.1
    (inOrder (items.filter fun i => openTarget s i == f)).foldl
      (fun (y : Committed × AMap Nat) i => (addTargets (applyItem s y.1 i), shadowAfter s y.1 i y.2)) (c, x.2))
    (base, s.dev.shadow)).1

/-- What the admitted bindings show at count `n` over the layers of `c`: of a binding and a plane-queue update of one
layer the later holds (R157 to R160). -/
def clipPlan (s : State) (items : List Item) (n : Nat) (c : Committed) : Committed :=
  let later' (j f : Nat) : Bool := items.any fun i => i.layer? == some j && decide (f < i.target) && decide (i.target ≤ n)
  (activePlayers s).foldl (fun c p =>
    if p.t0 ≤ n then
      (layersOf s p).foldl (fun c x =>
        match clipShows s p x (amGetD c.layers x.1 {}) n with
        | none => c
        | some (f, l) =>
          if frontier s < f ∧ later' x.1 f = false then { c with layers := amPut c.layers x.1 l } else c) c
    else c) c

/-- The committed state planned for count `n`, with every flip released that may be. -/
def planAt (s : State) (n : Nat) : Committed :=
  let items := (openItems s).filter fun i => !superseded s i
  clipPlan s items n (hostPlan s items n)

/-- Two items are members of one fence group (R271, R607). A member admitted after its group was abandoned begins a group
of its own (DESIGN CHOICE, log 181). -/
def sameGroup (a b : Item) : Bool := a.members != 0 && b.members != 0 && a.group == b.group && a.target == b.target

/-- Flips and members that count `n` can show or hold. -/
def heldBy (s : State) (n : Nat) : List Item :=
  (openItems s).filter fun i => i.holds && decide (i.target ≤ n) && !superseded s i

/-- Every choice among some items. -/
def choices : List Item → List (List Item)
  | [] => [[]]
  | i :: is => choices is ++ (choices is).map (i :: ·)

/-- The flips and groups that can have been released by count `n`, each set of them (R264, R265, R272): the members of a
group together. -/
def releases (s : State) (n : Nat) : List (List Item) :=
  let held := heldBy s n
  (choices held).filter fun r => r.all fun i => held.all fun x => !sameGroup i x || r.contains x

/-- The same, with the flips of `r` released and any other held: its layer keeps its content (R265). -/
def planWith (s : State) (n : Nat) (r : List Item) : Committed :=
  let items := (openItems s).filter fun i => !i.holds || r.contains i
  clipPlan s items n (hostPlan s items n)

/-- The states that count `n` can show, as far as fences decide them (R265; DEDUCED, log 134). -/
def plans (s : State) (n : Nat) : List Committed :=
  planAt s n :: if (heldBy s n).isEmpty then [] else (releases s n).map (planWith s n)

/-- What count `n` shows: the committed state of the frame, for one that has begun. -/
def stateAt (s : State) (n : Nat) : Committed := if n ≤ s.dev.timing.count then s.dev.live else planAt s n

/-- Rate of a planned state, Hz. -/
def planHz (c : Committed) : Nat := max 1 (rateHz (c.obj 0x3800 1))

/-! ### Standing reservations (R153, R161) -/

/-- Largest figure of a player's clip. -/
def clipMax (s : State) (p : Player) (f : Nat × Nat × Nat × Nat × Nat → Nat) : Nat :=
  ((s.clip p.clip).summary.map f).foldl max 0

def clipSteps (x : Nat × Nat × Nat × Nat × Nat) : Nat := x.1
def clipFoot (x : Nat × Nat × Nat × Nat × Nat) : Nat := x.2.1
def clipClocks (x : Nat × Nat × Nat × Nat × Nat) : Nat := x.2.2.1
def clipBytes (x : Nat × Nat × Nat × Nat × Nat) : Nat := x.2.2.2.1
def clipRead (x : Nat × Nat × Nat × Nat × Nat) : Nat := x.2.2.2.2

/-- The players' figures summed at count `n`. -/
def reserve (s : State) (n : Nat) (f : Nat × Nat × Nat × Nat × Nat → Nat) : Nat :=
  ((playersAt s n).map fun p => clipMax s p.2 f).foldl (· + ·) 0

/-! ### Plane steps and footprints (R194 to R197, R205, R213) -/

/-- Planes whose hogel tap rectangle meets an occupied cell (R197). -/
def hogelPlanes (c : Committed) (planes : List Content) (hx hy : Nat) : Nat :=
  (planes.filter fun ct => (tapRect c ct hx hx hy hy).any (cellMeets ct)).length

/-- Steps of one hogel row of a patch, of `m` rays a hogel. -/
def rowSteps (c : Committed) (planes : List Content) (patch hy m : Nat) : Nat :=
  if planes.isEmpty then 80 * m
  else ((List.range 80).map fun i => m * max 1 (hogelPlanes c planes (80 * patch + i) hy)).foldl (· + ·) 0

/-- steps(p) and the largest steps_q(p) of a patch (R197, R213). -/
def patchSteps (c : Committed) (planes : List Content) (strip patch : Nat) : Nat × Nat :=
  let a := rowSteps c planes patch (2 * strip) 144
  let b := rowSteps c planes patch (2 * strip + 1) 144
  (2 * a + 2 * b, max a b)

/-- The footprint of a patch (R205). -/
def patchFoot (c : Committed) (planes : List Content) (strip patch : Nat) : Nat :=
  (planes.map fun ct => (footprintBlocks c ct strip patch).length).foldl (· + ·) 0

/-- The figures of a patch in a frame: steps, largest quarter, footprint. The players' standing reservations add to
each patch at most one step a ray and plane of the clip (DESIGN CHOICE, log 24). -/
structure PatchLoad where
  steps : Nat
  quarter : Nat
  foot : Nat
deriving DecidableEq, Repr

/-- The contents of the planes that no player binds at count `n` (R161). -/
def freePlanes (s : State) (n : Nat) (c : Committed) : List Content :=
  let bound := ((playersAt s n).map fun p => mapped p.2).flatten
  ((visitedPlanes c).filter fun l => !bound.contains l.1).map (·.2)

/-- The loads of a frame that shows `planes`, strip by strip and patch by patch. -/
def planeLoads (c : Committed) (planes : List Content) : List (List PatchLoad) :=
  (List.range 720).map fun st =>
    if planes.isEmpty then List.replicate (patchesPerStrip c) { steps := 46080, quarter := 11520, foot := 0 }
    else (List.range (patchesPerStrip c)).map fun p =>
      let (a, q) := patchSteps c planes st p
      { steps := a, quarter := q, foot := patchFoot c planes st p }

/-- A load with a standing reservation added, or the planned content of the bound planes where that is more: a table
that changes after a clip was verified is tested so (R161, R181; log 24). -/
def PatchLoad.reserved (extra foot : Nat) (free all : PatchLoad) : PatchLoad :=
  { steps := max (free.steps + extra) all.steps, quarter := max (free.quarter + extra / 4) all.quarter
    foot := max (free.foot + foot) all.foot }

/-- The loads of a frame, strip by strip and patch by patch. -/
def frameLoads (s : State) (n : Nat) (c : Committed) : List (List PatchLoad) :=
  let all := planeLoads c ((visitedPlanes c).map (·.2))
  if (playersAt s n).isEmpty then all
  else
    let extra := min (reserve s n clipSteps)
      (46080 * ((playersAt s n).map fun p => ((mapped p.2).filter (decide <| · < 16)).length).foldl (· + ·) 0)
    List.zipWith (List.zipWith (PatchLoad.reserved extra (reserve s n clipFoot))) (planeLoads c (freePlanes s n c)) all

/-- Plane steps of a frame that shows `planes` (R53). -/
def planeSteps (c : Committed) (planes : List Content) : Nat :=
  if planes.isEmpty then 288 * hogelCols c * hogelRows
  else ((List.range 720).map fun st =>
    ((List.range (patchesPerStrip c)).map fun p => (patchSteps c planes st p).1).foldl (· + ·) 0).foldl (· + ·) 0

/-- Plane steps of a frame with the players' standing reservations (R53, R161). -/
def frameSteps (s : State) (n : Nat) (c : Committed) : Nat :=
  let all := planeSteps c ((visitedPlanes c).map (·.2))
  if (playersAt s n).isEmpty then all else max (reserve s n clipSteps + planeSteps c (freePlanes s n c)) all

/-- Clusters of the planner's model: 96, or 48, while spares remain to draft (R48, R223, R224). -/
def modelClusters (s : State) : Nat :=
  min (if isSmall s then 48 else 96) ((List.range 100).filter fun i => clusterHere s i && !clusterFailed s i).length

/-- The admission limit of R48: 90 % of 12 lanes of each cluster at 1.2 GHz for a frame. -/
def stepsFit (s : State) (n : Nat) (c : Committed) : Bool :=
  decide (frameSteps s n c * 10 * planHz c ≤ 9 * 12 * 1200000000 * modelClusters s)

/-- R206. -/
def footFits (s : State) (n : Nat) (c : Committed) : Bool :=
  if (visitedPlanes c).isEmpty && (playersAt s n).isEmpty then true
  else (frameLoads s n c).all fun st => st.all fun p => decide (p.foot ≤ 384)

/-- The density limit holds for every plane of a frame (R181, R198). -/
def densityFits (c : Committed) : Bool :=
  c.layers.all fun l => match l.2.content with
    | some ct => ct.overlay || densityGood (viewTable c) ct
    | none => true

/-! ### Composition (R236 to R239) -/

/-- Overlay samples of a strip (R236). -/
def stripSamples (c : Committed) (strip : Nat) : Nat :=
  ((visibleOverlays c).map fun o =>
    ((List.range (2 * hogelCols c)).map fun i =>
      let hx := i % hogelCols c
      let hy := 2 * strip + i / hogelCols c
      if inDest o.2 hx hy then (if is2D c hx hy then 288 else 1) else 0).foldl (· + ·) 0).foldl (· + ·) 0

/-- Overlay engines that work. -/
def workingEngines (s : State) : Nat := ((List.range 8).filter fun e => s.reg 0x3010 (e + 1) == 0).length

/-- The sample limit of a strip at a rate (R237). -/
def sampleLimit (s : State) (hz : Nat) : Nat := 9 * 48 * workingEngines s * 1500000000 * 24 / (10 * 18000 * hz)

def compositionFits (s : State) (c : Committed) : Bool :=
  (visibleOverlays c).isEmpty || (List.range 720).all fun st => decide (stripSamples c st ≤ sampleLimit s (planHz c))

/-! ### Decode windows (R134, R135, R139, R262, R622) -/

/-- Clocks and bytes of the decode of a content, and of a copy of one (R139). -/
def decodeLoad (ct : Content) : Nat × Nat :=
  let ob := ct.occ.length
  let nb := blockCount ct - ob
  (576 * ob + nb, 12352 * ob + 64 * nb)
def copyLoad (ct : Content) : Nat × Nat :=
  let ob := ct.occ.length
  let nb := blockCount ct - ob
  (16 * ob + nb, 12352 * ob + 64 * nb)

/-- What the layers show at count `n`. -/
def layersAt (s : State) (n : Nat) : AMap Layer :=
  if n < nextCount s then s.dev.live.layers else (planAt s n).layers

/-- The content of a layer changed at count `n`. -/
def changedAt (s : State) (n j : Nat) : Bool :=
  if n < nextCount s then s.dev.changed.contains j
  else amGetD (layersAt s n) j {} != amGetD (layersAt s (n - 1)) j {}

/-- Admitted updates of the plane queues for count `n`. -/
def updatesAt (s : State) (n : Nat) : List Item :=
  s.dev.host.items.filter fun i => i.layer?.isSome && i.target == n && i.stage != .failed

/-- An update of layer `j` targets count `n`: a plane-queue update, or one of a binding (R135, R161). -/
def updateDue (s : State) (n j : Nat) : Bool :=
  ((updatesAt s n).any fun i => i.layer? == some j) || (playersAt s n).any fun p => (clipTouches s n p.2).contains j

/-- The content of an update. -/
def Item.content? (i : Item) : Option Content := match i.kind with
  | .update _ ct _ _ => some ct
  | _ => none

/-- Total load of the decode window of count `n`: updates, the copy reservations of R135, also of a layer whose update has
failed or was cancelled in the window, the one copy of each hold slot (R262), and the players' standing reservations with
the load of CLEAR (R161). -/
def windowLoad (s : State) (n : Nat) : Nat × Nat :=
  let dec := ((updatesAt s n).filterMap (·.content?)).map decodeLoad
  let held := (updatesAt s (n - 1)).filter (·.holds)
  let began (j : Nat) : Bool := s.dev.due.contains (j, n)
  let shown (j : Nat) : Option Content := (amGetD (layersAt s (n - 1)) j {}).content
  let res := (List.range 32).filterMap fun j =>
    if updateDue s n j || began j || (changedAt s (n - 1) j && !(held.any fun i => i.layer? == some j)) then
      (shown j).map copyLoad
    else none
  let clear := (((playersAt s n).filter (·.2.clear)).map fun p => (mapped p.2).filterMap shown).flatten.map fun ct =>
    decodeLoad { ct with occ := [] }
  let all := dec ++ res ++ (held.filterMap (·.content?)).map copyLoad ++ clear
  ((all.map (·.1)).foldl (· + ·) 0 + reserve s n clipClocks, (all.map (·.2)).foldl (· + ·) 0 + reserve s n clipBytes)

/-- The decoders that have not failed. -/
def decodersLeft (s : State) : List Nat := (List.range 32).filter fun d => s.reg 0x2000 (d + 1) != 4
def workingDecoders (s : State) : Nat := (decodersLeft s).length

/-- Length of the decode window of count `n`, ps: to the eve of the frame before, from its calends or from now, the
later (R134, R622). -/
def windowPs (s : State) (n : Nat) : Nat :=
  let c := planAt s (n - 1)
  let hz := if n ≤ nextCount s then max 1 (holdHz s s.dev.timing.hold) else planHz c
  let full := (17280 - eveOffset hz (c.frozen || s.dev.thermal.fault)) * lineTime hz
  if n ≤ nextCount s then s.dev.timing.calendsAt + full - s.now else full

/-- R139. -/
def decodeFits (s : State) (n : Nat) : Bool :=
  let (clk, byt) := windowLoad s n
  let nd := workingDecoders s
  let gb := if isSmall s then 6144 else 12288
  let left := windowPs s n - 20000000
  decide (1 ≤ nd) && decide (20000000 ≤ windowPs s n) && decide (clk * 100000 ≤ left * (135 * nd)) &&
    decide (byt * 100000 ≤ left * (9 * gb))

/-! ### Guest reads (R44 to R46, R57) -/

/-- The owners over whose runs of the library space the bytes from `off` to `off + len` lie (R646). -/
def libraryRuns (s : State) (off len : Nat) : List Nat :=
  let size (o : Nat) : Nat := if o = 3 then pcSize * (pcsOf s 3).length else (pcSize - ownerSize s o) * (pcsOf s o).length
  let start (o : Nat) : Nat := (([3, 0, 1, 2, 4].takeWhile (· != o)).map size).foldl (· + ·) 0
  [3, 0, 1, 2, 4].filter fun o => decide (off < start o + size o) && decide (start o < off + len)

/-- Guest reads of the players fit 3.0 GB/s of each pseudo-channel: a player's largest figure counts in every frame of
its binding (R161), whole on every run that its clip touches, and spread evenly over the run's pseudo-channels (DESIGN
CHOICE, log 25). -/
def guestFits (s : State) (n : Nat) (c : Committed) : Bool :=
  [0, 1, 2, 4].all fun o =>
    let bytes := ((playersAt s n).map fun p =>
      let e := s.clip p.2.clip
      if (libraryRuns s e.addr e.length).contains o then clipMax s p.2 clipRead else 0).foldl (· + ·) 0
    decide (bytes * planHz c ≤ 3000000000 * (pcsOf s o).length)

/-! ### Patch times (R213 to R215, R625) -/

/-- t(p) and r(p) of a load, in ninths of a picosecond (R213). -/
def patchTime (p : PatchLoad) : Nat := 9 * (1500000 + 32000 * p.foot) + 625 * p.steps
def redoTime (p : PatchLoad) : Nat := 9 * (1500000 + 32000 * p.foot) + 625 * p.quarter

/-- R215. -/
def capFits (loads : List (List PatchLoad)) : Bool :=
  loads.all fun st => st.all fun p => decide (patchTime p + redoTime p ≤ 9 * 85000000)

/-- Sum and largest t(p) and largest r(p) of a strip. -/
def stripTimes (st : List PatchLoad) : Nat × Nat × Nat :=
  ((st.map patchTime).foldl (· + ·) 0, (st.map patchTime).foldl max 0, (st.map redoTime).foldl max 0)

/-- Scan start of strip `k` of three frames in a row, in lines from the calends of the last. -/
def scanLine (k : Nat) : Int := 18000 * (k / 720 : Nat) - 36000 + 24 * (k % 720 : Nat)

/-- A line of three frames in a row, counted from the calends of the last, in ninths of a picosecond times the product of
their rates `h2`, `h1` and `h0`: each frame's lines have its own line time. -/
def lineAt (h0 h1 h2 : Nat) (l : Int) : Int :=
  500000000 * if 0 ≤ l then l * (h1 * h2 : Nat) else if -18000 ≤ l then l * (h0 * h2 : Nat)
    else (l + 18000) * (h0 * h1 : Nat) - 18000 * (h0 * h2 : Nat)

/-- The two conditions of R625 for the strips of the last of three frames in a row: `ts` are the times of their strips,
and `on` says which strips the item loads. -/
def r625 (s : State) (h0 h1 h2 : Nat) (ts : List (Nat × Nat × Nat)) (on : Nat → Bool) : Bool :=
  let nc := modelClusters s
  let at' (k : Nat) : Nat × Nat × Nat := ts.getD k (0, 0, 0)
  let unit : Nat := h0 * h1 * h2
  (List.range 720).all fun i =>
    let k := 1440 + i
    let limit : Int := nc * (lineAt h0 h1 h2 (scanLine k - 2) - unit * (9 * 1000000 + (at' k).2.2))
    let back : Bool × Nat × Nat := (List.range 720).foldl (fun acc d =>
      let j := k - d
      let sum := acc.2.1 + (at' j).1
      let big := (List.range 9).foldl (fun m e => max m (at' (j - e)).2.1) acc.2.2
      let ok := decide ((nc : Int) * lineAt h0 h1 h2 (scanLine (j - 8)) + unit * (((nc : Int) - 1) * big + sum) ≤ limit)
      (acc.1 && ok, sum, big)) (true, 0, 0)
    let window : Nat := (List.range 720).foldl (fun a d => a + (at' (k - d)).1) 0
    (!on k || (back.1 && decide (1 ≤ nc))) &&
      (!((List.range 720).any fun d => on (k - d)) ||
        decide ((window : Int) * h0 ≤ nc * (9 * 1000000000000 - h0 * (9 * 85000000))))

/-- The item that `s` holds and `base` does not loads strip `st` of count `n`, in state `c`: its patches are timed
otherwise than in every state that `base` plans for the count (R625; DEDUCED, log 182). -/
def loadsStrip (base s : State) (n : Nat) (c : Committed) (st : Nat) : Bool :=
  !(plans base n).any fun b => planHz b == planHz c && (frameLoads base n b).getD st [] == (frameLoads s n c).getD st []

/-- PATCH_TIME for the frame of count `n` (R214, R215, R625). -/
def patchFits (base s : State) (n : Nat) (c : Committed) : Bool :=
  let c1 := stateAt s (n - 1)
  let c2 := stateAt s (n - 2)
  let ts := (frameLoads s (n - 2) c2 ++ frameLoads s (n - 1) c1 ++ frameLoads s n c).map stripTimes
  capFits (frameLoads s n c) &&
    r625 s (planHz c) (planHz c1) (planHz c2) ts fun k =>
      if k < 1440 then decide (720 ≤ k) && loadsStrip base s (n - 1) c1 (k - 720) else loadsStrip base s n c (k - 1440)

/-! ### The tests of step 8 (R620, R623) -/

/-- The first budget that fails in one of the frames, or in one of the decode windows, as its refusal reason (R619);
`base` lacks the item that is tested. -/
def budgetFail (base s : State) (frames windows : List Nat) : Option Nat :=
  let all (p : Nat → Committed → Bool) : Bool := frames.all fun n => (plans s n).all (p n)
  if !all (stepsFit s) then some 7
  else if !all (fun _ c => densityFits c) then some 9
  else if !all (footFits s) then some 8
  else if !all (fun _ c => compositionFits s c) then some 0x0D
  else if !windows.all (decodeFits s) then some 0x0B
  else if !all (guestFits s) then some 0x0C
  else if !all (patchFits base s) then some 0x0A
  else none

/-- Frames after which the bindings only repeat: those without an end go through their clips in step (R157). -/
def playerHorizon (s : State) (n : Nat) : Nat :=
  let ps := activePlayers s
  let top := (n :: changes s ++ ps.map (·.t0) ++ ps.filterMap (·.endAt)).foldl max 0
  let cycle (p : Player) : Nat := max 1 ((s.clip p.clip).frames * p.step)
  top + ((ps.filter (·.endAt.isNone)).map cycle).foldl Nat.lcm 1 + 2

/-- Frames from `n` on in which the bindings change what is shown or decoded, until they only repeat: the frames of their
steps and ends, and those after them (R623: the whole binding). -/
def playerFrames (s : State) (n : Nat) : List Nat :=
  let ps := activePlayers s
  let moves (p : Player) (f : Nat) : Bool := (clipStep s p f).isSome || p.endAt == some f
  if ps.isEmpty then []
  else ((List.range (playerHorizon s n - n)).map (n + ·)).filter fun f => ps.any fun p => moves p f || moves p (f - 1)

/-- Frames in which an item with target `n` is tested: its target, every later change until `last`, and the frame after
each (R623, R625). -/
def testFrames (s : State) (n : Nat) (last : Option Nat) : List Nat :=
  let fs := n :: (changes s).filter fun f => decide (n < f)
  ((fs.map fun f => [f, f + 1]).flatten ++ playerFrames s n).eraseDups.filter fun f => match last with
    | none => true
    | some l => decide (f < l) || f == n

/-- The decode windows in which it is tested: the copy reservation of the update that replaces it counts (R135). -/
def testWindows (s : State) (n : Nat) (last : Option Nat) : List Nat := testFrames s n last ++ last.toList

/-- The budgets of an item with target `n`, until count `last` (R620 step 8, R623): `base` lacks it, `s` holds it. -/
def budgetsAt (base s : State) (n : Nat) (last : Option Nat) : Option Nat :=
  budgetFail base s (testFrames s n last) (testWindows s n last)

/-- `s` with one more item admitted. -/
def withItem (i : Item) (s : State) : State := modHost (fun h => { h with items := h.items ++ [i] }) s

end Sys2Proof.Machine
end

