-- ==== Sys2Proof/Machine/Commit.lean ====
section
/-!
DEFINITION. Shadows, the dictionary commit, and the items of the dictionary: view table, raster setting and mode switch
(R178 to R182, R241 to R257, R353, R354, R391, R811, R812).
-/
namespace Sys2Proof.Machine

/-! ### Admission of an item (R574, R612, R624) -/

/-- Items are admitted and not final (0x1242:06). -/
def plannerFull (s : State) : Bool := decide (262144 ≤ s.dev.host.items.length)

/-- Admit an item: it takes the next admission number. -/
def admitItem (i : Item) (s : State) : State :=
  modHost (fun h => { h with items := h.items ++ [{ i with num := h.nextNum }], nextNum := h.nextNum + 1 }) s

/-- The planner counts a refusal with its reason and detail (R619, R636). -/
def countRefusal (reason detail : Nat) (s : State) : State :=
  ((s.bump 0x1242 2).bump 0x1243 reason).setReg 0x1242 3
    (frameNo s + reason % 256 * 2 ^ 32 + detail % 256 * 2 ^ 40)

/-- The count a target asks for: 0 asks for the earliest frame (R249, R250, R389). -/
def targetCount (s : State) (t : Nat) : Except Nat Nat :=
  if t = 0 then .ok (earliestRequest s)
  else match testTarget s t with
    | .error r => .error r
    | .ok n => if n < earliestRequest s then .error 4 else .ok n

/-! ### What a commit or a switch may carry (R5, R316, R323, R473) -/

/-- Bits of a zone map that name zones of a half-size tile's absent segments. -/
def absentZones (map : Nat) : Bool := (List.range 24).any fun c => (map >>> (512 * c + 256)) % 2 ^ 256 != 0

/-- The refusal reason for committed objects `c'` taken after `c`: a malformed value, or a unit the part lacks. -/
def objsRefused (s : State) (c c' : Committed) : Option Nat :=
  let map := c'.obj 0x4410 1 % 2 ^ 12288
  let curve (h : Nat) : Bool :=
    match amGet c'.objs (key (0x3402 + h) 1) with
    | none => true
    | some v => gammaGood v
  if !curve 0 || !curve 1 then some 2
  else if c'.obj 0x3410 1 = 1 ∧ c.obj 0x3410 1 = 0 ∧ s.reg 0x3410 5 ≠ 2 then some 2
  else if c'.obj 0x3800 2 = 1 ∧ absentZones map = true then some 2
  else if hasLens s = false ∧ map ≠ 0 then some 3
  else none

/-! ### The dictionary commit (R248 to R256) -/

/-- A commit request is refused (R256). -/
def commitRefused (reason : Nat) (s : State) : Ans := (0, (s.setReg 0x3000 3 2).setReg 0x3000 5 reason)

/-- A commit request is accepted for count `n` (R252, R256). -/
def commitAccepted (n : Nat) (s : State) : State :=
  let s := (s.setReg 0x3000 3 1).setReg 0x3000 4 (n % 2 ^ 32)
  (s.setReg 0x3000 8 (n % 2 ^ 32 + 2 ^ 32)).modDev fun d => { d with commitPending := some n }

/-- What the planner finds against a commit of the present shadows for count `n` (R251). -/
def commitFails (n : Nat) (s : State) : Option Nat :=
  let put (p : Option Nat) : State := s.modDev fun d => { d with commitPending := p }
  let s' := put (some n)
  (objsRefused s (planAt (put none) n) (planAt s' n)).or (budgetsAt (put none) s' n none)

/-- COMMIT_REQUEST (R248 to R256): a request for the frame of the pending commit joins it. -/
def commitRequest (s : State) : Ans :=
  match targetCount s (s.reg 0x3000 2) with
  | .error r => commitRefused r s
  | .ok n =>
    if s.dev.commitPending.any (· != n) then commitRefused 0x0E s
    else
      match commitFails n s with
      | some r => commitRefused r s
      | none => (0, commitAccepted n s)

/-- A shadow object whose value can change a budget, or what a commit may carry (R255). -/
def budgetObject (index sub : Nat) : Bool :=
  index == 0x3004 || index == 0x3402 || index == 0x3403 || (index == 0x3410 && sub == 1) || (index == 0x4410 && sub == 1)

/-- A write of a shadow object that has passed its gate and form (R241, R253, R255). -/
def shadowWrite (r : ObjRow) (index sub : Nat) (bs : List Byte) (s : State) : Ans :=
  let a := valueAbort s r index sub bs
  if a ≠ 0 then (a, s)
  else
    let s' := s.setShad index sub (cleaned index sub (leNat bs))
    match s.dev.commitPending with
    | none => (0, s')
    | some n => if budgetObject index sub && (commitFails n s').isSome then (abRefused, s) else (0, s')

/-- The command form: `value` is the little-endian number of the object's bytes. -/
def shadowWriteValue (index sub value : Nat) (s : State) : State :=
  match objHere s index sub with
  | none => s
  | some r =>
    if r.shadow && r.access == 1 && decide (value < 2 ^ (8 * r.size)) then
      (shadowWrite r index sub (natLE value r.size) s).2
    else s

/-! ### View table (R178 to R182, R155) -/

/-- Some clip player is bound. -/
def anyBound (s : State) : Bool := s.dev.players.any fun p => p.2.state == 2

/-- The slopes of a table's bytes (R178). -/
def tableOf (v : Nat) : List (Int × Int) :=
  (List.range 288).map fun i => (toSigned 16 ((v >>> (32 * i)) % 65536), toSigned 16 ((v >>> (32 * i + 16)) % 65536))

/-- Every slope lies between −1 and +1 (R179). -/
def tableGood (t : List (Int × Int)) : Bool :=
  t.all fun e => decide (-16384 ≤ e.1) && decide (e.1 ≤ 16384) && decide (-16384 ≤ e.2) && decide (e.2 ≤ 16384)

/-- The raster setting of a committed state (R353). -/
def rasterOf (c : Committed) : List Nat := [c.obj 0x3800 1, c.obj 0x3800 2, c.obj 0x3800 3, c.obj 0x3800 4, c.obj 0x3800 5]

/-- The part drives the setting (R354). -/
def rasterHere (s : State) (rate tile width role : Nat) : Bool :=
  (if isSmall s then (tile == 1 && width == 0) || (tile == 0 && width == 1 && [3, 4, 5, 6, 7].contains rate)
   else tile == 0 && width == 0) && (role == 0 || !isSmall s)

/-- An item changes the raster setting of the frame of its target. -/
def rasterMoves (s : State) (i : Item) : Bool :=
  rasterOf (applyItem s (planAt s i.target) i) != rasterOf (planAt s i.target)

/-- The part drives the setting that an item leaves. -/
def rasterDriven (s : State) (i : Item) : Bool :=
  let c := applyItem s (planAt s i.target) i
  rasterHere s (c.obj 0x3800 1) (c.obj 0x3800 2) (c.obj 0x3800 3) (c.obj 0x3800 4)

/-- The plan of a frame breaks a limit of its raster setting: an overlay reaches outside the tile (R87), or a zone map
names a zone that the tile lacks (R473). -/
def settingBreaks (s : State) (frames : List Nat) : Bool :=
  frames.any fun f => (plans s f).any fun c =>
    (c.layers.any fun l => l.2.content.any fun ct => ct.overlay && decide (hogelCols c < ct.dx + ct.dw)) ||
      (c.obj 0x3800 2 == 1 && absentZones (c.obj 0x4410 1 % 2 ^ 12288))

/-- The tests of an item of the dictionary after its format and target: absent unit, layers taken, planner full, the
limits that a new raster setting would break (R353; the reason is a DESIGN CHOICE, log 139), budgets (R620). -/
def itemFails (s : State) (i : Item) : Option Nat :=
  let s' := withItem i s
  let moves := rasterMoves s i
  let table := match i.kind with
    | .view _ => true
    | _ => false
  if moves && !rasterDriven s i then some 3
  else if (moves || table) && anyBound s then some 0x11
  else if plannerFull s then some 0x16
  else if moves && settingBreaks s' (testFrames s' i.target none) then some 2
  else budgetsAt s s' i.target none

/-- VIEW_TABLE_SUBMIT (R179 to R181). -/
def viewSubmit (s : State) : Ans :=
  let refuse (r : Nat) : Ans := (0, (s.setReg 0x2111 4 3).setReg 0x2111 5 r)
  let bs := natLE (s.reg 0x2111 1) 1156
  let t := tableOf (s.reg 0x2111 1)
  if !crcPasses 0x2111 1 bs || !tableGood t then refuse 2
  else
    match targetCount s (s.reg 0x2111 2) with
    | .error r => refuse r
    | .ok n =>
      let i : Item := { num := s.dev.host.nextNum, target := n, kind := .view t }
      match itemFails s i with
      | some r => refuse r
      | none => (0, admitItem i (s.setReg 0x2111 4 2))

/-! ### Raster setting (R353, R354, R375) -/

/-- RASTER_SUBMIT (R353). -/
def rasterSubmit (s : State) : Ans :=
  let refuse (r : Nat) : Ans := (0, (s.setReg 0x3800 8 3).setReg 0x3800 9 r)
  let v (k : Nat) : Nat := s.shad 0x3800 k
  match targetCount s (s.reg 0x3800 6) with
  | .error r => refuse r
  | .ok n =>
    let i : Item := { num := s.dev.host.nextNum, target := n, kind := .raster (v 1) (v 2) (v 3) (v 4) (v 5) }
    let fails := if !rasterHere s (v 1) (v 2) (v 3) (v 4) then some 3 else if anyBound s then some 0x11 else itemFails s i
    match fails with
    | some r => refuse r
    | none => (0, admitItem i (s.setReg 0x3800 8 2))

/-! ### Mode switch by the dictionary (R811, R812) -/

/-- Overlays of an image. -/
def overlayCount (im : Option Image) : Nat := match im with
  | none => 0
  | some i => i.overlays.length

/-- What the planner finds against a switch to `m` at count `n`, in the order of R620 (R612, R812). -/
def switchFails (s : State) (i : Item) (m : Nat) (reload : Bool) : Option Nat :=
  let before := planAt s i.target
  if overlayCount (switchImage s reload) < m then some 2
  else
    match objsRefused s before (applyItem s before i) with
    | some r => some r
    | none =>
      if rasterMoves s i && !rasterDriven s i then some 3
      else if rasterMoves s i && anyBound s then some 0x11
      else if plannerFull s then some 0x16
      else if s.dev.host.items.any fun x => x.isMode && x.target == i.target then some 0x0E
      else itemFails s i

/-- MODE_SUBMIT (R812). -/
def modeSubmit (s : State) : Ans :=
  let refuse (r : Nat) : Ans := (0, (s.setReg 0x1410 4 2).setReg 0x1410 6 r)
  let m := s.reg 0x1410 1 % 16
  let reload := hasBit (s.reg 0x1410 1) 7
  if overlayCount (switchImage s reload) < m then refuse 2
  else
    match targetCount s (s.reg 0x1410 2) with
    | .error r => refuse r
    | .ok n =>
      let i : Item := { num := s.dev.host.nextNum, target := n, kind := .mode m reload }
      if s.dev.host.items.any fun x => x.isMode && !x.host then refuse 0x0E
      else
        match switchFails s i m reload with
        | some r => refuse r
        | none => (0, admitItem i ((s.setReg 0x1410 4 1).setReg 0x1410 5 (n % 2 ^ 32)))

/-! ### Silence (R391) -/

/-- The host has been silent for the timeout: it requests a hold at the silence rate. -/
def hostSilent (s : State) : State :=
  if s.reg 0x3810 3 = 0 then s else modTiming (fun t => { t with silent := true }) s

/-! ### Commands -/

/-- VIEW_TABLE_SUBMIT (R181). -/
def execViewTableSubmit (s : State) : Out := run .viewTableSubmit
    (onDev [.od, .host] (fun t => (viewSubmit t).2) s)

/-- COMMIT_REQUEST (R248). -/
def execCommitRequest (s : State) : Out := run .commitRequest
    (onDev [.od, .commitPending] (fun t => (commitRequest t).2) s)

/-- SHADOW_WRITE (R253, R255). -/
def execShadowWrite (index sub value : Nat) (s : State) : Out :=
  run (.shadowWrite index sub value) (onDev [.shadow, .commitPending] (shadowWriteValue index sub value) s)

/-- RASTER_SUBMIT (R353). -/
def execRasterSubmit (s : State) : Out := run .rasterSubmit (onDev [.od, .host] (fun t => (rasterSubmit t).2) s)

/-- HOST_SILENCE_TIMEOUT (R391). -/
def execHostSilenceTimeout (s : State) : Out := run .hostSilenceTimeout (onDev [.timing] hostSilent s)

end Sys2Proof.Machine
end

