-- ==== Sys2Proof/Machine/Crypto.lean ====
section
/-!
DEFINITION. The algorithms the manual names without defining them: SHA-256, SHA-384, HMAC-SHA-256 (R777) and ECDSA
over P-384 (R799, R836). PRESUMED from their public standards (log 8).
-/
namespace Sys2Proof.Machine

/-! ### Constants: fractional parts of roots of primes -/

/-- The first 80 primes. -/
def primes : List Nat :=
  ((List.range 410).filter fun n => decide (2 ≤ n) && (List.range 19).all fun d =>
    decide (d + 2 ≥ n) || n % (d + 2) != 0)

/-- The largest `r` below 2^`b` more than those of `r` with `f r ≤ n`, found bit by bit. -/
def rootBits (f : Nat → Nat) (n : Nat) : Nat → Nat → Nat
  | 0, r => r
  | b + 1, r => rootBits f n b (if f (r + 2 ^ b) ≤ n then r + 2 ^ b else r)

/-- The first 64 bits of the fractional part of the square root of `p`. -/
def sqrtBits (p : Nat) : Nat := rootBits (fun r => r * r) (p * 2 ^ 128) 70 0 % 2 ^ 64

/-- The first 64 bits of the fractional part of the cube root of `p`. -/
def cbrtBits (p : Nat) : Nat := rootBits (fun r => r * r * r) (p * 2 ^ 192) 70 0 % 2 ^ 64

/-- The round constants of 64-bit words. -/
def roundWords : List Nat := (primes.take 80).map cbrtBits

/-! ### SHA-2 over words of `w` bits -/

/-- Rotate right. -/
def rotr (w n x : Nat) : Nat := ((x >>> n) ||| (x <<< (w - n))) % 2 ^ w

/-- XOR of two rotations and a third rotation. -/
def bigSigma (w a b c x : Nat) : Nat := rotr w a x ^^^ rotr w b x ^^^ rotr w c x

/-- XOR of two rotations and a shift. -/
def smallSigma (w a b c x : Nat) : Nat := rotr w a x ^^^ rotr w b x ^^^ (x >>> c)

/-- The message schedule: `n` further words, the newest first. -/
def schedule (w : Nat) (s0 s1 : Nat → Nat) : Nat → List Nat → List Nat
  | 0, ws => ws
  | n + 1, ws =>
    schedule w s0 s1 n ((s1 (nth ws 1) + nth ws 6 + s0 (nth ws 14) + nth ws 15) % 2 ^ w :: ws)

/-- One round on the eight working words. -/
def shaRound (w : Nat) (t0 t1 : Nat → Nat) (v : List Nat) (kw : Nat) : List Nat :=
  let a := nth v 0
  let b := nth v 1
  let c := nth v 2
  let e := nth v 4
  let ch := (e &&& nth v 5) ^^^ ((2 ^ w - 1 - e) &&& nth v 6)
  let x := nth v 7 + t1 e + ch + kw
  let y := t0 a + ((a &&& b) ^^^ (a &&& c) ^^^ (b &&& c))
  [(x + y) % 2 ^ w, a, b, c, (nth v 3 + x) % 2 ^ w, e, nth v 5, nth v 6]

/-- SHA-256's or SHA-384's compression of one block. -/
def shaBlock (w : Nat) (h : List Nat) (blk : List Byte) : List Nat :=
  let ws := ((List.range 16).map fun i => beNat (slice blk (i * (w / 8)) (w / 8))).reverse
  let v :=
    if w = 32 then
      let full := (schedule 32 (smallSigma 32 7 18 3) (smallSigma 32 17 19 10) 48 ws).reverse
      ((roundWords.map (· >>> 32)).zip full).foldl
        (fun v p => shaRound 32 (bigSigma 32 2 13 22) (bigSigma 32 6 11 25) v (p.1 + p.2)) h
    else
      let full := (schedule 64 (smallSigma 64 1 8 7) (smallSigma 64 19 61 6) 64 ws).reverse
      (roundWords.zip full).foldl
        (fun v p => shaRound 64 (bigSigma 64 28 34 39) (bigSigma 64 14 18 41) v (p.1 + p.2)) h
  (h.zip v).map fun p => (p.1 + p.2) % 2 ^ w

/-- The padded message: a one bit, zeros, and the length in bits. -/
def shaPad (w : Nat) (bs : List Byte) : List Byte :=
  let block := 2 * w
  let tail := w / 4
  let zeros := (2 * block - 1 - tail - bs.length % block) % block
  bs ++ [0x80] ++ List.replicate zeros 0 ++ natBE (8 * bs.length) tail

/-- The blocks of a padded message. -/
def shaBlocks (w : Nat) (h : List Nat) (bs : List Byte) : List Nat :=
  (List.range (bs.length / (2 * w))).foldl (fun h i => shaBlock w h (slice bs (i * (2 * w)) (2 * w))) h

/-- SHA-256: 32 bytes. -/
def sha256 (bs : List Byte) : List Byte :=
  ((shaBlocks 32 ((primes.take 8).map fun p => sqrtBits p >>> 32) (shaPad 32 bs)).map (natBE · 4)).flatten

/-- SHA-384: 48 bytes. -/
def sha384 (bs : List Byte) : List Byte :=
  (((shaBlocks 64 (((primes.drop 8).take 8).map sqrtBits) (shaPad 64 bs)).take 6).map (natBE · 8)).flatten

/-- HMAC-SHA-256 under a key of at most 64 bytes. -/
def hmac (key bs : List Byte) : List Byte :=
  let k := padTo 64 key
  sha256 (k.map (· ^^^ 0x5C) ++ sha256 (k.map (· ^^^ 0x36) ++ bs))

/-! ### P-384 -/

def p384 : Nat := 2 ^ 384 - 2 ^ 128 - 2 ^ 96 + 2 ^ 32 - 1
def n384 : Nat :=
  0xFFFFFFFFFFFFFFFFFFFFFFFFFFFFFFFFFFFFFFFFFFFFFFFFC7634D81F4372DDF581A0DB248B0A77AECEC196ACCC52973
def b384 : Nat :=
  0xB3312FA7E23EE7E4988E056BE3F82D19181D9C6EFE8141120314088F5013875AC656398D8A2ED19D2A85C8EDD3EC2AEF
def g384 : Nat × Nat :=
  (0xAA87CA22BE8B05378EB1C71EF320AD746E1D3B628BA79B9859F741E082542A385502F25DBF55296C3A545E3872760AB7,
   0x3617DE4A96262C6F5D9E98BF9292DC29F8F41DBD289A147CE9DA3113B5F0B8C00A60B1CE1D7E819D7A431D7C90EA0E5F)

/-- `a` to the power `e` modulo `m`, over the low `n` bits of `e`. -/
def powMod (m a e : Nat) : Nat → Nat
  | 0 => 1 % m
  | n + 1 =>
    let r := powMod m a (e / 2) n
    r * r % m * (if e % 2 = 1 then a else 1) % m

/-- Inverse modulo a 384-bit prime. -/
def invMod (m a : Nat) : Nat := powMod m a (m - 2) 384

/-- A point; none is the point at infinity. -/
abbrev Point := Option (Nat × Nat)

/-- The point with slope `l` through two points whose first is given. -/
def chord (l x1 y1 x2 : Nat) : Point :=
  let x := (l * l + 2 * p384 - x1 - x2) % p384
  some (x, (l * (p384 + x1 - x) + p384 - y1) % p384)

/-- Addition on the curve. -/
def pointAdd : Point → Point → Point
  | none, q => q
  | p, none => p
  | some (x1, y1), some (x2, y2) =>
    if x1 = x2 then
      if (y1 + y2) % p384 = 0 then none
      else chord ((3 * x1 * x1 + p384 - 3) * invMod p384 (2 * y1) % p384) x1 y1 x2
    else chord ((p384 + y2 - y1) * invMod p384 (p384 + x2 - x1) % p384) x1 y1 x2

/-- `k` times a point, over the low `n` bits of `k`. -/
def pointMul (p : Point) (k : Nat) : Nat → Point
  | 0 => none
  | n + 1 =>
    let r := pointMul p (k / 2) n
    let d := pointAdd r r
    if k % 2 = 1 then pointAdd d p else d

/-- The point that 49 bytes of SEC 1 compressed form name. -/
def pointOf (bs : List Byte) : Point :=
  let tag := beNat (bs.take 1)
  let x := beNat (slice bs 1 48)
  let c := (x * x % p384 * x + (p384 - 3) * x + b384) % p384
  let y := powMod p384 c ((p384 + 1) / 4) 384
  if (tag ≠ 2 ∧ tag ≠ 3) ∨ p384 ≤ x ∨ y * y % p384 ≠ c then none
  else some (x, if y % 2 = tag % 2 then y else (p384 - y) % p384)

/-- An ECDSA P-384 signature over a SHA-384 digest passes under a public key. -/
def ecdsaGood (q : Point) (digest : List Byte) (r s : Nat) : Bool :=
  if q.isNone || r == 0 || decide (n384 ≤ r) || s == 0 || decide (n384 ≤ s) then false
  else
    let w := invMod n384 s
    let u := beNat digest * w % n384
    let v := r * w % n384
    match pointAdd (pointMul (some g384) u 384) (pointMul q v 384) with
    | none => false
    | some (x, _) => x % n384 == r

end Sys2Proof.Machine
end

