-- ==== Sys2Proof/Machine/Rights.lean ====
section
/-!
DEFINITION. Who may do what: the life-cycle state as requests see it, keys and their rights, and the rights of a
request's origin (R818 to R835).
-/
namespace Sys2Proof.Machine

/-! ### The records of this chapter (layouts of LIFECYCLE and CEILINGS: DESIGN CHOICE, log 9) -/

/-- The payload that record `r` will hold once every write asked for has completed (R710). -/
def intendedPayload (s : State) (r : Nat) : Option (List Byte) :=
  match s.nv.queue.reverse.find? fun q => q.target == .record r with
  | some q => some q.bytes
  | none =>
    match s.nv.writing with
    | some w => if w.req.target = .record r then some w.req.bytes else recordPayload s r
    | none => recordPayload s r

/-- LIFECYCLE: state, transitions used, erasure-pending flag, mailbox rights. -/
def lifePayload (st : LifeCycle) (used : Nat) (erase : Bool) (rights : Nat) : List Byte :=
  [BitVec.ofNat 8 st.code, BitVec.ofNat 8 used, BitVec.ofNat 8 (ofBool erase), BitVec.ofNat 8 rights]

/-- The erasure-pending flag (R822). -/
def erasurePending (s : State) : Bool := (recordPayload s 3).any fun p => fieldLE p 2 1 == 1

/-- 0x1103:01, kept in LIFECYCLE. -/
def mailRights (s : State) : Nat := ((recordPayload s 3).map (fieldLE · 3 1)).getD 7

/-- A CEILINGS record as its payload, and the other way. -/
def ceilingsPayload (c : Ceilings) : List Byte :=
  packLE 2 [c.radiance, c.panelCurrent, c.lensVoltage, c.dcBalance, c.linkAmplitude, c.tileAmplitude, c.transmitCap]
def ceilingsOf (p : List Byte) : Ceilings :=
  let f (i : Nat) : Nat := fieldLE p (2 * i) 2
  { radiance := f 0, panelCurrent := f 1, lensVoltage := f 2, dcBalance := f 3, linkAmplitude := f 4
    tileAmplitude := f 5, transmitCap := f 6 }

/-! ### Life-cycle state and keys -/

/-- The state whose gates apply: a burned transition's gates apply once it is answered (R821). -/
def gateOf (s : State) : LifeCycle := s.dev.bringup.gate.getD s.fuses.state

/-- A gate is open in the present state (R767). -/
def gateOpen (s : State) (g : Nat) : Bool := hasBit g (gateOf s).code

/-- In BLANK and RETIRED the boot ROM serves the mailbox, and no firmware runs (R818, R835). -/
def romServes (s : State) : Bool := gateOf s == .blank || gateOf s == .retired

/-- Payload, kind and rights of key slot `k` (R826). -/
def keyPayload (s : State) (k : Nat) : List Byte := (recordPayload s (4 + k)).getD []
def keyKind (s : State) (k : Nat) : Nat := fieldLE (keyPayload s k) 0 1
def keyRights (s : State) (k : Nat) : Nat := fieldLE (keyPayload s k) 1 1

/-- The key of slot `k` may be used (R818, R825, R828). -/
def keyUsable (s : State) (k : Nat) : Bool :=
  match gateOf s with
  | .maker => k == 0
  | .openState => decide (1 ≤ k) && !erasurePending s
  | .locked => decide (1 ≤ k) && !erasurePending s
  | .returned => k == 0 || !erasurePending s
  | _ => false

/-- The HMAC key that opens sessions of slot `k`. -/
def sessionKey (s : State) (k : Nat) : Option (List Byte) :=
  if decide (k < 8) && keyUsable s k && keyKind s k == 1 then some (slice (keyPayload s k) 3 32) else none

/-- Some key of slots 1 to 7, as `p` gives their payloads, holds the KEYS right (R820, R830). -/
def keysHeld (p : Nat → List Byte) : Bool :=
  [1, 2, 3, 4, 5, 6, 7].any fun k => fieldLE (p k) 0 1 == 1 && hasBit (fieldLE (p k) 1 1) rKeys

/-! ### Sessions and origins -/

/-- The session that a frame names, with its place. -/
def sessionAt (s : State) (number : Nat) : Option (Nat × Session) :=
  (s.dev.ncp.sessions.findSome? fun e => match e.2 with
    | some x => if x.number = number then some (e.1, x) else none
    | none => none)

/-- Replace the session at a place. -/
def putSession (i : Nat) (x : Option Session) (s : State) : State :=
  let s := modNcp (fun n => { n with sessions := amPut n.sessions i x }) s
  s.setReg 0x1210 1 (s.dev.ncp.sessions.filter (·.2.isSome)).length

/-- Close the sessions that `f` names (R786). -/
def closeSessions (f : Session → Bool) (s : State) : State :=
  s.each s.dev.ncp.sessions fun e s => match e.2 with
    | some x => if f x then putSession e.1 none s else s
    | none => s

/-- The key slot of a request's origin; none for the mailbox and for an unknown session. -/
def originSlot (s : State) : Origin → Option Nat
  | .mailbox => none
  | .ncp f => (sessionAt s f.session).map (·.2.slot)

def isMailbox : Origin → Bool
  | .mailbox => true
  | .ncp _ => false

/-- Rights of a request (R827, R828, R831). -/
def rightsOf (s : State) (o : Origin) : Nat :=
  match o with
  | .mailbox =>
    match gateOf s with
    | .openState => mailRights s
    | .locked => mailRights s
    | .retired => 0
    | _ => 0x1F
  | .ncp f =>
    match originSlot s (.ncp f) with
    | none => 0
    | some k => if !keyUsable s k then 0 else if k = 0 then 0x1F else keyRights s k

def hasRight (s : State) (o : Origin) (right : Option Nat) : Bool :=
  match right with
  | none => true
  | some r => hasBit (rightsOf s o) r

/-- A read of the object is allowed to the origin (R767, R832 to R835). -/
def mayRead (s : State) (o : Origin) (index sub : Nat) : Bool :=
  gateOpen s (readGate s index sub) && hasRight s o (readRight index sub)

/-- The requester is named by R834 itself: the mailbox, or slot 0. -/
def requesterGood (s : State) (o : Origin) (index sub : Nat) : Bool :=
  if index = 0x1104 ∧ sub = 1 then isMailbox o
  else if index = 0x1101 ∧ sub = 1 then isMailbox o || originSlot s o == some 0
  else true

/-- A write of the object is allowed to the origin. -/
def mayWrite (s : State) (o : Origin) (r : ObjRow) (index sub : Nat) : Bool :=
  gateOpen s (writeGate s r index sub) && hasRight s o (writeRight r index sub) && requesterGood s o index sub

/-! ### Waiting for the store (R708, R793) -/

/-- An answer to a write: its abort code, or none while it waits for the store; and the state it leaves. -/
abbrev Reply := Option Nat × State

/-- An answer given at once. -/
def Reply.of (a : Ans) : Reply := (some a.1, a.2)

/-- Answers owed when a store write completes. -/
abbrev Owed := List (Nat × Origin × Request)

/-- A request of record `r` with more answers owed. -/
def oweRequest (r : Nat) (owed : Owed) (q : StoreReq) : StoreReq :=
  if q.target = .record r then { q with answers := q.answers ++ owed, asked := true } else q

/-- Attach answers to the write of record `r` that has just been asked for (R708). -/
def oweRecord (r : Nat) (owed : Owed) (s : State) : State :=
  if s.nv.queue.any fun q => q.target == .record r then
    modNv (fun nv => { nv with queue := nv.queue.map (oweRequest r owed) }) s
  else modNv (fun nv => { nv with writing := nv.writing.map fun w => { w with req := oweRequest r owed w.req } }) s

/-- Answers owed by the store. -/
def owedNow (s : State) : Owed :=
  (s.nv.writing.map (·.req.answers)).getD [] ++ (s.nv.queue.map (·.answers)).flatten

/-- Two requests come over one channel: the mailbox, or one session. -/
def sameChannel : Origin → Origin → Bool
  | .mailbox, .mailbox => true
  | .ncp f, .ncp g => f.session == g.session
  | _, _ => false

/-- A request waits: its channel has a request that waits for the store, or it writes an object that one is writing
(R793). -/
def mustWait (waiting : Owed) (svc : Nat) (o : Origin) (r : Request) : Bool :=
  waiting.any fun w => sameChannel w.2.1 o ||
    ((svc == 2 || svc == 4) && (w.1 == 2 || w.1 == 4) && w.2.2.index == r.index && w.2.2.sub == r.sub)

end Sys2Proof.Machine
end

