-- ==== Sys2Proof/Machine/Images.lean ====
section
/-!
DEFINITION. Configuration images: their checks, the commit to the store, and what a reset of the main die takes from
them (R795 to R810, R849).
-/
namespace Sys2Proof.Machine

/-! ### Layout (R795 to R797) -/

/-- An entry of a section as it is laid out. -/
structure RawEntry where
  index : Nat
  sub : Nat
  typ : Nat
  bytes : List Byte
deriving DecidableEq, Repr

/-- The first `n` entries of a section and the bytes they take; none when the bytes end before. -/
def rawEntries : Nat → List Byte → Option (List RawEntry × Nat)
  | 0, _ => some ([], 0)
  | n + 1, bs =>
    let len := fieldLE bs 4 2
    let span := 8 + (len + 3) / 4 * 4
    if bs.length < span then none
    else
      (rawEntries n (bs.drop span)).map fun (es, k) =>
        ({ index := fieldLE bs 0 2, sub := fieldLE bs 2 1, typ := fieldLE bs 3 1, bytes := slice bs 8 len } :: es,
          span + k)

/-- Field of directory entry `m`. -/
def dirField (bs : List Byte) (m off k : Nat) : Nat := fieldLE bs (32 + 16 * m + off) k

/-- Overlays that the image says it has, and its total length. -/
def imageN (bs : List Byte) : Nat := fieldLE bs 5 1
def imageT (bs : List Byte) : Nat := fieldLE bs 8 4

/-- Section `m`: its bytes, and its entries when they fill it. -/
def sectionBytes (bs : List Byte) (m : Nat) : List Byte := slice bs (dirField bs m 0 2) (dirField bs m 2 2)
def sectionEntries (bs : List Byte) (m : Nat) : Option (List RawEntry) :=
  match rawEntries (dirField bs m 4 2) (sectionBytes bs m) with
  | some (es, k) => if k = dirField bs m 2 2 then some es else none
  | none => none

/-- The sections lie in order from `off` on, each as long as its entries. -/
def sectionsFrom (bs : List Byte) : List Nat → Nat → Option Nat
  | [], off => some off
  | m :: ms, off =>
    if dirField bs m 0 2 = off ∧ off % 4 = 0 ∧ (sectionEntries bs m).isSome = true then
      sectionsFrom bs ms (off + dirField bs m 2 2)
    else none

/-! ### Checks (R802) -/

/-- Detail 0x01: magic, version, reserved bytes; the range of the serial is taken with them (DEDUCED, log 43). -/
def headerImage (bs : List Byte) : Bool :=
  fieldLE bs 0 4 == 0x4D4F4C48 && fieldLE bs 4 1 == 1 && decide (fieldLE bs 6 1 < 2) && fieldLE bs 7 1 == 0 &&
    fieldLE bs 12 4 != 0 && allZero (slice bs 24 8) && (List.range 16).all fun m => dirField bs m 7 1 == 0

/-- Detail 0x05. -/
def directoryGood (bs : List Byte) : Bool :=
  let n := imageN bs
  decide (n ≤ 15) && sectionsFrom bs (List.range (n + 1)) 288 == some (imageT bs - 116) && dirField bs 0 6 1 == 0 &&
    ((List.range n).all fun m => within 1 6 (dirField bs (m + 1) 6 1)) &&
    allZero (slice bs (32 + 16 * (n + 1)) (16 * (15 - n)))

/-- The entries of every section. -/
def allEntries (bs : List Byte) : List (List RawEntry) :=
  (List.range (imageN bs + 1)).map fun m => (sectionEntries bs m).getD []

/-- Keys rise strictly. -/
def rising : List Nat → Bool
  | a :: b :: xs => decide (a < b) && rising (b :: xs)
  | _ => true

/-- Detail 0x07 of one entry. -/
def entryNamed (s : State) (e : RawEntry) : Bool :=
  match objHere s e.index e.sub with
  | none => false
  | some r => r.imageable && r.typ == e.typ && lengthGood r e.bytes.length

/-- Detail 0x08 of one entry. -/
def entryTaken (s : State) (e : RawEntry) : Bool :=
  (objHere s e.index e.sub).any fun r => valueAbort s r e.index e.sub e.bytes == 0

/-- The value of 0x3800:`sub` in a section over the base: its own, the base's, or the default. -/
def rasterValue (base upper : List RawEntry) (sub : Nat) : Nat :=
  let find (es : List RawEntry) : Option Nat :=
    (es.find? fun e => e.index == 0x3800 && e.sub == sub).map fun e => leNat e.bytes
  ((find upper).or (find base)).getD (objDefault 0x3800 sub)

/-- Detail 0x08 of the raster setting of each section that carries one of its objects: the part drives it (R6, R354; the
detail is DEDUCED, log 140). -/
def rasterTaken (s : State) (es : List (List RawEntry)) : Bool :=
  let base := es.headD []
  es.all fun upper =>
    !(upper.any fun e => e.index == 0x3800 && decide (1 ≤ e.sub) && decide (e.sub ≤ 4)) ||
      rasterHere s (rasterValue base upper 1) (rasterValue base upper 2) (rasterValue base upper 3) (rasterValue base upper 4)

/-- Detail 0x09: the signature passes under the image-signing key of its slot (R799). -/
def signatureGood (s : State) (bs : List Byte) : Bool :=
  let t := imageT bs
  let k := fieldLE bs (t - 116) 1
  fieldLE bs 6 1 == 1 && decide (k < 8) && keyUsable s k && keyKind s k == 2 &&
    ecdsaGood (pointOf (slice (keyPayload s k) 3 49)) (sha384 (bs.take (t - 116))) (beNat (slice bs (t - 100) 48))
      (beNat (slice bs (t - 52) 48))

/-- The first failing check of an image of the bytes `bs`; `serial` asks for detail 0x0A too. -/
def imageFails (s : State) (serial : Bool) (bs : List Byte) : Option Nat :=
  let t := imageT bs
  let locked := gateOf s == .locked
  let es := allEntries bs
  if !headerImage bs then some 1
  else if t < 404 ∨ 12288 < t ∨ t % 4 ≠ 0 ∨ t ≠ bs.length then some 2
  else if fieldLE bs (t - 4) 4 ≠ crc32c (partCode s) (bs.take (t - 4)) then some 3
  else if fieldLE bs 16 4 ≠ partCode s then some 4
  else if !directoryGood bs then some 5
  else if (List.range (imageN bs)).any fun m => decide (256 < dirField bs (m + 1) 4 2) then some 6
  else if es.any fun x => !(x.all (entryNamed s)) || !rising (x.map fun e => key e.index e.sub) then some 7
  else if (es.any fun x => !(x.all (entryTaken s))) || !rasterTaken s es then some 8
  else if (locked || fieldLE bs 6 1 == 1) && !signatureGood s bs then some 9
  else if serial && locked &&
      s.dev.images.live.any fun im => !later 32 im.serial (fieldLE bs 12 4) then some 10
  else none

/-- The sections of an image that passes its checks. -/
def imageOf (bs : List Byte) : Image :=
  let sec (m : Nat) : ImageSection :=
    { cls := dirField bs m 6 1, name := dirField bs m 8 8
      entries := ((sectionEntries bs m).getD []).map fun e =>
        { key := key e.index e.sub, typ := e.typ, value := cleaned e.index e.sub (leNat e.bytes) } }
  { serial := fieldLE bs 12 4, signed := fieldLE bs 6 1 == 1, base := sec 0
    overlays := (List.range (imageN bs)).map fun m => sec (m + 1) }

/-! ### The areas and the pointer (R804, R805) -/

/-- First page of configuration image area `a` (R712). -/
def areaPage (a : Nat) : Nat := 3072 + 192 * a

/-- The first `len` bytes of an area. -/
def areaBytes (nv : NvStore) (a len : Nat) : List Byte :=
  (((List.range ((len + 63) / 64)).map fun i => pageBytes nv (areaPage a + i)).flatten).take len

/-- The area that a COMMIT writes: the one the pointer does not name; area 0 without a pointer. -/
def commitArea (s : State) : Nat := match recordPayload s 12 with
  | none => 0
  | some p => 1 - fieldLE p 0 1 % 2

/-- IMAGE_POINTER for an image in area `a` (R805). The reset mode stays, when the image has it. -/
def pointerPayload (s : State) (a : Nat) (bs : List Byte) : List Byte :=
  let old := (intendedPayload s 12).getD []
  let mode := fieldLE old 1 1
  let t := imageT bs
  natLE a 1 ++ natLE (if mode ≤ imageN bs then mode else 0) 1 ++ [0, 0] ++ natLE (fieldLE bs 12 4) 4 ++ natLE t 4 ++
    natLE (fieldLE bs (t - 4) 4) 4 ++ natLE (fieldLE old 4 4) 4

/-! ### Commands (R801 to R807) -/

/-- A COMMIT runs. -/
def committing (s : State) : Bool := s.dev.images.committing.isSome

/-- The image fails a check: the command is refused (R801). -/
def imageRefused (d : Nat) (s : State) : Ans :=
  (abMalformed, logEvent 802 7 0x1400 4 d ((s.setReg 0x1400 3 3).setReg 0x1400 4 d))

/-- VERIFY (R801, R802). -/
def imageVerify (s : State) : Ans :=
  if committing s then (abInUse, s)
  else match imageFails s true s.dev.images.buffer with
    | some d => imageRefused d s
    | none => (0, (s.setReg 0x1400 3 2).setReg 0x1400 4 0)

/-- Queue page `n` of the image that a COMMIT stores. -/
def commitPage (n : Nat) (bs : List Byte) (s : State) : State :=
  storeRequest { target := .page (areaPage (commitArea s) + n), bytes := padTo 64 (slice bs (64 * n) 64)
                 use := .image n } s

/-- COMMIT (R801, R804): it is answered when its checks end. -/
def imageCommit (s : State) : Ans :=
  if committing s then (abInUse, s)
  else
    let bs := s.dev.images.buffer
    match imageFails s true bs with
    | some d => imageRefused d s
    | none =>
      let s := ((s.setReg 0x1400 3 4).setReg 0x1400 4 0).setReg 0x1400 5 0
      (0, commitPage 0 bs (modImages (fun x => { x with committing := some bs }) s))

/-- The commit has failed (R806). -/
def commitLost (s : State) : State :=
  if committing s then
    logEvent 806 2 0x1400 3 (s.reg 0x1400 5) (modImages (fun x => { x with committing := none }) (s.setReg 0x1400 3 6))
  else s

/-- Page `n` is verified: the next one is queued; after the last the area is read back, and the pointer queued. -/
def commitPageDone (n : Nat) (s : State) : State :=
  match s.dev.images.committing with
  | none => s
  | some bs =>
    let s := s.setReg 0x1400 5 (n + 1)
    let t := imageT bs
    if 64 * (n + 1) < t then commitPage (n + 1) bs s
    else
      let back := areaBytes s.nv (commitArea s) t
      if fieldLE back (t - 4) 4 = crc32c (partCode s) (back.take (t - 4)) then
        writeRecord 12 (pointerPayload s (commitArea s) bs) .pointer s
      else commitLost s

/-- The image in force in the store: the one that the pointer names. -/
def namedImage (s : State) : Option Image :=
  match recordPayload s 12 with
  | none => none
  | some p =>
    let bs := areaBytes s.nv (fieldLE p 0 1) (min 12288 (fieldLE p 8 4))
    if (imageFails s false bs).isNone && fieldLE bs (bs.length - 4) 4 == fieldLE p 12 4 then some (imageOf bs) else none

/-- The pointer record is verified: its image is live, and the commit that asked for it has ended (R804). -/
def pointerDone (s : State) : State :=
  let live := namedImage s
  let s := modImages (fun x => { x with live := live }) s
  match s.dev.images.committing with
  | none => s
  | some bs =>
    if fieldLE ((recordPayload s 12).getD []) 12 4 = fieldLE bs (imageT bs - 4) 4 then
      modImages (fun x => { x with committing := none }) (s.setReg 0x1400 3 5)
    else s

/-- A write of the reset mode rewrites record 12 (0x1401:04). Without a record there is nothing to rewrite. -/
def resetModeWrite (m : Nat) (owed : Owed) (s : State) : Reply :=
  match intendedPayload s 12 with
  | none => (some 0, s)
  | some p => (none, oweRecord 12 owed (writeRecord 12 (p.take 1 ++ natLE m 1 ++ p.drop 2) .pointer s))

/-! ### At reset (R809, R810, R849) -/

/-- The other area's image, when its serial is the pointer's previous serial (R809). -/
def otherImage (s : State) : Option Image :=
  match recordPayload s 12 with
  | none => none
  | some p =>
    let bs := areaBytes s.nv (1 - fieldLE p 0 1 % 2) 12288
    let bs := bs.take (min 12288 (imageT bs))
    if fieldLE bs 12 4 = fieldLE p 16 4 ∧ (imageFails s false bs).isNone = true then some (imageOf bs) else none

/-- One value of the loaded image takes effect, in shadow and committed state together. -/
def takeValue (e : ImageEntry) (s : State) : State :=
  if e.key = key 0x3410 1 then
    if e.value = 0 then s else logEvent 849 1 0x3410 1 0 s
  else if shadowKey e.key then
    s.modDev fun d => { d with shadow := amPut d.shadow e.key e.value
                               live := { d.live with objs := amPut d.live.objs e.key e.value } }
  else s.setReg (e.key / 256) (e.key % 256) e.value

/-- Load the image and apply it: its base, and the overlay of the reset mode (R809, R810). -/
def loadImage (s : State) : State :=
  let pick : Nat × Option Image :=
    if erasurePending s then (2, none)
    else match namedImage s with
      | some im => (0, some im)
      | none => match otherImage s with
        | some im => (1, some im)
        | none => (2, none)
  let live := namedImage s
  let s := modImages (fun x => { x with loaded := pick.2, live := live }) (s.setReg 0x1401 3 pick.1)
  let s := if pick.1 = 0 then s else logEvent 809 (if (recordPayload s 12).isSome then 7 else 0) 0x1401 3 pick.1 s
  match pick.2 with
  | none => s.setReg 0x5410 6 (requestedLimit s)
  | some im =>
    let asked := fieldLE ((recordPayload s 12).getD []) 1 1
    let m := if asked ≤ im.overlays.length then asked else 0
    let s := s.each (im.base.entries ++ if m = 0 then [] else (overlayOf im m).entries) takeValue
    let s := (s.modDev fun d => { d with live := { d.live with mode := m } }).setReg 0x1410 7 m
    s.setReg 0x5410 6 (requestedLimit s)

/-! ### Commands -/

/-- IMAGE_VERIFY (R802). -/
def execImageVerify (s : State) : Out :=
  run .imageVerify (onDev [.od, .events, .eventBuffer, .eventMessages] (fun t => (imageVerify t).2) s)

/-- IMAGE_COMMIT (R804). While the management cores are stopped none is taken (R60). -/
def execImageCommit (s : State) : Out :=
  run .imageCommit (onNv [.od, .images, .events, .eventBuffer, .eventMessages] (fun t => if coresStopped t then t
      else (imageCommit t).2) s)

/-- MODE_SUBMIT (R812). -/
def execModeSubmit (s : State) : Out := run .modeSubmit (onDev [.od, .host] (fun t => (modeSubmit t).2) s)

end Sys2Proof.Machine
end

