-- ==== Sys2Proof/Machine/Life.lean ====
section
/-!
DEFINITION. Life-cycle transitions, erasures, keys, the fused minimum version and the ceilings (R335, R479, R818 to
R838).
-/
namespace Sys2Proof.Machine

/-! ### Ceilings (R838, R335) -/

/-- The value of a ceiling. -/
def Ceilings.field (c : Ceilings) : Ceiling → Nat
  | .radiance => c.radiance
  | .panelCurrent => c.panelCurrent
  | .lensVoltage => c.lensVoltage
  | .dcBalance => c.dcBalance
  | .linkAmplitude => c.linkAmplitude
  | .tileAmplitude => c.tileAmplitude
  | .transmitCap => c.transmitCap

/-- A record with one ceiling changed. -/
def Ceilings.set (c : Ceilings) (v : Nat) : Ceiling → Ceilings
  | .radiance => { c with radiance := v }
  | .panelCurrent => { c with panelCurrent := v }
  | .lensVoltage => { c with lensVoltage := v }
  | .dcBalance => { c with dcBalance := v }
  | .linkAmplitude => { c with linkAmplitude := v }
  | .tileAmplitude => { c with tileAmplitude := v }
  | .transmitCap => { c with transmitCap := v }

/-- A value is within a ceiling's range (R838). -/
def ceilingRange : Ceiling → Nat → Bool
  | .radiance, v => decide (v ≤ 16383)
  | .panelCurrent, v => decide (v ≤ 4095)
  | .lensVoltage, v => decide (v ≤ 24000)
  | .dcBalance, v => within 100 20000 v
  | .linkAmplitude, v => within 200 1000 v
  | .tileAmplitude, v => within 200 1000 v
  | .transmitCap, v => within 1000 10000 v

/-- The object of a ceiling (R838). -/
def ceilingAt (index sub : Nat) : Option Ceiling :=
  if index = 0x3420 ∧ sub = 1 then some .radiance
  else if index = 0x4400 ∧ sub = 4 then some .lensVoltage
  else if index = 0x4402 ∧ sub = 6 then some .dcBalance
  else if index = 0x1120 then
    (if sub = 1 then some .panelCurrent else if sub = 2 then some .linkAmplitude else if sub = 3 then some .tileAmplitude
     else if sub = 4 then some .transmitCap else none)
  else none

/-- CEILINGS record `r` as it will be once every write asked for has completed. -/
def intendedCeilings (s : State) (r : Nat) : Ceilings :=
  match intendedPayload s r with
  | some p => ceilingsOf p
  | none => if r = 1 then s.ceilings.rec1 else s.ceilings.rec2

/-- A write of a ceiling: in MAKER it sets both records; otherwise it sets record 2 and may not raise it (R838). -/
def ceilingWrite (c : Ceiling) (v : Nat) (owed : Owed) (s : State) : Reply :=
  if !ceilingRange c v then (some abRange, s)
  else
    match gateOf s with
    | .blank => (some abDenied, s)
    | .retired => (some abDenied, s)
    | .maker =>
      let one := ceilingsPayload ((intendedCeilings s 1).set v c)
      let two := ceilingsPayload ((intendedCeilings s 2).set v c)
      (none, oweRecord 2 owed (writeRecord 2 two .ceilings (oweRecord 1 [] (writeRecord 1 one .ceilings s))))
    | _ =>
      if s.ceilings.rec2.field c < v ∨ (intendedCeilings s 2).field c < v then (some abRange, s)
      else
        (none, oweRecord 2 owed (writeRecord 2 (ceilingsPayload ((intendedCeilings s 2).set v c)) .ceilings s))

/-- CEILINGS record `r` is verified: its values are in force (R838, R839); a lowered radiance ceiling has the zone
scales computed again (R904). -/
def ceilingsDone (r : Nat) (s : State) : State :=
  match recordPayload s r with
  | none => s
  | some p =>
    let c := ceilingsOf p
    let low := r == 2 && decide (c.radiance < s.ceilings.rec2.radiance)
    let s := { s with ceilings := if r = 1 then { s.ceilings with rec1 := c } else { s.ceilings with rec2 := c } }
    let s := s.iff low (modGov fun g => { g with lowered := true })
    if s.reg 0x4402 1 ≤ s.ceilings.rec2.dcBalance then s else s.setReg 0x4402 1 s.ceilings.rec2.dcBalance

/-- Record 2 becomes equal to record 1 (R820, R823). -/
def ceilingsEqual (s : State) : State := writeRecord 2 (ceilingsPayload (intendedCeilings s 1)) .ceilings s

/-! ### Keys (R826 to R830) -/

/-- What the payload of a key write breaks: a value out of range, or its structure. -/
def keyAbort (p : List Byte) : Nat :=
  let kind := fieldLE p 0 1
  let rights := fieldLE p 1 1
  if 2 < kind then abRange
  else if 32 ≤ rights ∨ fieldLE p 2 1 ≠ 0 ∨ (kind ≠ 1 ∧ rights ≠ 0) then abMalformed
  else if kind = 1 ∧ allZero (slice p 35 17) = false then abMalformed
  else if kind = 2 ∧ (pointOf (slice p 3 49)).isNone = true then abMalformed
  else 0

/-- A write of key slot `k` that has passed its gate and length (R830). -/
def keyWrite (k : Nat) (p : List Byte) (owed : Owed) (s : State) : Reply :=
  let after (j : Nat) : List Byte := if j = k then p else (intendedPayload s (4 + j)).getD []
  let strict := gateOf s == .openState || gateOf s == .locked
  if strict && !keysHeld after then (some abInUse, s)
  else if keyAbort p ≠ 0 then (some (keyAbort p), s)
  else (none, oweRecord (4 + k) owed (writeRecord (4 + k) p (.key k) s))

/-- The key of slot `k` has changed: its sessions are closed (R786, R830). -/
def keyDone (k : Nat) (s : State) : State := closeSessions (fun x => x.slot == k) s

/-! ### The fused minimum (R837) -/

/-- Raise the fused minimum to `v`. -/
def raiseMinimum (v : Nat) (s : State) : Ans :=
  if 32 < v ∨ v < s.fuses.minVersion ∨ s.dev.bringup.runningVersion < v then (abRange, s)
  else (0, { s with fuses := { s.fuses with minVersion := v } })

/-! ### Transitions (R820 to R822) -/

/-- The state that a code names. -/
def stateOfCode : Nat → Option LifeCycle
  | 0 => some .blank
  | 1 => some .maker
  | 2 => some .openState
  | 3 => some .locked
  | 4 => some .returned
  | 5 => some .retired
  | _ => none

/-- The live image is signed and passes detail 0x09 of R802. -/
def liveSigned (s : State) : Bool :=
  match recordPayload s 12 with
  | none => false
  | some p => signatureGood s (areaBytes s.nv (fieldLE p 0 1) (min 12288 (fieldLE p 8 4)))

/-- The row of R820 for the present state and a target accepts the request of an origin. -/
def transitionAllowed (s : State) (o : Origin) (target : LifeCycle) : Bool :=
  let left := 64 - s.fuses.used
  let keys := hasRight s o (some rKeys)
  let slot0 := originSlot s o == some 0
  let held := keysHeld (keyPayload s)
  (target == .retired || decide (2 ≤ left)) && decide (1 ≤ left) &&
    match s.fuses.state, target with
    | .blank, .maker => isMailbox o && keyKind s 0 == 1 && s.reg 0x1104 1 != 0
    | .maker, .openState => (slot0 || isMailbox o) && held && (recordPayload s 1).isSome
    | .openState, .locked => keys && liveSigned s
    | .locked, .openState => keys
    | .openState, .returned => keys
    | .locked, .returned => keys
    | .returned, .openState => slot0 && held
    | .maker, .retired => slot0
    | .openState, .retired => keys
    | .locked, .retired => keys
    | .returned, .retired => slot0
    | _, _ => false

/-- The transition burns its fuse, and LIFECYCLE is written after it (R819 to R822). The gates stay those of the old
state until the answer (R821). -/
def burn (target : LifeCycle) (owed : Owed) (s : State) : State :=
  let old := s.fuses.state
  let erase := target == .returned || target == .retired
  let digest := s.reg 0x1104 1
  let s := { s with fuses := { s.fuses with state := target, used := s.fuses.used + 1
                                            digestFused := s.fuses.digestFused || old == .blank
                                            digest := if old = .blank then digest else s.fuses.digest } }
  let s := modBringup (fun b => { b with gate := some old }) s
  let s := logEvent 820 7 0x1100 1 (old.code + 256 * target.code) s
  let s := if target = .openState ∧ old ≠ .locked then oweRecord 2 [] (ceilingsEqual s) else s
  let rights := ((intendedPayload s 3).map (fieldLE · 3 1)).getD 7
  oweRecord 3 owed (writeRecord 3 (lifePayload target s.fuses.used erase rights) (.transition erase) s)

/-- A transition request (R820). -/
def transition (o : Origin) (v : Nat) (owed : Owed) (s : State) : Reply :=
  if v / 256 ≠ 0x4C4346 then (some abRange, s)
  else
    match stateOfCode (v % 256) with
    | none => (some abInUse, s)
    | some target =>
      if s.dev.bringup.gate.isSome || !transitionAllowed s o target then (some abInUse, s)
      else (none, burn target owed s)

/-! ### Erasure (R822 to R825) -/

/-- The pages of an erasure: the full one takes slot 0 too. -/
def erasurePages (full : Bool) : List Nat :=
  let span (a n : Nat) : List Nat := (List.range n).map (a + ·)
  (if full then [4, 1028] else []) ++ span 5 7 ++ span 1029 7 ++ [12, 1036] ++ span 3072 384 ++ span 4096 4096 ++
    [13, 1037] ++ span 512 512 ++ span 1536 512 ++ span 2240 768

/-- Queue the next page of the erasure. -/
def erasureNext (s : State) : State :=
  match s.dev.bringup.erasureLeft with
  | [] => s
  | p :: _ => storeRequest { target := .page p, bytes := emptyPage, use := .erasure } s

/-- An erasure starts from its first page; pages that read empty are skipped. -/
def erasureStart (s : State) : State :=
  let left := (erasurePages (s.fuses.state == .retired)).filter fun p => (amGet s.nv.pages p).isSome
  erasureNext (modBringup (fun b => { b with erasureLeft := left }) s)

/-- A page written empty takes its copy or slot out of the drive die's RAM (R706, R716). -/
def forgetPage (p : Nat) (s : State) : State :=
  if p < 2048 then
    let r := p % 1024
    modNv (fun nv =>
      match amGet nv.records r with
      | none => nv
      | some v =>
        let v := if p < 1024 then { v with validA := false, inA := false } else { v with validB := false, inA := v.validA }
        { nv with records := if v.validA || v.validB then amPut nv.records r v else amErase nv.records r }) s
  else if 2240 ≤ p ∧ p < 3008 then
    let r := 4 + (p - 2240) / 64
    modNv (fun nv =>
      match amGet nv.rings r with
      | none => nv
      | some v => if v.slot = (p - 2240) % 64 then { nv with rings := amErase nv.rings r } else nv) s
  else s

/-- A page of the erasure is verified. -/
def erasureDone (s : State) : State :=
  match s.dev.bringup.erasureLeft with
  | [] => s
  | p :: ps =>
    let s := modBringup (fun b => { b with erasureLeft := ps }) (forgetPage p s)
    let s := if p % 1024 < 12 ∧ p < 2048 then keyDone (p % 1024 - 4) s else s
    let s := if p = 12 ∨ p = 1036 then modImages (fun x => { x with live := none }) s
      else if 4096 ≤ p ∧ p < 8192 then modBringup (fun b => { b with proxyValid := false }) s
      else s
    erasureNext s

/-- Every page of the erasure is empty: record 2 and LIFECYCLE are rewritten, and the flag clears (R822, R823). -/
def erasureComplete (s : State) : State :=
  if !erasurePending s || !s.dev.bringup.erasureLeft.isEmpty then s
  else writeRecord 3 (lifePayload s.fuses.state s.fuses.used false 7) .erasureEnd (ceilingsEqual s)

/-! ### Commands -/

/-- New control traffic is not answered while the management cores are stopped (R60). -/
def answered (f : State → State) (s : State) : State := if coresStopped s then s else f s

/-- HARDWARE_CEILING_WRITE (R335). -/
def execHardwareCeilingWrite (value : Nat) (s : State) : Out :=
  run (.hardwareCeilingWrite value) (onNv [.od] (answered fun t => (ceilingWrite .radiance value [] t).2) s)

/-- CEILING_WRITE (R838). -/
def execCeilingWrite (which : Ceiling) (value : Nat) (s : State) : Out :=
  run (.ceilingWrite which value) (onNv [.od] (answered fun t => (ceilingWrite which value [] t).2) s)

/-- A key write by its requester: its gate and length come first (R834). -/
def keyRequest (o : Origin) (slot : Nat) (payload : List Byte) (s : State) : State :=
  match objHere s 0x1101 (slot + 1) with
  | none => s
  | some r =>
    if mayWrite s o r 0x1101 (slot + 1) && payload.length == 52 then (keyWrite slot payload [] s).2 else s

/-- KEY_WRITE (R830). -/
def execKeyWrite (o : Origin) (slot : Nat) (payload : List Byte) (s : State) : Out :=
  run (.keyWrite o slot payload) (onNv [.od] (answered (keyRequest o slot payload)) s)

/-- RAISE_MINIMUM_VERSION (R837). -/
def execRaiseMinimumVersion (v : Nat) (s : State) : Out :=
  run (.raiseMinimumVersion v) (onFuses (answered fun t => (raiseMinimum v t).2) s)

/-- LIFECYCLE_TRANSITION (R820). -/
def execLifecycleTransition (o : Origin) (value : Nat) (s : State) : Out :=
  run (.lifecycleTransition o value) (onFuses (answered fun t => (transition o value [] t).2) s)

/-- ERASURE_COMPLETE (R822). -/
def execErasureComplete (s : State) : Out := run .erasureComplete (onNv [.od] erasureComplete s)

end Sys2Proof.Machine
end

