-- ==== Sys2Proof/Machine/Links.lean ====
section
/-!
DEFINITION. The device's end of the driver links: training, failure, port modes, sleep, violations and test loops
(chapter 8, R890, R897).
-/
namespace Sys2Proof.Machine

/-- Link state: 0 DOWN, 1 DETECT, 2 LOCK, 3 EXCHANGE, 4 EQUALIZE, 5 CONFIRM, 6 ACTIVE, 7 ABSENT, 8 vigil retrain,
9 test. -/
def linkState (s : State) (l : Nat) : Nat := s.reg (0x4100 + l) 1
def setLinkState (l v : Nat) (s : State) : State := s.setReg (0x4100 + l) 1 v

/-- The other link of a port. -/
def mate (l : Nat) : Nat := if l % 2 = 0 then l + 1 else l - 1

/-- Port mode: 0 FULL, 1 HALF on the lower link, 2 HALF on the upper, 3 PROXY, 4 HOLD. -/
def portMode (s : State) (p : Nat) : Nat := s.reg (0x4000 + p) 1

/-- The ports are wide (R354). -/
def widePorts (s : State) : Bool := s.com 0x3800 3 == 1

/-- The base rate of the next frame, Hz (R455). -/
def nextHz (s : State) : Nat := rateHz ((s.dev.captured.getD s.dev.live).obj 0x3800 1)

/-- The target speed (R451). -/
def targetSpeed (s : State) : Nat := if hbmTrained s then s.reg 0x4200 1 else 1

/-- A block that is not IDLE has come upstream on link `l`. -/
def hearBlock (l : Nat) (s : State) : State :=
  let now := s.now
  modLink l (fun x => { x with rx := x.rx.hear now }) s

/-- A control block is sent on link `l`, under its preset and the ceiling of 0x1120:02 (R889). -/
def sendBlock (l b : Nat) (s : State) : State :=
  let top := s.ceilings.rec2.linkAmplitude
  let now := s.now
  modLink l (fun x =>
    { x with sent := (b :: x.sent).take 16
             drive := some (presetDrive x.preset top)
             wire := some (controlWire l now x.wire x.data b) }) s

/-- The payloads of the data blocks that follow the last control block of a link: those of its packet, or pattern blocks
(R404, R468). -/
def Link.payloads (x : Link) : List Nat :=
  match x.tx with
  | .pattern count st => patternBlocks count st
  | _ => x.data

/-- The 66-bit blocks that link `l` sends in the present line: its control blocks and the data blocks that follow, of
a packet or of the pattern, or none where it has sent nothing (R395, R398, R404, R468). -/
def lineWire (s : State) (l : Nat) : List Nat :=
  match (s.link l).wire with
  | none => []
  | some w => w.before ++ w.bits :: dataWire w.scrambler (s.link l).payloads

/-! ### Port modes (R454 to R457) -/

/-- Link `l` fits a depth at the base rate of the next frame. -/
def linkFits (s : State) (depth l : Nat) : Bool := depthFits (widePorts s) depth (nextHz s) (s.reg (0x4100 + l) 2)

/-- Local time `t` lies within the last 60 s. -/
def within60s (s : State) : Option Nat → Bool
  | none => false
  | some t => decide (s.now < t + 60000000000000)

/-- Link `l` counts for its port's mode (R455). -/
def linkCounts (s : State) (l : Nat) : Bool :=
  let x := s.link l
  linkState s l == 6 &&
    (if within60s s x.failedAt || within60s s x.aloneAt then
      match x.activeAt with
      | none => false
      | some t => decide (t + 1000000000000 ≤ s.now) &&
          (match x.discardAt with
           | none => true
           | some d => decide (d + 1000000000000 ≤ s.now))
     else true)

/-- The best mode of a port (R455). -/
def bestMode (s : State) (p : Nat) : Nat :=
  let lo := 2 * p
  let hi := 2 * p + 1
  let cl := linkCounts s lo
  let ch := linkCounts s hi
  if cl && ch && linkFits s 0 lo && linkFits s 0 hi then 0
  else if cl && linkFits s 1 lo then 1
  else if ch && linkFits s 1 hi then 2
  else if (cl && linkFits s 2 lo) || (ch && linkFits s 2 hi) then 3
  else 4

/-- The best mode, but PROXY for a port that could carry lines while proxy content is shown (R750, R852). -/
def modeShowing (s : State) (proxy : Bool) (p : Nat) : Nat :=
  let m := bestMode s p
  if proxy && decide (m < 3) then 3 else m

/-- The mode a port is to send in within the current frame. -/
def wantedMode (s : State) (p : Nat) : Nat := modeShowing s (!s.dev.timing.lightField || s.dev.live.thermal) p

/-- Link `l` carries its port in mode `mode`. -/
def carriesIn (s : State) (mode l : Nat) : Bool :=
  (linkState s l == 6) &&
    match mode with
    | 0 => true
    | 1 => l % 2 == 0
    | 2 => l % 2 == 1
    | 3 => linkFits s 2 l
    | _ => false

/-- Link `l` carries its port in the port's mode. -/
def carries (s : State) (l : Nat) : Bool := carriesIn s (portMode s (l / 2)) l

/-- Link `l` carries its port alone. -/
def carriesAlone (s : State) (l : Nat) : Bool := carries s l && !carries s (mate l)

/-! ### Training (R444 to R452) -/

/-- The link enters LOCK. -/
def enterLock (l : Nat) (s : State) : State := sendBlock l (trainDown 2 (s.reg (0x4100 + l) 2)) (setLinkState l 2 s)

/-- The link enters DETECT at a speed; with upstream block lock already there it goes on to LOCK. -/
def enterDetect (l speed : Nat) (s : State) : State :=
  let s := (setLinkState l 1 s).setReg (0x4100 + l) 2 speed
  let s := modLink l (fun x =>
    { x with part0 := none, part1 := none, preset := 0, margins := [], swept := false, goodTrains := 0 }) s
  let s := sendBlock l (trainDown 1 speed) s
  if (s.link l).upLock then enterLock l s else s

/-- Training starts from DOWN at the target speed (R444, R449). -/
def trainStart (l : Nat) (s : State) : State :=
  enterDetect l (targetSpeed s) (modLink l (fun x => { x with attempts := 0, ladder := 0, passed := 0 }) s)

/-- The link enters DOWN. -/
def enterDown (l : Nat) (s : State) : State :=
  let s := (setLinkState l 0 s).setReg (0x4100 + l) 2 0
  modLink l (fun x =>
    { x with tx := .idle, data := [], fifo := none, activeAt := none, vigil := 0, lowMargin := 0, discards := [] }) s

/-- The link becomes ABSENT (R448). -/
def enterAbsent (l : Nat) (s : State) : State := setLinkState l 7 (enterDown l s)

/-- The link enters ACTIVE: SEQ starts at 0 (R412, R444). -/
def enterActive (l : Nat) (s : State) : State :=
  let now := s.now
  let v := s.reg (0x4100 + l) 2
  let s := modLink l (fun x =>
    { x with seq := 0, lastSeq := none, tx := .idle, data := [], trained := v, activeAt := some now, attempts := 0
             ladder := 0, vigil := 0, lowMargin := 0, discards := [] }) s
  sendBlock l (trainDown 6 (s.reg (0x4100 + l) 2)) (setLinkState l 6 s)

/-- Speeds the driver supports, from CAP_UP part 0 (R402). -/
def driverSpeeds (x : Link) : Nat := match x.part0 with
  | none => 1
  | some b => bits b 27 24

/-- The next speed above `v` that the driver supports, up to the target (R448 step 2). -/
def nextSpeed (s : State) (l v : Nat) : Option Nat :=
  [1, 2, 3, 4].find? fun k => decide (v < k) && decide (k ≤ targetSpeed s) && hasBit (driverSpeeds (s.link l)) (k - 1)

/-- The third attempt has failed at a speed: the fallback ladder (R448). -/
def ladder (l : Nat) (s : State) : State :=
  let x := s.link l
  let v := s.reg (0x4100 + l) 2
  let go (phase speed : Nat) := enterDetect l speed (modLink l (fun x => { x with ladder := phase, attempts := 0 }) s)
  match x.ladder with
  | 0 => go 1 1
  | 1 => if x.passed = 0 then enterAbsent l s else go 2 x.passed
  | _ => if v ≤ 1 then enterAbsent l s else go 2 (v - 1)

/-- An attempt fails (R444). -/
def attemptFail (l : Nat) (s : State) : State :=
  let s := (modLink l (fun x => { x with attempts := x.attempts + 1 }) s).bump (0x4100 + l) 3
  if (s.link l).attempts < 3 then enterDetect l (s.reg (0x4100 + l) 2) s else ladder l s

/-- The link enters EQUALIZE: CAP, then TRAIN with STEP 4, and preset P0 (R444, R890). -/
def enterEqualize (l : Nat) (s : State) : State :=
  let v := s.reg (0x4100 + l) 2
  let s := modLink l (fun x => { x with preset := 0, margins := [], swept := false, goodTrains := 0 }) s
  sendBlock l (trainDown 4 v) (sendBlock l (capBlock l v (widePorts s)) (setLinkState l 4 s))

/-- EXCHANGE has passed: on the climb of the ladder the next speed is tried (R448). -/
def exchangePass (l : Nat) (s : State) : State :=
  let v := s.reg (0x4100 + l) 2
  if (s.link l).ladder = 1 then
    let s := modLink l (fun x => { x with passed := v }) s
    match nextSpeed s l v with
    | some k => enterDetect l k (modLink l (fun x => { x with attempts := 0 }) s)
    | none => enterEqualize l (modLink l (fun x => { x with ladder := 2, attempts := 0 }) s)
  else enterEqualize l s

/-- The parts of CAP_UP pass (R447). -/
def capPasses (s : State) (l p0 : Nat) : Bool :=
  decide (1 ≤ bits p0 23 16) && hasBit p0 24 && hasBit p0 (23 + s.reg (0x4100 + l) 2) &&
    (!widePorts s || hasBit p0 28)

/-- Pattern blocks go out on link `l`; where in its sequence the generator stands is free, but it is not all zeros
(R468; log 146). -/
def sendPattern (l count : Nat) (s : State) : State :=
  let now := s.now
  modLink l (fun x => { x with tx := .pattern count (1 + Config.patternStart l now % (2 ^ 31 - 1)), data := [] }) s

/-- The link enters CONFIRM: TRAIN with STEP 5, then TEST and its pattern blocks (R444, R441). -/
def enterConfirm (l count : Nat) (s : State) : State :=
  sendPattern l count (sendBlock l (testBlock count) (sendBlock l (trainDown 5 (s.reg (0x4100 + l) 2)) s))

/-! ### Failure (R450, R453, R456) -/

/-- From V + 8 lines on, the mode of port `p` at the next calends is its best mode as the links now are (R456, R457). -/
def chooseNext (p : Nat) (s : State) : State :=
  match s.dev.timing.nextProxy with
  | none => s
  | some proxy =>
    let m := modeShowing s proxy p
    modPort p (fun x => { x with nextMode := if m = portMode s p then none else some m }) s

/-- A link leaves service. Where it is declared `failed` and carried its port, the port takes the best mode without it
from the next line that is read; otherwise the port's mode changes at the next calends only (R456). -/
def dropLink (failed : Bool) (l : Nat) (s : State) : State :=
  let p := l / 2
  let carried := carries s l
  let now := s.now
  let s := if carriesAlone s l then modLink l (fun x => { x with aloneAt := some now }) s else s
  let s := enterDown l s
  chooseNext p (if failed && carried then s.setReg (0x4000 + p) 1 (wantedMode s p) else s)

/-- The blocks that a lane brings back: each block sent, with the bits that the path has changed. -/
def loopReturn (noise : Nat → Nat) : Nat → List Nat → List Nat
  | _, [] => []
  | k, b :: bs => (b ^^^ noise k % 2 ^ 64) :: loopReturn noise (k + 1) bs

/-- The payloads of pattern blocks that come back on link `l` in a loop, of `n` sent: in NEAR the transmit lane is the
checker's input, and in FAR the driver sends every block back unchanged (R467). -/
def loopPayloads (s : State) (l n : Nat) : List Nat :=
  match (s.link l).tx with
  | .pattern _ st => loopReturn (Config.loopNoise l s.now) 0 (patternBlocks n st)
  | _ => []

/-- Errors that a NEAR or FAR loop on link `l` has counted since 0x4100+l:0D was read last: the bits of the blocks that
come back which differ from the pattern (R467; how many blocks, and which bits change, is free, log 147). -/
def loopErrors (s : State) (l : Nat) : Nat :=
  let code := s.reg (0x4100 + l) 0x0C
  if linkState s l = 9 ∧ (code = 1 ∨ code = 2) then
    match (s.link l).tx with
    | .pattern _ st => patternErrors st (loopPayloads s l (Config.loopBlocks l s.now))
    | _ => 0
  else 0

/-- A test on link `l` ends: the errors found so far stay counted, and the port's flag falls with its last test. -/
def endTest (l : Nat) (s : State) : State :=
  if linkState s l = 9 then
    let p := l / 2
    let s := (s.bump (0x4100 + l) 0x0D (loopErrors s l)).setReg (0x4100 + l) 0x0C 0
    if linkState s (mate l) = 9 then s else s.setReg (0x4000 + p) 2 (clearBit (s.reg (0x4000 + p) 2) 1)
  else s

/-- How much of full service a port mode gives, the best first: the two HALF modes are equal (R455). -/
def modeRank (m : Nat) : Nat := if m = 2 then 1 else m

/-- Link `l` is declared failed with a cause, an ABSENT link and one in DOWN too (R450, R453). A link that retrains in
the vigil still carries its port. -/
def linkFail (l cause : Nat) (s : State) : State :=
  let p := l / 2
  let now := s.now
  let s := if linkState s l = 8 then setLinkState l 6 s else endTest l s
  let carried := carries s l
  let old := portMode s p
  let s := ((modLink l (fun x => { x with failedAt := some now }) s).bump (0x4100 + l) 6).setReg (0x4100 + l) 7 cause
  let s := dropLink true l s
  let s := if modeRank old < modeRank (portMode s p) then s.bump (0x4000 + p) 0x0B else s
  if carried then logEvent 456 3 (0x4000 + p) 0 (portMode s p + 256 * cause) s else s

/-- Port `p` is taken down: its links enter DOWN, an ABSENT one too (R450, R464). -/
def takeDown (p : Nat) (s : State) : State :=
  s.each [2 * p, 2 * p + 1] fun l s =>
    if linkState s l = 7 ∨ linkState s l = 0 then enterDown l s else linkFail l 6 s

/-! ### Violations (R464) -/

/-- A violation on the upstream lane of link `l`: 256 of its port within 1 s take the port down. -/
def upViolation (l : Nat) (s : State) : State :=
  let p := l / 2
  let ts := s.now :: within1s s.now (s.port p).violations
  let s := modPort p (fun x => { x with violations := ts }) ((s.bump (0x4100 + l) 0x0A).bump (0x4000 + p) 0x0C)
  if 256 ≤ ts.length ∧ (s.port p).takenDown = false then
    let s := modPort p (fun x => { x with takenDown := true, violations := [] }) (s.bump (0x4000 + p) 0x0D)
    logEvent 464 6 (0x4000 + p) 0 l (takeDown p s)
  else s

/-! ### Upstream blocks -/

/-- The threshold of R440 with the addend of the junction band (R741). -/
def marginThreshold (s : State) : Nat := min 63 (s.reg 0x4200 2 + nth [2, 0, 0, 1, 2, 3] (s.reg 0x5404 3))

/-- Discards reported on link `l` within the last 24 lines (R453). -/
def recentDiscards (s : State) (l : Nat) : List (Nat × Nat) :=
  (s.link l).discards.filter fun d => decide (s.dev.timing.lines < d.1 + 24)

/-- A STATUS arrives on the upstream lane of link `l` (R436, R440, R453, R464). -/
def statusReceive (l b : Nat) (s : State) : State :=
  let p := l / 2
  let s := hearBlock l s
  let x := s.link l
  if !statusGood l b then upViolation l s
  else if x.lastSeq.any (fun q => later 16 q (bits b 39 24)) then upViolation l s
  else
    let d := bits b 47 40
    let now := s.now
    let n := s.dev.timing.lines
    let s := s.setReg (0x4000 + p) 2 (clearBit (s.reg (0x4000 + p) 2) 0)
    let s := s.setReg (0x4000 + p) 7 (bit b 12)
    let s := if hasBit b 11 then s.bump (0x4000 + p) 0x0A else s
    let s := s.setReg (0x4100 + l) 5 (bits b 21 16)
    let s := s.bump (0x4100 + l) 8 d
    let low := decide (bits b 21 16 < marginThreshold s)
    let recent := (if d = 0 then [] else [(n, d)]) ++ recentDiscards s l
    let s := modLink l (fun x =>
      { x with discards := recent
               discardAt := if d = 0 then x.discardAt else some now
               lowMargin := if low then x.lowMargin + 1 else 0
               vigil := if low && decide (3 ≤ x.lowMargin) && x.vigil == 0 then 1 else x.vigil }) s
    let s := if !hasBit b 8 && linkState s (2 * p) == 6 then linkFail (2 * p) 2 s else s
    let s := if !hasBit b 9 && linkState s (2 * p + 1) == 6 then linkFail (2 * p + 1) 2 s else s
    if linkState s l == 6 && decide (2 ≤ (recent.map (·.2)).foldl (· + ·) 0) then linkFail l 3 s else s

/-- A TRAIN_REQ from an ACTIVE link (R445). -/
def trainRequest (l : Nat) (s : State) : State :=
  if linkState s l = 6 ∨ linkState s l = 8 then linkFail l 5 s else s

/-- A TRAIN_REQ arrives; like every block that is not IDLE it thaws the receiver (R439, R445). -/
def trainReqReceive (l : Nat) (s : State) : State := trainRequest l (hearBlock l s)

/-- A violating block arrives; it is no IDLE block as sent, so it thaws the receiver (R439, R464). -/
def violationReceive (l : Nat) (s : State) : State := upViolation l (hearBlock l s)

/-- Margins recorded under presets 0 to `n` − 1, with 0 for those under which no TRAIN came (R890). -/
def padMargins (n : Nat) (ms : List Nat) : List Nat := ms ++ List.replicate (n - ms.length) 0

/-- A driver TRAIN arrives (R444, R441, R464). -/
def trainReceive (l b : Nat) (s : State) : State :=
  let s := hearBlock l s
  if !trainUpGood b then upViolation l s
  else if bits b 11 8 = 15 then trainRequest l (s.setReg (0x4100 + l) 5 (bits b 21 16))
  else
    let margin := bits b 21 16
    let s := s.setReg (0x4100 + l) 5 margin
    let locked := hasBit b 12
    let x := s.link l
    let good := if s.reg 0x4200 2 ≤ margin then x.goodTrains + 1 else 0
    match linkState s l with
    | 6 => upViolation l s
    | 2 => if locked then sendBlock l (trainDown 3 (s.reg (0x4100 + l) 2)) (setLinkState l 3 s) else s
    | 4 =>
      if !x.swept then
        let ms := padMargins (x.preset + 1) x.margins
        modLink l (fun x => { x with margins := setNth ms x.preset (max margin (nth ms x.preset)) }) s
      else
        let s := modLink l (fun x => { x with goodTrains := good }) s
        if 16 ≤ good then enterConfirm l 65536 (setLinkState l 5 s) else s
    | 8 =>
      match x.vigil with
      | 2 =>
        if locked then
          sendBlock l (trainDown 4 (s.reg (0x4100 + l) 2)) (modLink l (fun x => { x with vigil := 3, goodTrains := 0 }) s)
        else s
      | 3 =>
        let s := modLink l (fun x => { x with goodTrains := good, vigil := if 16 ≤ good then 4 else 3 }) s
        if 16 ≤ good then enterConfirm l 16384 s else s
      | _ => s
    | _ => s

/-- A part of CAP_UP arrives (R444, R447, R464). -/
def capUpReceive (l b : Nat) (s : State) : State :=
  let s := hearBlock l s
  if !capUpGood b then upViolation l s
  else if linkState s l ≠ 3 then upViolation l s
  else
    let s := modLink l (fun x =>
      if bits b 9 8 = 0 then { x with part0 := some b } else { x with part1 := some b }) s
    match (s.link l).part0, (s.link l).part1 with
    | some p0, some p1 =>
      let i := 0x4000 + l / 2
      let s := s.setReg i 3 (bits p0 47 32 * 2 ^ 16 + bits p1 31 16)
      let s := (s.setReg i 4 (bits p0 23 16)).setReg i 5 (bits p1 43 32)
      if capPasses s l p0 then exchangePass l s else attemptFail l s
    | _, _ => s

/-- A TEST_RESULT arrives (R444, R441, R467). -/
def resultReceive (l b : Nat) (s : State) : State :=
  let s := hearBlock l s
  if !resultGood b then upViolation l s
  else
    let e := bits b 39 8
    match linkState s l with
    | 5 => if e = 0 then enterActive l s else attemptFail l s
    | 8 => if (s.link l).vigil = 4 ∧ e = 0 then enterActive l s else s
    | 9 => if s.reg (0x4100 + l) 0x0C = 3 then s.bump (0x4100 + l) 0x0D e else s
    | _ => s

/-- A TELEM arrives (R437, R464). The item selected is the one in force since the last calends (DEDUCED, log 148). -/
def telemReceive (l b : Nat) (s : State) : State :=
  let s := hearBlock l s
  if !telemGood l b then upViolation l s
  else if bits b 15 8 ≠ (s.port (l / 2)).item then upViolation l s
  else s.setReg (0x4000 + l / 2) 9 (bits b 47 16)

/-- An upstream SLEEP: the lane may go idle (R462, R463). -/
def sleepReceive (l b : Nat) (s : State) : State :=
  let s := hearBlock l s
  if !(blockGood l b && blockType b == 0x5A && bits b 47 8 == 0) then upViolation l s
  else s.setReg (0x4100 + l) 0x0B (setBit (s.reg (0x4100 + l) 0x0B) 1)

/-- The upstream receiver gains block lock (R438, R444, R844). -/
def upLockGain (l : Nat) (s : State) : State :=
  let now := s.now
  let s := modLink l (fun x => { x with rx := x.rx.gain now, upLostAt := none, lost := false }) s
  let s := s.setReg (0x4100 + l) 0x0B (clearBit (s.reg (0x4100 + l) 0x0B) 1)
  match linkState s l with
  | 1 => enterLock l s
  | 7 => if s.reg 0x6011 1 < 3 then trainStart l s else s
  | _ => s

/-- The upstream lane of link `l` sleeps (R463). -/
def upAsleep (s : State) (l : Nat) : Bool := hasBit (s.reg (0x4100 + l) 0x0B) 1

/-- The upstream receiver loses block lock; after an intact SLEEP this is no loss (R438, R463). -/
def upLockLoss (l : Nat) (s : State) : State :=
  if upAsleep s l || !(s.link l).upLock then s
  else
    let now := s.now
    (modLink l (fun x => { x with rx := x.rx.loss, upLostAt := some now }) s).bump (0x4100 + l) 9

/-- An upstream lane out of lock for 1 s is counted as lost (R466). -/
def upLaneLost (l : Nat) (s : State) : State :=
  if (s.link l).upLock then s else modLink l (fun x => { x with lost := true }) s

/-- No STATUS on either upstream for 64 line periods while one is awake: the port is blind (R464). -/
def portBlind (p : Nat) (s : State) : State :=
  if hasBit (s.reg (0x4000 + p) 2) 0 || (upAsleep s (2 * p) && upAsleep s (2 * p + 1)) then s
  else logEvent 464 6 (0x4000 + p) 0 0 (s.setReg (0x4000 + p) 2 (setBit (s.reg (0x4000 + p) 2) 0))

/-- A training state's timer expires (R444). -/
def trainTimer (l : Nat) (s : State) : State :=
  let st := linkState s l
  if 1 ≤ st ∧ st ≤ 5 then attemptFail l s else s

/-- The preset with the highest recorded margin, the lower-numbered on a tie (R890). -/
def bestPreset (ms : List Nat) : Nat :=
  ((List.range 8).foldl (fun b i => if nth ms b < nth ms i then i else b) 0)

/-- 100 us under a preset have passed: the next is applied, or the best is chosen and held (R890). -/
def presetStep (l : Nat) (s : State) : State :=
  if linkState s l ≠ 4 ∨ (s.link l).swept then s
  else modLink l (fun x =>
    if x.preset < 7 then { x with preset := x.preset + 1 }
    else { x with preset := bestPreset x.margins, swept := true, goodTrains := 0 }) s

/-- An ABSENT link is tried again (R449). -/
def absentRetry (l : Nat) (s : State) : State := if linkState s l = 7 then trainStart l s else s

/-- One second after a take-down the port's links train again (R464). -/
def takedownRetrain (p : Nat) (s : State) : State :=
  if (s.port p).takenDown then
    (modPort p (fun x => { x with takenDown := false }) s).each [2 * p, 2 * p + 1] fun l s =>
      if linkState s l = 0 then trainStart l s else s
  else s

/-- A link below the target speed is retrained while the other carries the port alone (R452). -/
def speedRaise (l : Nat) (s : State) : State :=
  let m := portMode s (l / 2)
  if linkState s l == 6 && decide (s.reg (0x4100 + l) 2 < targetSpeed s) && carries s (mate l) && (m != 0) then
    trainStart l (dropLink false l s)
  else s

/-- A test loop may start on link `l`: its port holds, or the other link carries it (R469). In FULL each link carries
its own columns, so the other one does not carry the port. -/
def testAllowed (s : State) (l : Nat) : Bool :=
  portMode s (l / 2) == 4 || (portMode s (l / 2) != 0 && carries s (mate l))

/-- A test loop of a code starts (R467, R470): FAR at 2.5 Gbit/s, the others at the speed of the link, or the one it
was last trained at, or else the target speed. Every loop carries pattern blocks, the PATTERN loop after a TEST
(log 147). -/
def testLoop (l code : Nat) (s : State) : State :=
  if !testAllowed s l then s
  else
    let p := l / 2
    let v := s.reg (0x4100 + l) 2
    let t := (s.link l).trained
    let speed := if code = 2 then 1 else if v ≠ 0 then v else if t ≠ 0 then t else targetSpeed s
    let s := (dropLink false l (endTest l s)).setReg (0x4100 + l) 0x0C code
    let s := setLinkState l 9 (s.setReg (0x4000 + p) 2 (setBit (s.reg (0x4000 + p) 2) 1))
    let s := s.setReg (0x4100 + l) 2 speed
    sendPattern l (2 ^ 40 - 1) (if code = 3 then sendBlock l (testBlock (2 ^ 40 - 1)) s else s)

/-- Writing 0 ends the test, and the link enters DOWN (R470). -/
def testOff (l : Nat) (s : State) : State :=
  if linkState s l = 9 then enterDown l (endTest l s) else s

/-- Line time of the frame, ps, at the rate in force. -/
def lineTimePs (s : State) : Nat := s.reg 0x3801 2

/-- A downstream lane may sleep between packets: a hold frame, the enable, and 20 us to the next line (R460). -/
def maySleep (s : State) (l : Nat) : Bool :=
  let v := s.reg (0x4100 + l) 2
  let blocks := match (s.link l).tx with
    | .sol _ depth _ _ => packetBlocks (widePorts s) depth
    | _ => 1
  s.dev.timing.inHold && s.reg 0x4200 3 == 1 && linkState s l == 6 && decide (1 ≤ v) &&
    decide (blocks * 66 * 1000000 / laneMbps v + 20000000 ≤ lineTimePs s)

/-- The lane sends SLEEP and enters electrical idle; a driver whose receiver has lock takes the SLEEP, so that the loss
of signal is no lock loss (R460, R461; DESIGN CHOICE, log 149). -/
def laneSleep (l : Nat) (s : State) : State :=
  if maySleep s l then
    let s := modDriver (l / 2) (fun d =>
      let rest (x : DriverLane) : DriverLane := { x with asleep := x.lock }
      if l % 2 = 0 then { d with lower := rest d.lower } else { d with upper := rest d.upper }) s
    sendBlock l (sleepBlock l)
      ((modLink l (fun x => { x with tx := .idle, data := [] }) s).setReg (0x4100 + l) 0x0B
        (setBit (s.reg (0x4100 + l) 0x0B) 0))
  else s

/-- The lane leaves idle and sends IDLE blocks (R460). -/
def laneWake (l : Nat) (s : State) : State := s.setReg (0x4100 + l) 0x0B (clearBit (s.reg (0x4100 + l) 0x0B) 0)

/-- A reference pair stops: every link of its quadrant is declared failed (R897). A quadrant is a quarter of the links
in order of number (DEDUCED, log 16). -/
def refclockLoss (q : Nat) (s : State) : State :=
  let n := nLinks s / 4
  s.each ((List.range n).map (q * n + ·)) fun l t => linkFail l 1 t

/-! ### Commands -/

/-- LANE_SLEEP_ENTER (R460). -/
def execLaneSleepEnter (l : Nat) (s : State) : Out := runOn (.laneSleepEnter l) (l < nLinks s) s
    (onDev [.od, .links, .drivers] (laneSleep l) s)

/-- LANE_WAKE (R460). -/
def execLaneWake (l : Nat) (s : State) : Out := runOn (.laneWake l) (l < nLinks s) s (onDev [.od] (laneWake l) s)

/-- STATUS_RECEIVE (R436). -/
def execStatusReceive (l block : Nat) (s : State) : Out :=
  runOn (.statusReceive l block) (l < nLinks s) s (onDev [.od, .links, .ports, .events, .eventBuffer,
      .eventMessages] (statusReceive l block) s)

/-- TRAIN_RECEIVE (R444). -/
def execTrainReceive (l block : Nat) (s : State) : Out :=
  runOn (.trainReceive l block) (l < nLinks s) s (onDev [.od, .links, .ports, .events, .eventBuffer,
      .eventMessages] (trainReceive l block) s)

/-- TRAIN_REQ_RECEIVE (R445). -/
def execTrainReqReceive (l : Nat) (s : State) : Out :=
  runOn (.trainReqReceive l) (l < nLinks s) s (onDev [.od, .links, .ports, .events, .eventBuffer, .eventMessages]
      (trainReqReceive l) s)

/-- CAP_UP_RECEIVE (R447). -/
def execCapUpReceive (l block : Nat) (s : State) : Out :=
  runOn (.capUpReceive l block) (l < nLinks s) s (onDev [.od, .links, .ports, .events, .eventBuffer,
      .eventMessages] (capUpReceive l block) s)

/-- TEST_RESULT_RECEIVE (R444). -/
def execTestResultReceive (l block : Nat) (s : State) : Out :=
  runOn (.testResultReceive l block) (l < nLinks s) s (onDev [.od, .links, .ports, .events, .eventBuffer,
      .eventMessages] (resultReceive l block) s)

/-- TELEM_RECEIVE (R437). -/
def execTelemReceive (l block : Nat) (s : State) : Out :=
  runOn (.telemReceive l block) (l < nLinks s) s (onDev [.od, .links, .ports, .events, .eventBuffer,
      .eventMessages] (telemReceive l block) s)

/-- UPSTREAM_SLEEP_RECEIVE (R463). -/
def execUpstreamSleepReceive (l block : Nat) (s : State) : Out :=
  runOn (.upstreamSleepReceive l block) (l < nLinks s) s (onDev [.od, .links, .ports, .events, .eventBuffer,
      .eventMessages] (sleepReceive l block) s)

/-- UPSTREAM_VIOLATION (R464). -/
def execUpstreamViolation (l : Nat) (s : State) : Out :=
  runOn (.upstreamViolation l) (l < nLinks s) s (onDev [.od, .links, .ports, .events, .eventBuffer, .eventMessages]
      (violationReceive l) s)

/-- UPSTREAM_LOCK_GAIN (R438). -/
def execUpstreamLockGain (l : Nat) (s : State) : Out :=
  runOn (.upstreamLockGain l) (l < nLinks s) s (onDev [.od, .links] (upLockGain l) s)

/-- UPSTREAM_LOCK_LOSS (R438). -/
def execUpstreamLockLoss (l : Nat) (s : State) : Out :=
  runOn (.upstreamLockLoss l) (l < nLinks s) s (onDev [.od, .links] (upLockLoss l) s)

/-- UPSTREAM_LANE_LOST (R466). -/
def execUpstreamLaneLost (l : Nat) (s : State) : Out :=
  runOn (.upstreamLaneLost l) (l < nLinks s) s (onDev [.links] (upLaneLost l) s)

/-- PORT_BLIND_TIMEOUT (R464). -/
def execPortBlindTimeout (p : Nat) (s : State) : Out :=
  runOn (.portBlindTimeout p) (p < nPorts s) s (onDev [.od, .events, .eventBuffer, .eventMessages] (portBlind p) s)

/-- LINK_TRANSMIT_FAULT (R453). -/
def execLinkTransmitFault (l : Nat) (s : State) : Out :=
  runOn (.linkTransmitFault l) (l < nLinks s) s (onDev [.od, .links, .ports, .events, .eventBuffer, .eventMessages]
      (linkFail l 1) s)

/-- TRAINING_TIMER_EXPIRY (R444). -/
def execTrainingTimerExpiry (l : Nat) (s : State) : Out :=
  runOn (.trainingTimerExpiry l) (l < nLinks s) s (onDev [.od, .links] (trainTimer l) s)

/-- PRESET_SWEEP_STEP (R890). -/
def execPresetSweepStep (l : Nat) (s : State) : Out :=
  runOn (.presetSweepStep l) (l < nLinks s) s (onDev [.links] (presetStep l) s)

/-- LINK_ABSENT_RETRY (R449). -/
def execLinkAbsentRetry (l : Nat) (s : State) : Out :=
  runOn (.linkAbsentRetry l) (l < nLinks s) s (onDev [.od, .links] (absentRetry l) s)

/-- PORT_TAKEDOWN_RETRAIN (R464). -/
def execPortTakedownRetrain (p : Nat) (s : State) : Out :=
  runOn (.portTakedownRetrain p) (p < nPorts s) s (onDev [.od, .links, .ports] (takedownRetrain p) s)

/-- LINK_SPEED_RAISE (R452). -/
def execLinkSpeedRaise (l : Nat) (s : State) : Out := runOn (.linkSpeedRaise l) (l < nLinks s) s
    (onDev [.od, .links, .ports] (speedRaise l) s)

/-- TEST_LOOP_NEAR (R467). -/
def execTestLoopNear (l : Nat) (s : State) : Out := runOn (.testLoopNear l) (l < nLinks s) s
    (onDev [.od, .links, .ports] (testLoop l 1) s)

/-- TEST_LOOP_FAR (R467). -/
def execTestLoopFar (l : Nat) (s : State) : Out := runOn (.testLoopFar l) (l < nLinks s) s
    (onDev [.od, .links, .ports] (testLoop l 2) s)

/-- TEST_LOOP_PATTERN (R467). -/
def execTestLoopPattern (l : Nat) (s : State) : Out := runOn (.testLoopPattern l) (l < nLinks s) s
    (onDev [.od, .links, .ports] (testLoop l 3) s)

/-- TEST_LOOP_OFF (R470). -/
def execTestLoopOff (l : Nat) (s : State) : Out := runOn (.testLoopOff l) (l < nLinks s) s
    (onDev [.od, .links] (testOff l) s)

/-- REFCLOCK_LOSS (R897). -/
def execRefclockLoss (quadrant : Nat) (s : State) : Out :=
  run (.refclockLoss quadrant) (onDev [.od, .links, .ports, .events, .eventBuffer, .eventMessages] (refclockLoss
      quadrant) s)

end Sys2Proof.Machine
end

