-- ==== Sys2Proof/Machine/Thermal.lean ====
section
/-!
DEFINITION. Sensors, the octave, the thermal fault and power domains (chapter 14).
-/
namespace Sys2Proof.Machine

/-- The masks of record 15 (R736): failed, then retired. -/
def sensorMasks (s : State) : List Byte :=
  let mask (v : Nat) := (List.range 52).foldl (fun n i => if sensorState s i = v then setBit n i else n) 0
  natLE (mask 1) 7 ++ natLE (mask 2) 7

/-- TS`i` takes a state; record 15 is written and the cross-check interval follows (R736, R737). -/
def setSensorState (i v : Nat) (s : State) : State :=
  let s := s.setReg 0x5401 (i + 1) v
  let s := s.setReg 0x5403 3 (if anySensorFailed s then 1 else 10)
  writeRecord 15 (sensorMasks s) .none s

/-- TS`i` is marked failed (R733). -/
def sensorFail (i : Nat) (s : State) : State :=
  if sensorState s i ≠ 0 then s
  else
    let s := modSensor i (fun x => { x with goodSince := none, apart := 0, crossFails := 0 }) s
    logEvent 733 2 0x5401 (i + 1) 0 (latch 2 ((setSensorState i 1 s).bump 0x5403 4))

/-- The middle of some readings; of an even number, the mean of the two middle ones rounded towards zero (DEDUCED,
log 13). -/
def median (xs : List Int) : Int :=
  let ys := sortBy (fun a b => decide (a ≤ b)) xs
  let n := ys.length
  if n % 2 = 1 then ys.getD (n / 2) 0 else (ys.getD (n / 2 - 1) 0 + ys.getD (n / 2) 0).tdiv 2

/-- Calibration offset of TS`i`, 0.01 °C (R730). -/
def sensorOffset (s : State) (i : Nat) : Int :=
  match recordPayload s 14 with
  | none => 0
  | some p => 25 * toSigned 8 (p.getD i 0).toNat

/-- H, the junction band and the fault counts follow new readings (R735, R740, R749, R753). -/
def updateHottest (i : Nat) (s : State) : State :=
  let h := (hottest s).1
  let b := bandNext (s.reg 0x5404 3) h
  let s := if b = s.reg 0x5404 3 then s else (s.setReg 0x5404 3 b).bump 0x5404 4
  let s := modSensor i (fun x => { x with hot := if 10500 ≤ h then x.hot + 1 else 0 }) s
  let now := s.now
  modThermal (fun t =>
    { t with coolSince := if h < 9500 then some (t.coolSince.getD now) else none
             highest := max t.highest h
             changed := t.changed || decide (t.highest < h) }) s

/-- A reading of TS`i`, `raw` in 0.01 °C before its offset (R729 to R735). -/
def sensorReading (i : Nat) (raw : Int) (s : State) : State :=
  let r := raw + sensorOffset s i
  let x := s.sensor i
  let near := workingNear s i
  let outside := r < -5500 || 15000 < r
  let off := decide (2 ≤ near.length) && decide (1500 < (r - median near).natAbs)
  let apart := if off then x.apart + 1 else 0
  let jump := x.valid && decide (500 < (r - x.reading).natAbs)
  let recent := x.jumps.filter fun t => decide (s.now < t + 100000000000)
  let jumps := if jump then s.now :: recent else recent
  let bad := outside || decide (10 ≤ apart) || decide (3 ≤ jumps.length)
  let close := near.isEmpty || decide ((r - median near).natAbs ≤ 500)
  let good := if !bad && close && sensorState s i == 1 then some (x.goodSince.getD s.now) else none
  let s := modSensor i (fun x =>
    { x with reading := r, valid := true, apart := apart, jumps := jumps, goodSince := good }) s
  updateHottest i (s.iff bad (sensorFail i))

/-- No conversion completes for 3 ms (R733). -/
def sensorTimeout (i : Nat) (s : State) : State :=
  let s := modSensor i (fun x => { x with goodSince := none }) s
  updateHottest i (sensorFail i s)

/-- TD is read and compared with the centre sensors (R737). -/
def crossCheck (td : Int) (s : State) : State :=
  let s := modThermal (fun t => { t with td := td }) s
  let diffs := [27, 28, 35, 36].map fun i => (s.sensor i).reading - td
  let s := s.setReg 0x5403 2 (leNat (packLE 2 (diffs.map (ofSigned 16))))
  s.each [27, 28, 35, 36] fun i t =>
    let bad := decide (800 < ((t.sensor i).reading - td).natAbs)
    if sensorState t i = 0 then
      let n := if bad then (t.sensor i).crossFails + 1 else 0
      let t := modSensor i (fun x => { x with crossFails := n }) t
      if 3 ≤ n then sensorFail i t else t
    else if bad then modSensor i (fun x => { x with goodSince := none }) t
    else t

/-- A failed sensor that has met R738 for 60 s works again. -/
def sensorRepair (i : Nat) (s : State) : State :=
  match (s.sensor i).goodSince with
  | none => s
  | some t0 => if sensorState s i = 1 ∧ t0 + 60000000000000 ≤ s.now then setSensorState i 0 s else s

/-- Retire TS`i`: it is failed, and a SERVICE overlay is in force (R739). -/
def retireSensor (i : Nat) (s : State) : State :=
  if i < 52 ∧ sensorState s i = 1 ∧ serviceInForce s then setSensorState i 2 s else s

/-- A retired sensor is failed again, under the same gate (R739). -/
def restoreSensor (i : Nat) (s : State) : State :=
  if i < 52 ∧ sensorState s i = 2 ∧ serviceInForce s then setSensorState i 1 s else s

/-- The advance target at `h` (R743). -/
def gUp (theta w h : Int) : Nat := if h < theta then 0 else min 8 (1 + (h - theta) / w).toNat

/-- The octave moves to step `k` (R742, R746, R747). -/
def setOctave (k : Nat) (s : State) : State :=
  let s := s.setReg 0x5410 1 k
  modThermal (fun t => { t with clockPending := true, changed := true }) (s.setReg 0x5410 6 (requestedLimit s))

/-- The evaluation of every 100 ms (R743, R744). -/
def octaveEvaluate (s : State) : State :=
  let theta := toSigned 16 (s.reg 0x5410 3)
  let w : Int := s.reg 0x5410 4
  let k := s.reg 0x5410 1
  let h := (hottest s).1
  let up := gUp theta w h
  let down := gUp theta w (h + 200)
  let s := s.setReg 0x5410 2 up
  let s := s.setReg 0x5410 7 (ofBool (decide (down < k) && decide (up ≤ k) && anySensorFailed s))
  let s := modThermal (fun t =>
    { t with
      stepTenths := amMod t.stepTenths k 0 (· + 1)
      changed := t.changed || (amGetD t.stepTenths k 0 + 1) % 10 == 0 }) s
  if k < up then
    (setOctave (k + 1) (modThermal (fun t => { t with advances := t.advances + 1 }) s)).bump 0x5410 8
  else if down < k && !anySensorFailed s && !s.dev.thermal.fault then (setOctave (k - 1) s).bump 0x5410 9
  else s.setReg 0x5410 6 (requestedLimit s)

/-- The next strip boundary: the clock of the step applies, unless the clusters are off (R746). -/
def clockStep (s : State) : State := if s.dev.thermal.clockPending && !clustersOff s then applyClock s else s

/-- H has stood at or above 105 °C in 3 readings: thermal fault (R749, R750). -/
def thermalEnter (s : State) : State :=
  let (h, i) := hottest s
  if s.dev.thermal.fault || decide (h < 10500) || !((List.range 52).any fun j => decide (3 ≤ (s.sensor j).hot)) then s
  else
    let s := setOctave 8 (modThermal (fun t => { t with fault := true, faults := t.faults + 1 }) s)
    let s := ((s.setReg 0x5411 1 1).bump 0x5411 2).setReg 0x5411 3 (frameNo s)
    logEvent 750 5 0x5411 1 i s

/-- H has stayed below 95 °C for 10 s: the fault ends, and what it changed returns at the first calends whose eve
follows (R753). -/
def thermalEnd (s : State) : State :=
  match s.dev.thermal.coolSince with
  | none => s
  | some t0 =>
    if s.dev.thermal.fault ∧ t0 + 10000000000000 ≤ s.now then modThermal (fun t => { t with fault := false }) s
    else s

/-- A waking domain reports power-good; woken clusters take the clock of the step (R746, R756). -/
def powerGood (d : Nat) (s : State) : State :=
  if domainState s d = 1 then
    let s := s.setReg 0x5430 (d + 1) 2
    if d < 25 ∧ s.dev.thermal.clockPending then applyClock s else s
  else s

/-- Every unit of domain PD`d` is marked failed (R757). -/
def failUnitsOf (d : Nat) (s : State) : State :=
  if d < 25 then
    s.each [4 * d, 4 * d + 1, 4 * d + 2, 4 * d + 3] fun i t => if clusterHere t i then clusterFail i t else t
  else if d = 25 then s.each (List.range 32) fun i t => t.setReg 0x2000 (i + 1) 4
  else if d = 26 then s.each (List.range 8) fun e t => t.setReg 0x3010 (e + 1) 1
  else if d = 31 then s.each (List.range (nTiles s)) fun i t => t.setReg (0x4880 + i) 1 0
  else s

/-- No power-good within 4 wake times (R757). -/
def domainTimeout (d : Nat) (s : State) : State :=
  if domainState s d = 1 then
    logEvent 757 4 0x5430 (d + 1) 0
      (latch 2 (failUnitsOf d ((s.setReg 0x5430 (d + 1) 3).bump 0x5432 1)))
  else s

/-- PD25 switches off in FROZEN or in a thermal fault with nothing to decode (R754). -/
def decoderIdleOff (s : State) : State :=
  let busy := !s.dev.jobs.isEmpty || !s.dev.copies.isEmpty || s.dev.protectedSlots.any (fun p => p.2.state == 1) ||
    s.dev.clips.any fun e => e.2.state == 2
  if clustersOff s && !busy then domainOff 25 s else s

/-- The payload of ring 2 (R748). -/
def onHoursPayload (t : Thermal) : List Byte :=
  packLE 4 ((t.onHours :: (List.range 6).map fun b => amGetD t.bandIntervals b 0).map (min 0xFFFFFFFF))

/-- Six minutes of power-on have passed (R748). -/
def onHoursWrite (s : State) : State :=
  let b := s.reg 0x5404 3
  let s := modThermal (fun t =>
    { t with onHours := t.onHours + 1, bandIntervals := amMod t.bandIntervals b 0 (· + 1) }) s
  writeRing 2 (onHoursPayload s.dev.thermal) .none s

/-- The payload of ring 3 (R748). -/
def throttlePayload (t : Thermal) : List Byte :=
  packLE 4 (((List.range 9).map (fun k => amGetD t.stepTenths k 0 / 10) ++ [t.advances, t.faults]).map (min 0xFFFFFFFF)) ++
    natLE (ofSigned 16 t.highest) 2

/-- Ten minutes have passed in which a statistic changed (R722, R748). -/
def throttleWrite (s : State) : State :=
  if s.dev.thermal.changed then
    writeRing 3 (throttlePayload s.dev.thermal) .none (modThermal (fun t => { t with changed := false }) s)
  else s

/-- SENSOR_READING (R729). -/
def execSensorReading (i : Nat) (raw : Int) (s : State) : Out :=
  run (.sensorReading i raw) (onNv [.od, .thermal, .events, .eventBuffer, .eventMessages] (sensorReading i raw) s)

/-- SENSOR_CONVERSION_TIMEOUT (R733). -/
def execSensorConversionTimeout (i : Nat) (s : State) : Out :=
  run (.sensorConversionTimeout i) (onNv [.od, .thermal, .events, .eventBuffer, .eventMessages] (sensorTimeout i)
      s)

/-- TD_CROSS_CHECK (R737). -/
def execTdCrossCheck (td : Int) (s : State) : Out :=
  run (.tdCrossCheck td) (onNv [.od, .thermal, .events, .eventBuffer, .eventMessages] (crossCheck td) s)

/-- SENSOR_REPAIR (R738). -/
def execSensorRepair (i : Nat) (s : State) : Out := run (.sensorRepair i) (onNv [.od] (sensorRepair i) s)

/-- RETIRE_SENSOR (R739). -/
def execRetireSensor (i : Nat) (s : State) : Out := run (.retireSensor i) (onNv [.od] (retireSensor i) s)

/-- RESTORE_SENSOR (R739). -/
def execRestoreSensor (i : Nat) (s : State) : Out := run (.restoreSensor i) (onNv [.od] (restoreSensor i) s)

/-- OCTAVE_EVALUATE (R743). -/
def execOctaveEvaluate (s : State) : Out := run .octaveEvaluate (onDev [.od, .thermal] octaveEvaluate s)

/-- OCTAVE_CLOCK_STEP_APPLY (R746). -/
def execOctaveClockStepApply (s : State) : Out := run .octaveClockStepApply (onDev [.od, .thermal] clockStep s)

/-- THERMAL_FAULT_ENTER (R750). -/
def execThermalFaultEnter (s : State) : Out :=
  run .thermalFaultEnter (onDev [.od, .thermal, .events, .eventBuffer, .eventMessages] thermalEnter s)

/-- THERMAL_FAULT_END (R753). -/
def execThermalFaultEnd (s : State) : Out := run .thermalFaultEnd (onDev [.thermal] thermalEnd s)

/-- DOMAIN_POWER_GOOD (R756). -/
def execDomainPowerGood (pd : Nat) (s : State) : Out :=
  runOn (.domainPowerGood pd) (domainHere s pd) s (onDev [.od, .thermal] (powerGood pd) s)

/-- DOMAIN_WAKE_TIMEOUT (R757). -/
def execDomainWakeTimeout (pd : Nat) (s : State) : Out :=
  runOn (.domainWakeTimeout pd) (domainHere s pd) s (onDev [.od, .events, .eventBuffer, .eventMessages]
      (domainTimeout pd) s)

/-- DECODER_DOMAIN_IDLE_OFF (R754). -/
def execDecoderDomainIdleOff (s : State) : Out := run .decoderDomainIdleOff (onDev [.od] decoderIdleOff s)

/-- ON_HOURS_WRITE (R748). -/
def execOnHoursWrite (s : State) : Out := run .onHoursWrite (onNv [.od, .thermal] onHoursWrite s)

/-- THROTTLE_WRITE (R748). -/
def execThrottleWrite (s : State) : Out := run .throttleWrite (onNv [.od, .thermal] throttleWrite s)

end Sys2Proof.Machine
end

