-- ==== Sys2Proof/Machine/Flags.lean ====
section
/-!
DEFINITION. FAULT_N and its condition word (R872, R873).
-/
namespace Sys2Proof.Machine

/-- A port is not in FULL after the first light-field frame. -/
def portShort (s : State) : Bool :=
  s.dev.timing.lightField && (List.range (nPorts s)).any fun p => portMode s p != 0

/-- The proxy content shown comes from the ROM pictogram: proxy content is shown, and no valid image is stored. -/
def romProxy (s : State) : Bool := !proxyGood s && (!s.dev.timing.lightField || s.dev.live.thermal)

/-- Live conditions (R873). -/
def liveConditions (s : State) : Nat :=
  let b (k : Nat) (c : Bool) : Nat := if c then 2 ^ k else 0
  b 0 s.dev.thermal.fault + b 1 (s.reg 0x3190 2 != 0) + b 3 (portShort s) +
    b 4 (s.dev.timing.everLocked && s.reg 0x4821 1 != 2) +
    b 6 ((List.range (nPcs s)).any (pcFailed s)) + b 7 (decide (2 ≤ s.dev.lens.bias)) + b 9 (romProxy s)

/-- FAULT_N is driven low (R872). -/
def faultLow (s : State) : Bool :=
  !s.dev.bringup.firmwareRuns || s.dev.bringup.inReset ||
    (liveConditions s ||| s.reg 0x6030 3) &&& s.reg 0x6030 1 != 0

end Sys2Proof.Machine
end

