-- ==== Sys2Proof/Machine/Entries.lean ====
section
/-!
DEFINITION. Submission entries as the 64 bytes of a ring slot (R590, R600, R603, R606).
-/
namespace Sys2Proof.Machine

/-- The bytes of the slot that holds the next entry of queue `q`, where HBM can be read (R599, R600). -/
def slotBytes (s : State) (q : Nat) : Option (List Byte) :=
  let c := s.queue q
  hbmRead s (c.ring + 64 * (c.head % 2 ^ c.sizeLog2)) 64

/-- The slot of the next entry of queue `q` spells what `spells` asks. One that cannot be read gives whatever the command
says the read gave (DEDUCED, log 195). -/
def slotHolds (s : State) (q : Nat) (spells : List Byte → Bool) : Bool := (slotBytes s q).all spells

/-- Operand `off` of an entry, `len` bytes from byte 16 + `off` (R603). -/
def operand (bs : List Byte) (off len : Nat) : Nat := fieldLE bs (16 + off) len

/-- The header of an entry whose opcode uses the operand bytes `used`, each as offset and length (R603). -/
def entryHead (used : List (Nat × Nat)) (bs : List Byte) : Entry :=
  { opcode := fieldLE bs 0 1, flags := fieldLE bs 1 1, tag := fieldLE bs 4 4, target := fieldLE bs 8 4
    clean := allZero (slice bs 2 2) && allZero (slice bs 12 4) && (List.range 48).all fun k =>
      bs.getD (16 + k) 0 == 0 || used.any fun r => decide (r.1 ≤ k) && decide (k < r.1 + r.2) }

/-! ### The operands of each opcode (R606) -/

/-- UPDATE, 0x01. -/
def updateEntry (bs : List Byte) : Entry × UpdateOps :=
  (entryHead [(0, 12), (12, 2), (14, 2), (16, 8), (24, 2)] bs,
    { staging := operand bs 0 8, length := operand bs 8 4, fence := operand bs 12 2, timeout := operand bs 14 1
      members := operand bs 15 1, wait := operand bs 16 8, group := operand bs 24 2 })

/-- PLAY, 0x21. -/
def playEntry (bs : List Byte) : Entry × PlayOps :=
  (entryHead [(0, 7), (8, 32)] bs,
    { player := operand bs 0 1, step := operand bs 1 1, clip := operand bs 2 2, loops := operand bs 4 2
      endAction := operand bs 6 1, map := (List.range 32).map fun i => operand bs (8 + i) 1 })

/-- STOP, 0x22: the player. -/
def stopEntry (bs : List Byte) : Entry × Nat := (entryHead [(0, 1)] bs, operand bs 0 1)

/-- PULSE, 0x23: pin, offset and width. -/
def pulseEntry (bs : List Byte) : Entry × Nat × Int × Nat :=
  (entryHead [(0, 1), (4, 8)] bs, operand bs 0 1, toSigned 32 (operand bs 4 4), operand bs 8 4)

/-- MODE, 0x24: the overlay. -/
def modeEntry (bs : List Byte) : Entry × Nat := (entryHead [(0, 1)] bs, operand bs 0 1)

/-- ZONES, 0x25: offset of the map and its check value. -/
def zonesEntry (bs : List Byte) : Entry × Nat × Nat := (entryHead [(0, 12)] bs, operand bs 0 8, operand bs 8 4)

/-- VISIBLE, 0x26: layer mask and values. -/
def visibleEntry (bs : List Byte) : Entry × Nat × Nat := (entryHead [(0, 8)] bs, operand bs 0 4, operand bs 4 4)

/-- CANCEL, 0x2F: queue and tag. -/
def cancelEntry (bs : List Byte) : Entry × Nat × Nat := (entryHead [(0, 8)] bs, operand bs 0 4, operand bs 4 4)

/-- SIGNAL, 0x31: fence and value. -/
def signalEntry (bs : List Byte) : Entry × Nat × Nat := (entryHead [(0, 2), (8, 8)] bs, operand bs 0 2, operand bs 8 8)

end Sys2Proof.Machine
end

