-- ==== Sys2Proof/Machine/Pins.lean ====
section
/-!
DEFINITION. The time pins (R565 to R571).
-/
namespace Sys2Proof.Machine

def State.pinIn (s : State) (j : Nat) : TimeIn := amGetD s.dev.timeIn j {}
def modPinIn (j : Nat) (f : TimeIn → TimeIn) (s : State) : State :=
  s.modDev fun d => { d with timeIn := amMod d.timeIn j {} f }
def State.pinOut (s : State) (j : Nat) : TimeOut := amGetD s.dev.timeOut j {}
def modPinOut (j : Nat) (f : TimeOut → TimeOut) (s : State) : State :=
  s.modDev fun d => { d with timeOut := amMod d.timeOut j {} f }

/-- Mode of TIME_OUT`j` in the committed state (R565). -/
def pinMode (s : State) (j : Nat) : Nat := s.com (0x48C0 + j) 1

/-- The pin may be driven: not OFF, and not outside SCHEDULED while frame lock is FREE_RUN (R565, R568). -/
def pinLive (s : State) (j : Nat) : Bool := pinMode s j == 2 || (pinMode s j != 0 && frameLock s != 0)

/-- `x` ps lie within the 2 ns of R568: an edge that comes then is the one that is due (DEDUCED, log 193). -/
def edgeNear (x : Int) : Bool := decide (x.natAbs ≤ 2000)

/-- A FRAME pulse of TIME_OUT`j` starts now: at t(n) + c + offset for a frame count n that is a multiple of the divider
(R565, R566). -/
def framePulse (s : State) (j : Nat) : Bool :=
  let g := s.com (0x48C0 + j)
  let t := localTime s - correction s - 1000 * toSigned 32 (g 3)
  let n := firstCountAt s (t - 2000)
  n % max 1 (g 2) == 0 && edgeNear (t - gridTime s n)

/-- Number of the SCHEDULED pulse of TIME_OUT`j` that starts now, if one does: at the start time, then every period, for
the count given (R565). -/
def scheduledPulse (s : State) (j : Nat) : Option Nat :=
  let g := s.com (0x48C0 + j)
  let t := localTime s - psOf80 (g 6)
  let period := 1000 * g 7
  let k := ((t + 2000) / (max 1 period : Nat)).toNat
  if period = 0 then (if edgeNear t then some 0 else none)
  else if edgeNear (t - k * period) && (g 8 == 0 || decide (k < g 8)) then some k else none

/-- Start of a cue pulse, ns from the current calends. -/
def cueStart (s : State) (c : CuePulse) : Int :=
  ((c.count : Int) - s.dev.timing.count) * (1000000000 / max 1 (baseHz s) : Nat) + c.offset

/-- The cue pulse of TIME_OUT`j` that starts first. -/
def firstCue (s : State) (j : Nat) : Option CuePulse :=
  (s.pinOut j).cues.foldl (fun b c => match b with
    | none => some c
    | some x => if cueStart s c < cueStart s x then some c else some x) none

/-- An edge of TIME_OUT`j` falls due (R565, R568): `edge` starts a pulse or ends it. -/
def pulseEdge (j : Nat) (edge : Bool) (s : State) : State :=
  if !pinLive s j then modPinOut j (fun p => { p with active := false }) s
  else
    match pinMode s j with
    | 2 =>
      if !edge then modPinOut j (fun p => { p with active := false }) s
      else
        match scheduledPulse s j with
        | some k => modPinOut j (fun p => { p with active := true, given := k + 1 }) s
        | none => s
    | 3 =>
      match firstCue s j with
      | none => modPinOut j (fun p => { p with active := false }) s
      | some c =>
        if edge then modPinOut j (fun p => { p with active := true }) s
        else modPinOut j (fun p => { p with active := false, cues := p.cues.erase c }) s
    | _ => if !edge || framePulse s j then modPinOut j (fun p => { p with active := edge }) s else s

/-- Frame number of the frame-grid interval that holds this instant (R533, R570); in FREE_RUN the grid is the device's
own (R538). -/
def gridFrame (s : State) : Nat :=
  if frameLock s = 0 then (s.dev.timing.count + (s.now - s.dev.timing.calendsAt) / framePs (max 1 (baseHz s))) % 2 ^ 32
  else (firstCountAt s (localTime s + 1) - 1) % 2 ^ 32

/-- A capture entry (R570). -/
def captureEntry (s : State) (rising : Bool) : Nat :=
  time80 (localTime s).toNat + ofBool rising * 2 ^ 80 + ofBool (frameLock s == 2) * 2 ^ 81 + gridFrame s * 2 ^ 96

/-- The edge that began a pulse of `width` ns was stamped, and its entry is still the last of the queue. -/
def ledStamp (s : State) (j width : Nat) : Bool :=
  let x := s.pinIn j
  !x.queue.isEmpty && x.lastAt.any fun t => decide (s.now < t + 1000 * (width + 1))

/-- An edge of TIME_IN`j` ends a level of `width` ns (R569, R571). A pulse shorter than the filter width leaves no stamp
of its leading edge either: the one it had is removed (DEDUCED, log 191). -/
def edgeIn (j : Nat) (rising : Bool) (width : Nat) (s : State) : State :=
  let i := 0x48D0 + j
  let short := decide (width < s.reg i 2)
  let s := if short && ledStamp s j width then
      let s := modPinIn j (fun x => { x with queue := x.queue.dropLast, lastAt := x.priorAt }) s
      s.setReg i 4 (s.pinIn j).queue.length
    else s
  let x := s.pinIn j
  let soon := match x.lastAt with
    | none => false
    | some t => decide (s.now < t + 100000)
  if !hasBit (s.reg i 1) (if rising then 0 else 1) || short || soon then s
  else if 16 ≤ x.queue.length then (s.bump i 5).setReg i 6 1
  else
    let e := captureEntry s rising
    let now := s.now
    let s := modPinIn j (fun x => { x with queue := x.queue ++ [e], lastAt := some now, priorAt := x.lastAt }) s
    s.setReg i 4 (x.queue.length + 1)

/-- The oldest capture entry; 0 of an empty queue (R570). -/
def captureOldest (s : State) (j : Nat) : Nat := (s.pinIn j).queue.headD 0

/-- Reading the entry removes it (R570). -/
def captureRead (j : Nat) (s : State) : State :=
  let s := modPinIn j (fun x => { x with queue := x.queue.drop 1 }) s
  s.setReg (0x48D0 + j) 4 (s.pinIn j).queue.length

/-- At a calends the pins outside SCHEDULED have given no pulse of a schedule; a pin that may not be driven is
inactive (R565, R568). -/
def pinsCalends (s : State) : State :=
  s.each (List.range 4) fun j s =>
    let s := if pinMode s j = 2 then s else modPinOut j (fun p => { p with given := 0 }) s
    let n := s.dev.timing.count
    if pinLive s j then s
    else modPinOut j (fun p => { p with active := false, cues := p.cues.filter fun c => decide (n < c.count) }) s

/-- Frame lock has returned to FREE_RUN: the pins outside SCHEDULED are inactive (R568). -/
def pinsIdle (s : State) : State :=
  s.each (List.range 4) fun j s => if pinMode s j = 2 then s else modPinOut j (fun p => { p with active := false }) s

/-- TIME_OUT_PULSE (R565). -/
def execTimeOutPulse (j : Nat) (edge : Bool) (s : State) : Out := run (.timeOutPulse j edge)
    (onDev [.timeOut] (pulseEdge j edge) s)

/-- TIME_IN_EDGE (R569). -/
def execTimeInEdge (j : Nat) (rising : Bool) (width : Nat) (s : State) : Out :=
  run (.timeInEdge j rising width) (onDev [.od, .timeIn] (edgeIn j rising width) s)

/-- CAPTURE_ENTRY_READ (R570). -/
def execCaptureEntryRead (j : Nat) (s : State) : Out := run (.captureEntryRead j)
    (onDev [.od, .timeIn] (captureRead j) s)

end Sys2Proof.Machine
end

