-- ==== Sys2Proof/Machine/Colour.lean ====
section
/-!
DEFINITION. The gain map, band updates, the governor and aging beside the pixel stages (R317 to R345, R904).
-/
namespace Sys2Proof.Machine

/-! ### Gain map (R322, R323) -/

/-- The gain map is enabled in the committed state, or in one that is captured or pending: by a dictionary commit or a
mode switch (R322). -/
def gainEnabled (s : State) : Bool :=
  s.com 0x3410 1 == 1 || (s.dev.captured.any fun c => c.obj 0x3410 1 == 1) ||
    (s.dev.commitPending.isSome && s.shad 0x3410 1 == 1) ||
    (changes s).any fun f => (plans s f).any fun c => c.obj 0x3410 1 == 1

/-- A write of the map base (R322). -/
def gainBaseWrite (v : Nat) (s : State) : Ans :=
  if gainEnabled s then (abInUse, s)
  else if v % 4096 ≠ 0 ∨ 2 ^ 64 ≤ v then (abRange, s)
  else (0, s.setReg 0x3410 2 v)

/-- CHECK starts: the band table returns to one slot for each band (R323). -/
def gainCheck (s : State) : State :=
  (s.setReg 0x3410 5 1).modDev fun d =>
    { d with live := { d.live with bands := [] }, captured := d.captured.map fun c => { c with bands := [] } }

/-- The check value and the number of zero bytes of `n` bytes of HBM from `off` on; none when a byte cannot be read. -/
def rangeCheck (s : State) (a : Nat) : Nat → Nat → Nat → Nat → Option (Nat × Nat)
  | 0, _, r, z => some (r ^^^ crcFinal a, z)
  | n + 1, off, r, z =>
    match hbmByte s off with
    | none => none
    | some b => rangeCheck s a n (off + 1) (crcByte a r b) (if b = 0 then z + 1 else z)

/-- CHECK finishes (R323). Its requests are those of the left colour unit (R649; DESIGN CHOICE, log 198). -/
def gainCheckEnd (s : State) : State :=
  if s.reg 0x3410 5 ≠ 1 then s
  else
    let s := hbmAsk 36 false (s.reg 0x3410 2) (720 * bandSize s.dev.live) s
    match rangeCheck s 0 (720 * bandSize s.dev.live) (s.reg 0x3410 2) (crcInit 0 0x34100003) 0 with
    | none => s.setReg 0x3410 5 3
    | some (v, z) => (s.setReg 0x3410 7 z).setReg 0x3410 5 (if v = s.reg 0x3410 3 then 2 else 3)

/-! ### Band updates (R324 to R328) -/

/-- Slots that no band and no pending update holds (R320, R325). -/
def freeBandSlot (s : State) : Option Nat :=
  let held (c : Committed) (k : Nat) : Bool :=
    (decide (k < 720) && (amGet c.bands k).isNone) || c.bands.any fun e => e.2 == k
  (List.range 728).find? fun k =>
    !held s.dev.live k && !held (s.dev.captured.getD s.dev.live) k && !(s.dev.bandUpdates.any fun b => b.slot == k)

/-- Local instant of the eve of the frame before the calends of count `n` (R245); the frame in force has the lines that
its vigil gives it (R359, R539). -/
def eveBefore (s : State) (n : Nat) : Nat :=
  let at' (hz : Nat) : Nat := (17280 - eveOffset hz (s.dev.live.frozen || s.dev.thermal.fault)) * lineTime hz
  if n ≤ nextCount s then
    let hz := max 1 (holdHz s s.dev.timing.hold)
    s.dev.timing.calendsAt + at' hz
  else
    let hz := max 1 (baseHz s)
    s.dev.timing.calendsAt + framePs (max 1 (holdHz s s.dev.timing.hold)) * totalLines s / 18000 +
      (n - 1 - nextCount s) * framePs hz + at' hz

/-- The copies queued with one more can finish before the eve that count `n` needs (R326). -/
def bandInTime (s : State) (n : Nat) : Bool :=
  let q := (s.dev.bandUpdates.filter fun b => !b.copied).length + 1
  decide (s.now + 20000000 + q * 222000000 ≤ eveBefore s n)

/-- The target of a band update (R326). -/
def bandTarget (s : State) : Except Nat Nat :=
  let t := s.reg 0x3412 4
  if t = 0 then
    match ((List.range 4).map (earliestRequest s + ·)).find? (bandInTime s) with
    | some n => .ok n
    | none => .error 4
  else
    match targetCount s t with
    | .error r => .error r
    | .ok n => if bandInTime s n then .ok n else .error 4

/-- BAND_SUBMIT (R324 to R328). At most 8 updates are pending; a ninth is refused as a commit already pending (DESIGN
CHOICE, log 26). -/
def bandSubmit (s : State) : Ans :=
  let refuse (r : Nat) : Ans := (0, (s.setReg 0x3412 6 3).setReg 0x3412 8 r)
  let b := s.reg 0x3412 1
  let staging := s.reg 0x3412 2
  let n := bandSize s.dev.live
  if staging < 0x6C0000000 ∨ 0x740000000 < staging + n ∨ (place s (staging + n - 1)).isNone then refuse 2
  else
    match bandTarget s with
    | .error r => refuse r
    | .ok t =>
      if 8 ≤ s.dev.bandUpdates.length ∨ (s.dev.bandUpdates.any fun x => x.band == b && x.target == t) then refuse 0x0E
      else
        match freeBandSlot s with
        | none => refuse 0x0E
        | some k =>
          let u : BandUpdate := { band := b, staging := staging, crc := s.reg 0x3412 3, target := t, slot := k }
          let s := ((s.setReg 0x3412 6 1).setReg 0x3412 7 (t % 2 ^ 32)).modDev fun d =>
            { d with bandUpdates := d.bandUpdates ++ [u] }
          (0, s.setReg 0x3412 9 s.dev.bandUpdates.length)

/-- The copy of the first uncopied update of a band finishes (R325, R327): the copier's marker follows (R654). -/
def bandCopied (b : Nat) (s : State) : State :=
  match s.dev.bandUpdates.find? fun u => u.band == b && !u.copied with
  | none => s
  | some u =>
    let drop (s : State) : State :=
      let s := s.modDev fun d => { d with bandUpdates := d.bandUpdates.erase u }
      logEvent 327 3 0x3412 0 b ((s.setReg 0x3412 9 s.dev.bandUpdates.length).setReg 0x3412 6 5)
    let s := hbmAsk 47 false u.staging (bandSize s.dev.live) s
    match hbmRead s u.staging (bandSize s.dev.live) with
    | none => drop s
    | some bs =>
      if crc32c b bs ≠ u.crc then drop s
      else
        let s := hbmStore 47 (s.reg 0x3410 2 + u.slot * bandSize s.dev.live) bs s
        let s := s.setReg 0x3410 7 (s.reg 0x3410 7 + (bs.filter (· == 0)).length)
        modMemory (fun m => { m with markers := m.markers ++ [(47, .bandCopied b)] }) s

/-- The band copier's marker has completed: the band table may be captured (R325, R654). -/
def bandMarked (b : Nat) (s : State) : State :=
  match s.dev.bandUpdates.find? fun u => u.band == b && !u.copied with
  | none => s
  | some u =>
    (s.setReg 0x3412 6 2).modDev fun d =>
      { d with bandUpdates := d.bandUpdates.map fun x => if x = u then { x with copied := true } else x }

/-- Band updates that an eve captures for count `n` (R325). -/
def captureBands (s : State) (n : Nat) (c : Committed) : Committed :=
  (s.dev.bandUpdates.filter fun u => u.copied && u.target == n).foldl
    (fun c u => { c with bands := amPut c.bands u.band u.slot }) c

/-! ### Governor (R330 to R337, R904) -/

/-- Scale of a zone. -/
def putScale (z v : Nat) (s : State) : State :=
  modGov (fun g => { g with scale := if v = 0x10000 then amErase g.scale z else amPut g.scale z v }) s

/-- Zones limited in the frame (0x3420:05). -/
def zonesLimited (s : State) : Nat := (s.dev.gov.scale.filter fun e => decide (e.2 < 0x10000)).length

/-- The scales of a new frame, from the sums of the frame just ended (R332, R337); the sums are kept for R904 and
cleared. -/
def governorCalends (s : State) : State :=
  let g := s.dev.gov
  let zs := (g.pre.map (·.1) ++ g.scale.map (·.1)).eraseDups
  let s := if s.reg 0x2040 2 = 1 then s
    else s.each zs fun z s =>
      let t := scaleTarget (amGetD g.pre z 0) (zoneBudget s s.dev.live z)
      putScale z (min t (min 0x10000 (zoneScale s z + s.com 0x3420 3))) s
  let now := s.dev.timing.count
  let s := modGov (fun g =>
    { g with preLast := g.pre, pre := g.preNext, post := g.postNext, preNext := [], postNext := [], lowered := false
             badGain := g.badGain.filter fun r => decide (now ≤ r.1) }) s
  let n := zonesLimited s
  (s.setReg 0x3420 5 n).iff (n != 0) (·.bump 0x3420 6)

/-- The scales under a hardware ceiling that was lowered within the frame (R904); in FLATTEN they do not change
(R337). -/
def ceilingRecompute (s : State) : State :=
  if !s.dev.gov.lowered || s.reg 0x2040 2 == 1 then s
  else
    let s := s.each s.dev.gov.preLast fun e s =>
      putScale e.1 (min (zoneScale s e.1) (scaleTarget e.2 (zoneBudget s s.dev.live e.1))) s
    let s := modGov (fun g => { g with lowered := false }) s
    let first := s.reg 0x3420 5 == 0 && zonesLimited s != 0
    (s.setReg 0x3420 5 (zonesLimited s)).iff first (·.bump 0x3420 6)

/-! ### Aging (R340 to R344) -/

/-- Each total adds its zone's post sum times the length of the frame in ns (R341); in FROZEN the recorded sums stand
(R342). -/
def agingCalends (lengthNs : Nat) (s : State) : State :=
  let sums := if s.dev.live.frozen then s.dev.freeze.post else s.dev.gov.post
  modGov (fun g => { g with aging := sums.foldl (fun m e => amMod m e.1 0 (· + e.2 * lengthNs)) g.aging }) s

/-- Counter of zone `z` and colour `c` (R341). -/
def agingCounter (s : State) (i : Nat) : Nat := amGetD s.dev.gov.aging i 0 / 2 ^ 40

/-- The factor of colour `c` for counter `k` (R344). -/
def agingAt (curves c k : Nat) : Nat :=
  let kp (j : Nat) : Nat := (curves >>> (8 * (160 * c + 10 * j))) % 2 ^ 64
  let ep (j : Nat) : Nat := (curves >>> (8 * (160 * c + 10 * j + 8))) % 2 ^ 16
  if k ≤ kp 0 then ep 0
  else if kp 15 ≤ k then ep 15
  else
    let j := (((List.range 15).filter fun j => decide (kp j ≤ k)).getLast?).getD 0
    ep j + ((ep (j + 1) - ep j) * (k - kp j) + (kp (j + 1) - kp j) / 2) / (kp (j + 1) - kp j)

/-- REFRESH (R344). -/
def agingRefresh (s : State) : State :=
  let curves := s.reg 0x3440 4
  let factors := (List.range 43200).map fun i => agingAt curves (i % 3) (agingCounter s i)
  s.setShad 0x3440 1 (leNat (withCrc 0x3440 1 (packLE 2 factors)))

/-! ### Commands -/

/-- GAIN_MAP_BASE_WRITE (R322). -/
def execGainMapBaseWrite (value : Nat) (s : State) : Out :=
  run (.gainMapBaseWrite value) (onDev [.od] (fun t => (gainBaseWrite value t).2) s)

/-- GAIN_MAP_CHECK (R323). -/
def execGainMapCheck (s : State) : Out := run .gainMapCheck (onDev [.od, .live, .captured] gainCheck s)

/-- GAIN_MAP_CHECK_COMPLETE (R323). -/
def execGainMapCheckComplete (s : State) : Out :=
  run .gainMapCheckComplete (onDev [.od, .memory] gainCheckEnd s)

/-- BAND_SUBMIT (R324). -/
def execBandSubmit (s : State) : Out := run .bandSubmit (onDev [.od, .bandUpdates] (fun t => (bandSubmit t).2) s)

/-- BAND_COPY_COMPLETE (R325). -/
def execBandCopyComplete (band : Nat) (s : State) : Out :=
  run (.bandCopyComplete band) (onMem [.od, .bandUpdates, .memory, .events, .eventBuffer, .eventMessages]
      (bandCopied band) s)

/-- CEILING_SCALE_RECOMPUTE (R904). -/
def execCeilingScaleRecompute (s : State) : Out := run .ceilingScaleRecompute
    (onDev [.od, .gov] ceilingRecompute s)

/-- AGING_REFRESH (R344). -/
def execAgingRefresh (s : State) : Out := run .agingRefresh (onDev [.shadow] agingRefresh s)

end Sys2Proof.Machine
end

