-- ==== Sys2Proof/Machine/Items.lean ====
section
/-!
DEFINITION. The end of an admitted item, hold slots and fence groups (R259 to R274, R594, R613, R616).
-/
namespace Sys2Proof.Machine

/-! ### Hold slots (R259 to R263, R270) -/

/-- Hold slot `h` is held now. -/
def slotHeld (s : State) (h : Nat) : Bool :=
  match amGet s.dev.holdSlots h with
  | none => false
  | some none => true
  | some (some n) => decide (s.dev.timing.count < n)

/-- The lowest free hold slot. -/
def freeHold (s : State) : Option Nat := (List.range 8).find? fun h => !slotHeld s h

/-- Hold slot `h` is held, or free from count `n` on. -/
def putHold (h : Nat) (n : Option Nat) (s : State) : State :=
  s.modDev fun d => { d with holdSlots := amPut d.holdSlots h n }

/-! ### Jobs and copies of an item -/

/-- Decoders that wait for a job's Counts are idle again (R123). -/
def releaseDecoders (job : Nat) (s : State) : State :=
  (s.each (List.range 32) fun de s =>
    s.iff ((amGet s.dev.waiting de).any fun w => w.job == job) (·.setReg 0x2000 (de + 1) 0)).modDev fun d =>
    { d with waiting := d.waiting.filter fun w => w.2.job != job }

/-- Job `num` is no more. -/
def dropJob (num : Nat) (s : State) : State :=
  (releaseDecoders num s).modDev fun d => { d with jobs := d.jobs.filter fun j => j.num != num }

/-- Every descriptor of a slot in the group of count `n` is rewritten with LEASE 0 (R133). The requests of every decoder
have one hint and one class (R649, R655), so that DE0 stands for any of them. -/
def openSlot (layer slot n : Nat) (s : State) : State :=
  let g := slotOffset layer slot
  let s := hbmAsk 0 true (groupBase n + g) 524288 s
  s.each (List.range 32768) fun b s =>
    hbmWrite (groupBase n + g + 16 * b) (descBytes 0 false 0 0 (n % 2 ^ 32) (g + 16 * b)) s

/-- A copy starts: its slot is opened (R133). -/
def addCopy (c : CopyJob) (s : State) : State :=
  (domainWake 25 (openSlot c.layer c.slot c.target s)).modDev fun d => { d with copies := d.copies ++ [c] }

/-- A copy of a layer's content shown now, into the group of count `n` (R135, R136, R261). A hold slot holds the content
in both groups from the second calends of its target on, and is not written again (R262). -/
def startCopy (layer n : Nat) (restore : Bool) (s : State) : State :=
  let l := amGetD s.dev.live.layers layer {}
  match l.content with
  | none => s
  | some ct =>
    if l.slot ≠ 0 ∧ l.frame < s.dev.timing.count then s
    else
      addCopy { layer := layer, slot := l.slot, target := n, restore := restore, lease := l.lease, content := ct
                frame := l.frame } s

/-! ### The end of an item -/

/-- The hold slot of an item that is decoded into one. -/
def Item.hold? (i : Item) : Option Nat := match i.kind with
  | .update _ _ _ slot => if slot = 0 then none else some (slot - 1)
  | _ => none

/-- An item completes: with no effect of its own, its decode ends and its hold slot is free from the next calends
(R270). -/
def endItem (i : Item) (status detail : Nat) (s : State) : State :=
  let s := modHost (fun h => { h with items := h.items.filter fun x => x.num != i.num }) s
  let s := dropJob i.num s
  let s := match i.hold? with
    | none => s
    | some h =>
      putHold h (some (nextCount s)) (s.modDev fun d => { d with copies := d.copies.filter fun c => c.slot != h + 1 })
  postFinal i i.target status detail s

/-- An accepted update that ends with its group still supersedes held flips of its layer (R267). -/
def noteLost (i : Item) (s : State) : State := match i.layer? with
  | none => s
  | some l => s.modDev fun d => { d with lost := (l, i.target) :: d.lost }

/-- Members of a group complete as abandoned (R274). -/
def abandonItems (xs : List Item) (s : State) : State :=
  (s.each xs fun x s => endItem x 0x14 0 (noteLost x s)).bump 0x3020 4

/-- A fence group is abandoned: every member but the one that caused it completes so (R274). -/
def abandonGroup (i : Item) (s : State) : State :=
  if i.members = 0 then s
  else abandonItems (s.dev.host.items.filter fun x => sameGroup i x && x.num != i.num) s

/-- An item ends by its own status, and abandons its group (R269, R274). -/
def loseItem (i : Item) (status detail : Nat) (s : State) : State := abandonGroup i (endItem i status detail s)

/-! ### Fences (R264 to R274, R627 to R629) -/

/-- Value of fence `f`. -/
def fenceValue (s : State) (f : Nat) : Nat := amGetD s.dev.host.fences f 0

/-- The item's fence has been reached, or it has none (R273, R629). -/
def fenceReached (s : State) (i : Item) : Bool := !i.fenced || decide (i.wait ≤ fenceValue s i.fence)

/-- The item, or every member of its group, can be released at this eve (R264, R272). -/
def canRelease (s : State) (i : Item) : Bool :=
  if i.members = 0 then i.stage == .done && fenceReached s i
  else
    let g := s.dev.host.items.filter (sameGroup i)
    decide (g.length = i.members) && g.all fun x => x.stage == .done && fenceReached s x

/-- The eves at which the item or its group is still checked have passed after the eve that ends at count `n` (R266,
R274). -/
def fenceExpired (s : State) (i : Item) (n : Nat) : Bool :=
  let mine := if i.members = 0 then [i] else s.dev.host.items.filter (sameGroup i)
  let ks := (mine.filter (·.fenced)).map (·.timeout)
  decide (i.target + ks.foldl min (ks.headD 1) ≤ n + 1)

/-- Flips and groups that are held now (0x3020:01): their target has come and they are not released. -/
def heldItems (s : State) : List Item :=
  s.dev.host.items.filter fun i => i.holds && !i.released && decide (i.target ≤ s.dev.timing.count)

end Sys2Proof.Machine
end

