-- ==== Sys2Proof/Machine/Decoding.lean ====
section
/-!
DEFINITION. Decoders, plane-store writes and copies (R113 to R138, R261, R262, R654, R902).
-/
namespace Sys2Proof.Machine

/-! ### Plane-store slots (R126 to R133) -/

/-- The final descriptor of block `b` in the group of count `n`; `frame` is the target calends of the update that wrote
the content (R131). -/
def putDesc (src layer slot n frame lease b cells count : Nat) (s : State) : State :=
  let g := slotOffset layer slot
  hbmStore src (groupBase n + g + 16 * b)
    (descBytes lease (cells != 0) cells (if cells = 0 then 0 else count) (frame % 2 ^ 32) (g + 16 * b)) s

/-- HBM offset of an index tile, and of a palette slot. -/
def tileAt (layer slot n b : Nat) : Nat := groupBase n + slotOffset layer slot + 0x4200000 + 4096 * b
def paletteAt (layer slot n b : Nat) : Nat := groupBase n + slotOffset layer slot + 0x100000 + 2048 * b

/-- A block of a layer's slot in the group of count `n`, checked as a window fetch does (R137, R141). -/
def storedBlock (s : State) (layer slot lease n b : Nat) : Option (List Byte × List Byte) :=
  (blockCopy s n layer slot lease b 0).or (blockCopy s n layer slot lease b 1)

/-! ### Jobs (R122, R124) -/

/-- Jobs in the order of R122. -/
def addJob (j : Job) (s : State) : State :=
  s.modDev fun d =>
    let before (x : Job) : Bool := decide (x.target < j.target) || (x.target == j.target && decide (x.order ≤ j.order))
    { d with jobs := d.jobs.filter before ++ [j] ++ d.jobs.filter fun x => !before x }

def modJob (num : Nat) (f : Job → Job) (s : State) : State :=
  s.modDev fun d => { d with jobs := d.jobs.map fun j => if j.num = num then f j else j }

/-- The item a job decodes. -/
def itemOf (s : State) (j : Job) : Option Item := match j.kind with
  | .update => s.dev.host.items.find? fun i => i.num == j.num
  | .clip _ _ => none

/-- The job of a number, as it stands. -/
def jobOf (s : State) (num : Nat) : Option Job := s.dev.jobs.find? fun j => j.num == num

/-- The decode window of a job is open (R134). -/
def windowOpen (s : State) (j : Job) : Bool := decide (j.target ≤ nextCount s) && !s.dev.timing.eveDone

/-- Stage of a job's item. -/
def setStage (num : Nat) (st : DecodeStage) (s : State) : State :=
  modHost (fun h => { h with items := h.items.map fun i => if i.num = num then { i with stage := st } else i }) s

/-- An update of a layer for a count has failed or was cancelled: its copy reservation stands, and no late decode's
restore runs in its place (R135, R902). -/
def noteDue (layer n : Nat) (s : State) : State := s.modDev fun d => { d with due := (layer, n) :: d.due }

/-- A job's update fails (R114, R116, R136, R163): `seq` and `read` are those of its event, whose layer is the one of its
chunks; with `late` no copy can run. It is still an accepted update that supersedes held flips (R267). -/
def jobFail (j : Job) (detail seq : Nat) (read late : Bool) (s : State) : State :=
  let s := logEvent 114 3 0x2010 (j.layer + 1)
    (seq + j.chunkLayer * 2 ^ 32 + detail * 2 ^ 40 + ofBool read * 2 ^ 48) s
  let s := noteDue j.layer j.target (s.modDev fun d => { d with lost := (j.layer, j.target) :: d.lost })
  let item := itemOf s j
  let s := (dropJob j.num s).bump 0x2002 2
  let s := if j.slot != 0 || late then s else startCopy j.layer j.target true s
  match j.kind with
  | .clip p _ => modPlayer p (fun p => { p with failed := true }) s
  | .update => match item with
    | none => s
    | some i => loseItem i 0x11 detail s

/-- A job whose decode starts: what its checks before the window found is found anew (R38). -/
def Job.opening (j : Job) : Job :=
  if j.opened then j
  else { j with opened := true, checked := [], counts := [], palSpans := [], idxSpans := [], palDone := [], idxDone := [] }

/-- The slot of a job whose decode starts is opened (R133). -/
def openJob (j : Job) (s : State) : State :=
  if j.opened then s
  else setStage j.num .running (modJob j.num Job.opening (domainWake 25 (openSlot j.layer j.slot j.target s)))

/-! ### What a decoder reads (R106 to R112, R138) -/

/-- The content of a layer shown before the calends of count `n`, as COPY reads it; `shown` is the committed state
then. -/
def shownBefore (s : State) (shown : Committed) (layer n : Nat) : Option Previous :=
  let l := amGetD shown.layers layer {}
  l.content.map fun ct =>
    { content := ct, tile := fun b => (storedBlock s layer l.slot l.lease (n - 1) b).map (·.1) }

/-- What chunk `ord` of a job is checked against, with the layers shown in the frame before its target. -/
def jobExpect (shown : Committed) (j : Job) (ord : Nat) : Expect :=
  { total := j.length, seq := some ((j.seq + ord) % 2 ^ 32), layer := some j.chunkLayer, lease := some j.lease
    taken := fun _ l => l == (amGetD shown.layers j.layer {}).lease && l != 0
    occLength := some (occupancySize j.content) }

/-- A block breaks R78 against the records of other chunks. Of two chunks that break it against each other the one decoded
later fails, whichever comes first in sequence (DESIGN CHOICE, log 171). -/
def spanBad (spans : List (Nat × Nat × Nat)) (ord b : Nat) : Bool :=
  spans.any fun x => (decide (x.1 < ord) && decide (b ≤ x.2.2)) || (decide (ord < x.1) && decide (x.2.1 ≤ b))

/-- The Count of a block posted by an earlier chunk than `ord` (R79, R123). -/
def countOf? (j : Job) (ord b : Nat) : Option Nat :=
  if j.palSpans.any fun x => decide (x.1 < ord) && decide (x.2.1 ≤ b) && decide (b ≤ x.2.2) then amGet j.counts b
  else none

/-- The Count of a block may still be posted before `ord`. -/
def countAwaited (j : Job) (ord b : Nat) : Bool :=
  (amGet j.counts b).isNone && (List.range ord).any fun k => !j.taken.contains k

/-! ### A chunk (R113 to R119, R123) -/

/-- Chunk `ord` has been decoded. -/
def chunkTaken (num ord : Nat) (s : State) : State := modJob num (fun j => { j with taken := ord :: j.taken }) s

/-- Where the chunks of a job start: none is shorter than its header. -/
def jobOffsets (s : State) (j : Job) : List Nat := chunkOffsets (stagingBytes s j.staging) j.length (j.length / 32 + 1) 0

/-- Once every chunk has been decoded and none of them was an END, the update fails (R117). -/
def endMissing (num : Nat) (s : State) : State :=
  match jobOf s num with
  | none => s
  | some j =>
    let rd := stagingBytes s j.staging
    let offs := jobOffsets s j
    let last := chunkAt rd (offs.getLastD 0)
    if !j.marking && (List.range offs.length).all (j.taken.contains ·) && last.off + 32 + last.len == j.length then
      jobFail j 0x17 last.seq true false s
    else s

/-- The records of a palette chunk, and of an index chunk, that pass are known: their Counts are posted (R123). -/
def Job.withPalettes (ord : Nat) (rs : List PaletteRecord) (j : Job) : Job :=
  { j with
    counts := rs.foldl (fun m r => amPut m r.block r.count) j.counts
    palSpans := (ord, ((rs.head?).map (·.block)).getD 0, ((rs.getLast?).map (·.block)).getD 0) :: j.palSpans
    palDone := rs.map (·.block) ++ j.palDone }
def Job.withTiles (ord : Nat) (r : IndexRun) (j : Job) : Job :=
  { j with idxSpans := (ord, r.blocks.headD 0, r.blocks.getLastD 0) :: j.idxSpans, idxDone := r.blocks ++ j.idxDone }

/-- A palette chunk that passes: its slots are written and its Counts posted (R123, R130). -/
def paletteDone (de : Nat) (j : Job) (ord : Nat) (rs : List PaletteRecord) (s : State) : State :=
  modJob j.num (Job.withPalettes ord rs)
    (s.each rs fun r s => hbmStore de (paletteAt j.layer j.slot j.target r.block) (paletteSlot r) s)

/-- An index chunk that passes: its tiles are written (R129). -/
def indexDone (de : Nat) (j : Job) (ord : Nat) (r : IndexRun) (s : State) : State :=
  modJob j.num (Job.withTiles ord r) (s.each r.tiles fun t s => hbmStore de (tileAt j.layer j.slot j.target t.1) t.2 s)

/-- Every chunk before `ord` has been decoded. -/
def earlierTaken (j : Job) (ord : Nat) : Bool := (List.range ord).all (j.taken.contains ·)

/-- Decoder `de` no longer waits. -/
def freeDecoder (de : Nat) (s : State) : State :=
  (s.setReg 0x2000 (de + 1) 0).modDev fun d => { d with waiting := d.waiting.filter fun w => w.1 != de }

/-- The sequence that a failing chunk's event carries, and READ (R114, R119). -/
def failSeq (j : Job) (ord detail : Nat) (c : Chunk) : Nat × Bool :=
  if detail = 1 ∨ detail = 4 ∨ detail = 5 then ((j.seq + ord) % 2 ^ 32, false) else (c.seq, true)

/-- A chunk is fetched: by its decoder, or for a clip by the player's library reads (R649). -/
def chunkAsk (de : Nat) (j : Job) (c : Chunk) (s : State) : State :=
  let src := match j.kind with
    | .update => de
    | .clip _ _ => 40
  hbmAsk src false (j.staging + c.off) (32 + c.len) s

/-- What a chunk turns out to be after its header, before anything is written. -/
inductive ChunkResult where
  /-- It fails with a detail code, after so many sub-blocks. -/
  | fail (detail expanded : Nat)
  | palettes (rs : List PaletteRecord)
  | tiles (r : IndexRun)
  /-- A record awaits its palette's Count (R123): its offset in the payload, and its block. -/
  | waits (record block : Nat)
  /-- An END that passes, and one that comes before a chunk ahead of it has been decoded. -/
  | ends
  | early
deriving DecidableEq, Repr

/-- A decoder reads the blocks that the COPY sub-blocks of a chunk name, as the layer was shown before (R106, R649). -/
def copyAsk (de : Nat) (shown : Committed) (j : Job) (x : ChunkResult) (s : State) : State :=
  match x with
  | .tiles r => s.each r.copied fun b s => askBlock de (j.target - 1) j.layer (amGetD shown.layers j.layer {}).slot b s
  | .fail _ _ | .palettes _ | .waits _ _ | .ends | .early => s

/-- Chunk `ord` of a job, at `off`, by the tests of R117 after its header; `prev` is what COPY reads. -/
def testChunk (prev : Option Previous) (j : Job) (ord off : Nat) (c : Chunk) : ChunkResult :=
  let early := if j.content.occ.isEmpty then [0x0A] else []
  if c.typ = 0x0F then
    if !earlierTaken j ord then .early
    else match endFail j.content c (ord + 1) (off + 32 + c.len) j.length (fun b => j.palDone.contains b)
        (fun b => j.idxDone.contains b) with
      | some x => .fail x 0
      | none => .ends
  else if c.typ = 2 then
    let (rs, fs) := paletteRecords j.content (spanBad j.palSpans ord) (c.len / 8) c.payload none [] early
    match firstFail fs with
    | some x => .fail x 0
    | none => .palettes rs
  else if c.typ = 3 then
    let r := indexRecords j.content prev (countOf? j ord) (countAwaited j ord) (spanBad j.idxSpans ord) (c.len / 8) 0
      c.payload { fails := early }
    match r.wait with
    | some (record, b) => .waits record b
    | none => match firstFail r.fails with
      | some x => .fail x r.expanded
      | none => .tiles r
  else .fail (misplaced (some j.content) c) 0

/-- Decoder `de` acts on what it found (R113 to R119, R123, R654). -/
def takeResult (de ord : Nat) (j : Job) (c : Chunk) (x : ChunkResult) (s : State) : State :=
  match x with
  | .fail x n => jobFail j x c.seq true false (s.bumpSeq 0x2001 (de + 1) n)
  | .palettes rs => endMissing j.num (chunkTaken j.num ord (paletteDone de j ord rs s))
  | .tiles r => endMissing j.num (chunkTaken j.num ord (indexDone de j ord r (s.bumpSeq 0x2001 (de + 1) r.expanded)))
  | .waits record b =>
    (s.setReg 0x2000 (de + 1) 1).modDev fun d =>
      { d with waiting := amPut d.waiting de { job := j.num, chunk := ord, record := record, block := b } }
  | .ends =>
    let s := setStage j.num .marking (modJob j.num (fun j => { j with marking := true, taken := ord :: j.taken }) s)
    modMemory (fun m => { m with markers := m.markers ++ [(de, .finalDescriptors j.num)] }) s
  | .early => s

/-- Decoder `de` takes chunk `ord` of a job (R113 to R119, R123). Where the chunks end before it with no END, the update
fails (R117). -/
def decodeChunk (de ord : Nat) (j : Job) (s : State) : State :=
  let s := freeDecoder de (s.modDev fun d => { d with lastChunk := amPut d.lastChunk de (j.num, ord) })
  match (jobOffsets s j)[ord]? with
  | none => endMissing j.num s
  | some off =>
    let c := chunkAt (stagingBytes s j.staging) off
    let s := chunkAsk de j c s
    match headerFail (jobExpect s.dev.live j ord) c with
    | some x => jobFail j x (failSeq j ord x c).1 (failSeq j ord x c).2 false s
    | none =>
      let x := testChunk (shownBefore s s.dev.live j.layer j.target) j ord off c
      takeResult de ord j c x (copyAsk de s.dev.live j x s)

/-- A decoder can take chunk `ord` of a job: it has been found, or the chunks before it, all decoded, reach the job's
length with no END (R117). Nothing is decoded past an END. -/
def chunkFound (s : State) (j : Job) (ord : Nat) : Bool :=
  let rd := stagingBytes s j.staging
  let offs := jobOffsets s j
  !((offs.take ord).any fun o => fieldLE (rd o 32) 4 1 == 0x0F) &&
    (decide (ord < offs.length) ||
      (ord == offs.length && earlierTaken j ord &&
        (chunkAt rd (offs.getLastD 0)).off + 32 + (chunkAt rd (offs.getLastD 0)).len == j.length))

/-- The first job, in the order of R122, whose chunk `ord` waits for a decoder. -/
def jobFor (s : State) (ord : Nat) : Option Job :=
  s.dev.jobs.find? fun j =>
    windowOpen s j && !j.marking && !j.taken.contains ord && chunkFound s j ord &&
      !(s.dev.waiting.any fun w => w.2.job == j.num && w.2.chunk == ord)

/-- The first job of the next decode window whose chunk `ord` has not been checked (R38). -/
def earlyJob (s : State) (ord : Nat) : Option Job :=
  s.dev.jobs.find? fun j =>
    decide (j.target ≤ nextCount s + s.dev.timing.holdNext) && decide (ord < (jobOffsets s j).length) &&
      !j.checked.contains ord

/-- Between the eve and the calends a decoder fetches and checks a chunk of the next window and writes nothing (R38). It
makes every test that needs no chunk still to be checked. A failure ends the update then (DEDUCED, log 138). -/
def checkChunk (de ord : Nat) (j : Job) (s : State) : State :=
  let s := s.modDev fun d => { d with lastChunk := amPut d.lastChunk de (j.num, ord) }
  let off := (jobOffsets s j).getD ord 0
  let c := chunkAt (stagingBytes s j.staging) off
  let s := chunkAsk de j c s
  let shown := s.dev.captured.getD s.dev.live
  let pass (f : Job → Job) (s : State) : State := modJob j.num (fun j => f { j with checked := ord :: j.checked }) s
  if ord < 2 then pass id s
  else match headerFail (jobExpect shown j ord) c with
    | some x => jobFail j x (failSeq j ord x c).1 (failSeq j ord x c).2 true s
    | none =>
      let x := testChunk (shownBefore s shown j.layer j.target) { j with taken := 0 :: 1 :: j.checked } ord off c
      let s := copyAsk de shown j x s
      match x with
      | .fail x _ => jobFail j x c.seq true true s
      | .palettes rs => pass (Job.withPalettes ord rs) s
      | .tiles r => pass (Job.withTiles ord r) s
      | .ends => pass id s
      | .waits _ _ | .early => s

/-- CHUNK_DECODE: a free decoder takes the next update's chunk `ord`. -/
def chunkDecode (de ord : Nat) (s : State) : State :=
  if s.reg 0x2000 (de + 1) = 4 ∨ (amGet s.dev.waiting de).isSome then s
  else if s.dev.timing.eveDone then
    match earlyJob s ord with
    | none => s
    | some j => checkChunk de ord j s
  else
    match jobFor s ord with
    | none => s
    | some j => decodeChunk de ord j.opening (openJob j s)

/-- INDEX_RECORD_RESUME: the Count a decoder waits for has been posted, or cannot come any more (R123). -/
def indexResume (de : Nat) (s : State) : State :=
  match amGet s.dev.waiting de with
  | none => s
  | some w => match jobOf s w.job with
    | none => s
    | some j => if countAwaited j w.chunk w.block then s else decodeChunk de w.chunk j s

/-- What chunk `ord` of a job gave is discarded, and the chunk waits for a decoder again (R125). -/
def withdrawChunk (ord : Nat) (j : Job) : Job :=
  let gone (spans : List (Nat × Nat × Nat)) (b : Nat) : Bool :=
    spans.any fun x => x.1 == ord && decide (x.2.1 ≤ b) && decide (b ≤ x.2.2)
  { j with
    taken := j.taken.filter (· != ord), checked := j.checked.filter (· != ord)
    counts := j.counts.filter fun e => !gone j.palSpans e.1
    palDone := j.palDone.filter fun b => !gone j.palSpans b, idxDone := j.idxDone.filter fun b => !gone j.idxSpans b
    palSpans := j.palSpans.filter (·.1 != ord), idxSpans := j.idxSpans.filter (·.1 != ord) }

/-- DECODER_FAULT (R125). The chunk is the one that the decoder took last, while its update is decoded (DESIGN CHOICE, log
137). A second fault on one chunk fails the update; no rule gives its detail code (log 27). -/
def decoderFault (de : Nat) (s : State) : State :=
  if s.reg 0x2000 (de + 1) = 4 then s
  else
    let held := amGet s.dev.lastChunk de
    let s := (latch 2 (s.setReg 0x2000 (de + 1) 4)).modDev fun d =>
      { d with waiting := d.waiting.filter fun w => w.1 != de, lastChunk := d.lastChunk.filter fun w => w.1 != de }
    let cover := (List.range 32).any fun d => s.reg 0x2000 (d + 1) != 4
    let s := logEvent 125 (if cover then 1 else 4) 0x2000 (de + 1) 0 s
    match held with
    | none => s
    | some (num, ord) => match jobOf s num with
      | none => s
      | some j =>
        if j.marking then s
        else if j.reissued.contains ord then
          jobFail j (freeValue s % 256) ((j.seq + ord) % 2 ^ 32) true (!windowOpen s j) (drawFree s)
        else modJob j.num (fun j => { withdrawChunk ord j with reissued := ord :: j.reissued }) s

/-! ### Final descriptors (R133, R654) -/

/-- A job's final descriptors are written: its update is decoded in full. -/
def finalDescriptors (src : Nat) (j : Job) (s : State) : State :=
  let s := s.each (List.range (blockCount j.content)) fun b s =>
    putDesc src j.layer j.slot j.target j.target j.lease b (cellsOf j.content b) (amGetD j.counts b 0) s
  let ready : Layer := { lease := j.lease, slot := j.slot, content := some j.content, frame := j.target }
  let last := (j.seq + (j.taken.foldl max 0)) % 2 ^ 32
  let s := (dropJob j.num s).bump 0x2002 1
  match j.kind with
  | .clip p _ => s.modDev fun d => { d with clipReady := amPut d.clipReady j.layer (p, ready) }
  | .update =>
    let q := s.dev.host.items.find? fun i => i.num == j.num
    let s := setStage j.num .done s
    match q with
    | none => s
    | some i =>
      if (s.queue i.queue).gen = i.gen then modQueue i.queue (fun q => { q with seq := some last }) s else s

/-! ### Copies (R133, R135 to R137, R261, R262) -/

/-- The block of a copy's source, and whether its mirror served it (R137, R141). -/
def copySource (s : State) (c : CopyJob) (b : Nat) : Option ((List Byte × List Byte) × Bool) :=
  match blockCopy s (c.target - 1) c.layer c.slot c.lease b 0 with
  | some x => some (x, false)
  | none => (blockCopy s (c.target - 1) c.layer c.slot c.lease b 1).map fun x => (x, true)

/-- A layer's blocks are copied, one after another. A block whose source fails on both copies is not (R137). -/
def copyBlocks (c : CopyJob) (s : State) : State :=
  let from' := s
  s.each (List.range (blockCount c.content)) fun b s =>
    match copySource from' c b with
    | none => s
    | some ((t, p), mirror) =>
      let s := tileMirrors (c.target - 1) c.layer c.slot b (s.iff mirror (mirrorServed (c.target - 1) c.layer c.slot b))
      let s := askBlock 0 (c.target - 1) c.layer c.slot b s
      if cellsOf c.content b = 0 then s
      else hbmStore 0 (paletteAt c.layer c.slot c.target b) p (hbmStore 0 (tileAt c.layer c.slot c.target b) t s)

/-- The final descriptors of a copy, as those of its source; a block that was not copied keeps LEASE 0 (R133, R137). -/
def copyDescriptors (c : CopyJob) (s : State) : State :=
  let from' := s
  s.each (List.range (blockCount c.content)) fun b s =>
    match copySource from' c b with
    | none => s
    | some (_, mirror) =>
      let src := groupBase (c.target - 1) + slotOffset c.layer c.slot + 16 * b
      let count := fieldLE ((copyBytes from' src 16 (ofBool mirror)).getD []) 6 2 % 512
      putDesc 0 c.layer c.slot c.target c.frame c.lease b (cellsOf c.content b) count s

/-- COPY_COMPLETE: the first copy of a layer that has not, has copied its last block, and its decoder issues an internal
marker before it writes the final descriptors (R133, R654). Which decoder makes a copy is not fixed: it is DE0
(DESIGN CHOICE, log 197). -/
def copyComplete (layer : Nat) (s : State) : State :=
  match s.dev.copies.find? fun c => c.layer == layer && !c.marking with
  | none => s
  | some c =>
    let s := copyBlocks c (s.modDev fun d => { d with copies := d.copies.map fun x => if x = c then c.marked else x })
    modMemory (fun m => { m with markers := m.markers ++ [(0, .copyDescriptors c.marked)] }) s

/-- A copy whose marker completes: its final descriptors are written, and it is counted. -/
def copyMarked (c : CopyJob) (s : State) : State :=
  if s.dev.copies.contains c then
    (copyDescriptors c (s.modDev fun d => { d with copies := d.copies.erase c })).bump 0x2002 (if c.restore then 4 else 3)
  else s

/-- The oldest marker of a source completes (R654). -/
def markerComplete (src : Nat) (s : State) : State :=
  match s.dev.memory.markers.find? fun m => m.1 == src with
  | none => s
  | some m =>
    let s := modMemory (fun y => { y with markers := y.markers.erase m }) s
    match m.2 with
    | .bandCopied b => bandMarked b s
    | .copyDescriptors c => copyMarked c s
    | .finalDescriptors num => match jobOf s num with
      | none => s
      | some j => if j.marking then finalDescriptors src j s else s

/-! ### Late decodes (R902) -/

/-- Every decode for count `n` that has no final descriptors at the eve ends; so does every copy. The slot of one that no
decoder has begun holds LEASE 0 all the same (DEDUCED, log 184). -/
def endLate (n : Nat) (s : State) : State :=
  let late := s.dev.jobs.filter fun j => decide (j.target ≤ n)
  let s := s.each late fun j s =>
    let s := jobFail j 0x18 0 false true (openJob j s)
    if j.slot = 0 then s.modDev fun d => { d with late := (j.layer, n) :: d.late } else s
  s.modDev fun d => { d with copies := d.copies.filter fun c => decide (n < c.target) }

/-! ### Commands -/

/-- CHUNK_DECODE (R122). -/
def execChunkDecode (de ord : Nat) (s : State) : Out :=
  run (.chunkDecode de ord) (onMem [.od, .jobs, .waiting, .lastChunk, .copies, .lost, .due, .holdSlots, .players,
      .host, .memory, .events, .eventBuffer, .eventMessages] (chunkDecode de ord) s)

/-- INDEX_RECORD_RESUME (R123). -/
def execIndexRecordResume (de : Nat) (s : State) : Out :=
  run (.indexRecordResume de) (onMem [.od, .jobs, .waiting, .lastChunk, .copies, .lost, .due, .holdSlots, .players,
      .host, .memory, .events, .eventBuffer, .eventMessages] (indexResume de) s)

/-- DECODER_FAULT (R125). -/
def execDecoderFault (de : Nat) (s : State) : Out :=
  run (.decoderFault de) (onMem [.od, .jobs, .waiting, .lastChunk, .copies, .lost, .due, .holdSlots, .players,
      .host, .memory, .events, .eventBuffer, .eventMessages, .drawn] (decoderFault de) s)

/-- INTERNAL_MARKER_COMPLETE (R654). -/
def execInternalMarkerComplete (src : Nat) (s : State) : Out :=
  run (.internalMarkerComplete src) (onMem [.od, .bandUpdates, .jobs, .waiting, .copies, .clipReady, .host,
      .memory] (markerComplete src) s)

/-- COPY_COMPLETE (R135). -/
def execCopyComplete (layer : Nat) (s : State) : Out :=
  run (.copyComplete layer) (onMem [.od, .copies, .memory] (copyComplete layer) s)

end Sys2Proof.Machine
end

