-- ==== Sys2Proof/Machine/Clips.lean ====
section
/-!
DEFINITION. The show library: the clip directory and its verification (R145 to R154).
-/
namespace Sys2Proof.Machine

/-- The clip header at a library offset is good for directory entry `e` of a length (R145). -/
def headerGood (s : State) (e addr length : Nat) : Bool :=
  let h := libraryBytes s addr 64
  addr % 8 == 0 && h.length == 64 && inAreas s (libraryBase + addr) 1 && decide (addr + length ≤ librarySize s) &&
    fieldLE h 0 4 == 0x4C435445 && fieldLE h 4 1 == 1 && allZero (slice h 5 1) && fieldLE h 6 2 != 0 &&
    fieldLE h 8 4 != 0 && allZero (slice h 12 4) && fieldLE h 16 8 % 8 == 0 && fieldLE h 16 8 == length &&
    allZero (slice h 24 36) && fieldLE h 60 4 == crc32c e (h.take 60)

/-- A clip is pinned (R154). -/
def clipPinned (s : State) (e : Nat) : Bool := s.dev.players.any fun p => p.2.state != 0 && p.2.clip == e

/-! ### Verification (R151) -/

/-- What verification knows of a clip layer: its last update, and the lease of its first. -/
structure ClipLayer where
  layer : Nat
  decoded : Option Decoded := none
  first : Nat := 0
deriving DecidableEq, Repr

/-- Previous content of a clip layer for COPY. -/
def clipPrevious (l : ClipLayer) : Option Previous :=
  l.decoded.map fun d => { content := d.content, tile := fun b => amGet d.tiles b }

/-- Verify the update of clip layer `i` in clip frame `f`: the sub-blocks expanded, and a detail code or the layer as it
then stands. No rule gives the code of a failure of R145 to R148 alone: it is free (log 28). R89 is not tested on
clips. -/
def verifyUpdate (s : State) (c : ClipEntry) (f i : Nat) (ls : List ClipLayer) : Nat × Except Nat ClipLayer :=
  let l := ls.getD i { layer := 0 }
  let (off, len, pad) := tableEntry s c f i
  let last := (l.decoded.map (·.lease)).getD 0
  if off % 8 ≠ 0 ∨ pad ≠ 0 ∨ c.length < off + len ∨ (len = 0 ∧ f = 0) then (0, .error (freeValue s % 256))
  else if len = 0 then (0, .ok l)
  else
    let (x, r) := decodeWhole (stagingBytes s (libraryBase + c.addr + off))
      { total := len, layer := some l.layer, taken := fun _ x => x == last && last != 0 }
      { cols := hogelCols s.dev.live, table := viewTable s.dev.live, orderTaken := fun _ _ _ => false }
      (clipPrevious l)
    match r with
    | .error e => (x, .error e)
    | .ok d => (x, .ok { l with decoded := some d, first := if l.decoded.isNone then d.lease else l.first })

/-- The clip layers of a clip frame, one after another; `x` counts sub-blocks. -/
def verifyLayers (s : State) (c : ClipEntry) (f : Nat) :
    List Nat → Nat → List ClipLayer → Nat × Except (Nat × Nat) (List ClipLayer)
  | [], x, ls => (x, .ok ls)
  | i :: is, x, ls =>
    match verifyUpdate s c f i ls with
    | (y, .error e) => (x + y, .error (e, i))
    | (y, .ok l) => verifyLayers s c f is (x + y) (ls.set i l)

/-- The committed state in which only the clip's planes are shown. -/
def clipScene (s : State) (ls : List ClipLayer) : Committed :=
  { s.dev.live with
    objs := s.dev.live.objs.filter fun e => e.1 / 256 != 0x3004
    layers := ls.filterMap fun l => l.decoded.map fun d => (l.layer, { lease := d.lease, content := some d.content }) }

/-- The figures of a clip frame (R153): plane steps, largest footprint, decode clocks and bytes, library bytes. -/
def clipFigures (s : State) (c : ClipEntry) (f : Nat) (ls : List ClipLayer) : Nat × Nat × Nat × Nat × Nat :=
  let scene := clipScene s ls
  let planes := (visitedPlanes scene).map (·.2)
  let sum (xs : List Nat) : Nat := xs.foldl (· + ·) 0
  let patches := (List.range 720).map fun st => (List.range (patchesPerStrip scene)).map fun p =>
    (if planes.isEmpty then 0 else (patchSteps scene planes st p).1, patchFoot scene planes st p)
  let ups := (List.range ls.length).filter fun i => (tableEntry s c f i).2.1 != 0
  let loads := ups.filterMap fun i => (ls[i]?).bind fun l => l.decoded.map fun d => decodeLoad d.content
  (sum (patches.flatten.map (·.1)), (patches.flatten.map (·.2)).foldl max 0, sum (loads.map (·.1)),
   sum (loads.map (·.2)), sum (ups.map fun i => (tableEntry s c f i).2.1))

/-- The clip frames from `f` on: the sub-blocks expanded, and a failure (detail, frame, layer index), or the layers at
the end and the summary. -/
def verifyFrames (s : State) (c : ClipEntry) :
    Nat → Nat → Nat → List ClipLayer → List (Nat × Nat × Nat × Nat × Nat) →
      Nat × Except (Nat × Nat × Nat) (List ClipLayer × List (Nat × Nat × Nat × Nat × Nat))
  | 0, _, x, ls, acc => (x, .ok (ls, acc.reverse))
  | n + 1, f, x, ls, acc =>
    match verifyLayers s c f (List.range ls.length) x ls with
    | (y, .error (e, i)) => (y, .error (e, f, i))
    | (y, .ok ls) => verifyFrames s c n (f + 1) y ls (clipFigures s c f ls :: acc)

/-- The whole clip: the sub-blocks expanded, and a failure or its summary. The first update of a layer differs in lease
from the last (R149); a layer with one update in the clip has no other to differ from (DEDUCED, log 135). F and the mask
are those read at REGISTER (DESIGN CHOICE, log 173). A header that fails is reported at clip frame 0 and the first clip
layer, equal leases at the last clip frame (DESIGN CHOICE, logs 174 and 175). -/
def verifyClip (s : State) (e : Nat) : Nat × Except (Nat × Nat × Nat) (List (Nat × Nat × Nat × Nat × Nat)) :=
  let c := s.clip e
  let ls := (maskLayers c.mask).map fun j => ({ layer := j } : ClipLayer)
  if !headerGood s e c.addr c.length then (0, .error (freeValue s % 256, 0, 0))
  else
    match verifyFrames s c c.frames 0 0 ls [] with
    | (x, .error y) => (x, .error y)
    | (x, .ok (ls, acc)) =>
      let bad (l : ClipLayer) : Bool := decide (2 ≤ c.frames) && (match l.decoded with
        | none => false
        | some d => d.lease == l.first && (List.range c.frames).any fun f =>
            decide (1 ≤ f) && (tableEntry s c f ((maskLayers c.mask).idxOf l.layer)).2.1 != 0)
      match (List.range ls.length).find? fun i => (ls[i]?).any bad with
      | some i => (x, .error (8, c.frames - 1, i))
      | none => (x, .ok acc)

/-! ### The directory (R150, R154) -/

/-- The selected entry. -/
def clipSelected (s : State) : Nat := s.reg 0x2021 1

/-- CLIP_REGISTER. -/
def clipRegister (s : State) : Ans :=
  let e := clipSelected s
  let a := s.reg 0x2021 2
  let n := s.reg 0x2021 3
  if clipPinned s e ∨ (s.clip e).state ≠ 0 then (abInUse, s)
  else if !headerGood s e a n then (abMalformed, s)
  else
    let h := libraryBytes s a 64
    (0, hbmAsk 0 false (libraryBase + a) 64
      (modClip e (fun _ => { addr := a, length := n, state := 1, frames := fieldLE h 6 2, mask := fieldLE h 8 4 }) s))

/-- CLIP_VERIFY. -/
def clipVerify (s : State) : Ans :=
  let e := clipSelected s
  if clipPinned s e ∨ ((s.clip e).state ≠ 1 ∧ (s.clip e).state ≠ 4) then (abInUse, s)
  else (0, modClip e (fun c => { c with state := 2, progress := 0, detail := 0 }) s)

/-- CLIP_UNREGISTER. -/
def clipUnregister (s : State) : Ans :=
  let e := clipSelected s
  if clipPinned s e ∨ (s.clip e).state = 0 then (abInUse, s) else (0, modClip e (fun _ => {}) s)

/-- Sub-blocks that a verification or a LOAD expands count on the working decoders that take part: how they are shared
out is free, their number is not (R174, log 29). -/
def countExpanded : List Nat → Nat → State → State
  | [], _, s => s
  | [d], n, s => s.bumpSeq 0x2001 (d + 1) n
  | d :: ds, n, s =>
    let k := freeValue s % (n + 1)
    countExpanded ds (n - k) ((drawFree s).bumpSeq 0x2001 (d + 1) k)

/-- The updates of a clip up to clip layer `i` of clip frame `f`, and all of them, as a percentage (R174). -/
def checkedPercent (s : State) (c : ClipEntry) (f i : Nat) : Nat :=
  let layers := (maskLayers c.mask).length
  let ups := ((List.range (c.frames * layers)).filter fun k => (tableEntry s c (k / layers) (k % layers)).2.1 != 0)
  100 * (ups.filter fun k => decide (k < f * layers + i)).length / max 1 ups.length

/-- CLIP_VERIFICATION_COMPLETE. A clip that fails shows the percentage of its updates that had passed (DEDUCED, log
186). -/
def clipVerified (e : Nat) (s : State) : State :=
  if (s.clip e).state ≠ 2 then s
  else
    let (x, r) := verifyClip s e
    let t := hbmAsk 0 false (libraryBase + (s.clip e).addr) (s.clip e).length s
    let s' := countExpanded (decodersLeft s) x (drawFree t)
    match r with
    | .ok sum => modClip e (fun c => { c with state := 3, progress := 100, summary := sum }) s'
    | .error (d, f, i) =>
      let layer := (maskLayers (s.clip e).mask).getD i 0
      let at' := d % 256 + f % 65536 * 2 ^ 8 + layer * 2 ^ 24
      modClip e (fun c => { c with state := 4, detail := at', progress := checkedPercent s c f i }) s'

/-- A view-table or raster change is committed: READY and FAILED entries are LOADED again. -/
def clipsChanged (s : State) : State :=
  s.modDev fun d =>
    { d with clips := d.clips.map fun e =>
        (e.1, if e.2.state = 3 ∨ e.2.state = 4 then { e.2 with state := 1, summary := [], progress := 0, detail := 0 } else e.2) }

/-! ### Commands -/

/-- CLIP_REGISTER (R150). -/
def execClipRegister (s : State) : Out :=
  run .clipRegister (onDev [.od, .clips, .memory] (fun t => (clipRegister t).2) s)

/-- CLIP_VERIFY (R150). -/
def execClipVerify (s : State) : Out := run .clipVerify (onDev [.clips] (fun t => (clipVerify t).2) s)

/-- CLIP_UNREGISTER (R150). -/
def execClipUnregister (s : State) : Out := run .clipUnregister
    (onDev [.clips] (fun t => (clipUnregister t).2) s)

/-- CLIP_VERIFICATION_COMPLETE (R151). -/
def execClipVerificationComplete (entry : Nat) (s : State) : Out :=
  run (.clipVerificationComplete entry) (onDev [.od, .clips, .tiles, .memory, .drawn] (clipVerified entry) s)

end Sys2Proof.Machine
end

