-- ==== Sys2Proof/Machine/Players.lean ====
section
/-!
DEFINITION. Clip players: steps, ends and bindings (R156 to R163).
-/
namespace Sys2Proof.Machine

/-- The ends of all bindings follow the STOP cues admitted now; an end that has come stands (R159). -/
def refreshEnds (s : State) : State :=
  let ends (p : Player) : Option Nat :=
    if p.endAt.any (decide <| · ≤ s.dev.timing.count) then p.endAt else boundEnd s p
  s.modDev fun d => { d with players := d.players.map fun x => (x.1, { x.2 with endAt := ends x.2 }) }

/-! ### Clip updates -/

/-- The update of one clip layer enters the decoders for count `n`; one whose definition fails, fails at once
(R113, R163). A definition chunk that R119 leaves unread has no chunk before it: the event carries sequence 0 (DESIGN
CHOICE, log 136). With `early` it enters before its window opens, to be checked (R38). -/
def clipEnters (early : Bool) (num : Nat) (p : Player) (n f : Nat) (x : Nat × Nat × Nat) (s : State) : State :=
  let (layer, j, i) := x
  let c := s.clip p.clip
  let (off, len, _) := tableEntry s c f i
  let staging := libraryBase + c.addr + off
  let rd := stagingBytes s staging
  let plan := planAt s n
  let e : Expect :=
    { total := len, layer := some j, taken := fun _ l => l == (amGetD s.dev.live.layers layer {}).lease && l != 0 }
  let k : DefChecks := { cols := hogelCols plan, table := viewTable plan, orderTaken := fun _ _ _ => false }
  let base : Job :=
    { num := s.dev.host.nextNum, order := num, kind := .clip num f, layer := layer, chunkLayer := j, target := n
      staging := staging, length := len, lease := 0, seq := 0, content := {} }
  let s := modHost (fun h => { h with nextNum := h.nextNum + 1 }) s
  match admitChunks rd e k with
  | .ok a => addJob { base with lease := a.lease, seq := a.seq, content := a.content } (s.iff (!early) (domainWake 25))
  | .error x =>
    let first := chunkAt rd 0
    let own := x == 1 || x == 4 || x == 5
    let seq := if x = 0x17 then first.seq
      else if (defFail rd e k).isSome then (if own then 0 else first.seq)
      else if own then (first.seq + 1) % 2 ^ 32 else (chunkAt rd (32 + first.len)).seq
    jobFail base x seq (!own) early s

/-- The job of clip frame `f` of binding `num` for a layer and count is there. -/
def clipEntered (s : State) (num f layer n : Nat) : Bool :=
  s.dev.jobs.any fun j => j.kind == .clip num f && j.layer == layer && j.target == n

/-- A clip update enters its open decode window; one that failed while it was checked has its restore run (R136). -/
def clipUpdate (num : Nat) (p : Player) (n f : Nat) (x : Nat × Nat × Nat) (s : State) : State :=
  if (tableEntry s (s.clip p.clip) f x.2.2).2.1 = 0 then s
  else if clipEntered s num f x.1 n then domainWake 25 s
  else if s.dev.lost.contains (x.1, n) then
    if s.dev.copies.any fun c => c.layer == x.1 && c.slot == 0 then s else startCopy x.1 n true s
  else clipEnters false num p n f x s

/-- At the eve, the clip updates of the next decode window, that of count `n`, are there to be checked (R38). -/
def enterClips (n : Nat) (s : State) : State :=
  s.each (s.dev.players.filter fun x => x.2.state != 0 && !cancelledBy s x.2) fun x s =>
    match clipStep s x.2 n with
    | none => s
    | some f => s.each (layersOf s x.2) fun y s =>
        if (tableEntry s (s.clip x.2.clip) f y.2.2).2.1 = 0 then s else clipEnters true x.1 x.2 n f y s

/-- Clip updates that were checked for a step that is no more are forgotten when the window of count `n` opens. -/
def forgetClips (n : Nat) (s : State) : State :=
  s.modDev fun d => { d with jobs := d.jobs.filter fun j => match j.kind with
    | .update => true
    | .clip num f =>
      let p := s.player num
      j.target == n && p.state != 0 && !cancelledBy s p && clipStep s p n == some f }

/-- The device-built update of CLEAR for one layer (R158): its copy of the window gives way to it. -/
def clearLayer (num n layer : Nat) (s : State) : State :=
  let l := clearedLayer n layer (amGetD s.dev.live.layers layer {})
  let blocks := ((l.content.map blockCount).getD 0)
  let s := openSlot layer 0 n (s.modDev fun d => { d with copies := d.copies.filter fun c => c.layer != layer || c.slot != 0 })
  let s := s.each (List.range blocks) fun b s => putDesc 0 layer 0 n n l.lease b 0 0 s
  s.modDev fun d => { d with clipReady := amPut d.clipReady layer (num, l) }

/-- A binding's updates for count `n` enter the decode window (R135, R157, R158): a copy into a slot that is decoded
ends. -/
def openClip (n : Nat) (x : Nat × Player) (s : State) : State :=
  let (num, p) := x
  if cancelledBy s p then s
  else
    let touched := clipTouches s n p
    let s := s.modDev fun d => { d with copies := d.copies.filter fun c => !(c.slot == 0 && touched.contains c.layer) }
    match clipStep s p n with
    | some f => s.each (layersOf s p) (clipUpdate num p n f)
    | none => if p.endAt = some n ∧ p.clear then s.each ((layersOf s p).map (·.1)) (clearLayer num n) else s

/-- A layer's update for the window that is open is cancelled: its copy starts (R136). None starts when the window is
not open (R134). -/
def cancelCopy (layer n : Nat) (restore : Bool) (s : State) : State :=
  if s.dev.timing.eveDone || n != nextCount s || decide (eveLine s < s.dev.timing.line) then s
  else startCopy layer n restore (noteDue layer n s)

/-- A binding's updates leave the open decode window: the layers they were for are copied (R136, R159, R611). -/
def dropStep (num : Nat) (s : State) : State :=
  let mine := s.dev.jobs.filter fun j => match j.kind with
    | .clip p _ => p == num
    | .update => false
  let s := s.each mine fun j s => cancelCopy j.layer j.target j.opened (dropJob j.num s)
  let ready := s.dev.clipReady.filter fun x => x.2.1 == num
  let s := s.each ready fun x s => cancelCopy x.1 (nextCount s) true s
  s.modDev fun d => { d with clipReady := d.clipReady.filter fun x => x.2.1 != num }

/-- A clip one of whose updates failed in a binding is FAILED when the binding ends (R163). Its summary stands for other
bindings of it (R150, R161), and its progress and failure detail are those of its verification (DESIGN CHOICE, log
176). -/
def noteFailed (p : Player) (s : State) : State := s.iff p.failed (modClip p.clip fun c => { c with state := 4 })

/-- A binding is withdrawn, with its updates in the open decode window. -/
def dropBinding (num : Nat) (s : State) : State :=
  let p := s.player num
  noteFailed p ((dropStep num s).modDev fun d => { d with players := d.players.filter fun x => x.1 != num })

/-- The end of a binding has moved to count `n`, or from it, while its decode window is open: the updates of the window
are those that the end leaves (R158, R159). -/
def reopenStep (n num : Nat) (s : State) : State :=
  let p := s.player num
  if p.state = 0 ∨ n ≤ p.t0 then s else openClip n (num, p) (dropStep num s)

/-- A binding has ended: a clip one of whose updates failed is FAILED (R163). -/
def endBinding (x : Nat × Player) (s : State) : State :=
  noteFailed x.2 (s.modDev fun d => { d with players := d.players.filter fun y => y.1 != x.1 })

end Sys2Proof.Machine
end

