-- ==== Sys2Proof/Machine/Planner.lean ====
section
/-!
DEFINITION. The frame planner: the entries of submission queues, tested, answered and admitted (R603 to R625, R627 to
R630).
-/
namespace Sys2Proof.Machine

/-- A refusal: its reason (R619) and the detail code of R118, or 0. -/
abbrev Refuse := Nat × Nat

/-- What processing an entry gives: a refusal, or the count it is assigned and what it does. -/
abbrev Verdict := Except Refuse (Nat × (State → State))

/-- The entry's header is well formed for an opcode and its queue's type (R603, R606, step 1 of R620). -/
def headerFits (e : Entry) (opcode : Nat) (typs : List Nat) (typ : Nat) : Bool :=
  e.opcode == opcode && e.clean && decide (e.flags < 4) && typs.contains typ && decide (e.target < 2 ^ 32) &&
    (bit e.flags 0 == 0 || e.target == 0) && (opcode == 1 || bit e.flags 1 == 0)

/-- A completion of queue `q`'s entry. -/
def entryCompletion (c : Queue) (q : Nat) (e : Entry) (frame status reason detail : Nat) : Completion :=
  { tag := e.tag, queue := q, gen := c.gen, frame := frame % 2 ^ 32, status := status, reason := reason % 256
    detail := detail % 256 }

/-- An entry is refused (R613, R614, R636). -/
def refuseEntry (c : Queue) (q : Nat) (e : Entry) (r : Refuse) (s : State) : State :=
  let s := countRefusal r.1 r.2 s
  let s := modQueue q (fun c => { c with refused := min (c.refused + 1) 0xFFFFFFFF }) s
  postCompletion c.cq (entryCompletion c q e (frameNo s) 1 r.1 r.2) s

/-- An entry is accepted for count `n`. -/
def acceptEntry (c : Queue) (q : Nat) (e : Entry) (n : Nat) (s : State) : State :=
  let s := modQueue q (fun c => { c with accepted := (c.accepted + 1) % 2 ^ 32 }) (s.bump 0x1242 1)
  postCompletion c.cq (entryCompletion c q e n 0 0 0) s

/-- The longest answer is a time, at most 2 us; which one is free (R50, log 30). -/
def noteAnswer (s : State) : State := (drawFree s).setReg 0x1242 4 (max (s.reg 0x1242 4) (freeValue s % 2001))

/-- The next entry of queue `q` is fetched from its ring and processed (R599, R600, R613): `f` gives its verdict. Nothing
happens unless the slot spells the command (DEDUCED, log 195). -/
def processEntry (q : Nat) (e : Entry) (spells : List Byte → Bool) (f : Queue → State → Verdict) (s : State) : State :=
  let c := s.queue q
  if s.dev.host.serving ≠ some q ∨ c.typ = 0 ∨ c.typ = 4 ∨ c.head = c.tail ∨ !slotHolds s q spells then s
  else
    let s := hbmAsk 46 false (c.ring + 64 * (c.head % 2 ^ c.sizeLog2)) 64 s
    let s := noteAnswer (modQueue q (fun c => { c with head := (c.head + 1) % 2 ^ 32 }) s)
    engineNext q (match f c s with
      | .error r => refuseEntry c q e r s
      | .ok (n, g) => g (acceptEntry c q e n s))

/-- The target of an entry (R604, R605, step 2 of R620). `once` is the first failure that does not depend on the
target, `at'` the first failure at a count. -/
def chooseTarget (s : State) (e : Entry) (once : Option Refuse) (at' : Nat → Option Refuse) : Except Refuse Nat :=
  if bit e.flags 0 = 0 then
    match testTarget s e.target with
    | .error r => .error (r, 0)
    | .ok n => match at' n with
      | some r => .error r
      | none => .ok n
  else
    match once with
    | some r => .error r
    | none =>
      let n0 := earliest s
      match (List.range 1025).find? fun i => (at' (n0 + i)).isNone with
      | some i => .ok (n0 + i)
      | none => .error ((at' (n0 + 1024)).getD (4, 0))

/-- An item of a queue's entry. -/
def itemFor (c : Queue) (q : Nat) (e : Entry) (s : State) (n : Nat) (kind : ItemKind) : Item :=
  { num := s.dev.host.nextNum, host := true, queue := q, gen := c.gen, tag := e.tag, cq := c.cq, cqGen := (s.queue c.cq).gen
    target := n, kind := kind }

/-- The budgets of an item (step 8 of R620), tested until count `last` (R623). -/
def budgets (s : State) (i : Item) (last : Option Nat) : Option Refuse :=
  let s' := withItem i s
  (budgetsAt s s' i.target last).map fun r => (r, 0)

/-- PLANNER_FULL (step 7 of R620). -/
def fullFail (s : State) : Option Refuse := if plannerFull s then some (0x16, 0) else none

/-! ### UPDATE (R606, R607, R69, R89, R110, R160, R162, R263, R268, R271) -/

/-- The fence operands of an update (R266, R271, R607). -/
def fenceOperands (e : Entry) (u : UpdateOps) : Bool :=
  (u.members == 0 || (decide (2 ≤ u.members) && decide (u.members ≤ 8))) && decide (u.fence < 65536) &&
    decide (u.timeout < 256) && decide (u.wait < 2 ^ 64) && decide (u.group < 65536) && (u.members != 0 || u.group == 0) &&
    if bit e.flags 1 = 1 then u.timeout != 0 else u.fence == 0 && u.timeout == 0 && u.wait == 0

/-- Updates of a layer among the admitted items, with their leases. -/
def updatesOf (s : State) (layer : Nat) : List (Item × Nat) :=
  s.dev.host.items.filterMap fun i => match i.kind with
    | .update l _ lease _ => if l = layer then some (i, lease) else none
    | _ => none

/-- What a layer shows in the last state that is built. -/
def layerNow (s : State) (layer : Nat) : Layer := amGetD (s.dev.captured.getD s.dev.live).layers layer {}

/-- The last change that each admitted binding still makes to a layer before count `n`: its count and lease. -/
def clipsBefore (s : State) (layer n : Nat) : List (Nat × Nat) :=
  ((activePlayers s).map fun p => ((layersOf s p).filter fun x => x.1 == layer).filterMap fun x =>
    ((clipShows s p x (layerNow s layer) (n - 1)).filter fun y => decide (frontier s < y.1)).map fun y =>
      (y.1, y.2.lease)).flatten

/-- The accepted updates of a layer before count `n`, by target: target, lease, and whether a fence may hold them. An
update that has failed or was withdrawn is accepted no more (DEDUCED, log 142). -/
def updatesBefore (s : State) (layer n : Nat) : List (Nat × Nat × Bool) :=
  sortBy (fun a b => decide (a.1 ≤ b.1))
    (((updatesOf s layer).filter fun x => decide (x.1.target < n)).map (fun x => (x.1.target, x.2, x.1.holds)) ++
      (clipsBefore s layer n).map fun y => (y.1, y.2, false))

/-- Lease of the most recent accepted update of a layer before count `n` (R112), clip updates among them (R147). -/
def leaseBefore (s : State) (layer n : Nat) : Nat :=
  (((updatesBefore s layer n).getLast?).map (·.2.1)).getD (layerNow s layer).lease

/-- Leases that a layer can show in the frame before count `n`: a flip may be held or released, and an update that is
not fenced ends what was held before it (R267, R268). -/
def possibleLeases (s : State) (layer n : Nat) : List Nat :=
  (updatesBefore s layer n).foldl (fun ls x => if x.2.2 then x.2.1 :: ls else [x.2.1]) [(layerNow s layer).lease]

/-- Target of the next accepted update of a layer after count `n`, and its lease: a plane-queue update, or one of an
admitted binding (R162). -/
def nextUpdate (s : State) (layer n : Nat) : Option (Nat × Nat) :=
  let host := ((updatesOf s layer).filter fun x => decide (n < x.1.target)).map fun x => (x.1.target, x.2)
  let clips := ((activePlayers s).map fun p => ((layersOf s p).filter fun x => x.1 == layer).filterMap fun x =>
    clipNext s p x (layerNow s layer) n).flatten
  (host ++ clips).foldl (fun b x => if b.all fun y => decide (x.1 < y.1) then some x else b) none

/-- Target of the first accepted update of a layer after count `n` that surely replaces its content: no fence can hold it
(R265, R623). -/
def replacedAt (s : State) (layer n : Nat) : Option Nat :=
  let held := (updatesOf s layer).filter fun x => x.1.holds
  (((updatesOf s layer).filter fun x => decide (n < x.1.target) && !held.any fun h => h.1.num == x.1.num).map (·.1.target) ++
    ((activePlayers s).map fun p => ((layersOf s p).filter fun x => x.1 == layer).filterMap fun x =>
      (clipNext s p x (layerNow s layer) n).map (·.1)).flatten).foldl (fun b t => some (min t (b.getD t))) none

/-- The order is held by another overlay in a frame from `n` on in which the content would be shown (R89). -/
def orderHeld (s : State) (n layer blocks : Nat) (ct : Content) : Bool :=
  let last := replacedAt s layer n
  ct.overlay && blocks != 0 && (testFrames s n last).any fun f => (plans s f).any fun c =>
    c.layers.any fun l => l.1 != layer && (match l.2.content with
      | some o => o.overlay && !o.occ.isEmpty && o.order == ct.order
      | none => false)

/-- What the definition and OCCUPANCY chunks of an update are checked against for count `n`; `none` leaves out what
depends on the target. -/
def updateChunks (s : State) (c : Queue) (u : UpdateOps) (n : Option Nat) : Except Nat Admitted :=
  let rd := stagingBytes s u.staging
  match n with
  | none => admitChunks rd { total := u.length, after := c.seq } { cols := 2560, table := [], orderTaken := fun _ _ _ => false }
  | some n =>
    let plan := planAt s n
    admitChunks rd { total := u.length, after := c.seq, taken := fun l x => x == leaseBefore s l n && x != 0 }
      { cols := hogelCols plan, table := viewTable plan, orderTaken := orderHeld s n }

/-- Layer taken by another item or a binding at count `n` (R160, R619). -/
def layerTaken (s : State) (layer n : Nat) : Bool :=
  ((updatesOf s layer).any fun x => x.1.target == n) || (playersAt s n).any fun p => (mapped p.2).contains layer

/-- Steps 5 to 7 of R620 for an update. -/
def updateFails (s : State) (i : Item) (a : Admitted) : Option Refuse :=
  let n := i.target
  let g := s.dev.host.items.filter (sameGroup i)
  if layerTaken s a.layer n then some (0x11, 0)
  else if (nextUpdate s a.layer n).any (fun x => x.2 == a.lease) || (possibleLeases s a.layer n).contains a.lease then
    some (0x12, 0)
  else if i.members ≠ 0 ∧ ((g.any fun x => x.members != i.members || x.layer? == some a.layer) ∨ i.members ≤ g.length) then
    some (0x10, 0)
  else if plannerFull s then some (0x16, 0)
  else if i.holds && (freeHold s).isNone then some (0x0F, 0)
  else none

/-- The item of an update. -/
def updateItem (c : Queue) (q : Nat) (e : Entry) (u : UpdateOps) (s : State) (n : Nat) (a : Admitted) : Item :=
  let holds := bit e.flags 1 == 1 || u.members != 0
  let slot := if holds then ((freeHold s).getD 0) + 1 else 0
  { itemFor c q e s n (.update a.layer a.content a.lease slot) with
    fenced := bit e.flags 1 == 1, fence := u.fence, wait := u.wait, timeout := u.timeout, members := u.members
    group := u.group }

/-- The first failure of an update at count `n`, after step 3. -/
def updateAt (c : Queue) (q : Nat) (e : Entry) (u : UpdateOps) (s : State) (n : Nat) : Option Refuse :=
  match updateChunks s c u (some n) with
  | .error d => some (1, d)
  | .ok a =>
    let i := updateItem c q e u s n a
    (updateFails s i a).or (budgets s i (replacedAt s a.layer n))

/-- An update is admitted: its hold slot is assigned and its decode waits for its window (R260, R262, R263). -/
def updateAdmit (i : Item) (a : Admitted) (u : UpdateOps) (s : State) : State :=
  let slot := match i.kind with
    | .update _ _ _ k => k
    | _ => 0
  let inWindow := decide (i.target ≤ nextCount s) && !s.dev.timing.eveDone
  let s := if slot = 0 then s else putHold (slot - 1) none s
  let s :=
    if !inWindow then s
    else if slot = 0 then s.modDev fun d => { d with copies := d.copies.filter fun x => !(x.layer == a.layer && x.slot == 0) }
    else if s.dev.changed.contains a.layer || s.dev.copies.any (fun x => x.layer == a.layer) then s
    else startCopy a.layer i.target false s
  let s := s.iff inWindow (domainWake 25)
  addJob { num := i.num, order := i.num, kind := .update, layer := a.layer, chunkLayer := a.layer, target := i.target
           slot := slot, staging := u.staging, length := u.length, lease := a.lease, seq := a.seq, content := a.content }
    (admitItem i s)

/-- UPDATE. -/
def updateVerdict (q : Nat) (e : Entry) (u : UpdateOps) (c : Queue) (s : State) : Verdict :=
  if !headerFits e 1 [1] c.typ || u.staging % 8 != 0 || !fenceOperands e u then .error (2, 0)
  else
    let holds := bit e.flags 1 == 1 || u.members != 0
    let once : Option Refuse := match updateChunks s c u none with
      | .error d => some (1, d)
      | .ok _ => (fullFail s).or (if holds && (freeHold s).isNone then some (0x0F, 0) else none)
    match chooseTarget s e once (updateAt c q e u s) with
    | .error r => .error r
    | .ok n => match updateChunks s c u (some n) with
      | .error d => .error (1, d)
      | .ok a => .ok (n, updateAdmit (updateItem c q e u s n a) a u)

/-! ### PLAY and STOP (R156 to R163) -/

/-- The layer map's form (R156, R606): planes to planes, overlays to overlays, no device layer twice. -/
def mapForm (m : List Nat) : Bool :=
  m.length == 32 && ((List.range 32).all fun i =>
    let l := m.getD i 0xFF
    l == 0xFF || if i < 16 then decide (l < 16) else decide (16 ≤ l) && decide (l < 32)) &&
    (m.filter (· != 0xFF)).eraseDups.length == (m.filter (· != 0xFF)).length

/-- The layer map names a device layer for exactly the clip's layers. -/
def mapFits (s : State) (u : PlayOps) : Bool :=
  (s.clip u.clip).state != 3 || (List.range 32).all fun i => hasBit (s.clip u.clip).mask i == (u.map.getD i 0xFF != 0xFF)

/-- The binding that a PLAY at count `n` makes. -/
def bindingOf (s : State) (u : PlayOps) (n : Nat) : Player :=
  let p : Player := { id := u.player, state := 1, clip := u.clip, t0 := n, step := u.step, loops := u.loops
                      clear := u.endAction == 1, map := u.map }
  { p with endAt := boundEnd s p }

/-- Two bindings share a count. -/
def overlap (a b : Player) : Bool :=
  b.endAt.all (decide <| a.t0 ≤ ·) && a.endAt.all (decide <| b.t0 ≤ ·)

/-- A mapped layer's clip-frame-0 lease is one that the layer can show before the binding, or the lease that the binding
leaves is that of the layer's next accepted update (R162, R268; the second DEDUCED, log 143). -/
def playLease (s : State) (p : Player) : Bool :=
  (layersOf s p).any fun x =>
    let c := s.clip p.clip
    let (off, _, _) := tableEntry s c 0 x.2.2
    (possibleLeases s x.1 p.t0).contains (fieldLE (libraryBytes s (c.addr + off) 32) 18 2) ||
      p.endAt.any fun e => match clipShows s p x (layerNow s x.1) e, nextUpdate s x.1 e with
        | some y, some z => y.2.lease == z.2
        | _, _ => false

/-- Steps 5 to 7 of R620 for a PLAY. A binding that covers the target of an admitted update of a mapped layer is refused
as the update would be after it (R160 in the other order; DEDUCED, log 144). -/
def playFails (s : State) (p : Player) : Option Refuse :=
  let mine := mapped p
  let inside (n : Nat) : Bool := decide (p.t0 ≤ n) && p.endAt.all (decide <| n ≤ ·)
  let others := (s.dev.players.map (·.2)).filter fun o => overlap p o && !cancelledBy s o
  if (s.dev.host.items.any fun i => inside i.target && i.layer?.any mine.contains) ||
      (others.any fun o => o.id != p.id && (mapped o).any mine.contains) then some (0x11, 0)
  else if others.any fun o => o.id == p.id then some (0x14, 0)
  else if (s.clip p.clip).state ≠ 3 then some (0x13, 0)
  else if playLease s p then some (0x12, 0)
  else fullFail s

/-- `s` with one more binding. -/
def withBinding (num : Nat) (p : Player) (s : State) : State :=
  s.modDev fun d => { d with players := amPut d.players num p }

/-- The first failure of a PLAY at count `n`. -/
def playAt (c : Queue) (q : Nat) (e : Entry) (u : PlayOps) (s : State) (n : Nat) : Option Refuse :=
  let p := bindingOf s u n
  let i := itemFor c q e s n (.play u.player)
  (playFails s p).or (budgets (withBinding i.num p s) i (p.endAt.map (· + 1)))

/-- A PLAY is admitted; when its first window is open, its first updates enter it. -/
def playAdmit (i : Item) (p : Player) (s : State) : State :=
  let s := withBinding i.num p (admitItem i s)
  if i.target ≤ nextCount s ∧ s.dev.timing.eveDone = false then openClip i.target (i.num, p) s else s

/-- PLAY. -/
def playVerdict (q : Nat) (e : Entry) (u : PlayOps) (c : Queue) (s : State) : Verdict :=
  if !headerFits e 0x21 [2] c.typ || decide (64 ≤ u.player) || u.step == 0 || decide (256 ≤ u.step) ||
      decide (4096 ≤ u.clip) || decide (65536 ≤ u.loops) || decide (2 ≤ u.endAction) || !mapForm u.map || !mapFits s u then
    .error (2, 0)
  else
    let once : Option Refuse := if (s.clip u.clip).state ≠ 3 then some (0x13, 0) else fullFail s
    match chooseTarget s e once (playAt c q e u s) with
    | .error r => .error r
    | .ok n => .ok (n, playAdmit (itemFor c q e s n (.play u.player)) (bindingOf s u n))

/-- The ends of player `player`'s bindings have changed at count `n`: where its decode window is open, the updates of the
window follow (R158, R159). -/
def restepPlayer (player n : Nat) (s : State) : State :=
  if s.dev.timing.eveDone || decide (nextCount s < n) then s
  else s.each (s.dev.players.filter fun p => p.2.id == player) fun p s => reopenStep n p.1 s

/-- An item is withdrawn (R611): its layer is copied when its window is open, a member abandons its group, and a
binding is released. -/
def withdraw (i : Item) (s : State) : State :=
  match i.kind with
  | .update layer _ _ slot =>
    let opened := (s.dev.jobs.any fun j => j.num == i.num && j.opened) || i.stage == .done
    let s := loseItem i 0x15 0 s
    if slot = 0 then cancelCopy layer i.target opened s else s
  | .play _ => dropBinding i.num (endItem i 0x15 0 s)
  | .stop player => restepPlayer player i.target (refreshEnds (endItem i 0x15 0 s))
  | .pulse pin _ _ =>
    modPinOut pin (fun p => { p with cues := p.cues.filter fun c => c.num != i.num }) (endItem i 0x15 0 s)
  | .mode _ _ | .zones _ | .visible _ _ | .view _ | .raster _ _ _ _ _ => endItem i 0x15 0 s

/-- A STOP is admitted; a PLAY that it cancels whose first window is open is withdrawn at once, so that its layers are
copied in time (R136, R159). -/
def stopAdmit (i : Item) (player : Nat) (s : State) : State :=
  let s := refreshEnds (admitItem i s)
  if s.dev.timing.eveDone then s
  else
    let gone := s.dev.players.filter fun p => p.2.id == player && decide (i.target ≤ p.2.t0) && decide (p.2.t0 ≤ nextCount s)
    restepPlayer player i.target (s.each (s.dev.host.items.filter fun x => gone.any fun p => p.1 == x.num) withdraw)

/-- STOP. -/
def stopVerdict (q : Nat) (e : Entry) (player : Nat) (c : Queue) (s : State) : Verdict :=
  if !headerFits e 0x22 [2] c.typ || decide (64 ≤ player) then .error (2, 0)
  else
    match chooseTarget s e (fullFail s) (fun n =>
        (fullFail s).or (budgets s (itemFor c q e s n (.stop player)) none)) with
    | .error r => .error r
    | .ok n => .ok (n, stopAdmit (itemFor c q e s n (.stop player)) player)

/-! ### Cues (R565, R567, R608 to R612) -/

/-- PULSE. A pin that is not in CUE mode at the target is refused as a malformed item (DEDUCED, log 31). -/
def pulseVerdict (q : Nat) (e : Entry) (pin : Nat) (offset : Int) (width : Nat) (c : Queue) (s : State) : Verdict :=
  if !headerFits e 0x23 [2] c.typ || decide (4 ≤ pin) || decide (offset < -1000000) || decide (1000000000 < offset) ||
      decide (width < 8) || decide (1000000000 < width) then .error (2, 0)
  else
    let kind := ItemKind.pulse pin offset width
    match chooseTarget s e (fullFail s) (fun n =>
        if (planAt s n).obj (0x48C0 + pin) 1 ≠ 3 then some (2, 0)
        else (fullFail s).or (budgets s (itemFor c q e s n kind) none)) with
    | .error r => .error r
    | .ok n => .ok (n, fun t =>
        let cue : CuePulse := { num := t.dev.host.nextNum, count := n, offset := offset, width := width }
        modPinOut pin (fun p => { p with cues := p.cues ++ [cue] }) (admitItem (itemFor c q e s n kind) t))

/-- MODE. -/
def modeVerdict (q : Nat) (e : Entry) (m : Nat) (c : Queue) (s : State) : Verdict :=
  if !headerFits e 0x24 [2] c.typ || decide (16 ≤ m) || decide (overlayCount (switchImage s false) < m) then .error (2, 0)
  else
    match chooseTarget s e (fullFail s) (fun n =>
        (switchFails s (itemFor c q e s n (.mode m false)) m false).map fun r => (r, 0)) with
    | .error r => .error r
    | .ok n => .ok (n, admitItem (itemFor c q e s n (.mode m false)))

/-- The zone-target map of a ZONES cue, when its check value is right (R606, R609). -/
def zoneMap (s : State) (off crc' : Nat) : Option Nat :=
  match hbmRead s off 1536 with
  | none => none
  | some bs => if crc32c 0x44100001 bs = crc' then some (leNat bs) else none

/-- ZONES. -/
def zonesVerdict (q : Nat) (e : Entry) (map crc' : Nat) (c : Queue) (s : State) : Verdict :=
  match if headerFits e 0x25 [2] c.typ then zoneMap s map crc' else none with
  | none => .error (2, 0)
  | some z =>
    let absent : Option Refuse := if hasLens s then none else some (3, 0)
    let at' (n : Nat) : Option Refuse :=
      let i := itemFor c q e s n (.zones z)
      let before := planAt s n
      absent.or (((objsRefused s before (applyItem s before i)).map fun r => (r, 0)).or ((fullFail s).or (budgets s i none)))
    match chooseTarget s e (absent.or (fullFail s)) at' with
    | .error r => .error r
    | .ok n => .ok (n, fun t => admitItem (itemFor c q e s n (.zones z)) (hbmAsk 46 false map 1536 t))

/-- VISIBLE. -/
def visibleVerdict (q : Nat) (e : Entry) (mask values : Nat) (c : Queue) (s : State) : Verdict :=
  if !headerFits e 0x26 [2] c.typ || decide (2 ^ 32 ≤ mask) || decide (2 ^ 32 ≤ values) then .error (2, 0)
  else
    let kind := ItemKind.visible mask values
    match chooseTarget s e (fullFail s) (fun n => (fullFail s).or (budgets s (itemFor c q e s n kind) none)) with
    | .error r => .error r
    | .ok n => .ok (n, admitItem (itemFor c q e s n kind))

/-! ### CANCEL and SIGNAL (R611, R628 to R630) -/

/-- The admitted item of a queue and tag whose target is earliest. -/
def itemTagged (s : State) (queue tag : Nat) : Option Item :=
  (s.dev.host.items.filter fun i => i.host && i.queue == queue && i.tag == tag).foldl (fun b i => match b with
    | none => some i
    | some x => if i.target < x.target then some i else some x) none

/-- The final completion of an entry that takes effect at once; its frame is that of processing (log 32). -/
def finalNow (c : Queue) (q : Nat) (e : Entry) (s : State) : State :=
  postCompletion c.cq (entryCompletion c q e (frameNo s) 0x10 0 0) s

/-- CANCEL: NOT_FOUND and LATE, which R620 does not rank, come before its step 7 (DEDUCED, log 183). -/
def cancelVerdict (q : Nat) (e : Entry) (queue tag : Nat) (c : Queue) (s : State) : Verdict :=
  if !headerFits e 0x2F [1, 2] c.typ || e.target != 0 || bit e.flags 0 != 0 || decide (2 ^ 20 ≤ queue) ||
      decide (2 ^ 32 ≤ tag) then .error (2, 0)
  else
    match itemTagged s queue tag with
    | none => .error (0x15, 0)
    | some i =>
      if i.target ≤ frontier s then .error (4, 0)
      else match fullFail s with
        | some r => .error r
        | none => .ok (0, fun t => finalNow c q e (withdraw i t))

/-- SIGNAL. -/
def signalVerdict (q : Nat) (e : Entry) (fence value : Nat) (c : Queue) (s : State) : Verdict :=
  if !headerFits e 0x31 [3] c.typ || e.target != 0 || bit e.flags 0 != 0 || decide (65536 ≤ fence) ||
      decide (2 ^ 64 ≤ value) || decide (value < fenceValue s fence) then .error (2, 0)
  else match fullFail s with
    | some r => .error r
    | none => .ok (0, fun t => finalNow c q e
        (modHost (fun h => { h with fences := amPut h.fences fence (max value (fenceValue t fence)) }) t))

/-! ### Commands -/

/-- UPDATE (R606). -/
def execUpdate (q : Nat) (e : Entry) (u : UpdateOps) (s : State) : Out :=
  run (.update q e u) (onMem [.od, .timing, .jobs, .copies, .holdSlots, .host, .memory, .events, .eventBuffer,
      .eventMessages, .drawn] (processEntry q e (updateEntry · == (e, u)) (updateVerdict q e u)) s)

/-- PLAY (R606). -/
def execPlay (q : Nat) (e : Entry) (u : PlayOps) (s : State) : Out :=
  run (.play q e u) (onMem [.od, .timing, .jobs, .waiting, .copies, .clipReady, .lost, .due, .holdSlots, .players,
      .host, .memory, .events, .eventBuffer, .eventMessages, .drawn] (processEntry q e (playEntry · == (e, u))
      (playVerdict q e u)) s)

/-- STOP (R159). -/
def execStop (q : Nat) (e : Entry) (player : Nat) (s : State) : Out :=
  run (.stop q e player) (onMem [.od, .timing, .jobs, .waiting, .copies, .clipReady, .lost, .due, .holdSlots,
      .clips, .players, .timeOut, .host, .memory, .events, .eventBuffer, .eventMessages, .drawn] (processEntry q e
      (stopEntry · == (e, player)) (stopVerdict q e player)) s)

/-- PULSE (R608). -/
def execPulse (q : Nat) (e : Entry) (pin : Nat) (offset : Int) (width : Nat) (s : State) : Out :=
  run (.pulse q e pin offset width) (onDev [.od, .timing, .timeOut, .host, .memory, .events, .eventBuffer,
      .eventMessages, .drawn] (processEntry q e (pulseEntry · == (e, pin, offset, width)) (pulseVerdict q e pin offset width)) s)

/-- MODE (R612). -/
def execModeCue (q : Nat) (e : Entry) (m : Nat) (s : State) : Out :=
  run (.modeCue q e m) (onDev [.od, .timing, .host, .memory, .events, .eventBuffer, .eventMessages, .drawn]
      (processEntry q e (modeEntry · == (e, m)) (modeVerdict q e m)) s)

/-- ZONES (R609). -/
def execZones (q : Nat) (e : Entry) (map crc' : Nat) (s : State) : Out :=
  run (.zones q e map crc') (onDev [.od, .timing, .host, .memory, .events, .eventBuffer, .eventMessages, .drawn]
      (processEntry q e (zonesEntry · == (e, map, crc')) (zonesVerdict q e map crc')) s)

/-- VISIBLE (R610). -/
def execVisible (q : Nat) (e : Entry) (mask values : Nat) (s : State) : Out :=
  run (.visible q e mask values) (onDev [.od, .timing, .host, .memory, .events, .eventBuffer, .eventMessages,
      .drawn] (processEntry q e (visibleEntry · == (e, mask, values)) (visibleVerdict q e mask values)) s)

/-- CANCEL (R611). -/
def execCancel (q : Nat) (e : Entry) (queue ctag : Nat) (s : State) : Out :=
  run (.cancel q e queue ctag) (onMem [.od, .timing, .jobs, .waiting, .copies, .clipReady, .lost, .due, .holdSlots,
      .clips, .players, .timeOut, .host, .memory, .events, .eventBuffer, .eventMessages, .drawn] (processEntry q e
      (cancelEntry · == (e, queue, ctag)) (cancelVerdict q e queue ctag)) s)

/-- SIGNAL (R628). -/
def execSignal (q : Nat) (e : Entry) (fence value : Nat) (s : State) : Out :=
  run (.signal q e fence value) (onDev [.od, .timing, .host, .memory, .events, .eventBuffer, .eventMessages,
      .drawn] (processEntry q e (signalEntry · == (e, fence, value)) (signalVerdict q e fence value)) s)

end Sys2Proof.Machine
end

