-- ==== Sys2Proof/Machine/Wall.lean ====
section
/-!
DEFINITION. Tile ports: neighbours, calends markers, pairing, and safety broadcasts (R376 to R379, R546 to R564).
-/
namespace Sys2Proof.Machine

/-- Tile-port state: 0 DOWN, 1 LINKING, 2 NEIGHBOUR, 3 FOREIGN, 4 CONFLICT, 5 PAIRED. -/
def tileState (s : State) (t : Nat) : Nat := s.reg (0x4880 + t) 1

/-- The port enters a state; a port that no longer exchanges markers has no marker-locked neighbour (R556). -/
def setTileState (t v : Nat) (s : State) : State :=
  let s := s.setReg (0x4880 + t) 1 v
  if v = 2 ∨ v = 5 then s
  else modTile t (fun x => { x with good := 0, bad := 0, goodNow := false }) (s.setReg (0x4880 + t) 7 0)

/-- The port exchanges markers and safety broadcasts. -/
def tileJoined (s : State) (t : Nat) : Bool := tileState s t == 2 || tileState s t == 5

/-- This device's wall ID. -/
def wallId (s : State) : Nat := s.reg 0x4830 1

/-- A block is sent on tile port `t`, with preset P4 under the ceiling of 0x1120:03 (R889, R891). -/
def sendTile (t b : Nat) (s : State) : State :=
  let top := s.ceilings.rec2.tileAmplitude
  let now := s.now
  modTile t (fun x =>
    { x with sent := (b :: x.sent).take 16
             drive := some (presetDrive 4 top)
             wires := (List.range 4).map fun k => controlWire (512 + 4 * t + k) now (x.wires[k]?) [] b }) s

/-! ### Blocks (R550) -/

def helloBlock (s : State) (t : Nat) : Nat :=
  block 0 (0x4B + wallId s * 2 ^ 8 + t * 2 ^ 20 + s.reg 0x4830 2 * 2 ^ 24 + 2 ^ 40)
def markerBlock (s : State) : Nat :=
  block (wallId s) (0x87 + frameNo s * 2 ^ 8 + s.com 0x3800 1 * 2 ^ 40 + s.com 0x3800 2 * 2 ^ 43 +
    pairingRole s * 2 ^ 44)
def followBlock (s : State) (offset turn : Nat) : Nat := block (wallId s) (0x96 + offset * 2 ^ 8 + turn * 2 ^ 24)
def eveBlock (s : State) (frame : Nat) (ready : Bool) : Nat :=
  block (wallId s) (0xA5 + frame % 2 ^ 32 * 2 ^ 8 + ofBool ready * 2 ^ 40)
def safetyBlock (s : State) (image origin target : Nat) : Nat :=
  block (wallId s) (0x99 + image * 2 ^ 8 + origin * 2 ^ 12 + target % 2 ^ 16 * 2 ^ 24)

/-- A violation on tile port `t`; 256 within 1 s take it down (R564). -/
def tileViolation (t : Nat) (s : State) : State :=
  let ts := s.now :: within1s s.now (s.tile t).violations
  let s := modTile t (fun x => { x with violations := ts }) (s.bump (0x4880 + t) 8)
  if 256 ≤ ts.length ∧ (s.tile t).takenDown = false then
    let s := modTile t (fun x => { x with takenDown := true, violations := [] }) s
    logEvent 564 6 (0x4880 + t) 0 0 (setTileState t 0 s)
  else s

/-- A block of a type that carries the neighbour's wall ID is intact: its CRC, and reserved bits `hi` to `lo`. -/
def tileGood (s : State) (t b typ hi lo : Nat) : Bool :=
  blockGood (s.reg (0x4880 + t) 3) b && blockType b == typ && (decide (hi < lo) || bits b hi lo == 0)

/-- The copies of a block in order of arrival: 64 bits each, the first lowest; four lanes bring at most four (R548;
DESIGN CHOICE, log 192). -/
def copiesOf (b : Nat) : List Nat :=
  (List.range 4).filterMap fun k => if k = 0 || (b >>> (64 * k)) != 0 then some ((b >>> (64 * k)) % 2 ^ 64) else none

/-- The content of a block: its first intact copy, or the first where none is intact (R548). -/
def firstIntact (good : Nat → Bool) (b : Nat) : Nat := ((copiesOf b).find? good).getD (b % 2 ^ 64)

/-! ### Neighbours (R551 to R553) -/

/-- HELLO goes out on an enabled port with a locked lane. -/
def helloSend (t : Nat) (s : State) : State := if tileState s t = 0 then s else sendTile t (helloBlock s t) s

/-- A DOWN port whose conditions hold begins to link (R552). -/
def tileLink (t : Nat) (s : State) : State :=
  if tileState s t == 0 && s.reg (0x4880 + t) 2 != 0 && s.reg (0x4880 + t) 9 == 1 && !(s.tile t).takenDown then
    helloSend t (setTileState t 1 s)
  else s

/-- The state a HELLO classifies a port into (R552). -/
def classify (s : State) (t wall id : Nat) : Nat :=
  if wall ≠ s.reg 0x4830 2 then 3 else if id = wallId s then 4 else if isPairing s t then 5 else 2

/-- An intact HELLO. -/
def helloGood (b : Nat) : Bool := blockGood 0 b && blockType b == 0x4B && bit b 23 == 0

/-- A HELLO arrives on port `t` (R548, R552, R553, R564). -/
def helloReceive (t copies : Nat) (s : State) : State :=
  let b := firstIntact helloGood copies
  if tileState s t = 0 then s
  else if !helloGood b then tileViolation t s
  else if bits b 47 40 ≠ 1 then tileViolation t s
  else
    let id := bits b 19 8
    let wall := bits b 39 24
    let c := classify s t wall id
    let st := tileState s t
    let s := (s.setReg (0x4880 + t) 3 id).setReg (0x4880 + t) 4 wall
    if st = 1 then
      let s := setTileState t c s
      if c = 3 then logEvent 552 6 (0x4880 + t) 0 wall s
      else if c = 4 then logEvent 552 6 (0x4880 + t) 0 id (s.bump 0x4830 3)
      else s
    else if (st = 3 ∨ st = 4) ∧ c ≠ st then setTileState t 1 s
    else s

/-- A lane gains block lock (R552); the tile SerDes is powered (R754). -/
def laneLock (t lane : Nat) (s : State) : State :=
  if domainState s 31 = 2 then tileLink t (s.setReg (0x4880 + t) 2 (setBit (s.reg (0x4880 + t) 2) lane)) else s

/-- A lane loses block lock (R549). -/
def laneUnlock (t lane : Nat) (s : State) : State := s.setReg (0x4880 + t) 2 (clearBit (s.reg (0x4880 + t) 2) lane)

/-- No lane has been locked for 1 s (R552). -/
def tileTimeout (t : Nat) (s : State) : State := if s.reg (0x4880 + t) 2 = 0 then setTileState t 0 s else s

/-- One second after a take-down the port may link again (R564). -/
def tileTakeDownEnd (t : Nat) (s : State) : State :=
  if (s.tile t).takenDown then tileLink t (modTile t (fun x => { x with takenDown := false }) s) else s

/-- PD31 is off once every tile port has been disabled for 1 s (R754): no lane holds its lock. -/
def tileSerdesOff (s : State) : State :=
  if (List.range (nTiles s)).all fun t => s.reg (0x4880 + t) 9 == 0 then
    domainOff 31 (s.each (List.range (nTiles s)) fun t s => s.setReg (0x4880 + t) 2 0)
  else s

/-! ### Markers (R551, R554 to R559) -/

/-- Resolution of a tile-port stamp: 10 ps (R555). -/
def tileStamp (t : Nat) : Nat := t / 10 * 10

/-- The number is not this device's of the frame whose calends on the grid lies nearest the stamp, one that a hold frame
skips included (R556, R557). -/
def strangeFrame (s : State) (f stamp : Nat) : Bool :=
  let base := framePs (max 1 (baseHz s))
  f != (s.dev.timing.count + (stamp + base / 2 - s.dev.timing.calendsAt) / base) % 2 ^ 32

/-- A MARKER arrives on port `t`, stamped at `stamp` ps of the timebase (R548, R554 to R556). -/
def markerReceive (t copies stamp : Nat) (s : State) : State :=
  let b := firstIntact (fun b => tileGood s t b 0x87 47 46) copies
  let stamp := tileStamp stamp
  if !tileJoined s t then s
  else if !tileGood s t b 0x87 47 46 then tileViolation t s
  else
    let f := bits b 39 8
    let s := modTile t (fun x =>
      { x with a4 := some (stamp, f), followed := false
               setting := some (bits b 42 40, bit b 43, bits b 45 44) }) s
    if strangeFrame s f stamp then logEvent 556 2 (0x4880 + t) 0 f s else s

/-- MARKER_FOLLOW is sent once both MARKERs of a frame have passed (R551). TURN is not measured without lane 0, or out
of its range. -/
def followSend (t : Nat) (s : State) : State :=
  let x := s.tile t
  match x.a1, x.a4 with
  | some (a1, f), some (a4, g) =>
    if !tileJoined s t || g != f then s
    else
      let r : Int := (a1 : Int) - a4
      let code := if hasBit (s.reg (0x4880 + t) 2) 0 ∧ r.natAbs < 2 ^ 23 then ofSigned 24 r else 0x800000
      sendTile t (followBlock s ((a1 - s.dev.timing.calendsAt) % 2 ^ 16) code) s
  | _, _ => s

/-- A MARKER_FOLLOW arrives on port `t`: cable delay and phase (R548, R554, R564). -/
def followReceive (t copies : Nat) (s : State) : State :=
  let b := firstIntact (fun b => tileGood s t b 0x96 0 1) copies
  if !tileJoined s t then s
  else if !tileGood s t b 0x96 0 1 then tileViolation t s
  else
    let x := s.tile t
    match x.a4 with
    | none => tileViolation t s
    | some (a4, g) =>
      if x.followed then tileViolation t s
      else
        let s := modTile t (fun x => { x with followed := true }) s
        match x.a1 with
        | none => s
        | some (a1, f) =>
          if f ≠ g ∨ f ≠ frameNo s ∨ bits b 47 24 = 0x800000 ∨ hasBit (s.reg (0x4880 + t) 2) 0 = false then s
          else
            let d := ((a4 : Int) - a1 - toSigned 24 (bits b 47 24)).tdiv 2
            let phi := (a4 : Int) - d - bits b 23 8 - s.dev.timing.calendsAt
            let s := s.setReg (0x4880 + t) 5 (clamp 0 0xFFFFFFFF d).toNat
            let s := s.setReg (0x4880 + t) 6 (ofSigned 32 (saturate 32 phi))
            let s := s.iff (isPairing s t && pairingRole s == 2) (·.setReg 0x3840 2 (ofSigned 32 (saturate 32 phi)))
            modTile t (fun x => { x with goodNow := decide (phi.natAbs ≤ 1000000) }) s

/-- The partner's HOLD_READY for the next frame has arrived by 2 us after the eve (R384, R559). -/
def partnerReady (s : State) : Bool :=
  let x := s.tile (pairingPort s)
  x.holdReady && x.nextFrame == some (nextCount s % 2 ^ 32) && decide (x.eveAt ≤ s.dev.timing.eveAt + 2000000)

/-- The hold factor of the next frame: this device's conditions, and a partner's for a paired device (R384). A secondary
in MISMATCH runs unpaired (R377). -/
def settleHold (s : State) : State :=
  let t := s.dev.timing
  let alone := pairingRole s == 0 || (pairingRole s == 2 && s.reg 0x3840 1 == 3)
  let go := t.ownReady && (alone || partnerReady s)
  modTiming (fun t => { t with holdNext := if go then t.ownHold else 1, nextHold := go }) s

/-- A neighbour's EVE arrives on port `t` (R548, R557, R559). -/
def eveReceive (t copies : Nat) (s : State) : State :=
  let b := firstIntact (fun b => tileGood s t b 0xA5 47 41) copies
  if !tileJoined s t then s
  else if !tileGood s t b 0xA5 47 41 then tileViolation t s
  else
    let now := s.now
    let s := modTile t (fun x => { x with nextFrame := some (bits b 39 8), holdReady := hasBit b 40, eveAt := now }) s
    if isPairing s t && s.dev.timing.eveDone && decide (now ≤ s.dev.timing.eveAt + 2000000) then settleHold s else s

/-- The frame just ended counts for or against a neighbour's marker-lock (R556, R557). -/
def markerCount (t : Nat) (s : State) : State :=
  let x := s.tile t
  if !tileJoined s t || !x.shares then s
  else if x.goodNow then
    let s := modTile t (fun x => { x with good := x.good + 1, bad := 0 }) s
    s.iff (decide (8 ≤ x.good + 1)) (·.setReg (0x4880 + t) 7 1)
  else
    let s := modTile t (fun x => { x with good := 0, bad := x.bad + 1 }) s
    s.iff (decide (3 ≤ x.bad + 1)) (·.setReg (0x4880 + t) 7 0)

/-- The neighbour correction at a calends: without lane 0 a port gives no phase (R546, R549, R557, R558). -/
def correctionStep (s : State) : State :=
  let ps := (List.range (nTiles s)).filter fun t =>
    markerLocked s t && tileState s t == 2 && !isPairing s t && (s.tile t).shares && hasBit (s.reg (0x4880 + t) 2) 0
  let c := correction s
  let mean : Int := if ps.isEmpty then 0
    else ((ps.map fun t => toSigned 32 (s.reg (0x4880 + t) 6)).foldl (· + ·) 0).tdiv ps.length
  let lim : Int := if frameLock s = 3 then 1000000000 else s.reg 0x4821 7 * 1000
  s.setReg 0x4821 4 (ofSigned 32 (clamp (-lim) lim (c - c.tdiv 256 + mean.tdiv 4)))

/-- The secondary enters LOST: it counts afresh the frames with markers (R378, R379). -/
def pairingLost (s : State) : State :=
  let s := modTile (pairingPort s) (fun x => { x with pairGood := 0 }) s
  logEvent 378 2 0x3840 1 0 ((s.setReg 0x3840 1 2).bump 0x3840 3)

/-- The pairing state at a calends (R375 to R379). A primary at another base rate numbers its frames otherwise, so that a
marker of the frame counts whatever its number. -/
def pairingStep (s : State) : State :=
  let t := pairingPort s
  let x := s.tile t
  let st := s.reg 0x3840 1
  let set (v : Nat) (s : State) : State := s.setReg 0x3840 1 v
  if pairingRole s = 0 then set 0 s
  else if pairingRole s = 1 then set (if tileState s t = 5 then 1 else 0) s
  else
    let here := tileState s t == 5 && x.a4.isSome
    let s := modTile t (fun x =>
      { x with pairGood := if here then x.pairGood + 1 else 0, pairBad := if here then 0 else x.pairBad + 1 }) s
    if here then
      if x.setting ≠ some (s.com 0x3800 1, s.com 0x3800 2, 1) then set 3 s
      else if st = 2 then
        if 16 ≤ x.pairGood + 1 then logEvent 379 0 0x3840 1 0 (set 1 s) else s
      else if st = 1 then if 50000 < (toSigned 32 (s.reg 0x3840 2)).natAbs then pairingLost s else s
      else set 1 s
    else if st ≠ 2 ∧ 3 ≤ x.pairBad + 1 then pairingLost s
    else s

/-- What the wall does at a calends, before the frame count moves (R546, R556). -/
def wallBefore (s : State) : State := pairingStep (correctionStep (s.each (List.range (nTiles s)) markerCount))

/-- What the wall does at a calends once the frame count has moved: MARKER goes out at the first block boundary, whose
distance from the calends is free, on a port with lane 0 (R549, R551, log 23). A neighbour's MARKER that belongs to an
earlier calends is no MARKER of this frame (R564). The frame counts where the neighbour's last EVE names it (R557). -/
def wallAfter (s : State) : State :=
  s.each (List.range (nTiles s)) fun t s =>
    let since := s.dev.timing.calendsAt
    let half := periodPs s / 2
    let s := modTile t (fun x => { x with a4 := x.a4.filter fun m => decide (since < m.1 + half) }) s
    if !tileJoined s t then s
    else
      let a1 := tileStamp (s.dev.timing.calendsAt + freeValue s % 3300)
      let f := frameNo s
      let lane0 := hasBit (s.reg (0x4880 + t) 2) 0
      let s := if lane0 then sendTile t (markerBlock s) (drawFree s) else s
      modTile t (fun x =>
        { x with a1 := if lane0 then some (a1, f) else none
                 goodNow := false
                 shares := x.nextFrame.all (· == f) }) s

/-- EVE goes out at the start of each eve (R551). -/
def wallEve (s : State) : State :=
  s.each (List.range (nTiles s)) fun t s =>
    if tileState s t = 0 then s else sendTile t (eveBlock s (nextCount s) s.dev.timing.ownReady) s

/-! ### Safety broadcasts (R560 to R563) -/

/-- The active origin with the lowest wall ID (R563). -/
def shownOrigin (s : State) : Option OriginState :=
  s.dev.safety.origins.foldl (fun b o => match b with
    | none => some o
    | some x => if o.id < x.id then some o else some x) none

/-- The safety image the device shows or would show (R297, R563). -/
def safetyImage (s : State) : Nat := match shownOrigin s with
  | some o => o.image
  | none => s.reg 0x3190 1 % 4

/-- An event comes before the eve that precedes calends `r`. -/
def beforeEveOf (s : State) (r : Nat) : Bool :=
  decide (nextCount s < r) || (nextCount s == r && !s.dev.timing.eveDone)

/-- A pending release is cancelled by a safety input before the eve that precedes its calends (R301). -/
def cancelRelease (s : State) : State :=
  match s.dev.safety.release with
  | none => s
  | some r => if beforeEveOf s r then modSafety (fun y => { y with release := none }) s else s

/-- SAFETY of an origin goes out on every joined port but one. -/
def safetySend (image origin target except : Nat) (s : State) : State :=
  s.each (List.range (nTiles s)) fun t s =>
    if tileJoined s t && t != except then sendTile t (safetyBlock s image origin target) s else s

/-- Origin `o` is active, and its broadcast arrives at the eve before its target (R562). -/
def putOrigin (o : OriginState) (s : State) : State :=
  modSafety (fun y =>
    { y with origins := o :: y.origins.filter fun x => x.id != o.id
             due := o.target :: y.due.filter fun t => t != o.target }) s

/-- Origin `id` is no longer active (R563). -/
def dropOrigin (id : Nat) (s : State) : State :=
  let now := s.now
  if s.dev.safety.origins.any fun x => x.id == id then
    modSafety (fun y =>
      let rest := y.origins.filter fun x => x.id != id
      { y with origins := rest, quietAt := if rest.isEmpty then some now else y.quietAt }) s
  else s

/-- The target a SAFETY names, as the frame count nearest this device's (R562). -/
def safetyTarget (s : State) (low : Nat) : Nat :=
  ((s.dev.timing.count : Int) + toSigned 16 (low + 65536 - s.dev.timing.count % 65536)).toNat

/-- An intact SAFETY on port `t`. -/
def safetyGood (s : State) (t b : Nat) : Bool := tileGood s t b 0x99 11 10 && bits b 47 40 == 0

/-- This device originates a broadcast of its own (R560): for SAFE_SHOW_N while 0x4840:01 is TRUE, or by command. -/
def originates (s : State) : Bool := (s.dev.safety.originating && s.reg 0x4840 1 == 1) || s.reg 0x4840 2 != 0

/-- A SAFETY arrives on port `t` (R548, R561, R562). An echo of the own broadcast leaves its image and target (R560). -/
def safetyReceive (t copies : Nat) (s : State) : State :=
  let b := firstIntact (safetyGood s t) copies
  if !tileJoined s t then s
  else if !safetyGood s t b then tileViolation t s
  else
    let id := bits b 23 12
    let image := bits b 9 8
    let target := safetyTarget s (bits b 39 24)
    let n := s.dev.timing.count
    let old := s.dev.safety.origins.find? fun o => o.id == id
    let again := match old with
      | some o => o.forwarded == n
      | none => false
    let late := decide (target ≤ n) || (decide (target ≤ nextCount s) && s.dev.timing.eveDone)
    let s := s.iff (old.isNone && late) (·.bump 0x4840 4)
    let s := if old.isNone then cancelRelease s else s
    let own := if originates s && id == wallId s then old else none
    let s := match own with
      | some o => putOrigin { o with forwarded := n } s
      | none => putOrigin { id := id, image := image, target := target, forwarded := n } s
    if again then s else (safetySend image id (bits b 39 24) t s).bump 0x4840 3

/-- Send the own broadcast (R560). -/
def sendOwn (s : State) : State :=
  match s.dev.safety.origins.find? fun o => o.id == wallId s with
  | none => s
  | some o => safetySend (safetyImage s) (wallId s) o.target (nTiles s) s

/-- The own broadcast starts, or its image changes (R560). -/
def startOwn (s : State) : State :=
  let old := s.dev.safety.origins.find? fun o => o.id == wallId s
  let target := match old with
    | some o => o.target
    | none => earliest s
  let image := if s.reg 0x4840 2 = 0 then s.reg 0x3190 1 % 4 else (s.reg 0x4840 2 - 1) % 4
  sendOwn (putOrigin { id := wallId s, image := image, target := target, forwarded := s.dev.timing.count }
    (cancelRelease s))

/-- The own broadcast ends once neither case of R560 holds. -/
def endOwn (s : State) : State := if originates s then s else dropOrigin (wallId s) s

/-- A write of 0x4840:02 (R560). -/
def originCommand (v : Nat) (s : State) : Ans :=
  if 4 < v then (abRange, s)
  else if v = 0 then (0, endOwn (s.setReg 0x4840 2 0))
  else (0, startOwn (s.setReg 0x4840 2 v))

/-- A write of 0x4840:01, with SAFE_SHOW_N low or not (R560). -/
def originateWrite (v : Nat) (s : State) : State :=
  let was := originates s
  let s := s.setReg 0x4840 1 v
  if originates s && !was then startOwn s else endOwn s

/-- No SAFETY of an origin for 1 s (R563). -/
def originExpiry (id : Nat) (s : State) : State := if id = wallId s && originates s then s else dropOrigin id s

/-! ### Commands -/

/-- TILE_PORT_HELLO (R552). -/
def execTilePortHello (t block : Nat) (s : State) : Out :=
  runOn (.tilePortHello t block) (t < nTiles s) s (onDev [.od, .tiles, .events, .eventBuffer, .eventMessages]
      (helloReceive t block) s)

/-- HELLO_SEND (R551). -/
def execHelloSend (t : Nat) (s : State) : Out := runOn (.helloSend t) (t < nTiles s) s (onDev [.tiles] (helloSend t) s)

/-- MARKER_RECEIVE (R554). -/
def execMarkerReceive (t block stamp : Nat) (s : State) : Out :=
  runOn (.markerReceive t block stamp) (t < nTiles s) s (onDev [.od, .tiles, .events, .eventBuffer, .eventMessages]
      (markerReceive t block stamp) s)

/-- MARKER_FOLLOW_SEND (R551). -/
def execMarkerFollowSend (t : Nat) (s : State) : Out :=
  runOn (.markerFollowSend t) (t < nTiles s) s (onDev [.tiles] (followSend t) s)

/-- MARKER_FOLLOW_RECEIVE (R554). -/
def execMarkerFollowReceive (t block : Nat) (s : State) : Out :=
  runOn (.markerFollowReceive t block) (t < nTiles s) s (onDev [.od, .tiles, .events, .eventBuffer, .eventMessages]
      (followReceive t block) s)

/-- EVE_BLOCK_RECEIVE (R557). -/
def execEveBlockReceive (t block : Nat) (s : State) : Out :=
  runOn (.eveBlockReceive t block) (t < nTiles s) s (onDev [.od, .timing, .tiles, .events, .eventBuffer,
      .eventMessages] (eveReceive t block) s)

/-- SAFETY_RECEIVE (R561). -/
def execSafetyReceive (t block : Nat) (s : State) : Out :=
  runOn (.safetyReceive t block) (t < nTiles s) s (onDev [.od, .tiles, .safety, .events, .eventBuffer,
      .eventMessages] (safetyReceive t block) s)

/-- TILE_PORT_VIOLATION (R564). -/
def execTilePortViolation (t : Nat) (s : State) : Out :=
  runOn (.tilePortViolation t) (t < nTiles s) s (onDev [.od, .tiles, .events, .eventBuffer, .eventMessages]
      (tileViolation t) s)

/-- TILE_PORT_LOCK_TIMEOUT (R552). -/
def execTilePortLockTimeout (t : Nat) (s : State) : Out :=
  runOn (.tilePortLockTimeout t) (t < nTiles s) s (onDev [.od, .tiles] (tileTimeout t) s)

/-- TILE_PORT_LOCK_GAIN (R552). -/
def execTilePortLockGain (t lane : Nat) (s : State) : Out :=
  runOn (.tilePortLockGain t lane) (t < nTiles s) s (onDev [.od, .tiles] (laneLock t lane) s)

/-- TILE_PORT_LOCK_LOSS (R549). -/
def execTilePortLockLoss (t lane : Nat) (s : State) : Out :=
  runOn (.tilePortLockLoss t lane) (t < nTiles s) s (onDev [.od] (laneUnlock t lane) s)

/-- TILE_PORT_TAKE_DOWN_END (R564). -/
def execTilePortTakeDownEnd (t : Nat) (s : State) : Out :=
  runOn (.tilePortTakeDownEnd t) (t < nTiles s) s (onDev [.od, .tiles] (tileTakeDownEnd t) s)

/-- TILE_SERDES_DOMAIN_OFF (R754). -/
def execTileSerdesDomainOff (s : State) : Out := run .tileSerdesDomainOff (onDev [.od] tileSerdesOff s)

/-- SAFETY_REPEAT (R560). -/
def execSafetyRepeat (s : State) : Out :=
  run .safetyRepeat (onDev [.tiles] (fun t => if originates t then sendOwn t else t) s)

/-- SAFETY_ORIGIN_COMMAND (R560). -/
def execSafetyOriginCommand (value : Nat) (s : State) : Out :=
  run (.safetyOriginCommand value) (onDev [.od, .tiles, .safety] (fun t => (originCommand value t).2) s)

/-- SAFETY_ORIGIN_EXPIRY (R563). -/
def execSafetyOriginExpiry (origin : Nat) (s : State) : Out :=
  run (.safetyOriginExpiry origin) (onDev [.safety] (originExpiry origin) s)

end Sys2Proof.Machine
end

