-- ==== Sys2Proof/Machine/SafetyState.lean ====
section
/-!
DEFINITION. SAFE_SHOW_N and the end of the safety state (R293 to R301, R560).
-/
namespace Sys2Proof.Machine

/-- SAFE_SHOW_N has been low for 10 us: it is a safety input, which the next eve sees even when the pin is high again by
then, and starts a broadcast when 0x4840:01 says so (R293,
R301, R560). -/
def pinAssert (s : State) : State :=
  let s := cancelRelease (modSafety (fun y => { y with pinLow := true, pinSeen := true, highAt := none }) s)
  let s := modSafety (fun y => { y with originating := true }) s
  if s.reg 0x4840 1 = 1 then startOwn s else s

/-- SAFE_SHOW_N returns high: the second of R300 starts, and its broadcast ends. -/
def pinRelease (s : State) : State :=
  let now := s.now
  if s.dev.safety.pinLow then
    endOwn (modSafety (fun y => { y with pinLow := false, highAt := some now, originating := false }) s)
  else s

/-- A time lies 1 s or more ago, or has never been. -/
def secondAgo (s : State) (t : Option Nat) : Bool := t.all fun t => decide (t + 1000000000000 ≤ s.now)

/-- The conditions of R300 on the inputs. -/
def inputsQuiet (s : State) : Bool :=
  let y := s.dev.safety
  !y.pinLow && secondAgo s y.highAt && y.origins.isEmpty && secondAgo s y.quietAt

/-- SAFETY_RELEASE (R300, R301). -/
def safetyRelease (s : State) : Ans :=
  if s.dev.safety.release.isSome then (0, s)
  else if s.reg 0x3190 2 = 0 ∨ inputsQuiet s = false then (abInUse, s)
  else
    let n := earliestRequest s
    (0, modSafety (fun y => { y with release := some n }) s)

/-- SAFE_SHOW_N_ASSERT (R293). -/
def execSafeShowNAssert (s : State) : Out := run .safeShowNAssert (onDev [.tiles, .safety] pinAssert s)

/-- SAFE_SHOW_N_RELEASE (R300). -/
def execSafeShowNRelease (s : State) : Out := run .safeShowNRelease (onDev [.safety] pinRelease s)

/-- SAFETY_RELEASE (R300). -/
def execSafetyRelease (s : State) : Out := run .safetyRelease (onDev [.safety] (fun t => (safetyRelease t).2) s)

/-- SAFETY_RELEASE_CANCEL (R301). -/
def execSafetyReleaseCancel (s : State) : Out := run .safetyReleaseCancel (onDev [.safety] cancelRelease s)

end Sys2Proof.Machine
end

