-- ==== Sys2Proof/Machine/Freeze.lean ====
section
/-!
DEFINITION. Strips read back from the freeze caches (R164 to R171, R670).
-/
namespace Sys2Proof.Machine

/-- The codes of a strip as a cache packs them go into the strip buffer (R33, R170). -/
def fillStrip (q : Patch) (bytes : List Byte) (s : State) : State :=
  let c := stateOf s q.count
  let w := patchesPerStrip c
  let codes := unpackBits 10 (24 * 5760 * w) (leNat bytes)
  s.each (List.range (24 * w)) fun i s =>
    modSynth (fun y =>
      { y with strips := amPut y.strips (stripKey q.strip (i / w) (i % w)) ((codes.drop (5760 * i)).take 5760) }) s

/-- A strip of a FROZEN frame is read from cache 0, and again from cache 1 when it fails; `bad0` and `bad1` say that a
copy is read with an uncorrectable error. A strip that fails on every copy is sent with KEEP (R170, R171). -/
def freezeStripRead (strip : Nat) (bad0 bad1 : Bool) (s : State) : State :=
  let q : Patch := { count := stripCount s strip, strip := strip, patch := 0 }
  let c := stateOf s q.count
  let n := cacheStripBytes c
  if !c.frozen || !slotFree s q || s.dev.synth.complete.contains q || s.dev.synth.missed.contains q then s
  else
    let all (f : Patch → Synth → Synth) (s : State) : State :=
      s.each (List.range (patchesPerStrip c)) fun p s => modSynth (f { q with patch := p }) s
    let note (k : Nat) (bad : Bool) (s : State) : State :=
      match (place s (cacheBase s k + strip * n)).map (·.copies) with
      | some (i :: _) => if bad then pcUncorrectable i s else s
      | _ => s
    let s := hbmAsk 39 false (cacheBase s 0 + strip * n) n s
    let get (k : Nat) (bad : Bool) : Option (List Byte) := if bad then none else cacheRead s strip k
    let s := note 0 bad0 s
    match get 0 bad0 with
    | some b => all (fun q y => { y with complete := q :: y.complete }) (fillStrip q b s)
    | none =>
      let s := s.iff (cachesMirrored s) (hbmAsk 39 false (cacheBase s 1 + strip * n) n)
      let s := note 1 (bad1 && cachesMirrored s) s
      match get 1 bad1 with
      | some b => all (fun q y => { y with complete := q :: y.complete }) (fillStrip q b s)
      | none =>
        let s := modFreeze (fun f => { f with failed := true, valid := false }) (s.bump 0x2040 4)
        logEvent 171 3 0x2040 0 strip (all (fun q y => { y with missed := q :: y.missed }) s)

/-! ### Commands -/

/-- FREEZE_CACHE_STRIP_READ (R170). -/
def execFreezeCacheStripRead (strip : Nat) (bad0 bad1 : Bool) (s : State) : Out :=
  run (.freezeCacheStripRead strip bad0 bad1) (onDev [.od, .synth, .freeze, .memory, .events, .eventBuffer,
      .eventMessages] (freezeStripRead strip bad0 bad1) s)

end Sys2Proof.Machine
end

