-- ==== Sys2Proof/Machine/Net.lean ====
section
/-!
DEFINITION. The network ports, precision time and the transmit stamps (R516 to R532, R536, R537).
-/
namespace Sys2Proof.Machine

/-! ### Sources (R523 to R527) -/

/-- The other source. -/
def otherSource (c : Nat) : Nat := 1 - c

/-- Mean of some numbers, rounded towards zero; 0 of none. -/
def meanOf (xs : List Int) : Int := if xs.isEmpty then 0 else (xs.foldl (· + ·) 0).tdiv xs.length

/-- Offset of source `c` averaged over the last 64 s (R524), ns. -/
def averageOffset (s : State) (c : Nat) : Int :=
  meanOf (((s.source c).recent.filter fun r => decide (s.now ≤ r.1 + 64000000000000)).map (·.2))

/-- While both sources are valid the device keeps δ (R524). -/
def keepDelta (s : State) : State :=
  if (s.source 0).valid && (s.source 1).valid then
    let d := averageOffset s 1 - averageOffset s 0
    s.modDev fun v => { v with clock := { v.clock with delta := d } }
  else s

/-- The δ held, as it refers to source `c` (R525). -/
def deltaFor (s : State) (c : Nat) : Int := if c = 1 then s.dev.clock.delta else -s.dev.clock.delta

/-- Local time is reckoned from now on, with the same frequency correction (R527). -/
def Clock.rebase (now : Nat) (c : Clock) : Clock :=
  { c with adj := c.adj + (c.freq * (now - c.movedAt : Nat)).tdiv 1000000000, movedAt := now }

/-- Source `c` takes over from an active one that has become invalid (R525). -/
def switchTo (c : Nat) (s : State) : State :=
  let d := if (s.source c).former then 0 else deltaFor s c
  let s := modSource (otherSource c) (fun x => { x with former := true }) s
  let s := modSource c (fun x => { x with former := false }) s
  let now := s.now
  let s := s.modDev fun v => { v with clock := { v.clock.rebase now with decayAt := now } }
  let s := (s.setReg 0x4802 3 (ofSigned 32 (saturate 32 d))).bump 0x4802 4
  logEvent 525 1 0x4802 0 c (synchronise c s)

/-- Sources become invalid at one time; an active one hands over to the other where that stays valid, or local time
enters HOLDOVER (R519, R523, R525, R527). -/
def sourcesLost (cs : List Nat) (s : State) : State :=
  let s := s.each cs fun c s =>
    let s := modSource c (fun x => { x with valid := false, offsets := [], jumps := 0 }) s
    s.iff (s.reg (0x4800 + c) 6 == 4) (·.setReg (0x4800 + c) 6 3)
  let a := s.reg 0x4802 1
  if cs.contains a then
    if (s.source (otherSource a)).valid then switchTo (otherSource a) s else enterHoldover s
  else s

/-- Source `c` becomes invalid (R523). -/
def sourceLost (c : Nat) (s : State) : State := sourcesLost [c] s

/-- The port states of sources leave SLAVE at one time (R519, R523). -/
def leaveSlaves (cs : List Nat) (s : State) : State :=
  (sourcesLost cs s).each cs fun c s =>
    s.iff (decide (2 ≤ s.reg (0x4800 + c) 6)) (·.setReg (0x4800 + c) 6 1)

/-- A source's port state leaves SLAVE (R523). -/
def leaveSlave (c : Nat) (s : State) : State := leaveSlaves [c] s

/-- The last 16 offsets lie within ±1 µs of their mean (R523). -/
def offsetsSteady (xs : List Int) : Bool :=
  xs.length == 16 && xs.all fun o => decide ((o - meanOf xs).natAbs ≤ 1000)

/-- Source `c` becomes valid. Without an active source it becomes the active one; the first valid source after a reset
steps local time, and the offsets of both sources are from it (R524, R527). -/
def sourceGood (c : Nat) (s : State) : State :=
  let now := s.now
  let o := ((s.source c).offsets.head?).getD 0
  let s := (modSource c (fun x => { x with valid := true, validSince := now }) s).setReg (0x4800 + c) 6 4
  if s.reg 0x4802 1 = 2 then
    let first := !s.dev.clock.everValid
    let s := s.modDev fun v =>
      let k := v.clock.rebase now
      { v with clock := { k with adj := if first then k.adj + 1000 * o else k.adj, everValid := true, decayAt := now } }
    let s := s.iff first fun s => s.each [0, 1] fun i => modSource i fun x =>
      { x with offsets := x.offsets.map (· - o), recent := x.recent.map fun r => (r.1, r.2 - o) }
    let s := modSource c (fun x => { x with former := false }) s
    synchronise c (s.setReg 0x4802 3 0)
  else s

/-- The magnitude of δ_s falls by 10 ns for each whole second (R525). -/
def decayDelta (s : State) : State :=
  let k := (s.now - s.dev.clock.decayAt) / 1000000000000
  let d := toSigned 32 (s.reg 0x4802 3)
  let fall : Int := 10 * k
  let e := if 0 ≤ d then max 0 (d - fall) else min 0 (d + fall)
  (s.modDev fun v => { v with clock := { v.clock with decayAt := v.clock.decayAt + 1000000000000 * k } }).setReg 0x4802 3
    (ofSigned 32 e)

/-- Local time moves to the active source, by at most 100 us for each second that has passed, the frequency correction
included (R525, R527). The servo is firmware's; this is the bound the manual gives it, and the frequency correction that
it leaves, at most 100 parts in 10^6, is free (DESIGN CHOICE, log 21). -/
def disciplineTo (o : Int) (s : State) : State :=
  let s := decayDelta s
  let elapsed := s.now - s.dev.clock.movedAt
  let limit : Int := (elapsed / 10000 : Nat)
  let drift := (s.dev.clock.freq * elapsed).tdiv 1000000000
  let move := clamp (-limit) limit (drift + 1000 * (o - toSigned 32 (s.reg 0x4802 3)))
  let freq : Int := (freeValue s % 200001 : Nat) - 100000
  let now := s.now
  drawFree (s.modDev fun v => { v with clock := { v.clock with adj := v.clock.adj + move, freq := freq, movedAt := now } })

/-- A PHY latency of port `p`, ps: 0 receive, 1 transmit (R522). -/
def phyLatency (s : State) (p k : Nat) : Nat := (s.reg 0x4802 8 >>> (32 * (2 * p + k))) % 2 ^ 32

/-- The receive stamp of an event message on port `p`, ns (R522). -/
def receiveStamp (s : State) (p : Nat) : Int := (localTime s - phyLatency s p 0).fdiv 1000

/-- A Sync sent at `t` and received at `rx` gives source `c` its offset from local time (R523). -/
def syncOffset (c : Nat) (t rx : Int) (s : State) : State :=
  if s.reg (0x4800 + c) 6 < 3 then s
  else
    let x := s.source c
    let o := t + s.reg (0x4800 + c) 8 - rx
    let jump := match x.offsets.head? with
      | some a => decide (1000000 < (o - a).natAbs)
      | none => false
    let jumps := if jump then x.jumps + 1 else 0
    let now := s.now
    let s := modSource c (fun x =>
      { x with offsets := (o :: x.offsets).take 16
               recent := (now, o) :: x.recent.filter (fun r => decide (now ≤ r.1 + 64000000000000))
               jumps := jumps, t1 := t, t2 := rx }) s
    let s := s.setReg (0x4800 + c) 7 (ofSigned 32 (saturate 32 o))
    if 3 ≤ jumps then sourceLost c s
    else
      let s := keepDelta (if !(s.source c).valid && offsetsSteady (s.source c).offsets then sourceGood c s else s)
      if s.reg 0x4802 1 = c ∧ (s.source c).valid then disciplineTo o s else s

/-- An Announce reaches source `c` (R520, R523). -/
def announceReceive (c : Nat) (m : PtpMsg) (s : State) : State :=
  let old := s.reg (0x4800 + c) 9
  let s := if old ≠ m.grandmaster ∧ (s.source c).valid then sourceLost c s else s
  let s := s.setReg (0x4800 + c) 9 (m.grandmaster % 2 ^ 64)
  if m.slave then s.iff (decide (s.reg (0x4800 + c) 6 < 3)) (·.setReg (0x4800 + c) 6 3) else leaveSlave c s

/-- A Sync reaches source `c` on port `p`: one of two steps waits for its follow-up (R520, R522). -/
def syncReceive (c p : Nat) (m : PtpMsg) (s : State) : State :=
  let rx := receiveStamp s p
  if m.twoStep then modSource c (fun x => { x with sync := some (m.seqId, rx, m.t) }) s else syncOffset c m.t rx s

/-- A Follow_Up reaches source `c`. -/
def syncFollow (c : Nat) (m : PtpMsg) (s : State) : State :=
  match (s.source c).sync with
  | none => s
  | some (q, rx, correction) =>
    if q = m.seqId then syncOffset c (m.t + correction) rx (modSource c (fun x => { x with sync := none }) s) else s

/-- The mean path delay of source `c`, ns. -/
def putDelay (c : Nat) (d : Int) (s : State) : State := s.setReg (0x4800 + c) 8 (clamp 0 0xFFFFFFFF d).toNat

/-- The stamp of a request that left port `p`, found by its three identifiers (R528, R531). -/
def askedAt (s : State) (p msgtype domain seqId : Nat) : Option Int :=
  ((s.eth p).asked.find? fun a => a.msgtype == msgtype && a.domain == domain && a.seqId == seqId).map (·.time)

/-- A Delay_Resp reaches source `c`: the mean path delay of the end-to-end mechanism (R520). -/
def delayReceive (c p : Nat) (m : PtpMsg) (s : State) : State :=
  let x := s.source c
  match askedAt s p 1 m.domain m.seqId with
  | none => s
  | some t3 => if s.reg (0x4800 + c) 4 = 0 then putDelay c (((x.t2 - x.t1) + (m.t - t3)).tdiv 2) s else s

/-- A Pdelay_Req is stamped, and waits for its answer (R520, R522). -/
def pdelayRequest (p : Nat) (m : PtpMsg) (s : State) : State :=
  let rx := receiveStamp s p
  modEth p (fun e => { e with pdelay := (⟨2, m.domain, m.seqId, rx⟩ :: e.pdelay).take 32 }) s

/-- A Pdelay_Resp reaches source `c`: the mean link delay of the peer-to-peer mechanism, or half of it (R520, R522). -/
def pdelayReceive (c p : Nat) (m : PtpMsg) (s : State) : State :=
  match askedAt s p 2 m.domain m.seqId with
  | none => s
  | some t1 =>
    let trip := receiveStamp s p - t1
    if s.reg (0x4800 + c) 4 ≠ 1 then s
    else if m.twoStep then modSource c (fun x => { x with peer := some (m.seqId, m.t, trip) }) s
    else putDelay c ((trip - m.t).tdiv 2) s

/-- A Pdelay_Resp_Follow_Up reaches source `c`. -/
def pdelayFollow (c : Nat) (m : PtpMsg) (s : State) : State :=
  match (s.source c).peer with
  | none => s
  | some (q, t2, trip) =>
    if q = m.seqId then putDelay c ((trip - (m.t - t2)).tdiv 2) (modSource c (fun x => { x with peer := none }) s) else s

/-- The source that takes a message of a domain over a transport on a port (R520). -/
def sourceOf (s : State) (p domain transport : Nat) : Option Nat :=
  [0, 1].find? fun c => s.reg (0x4800 + c) 1 == 1 && s.reg (0x4800 + c) 3 == p && s.reg (0x4800 + c) 2 == domain &&
    s.reg (0x4800 + c) 5 == transport

/-- A PTP violation on port `p` (R521): more than 1,000 within 1 s lock its PTP out. -/
def ptpViolation (p : Nat) (s : State) : State :=
  let all := s.reg 0x4802 9
  let n := (all >>> (32 * p)) % 2 ^ 32
  let s := if n = 0xFFFFFFFF then s else s.setReg 0x4802 9 (all + 2 ^ (32 * p))
  let ts := s.now :: within1s s.now (s.eth p).violations
  if 1000 < ts.length then
    logEvent 521 6 (0x4812 + p) 0 0 (modEth p (fun e => { e with violations := [], lockout := true }) s)
  else modEth p (fun e => { e with violations := ts }) s

/-- A message of a kind or version that is not supported (R520, R521). -/
def unsupported (m : PtpMsg) : Bool := m.kind == .unsupported || (m.version != 20 && m.version != 21)

/-- A message reaches source `c`, which takes it on port `p` (R520 to R523). -/
def sourceReceive (c p : Nat) (m : PtpMsg) (s : State) : State :=
  match m.kind with
  | .announce => announceReceive c m s
  | .sync => syncReceive c p m s
  | .followUp => syncFollow c m s
  | .delayResp => delayReceive c p m s
  | .pdelayReq => pdelayRequest p m s
  | .pdelayResp => pdelayReceive c p m s
  | .pdelayFollowUp => pdelayFollow c m s
  | .unsupported => s

/-- A PTP message arrives on port `p` (R520 to R523). While the management cores are stopped the servo takes none
(R865). -/
def ptpReceive (p : Nat) (m : PtpMsg) (s : State) : State :=
  if (s.eth p).lockout || s.reg 0x6020 3 != 0 then s
  else if unsupported m then ptpViolation p s
  else
    match sourceOf s p m.domain m.transport with
    | none => s
    | some c => sourceReceive c p m s

/-- A former active source has been valid for 64 s: it becomes the standby (R526). -/
def standbyRestore (c : Nat) (s : State) : State :=
  let x := s.source c
  if x.valid && x.former && decide (x.validSince + 64000000000000 ≤ s.now) then
    modSource c (fun x => { x with former := false }) s
  else s

/-! ### Ports (R516 to R519) -/

/-- Port `p` gains block lock at 10GBASE-R or at 1000BASE-X: a port that is down links at the rate that it tries, and its
sources begin to listen; a port that has a link keeps it and its rate (R516). -/
def ethUp (p : Nat) (tenG : Bool) (s : State) : State :=
  if s.reg (0x4812 + p) 1 ≠ 0 ∨ tenG = (s.eth p).try1G then s
  else
  let s := s.setReg (0x4812 + p) 1 (if tenG then 2 else 1)
  s.each [0, 1] fun c t =>
    t.iff (t.reg (0x4800 + c) 1 == 1 && t.reg (0x4800 + c) 3 == p && t.reg (0x4800 + c) 6 == 0) (·.setReg (0x4800 + c) 6 1)

/-- Port `p` loses link: every source on it becomes invalid at once (R519). -/
def ethDown (p : Nat) (s : State) : State :=
  let s := modEth p (fun e => { e with try1G := false }) (s.setReg (0x4812 + p) 1 0)
  leaveSlaves ([0, 1].filter fun c => s.reg (0x4800 + c) 3 == p) s

/-- A port without lock for 1 s tries the other rate (R516). -/
def ethAlternate (p : Nat) (s : State) : State :=
  if s.reg (0x4812 + p) 1 = 0 then modEth p (fun e => { e with try1G := !e.try1G }) s else s

/-- A frame is accepted by its protocol and tag (R517). -/
def frameTaken (s : State) (proto : EthProto) (vlan : Option Nat) : Bool :=
  proto != .other &&
    match vlan with
    | none => true
    | some v => addressInForce s 8 == 1 && addressInForce s 9 % 4096 == v % 4096

/-- A frame arrives on port `p`; one that is not accepted is discarded and counted (R517). -/
def frameReceive (p : Nat) (proto : EthProto) (vlan : Option Nat) (s : State) : State :=
  if frameTaken s proto vlan then s else s.bump (0x4812 + p) 2

/-- Bits sent on a port within the 1 ms that ends now. -/
def sentLately (s : State) (p : Nat) : List (Nat × Nat) :=
  (s.eth p).sent.filter fun x => decide (s.now < x.1 + 1000000000)

/-- Bits that the cap leaves to a port now: the cap in kbit/s is bits in a millisecond (R518, R838). -/
def capLeft (s : State) (p : Nat) : Nat :=
  s.ceilings.rec2.transmitCap - ((sentLately s p).map (·.2)).foldl (· + ·) 0

/-- Frames wait in order and leave as the cap allows (R518): those that still wait, and the bits sent. -/
def drainFrames (now cap : Nat) : List EthFrame → List (Nat × Nat) → List EthFrame × List (Nat × Nat)
  | [], sent => ([], sent)
  | b :: bs, sent =>
    if (sent.map (·.2)).foldl (· + ·) 0 + 8 * b.size ≤ cap then drainFrames now cap bs (sent ++ [(now, 8 * b.size)])
    else (b :: bs, sent)

/-- Frames leave on port `p`: the NCP frames among them are seen by their destinations. -/
def framesLeave (p : Nat) (fs : List EthFrame) (s : State) : State :=
  let out := fs.filterMap fun f => f.ncp.map fun x => (p, x.1, x.2)
  if out.isEmpty then s else modNcp (fun n => { n with sent := (out.reverse ++ n.sent).take 64 }) s

/-- The frames that wait on port `p` leave as far as the cap allows now (R518): when a line starts, and when another
frame is made (DESIGN CHOICE, log 190). -/
def ethDrain (p : Nat) (s : State) : State :=
  let waiting := (s.eth p).waiting
  if waiting.isEmpty then s
  else
    let (left, sent) := drainFrames s.now s.ceilings.rec2.transmitCap waiting (sentLately s p)
    framesLeave p (waiting.take (waiting.length - left.length)) (modEth p (fun e => { e with waiting := left, sent := sent }) s)

/-- A frame generated by firmware leaves on port `p`, waits, or is dropped (R518). -/
def frameOut (p : Nat) (f : EthFrame) (s : State) : State :=
  let now := s.now
  let s := ethDrain p s
  let lately := sentLately s p
  let s := modEth p (fun e => { e with sent := lately }) s
  if (s.eth p).waiting.isEmpty && decide (8 * f.size ≤ capLeft s p) then
    framesLeave p [f] (modEth p (fun e => { e with sent := e.sent ++ [(now, 8 * f.size)] }) s)
  else if (((s.eth p).waiting.map (·.size)).foldl (· + ·) 0) + f.size ≤ 65536 then
    modEth p (fun e => { e with waiting := e.waiting ++ [f] }) s
  else s.bump (0x4812 + p) 3

/-- A frame of `bytes` bytes that is no NCP frame. -/
def frameSend (p bytes : Nat) (s : State) : State := frameOut p { size := bytes } s

/-! ### Transmit stamps (R528 to R531) -/

/-- A transmit stamp entry (R529). -/
def stampEntry (time msgtype domain seqId : Nat) : Nat :=
  time % 2 ^ 80 + seqId % 2 ^ 16 * 2 ^ 80 + msgtype % 16 * 2 ^ 96 + domain % 256 * 2 ^ 104

/-- An event message leaves port `p` in two steps, so that it enters a stamp: Delay_Req, Pdelay_Req, and a Pdelay_Resp
unless 0x4802:06 chooses one step (R528). -/
def entersStamp (s : State) (msgtype : Nat) : Bool :=
  msgtype == 1 || msgtype == 2 || (msgtype == 3 && s.reg 0x4802 6 == 0)

/-- A Pdelay_Resp answers a request received: one of one step carries the turnaround (R520, R528). -/
def pdelayAnswer (p domain seqId : Nat) (tx : Int) (s : State) : State :=
  let oneStep := s.reg 0x4802 6 != 0
  modEth p (fun e =>
    match e.pdelay.find? fun a => a.domain == domain && a.seqId == seqId with
    | none => e
    | some a => { e with pdelay := e.pdelay.erase a, turnaround := if oneStep then some (tx - a.time) else none }) s

/-- An event message leaves port `p` (R522, R528); a full queue drops the stamp (R531). -/
def stampEnqueue (p msgtype domain seqId : Nat) (s : State) : State :=
  let time := localTime s + phyLatency s p 1
  let s := if msgtype = 3 then pdelayAnswer p domain seqId (time.fdiv 1000) s else s
  if !entersStamp s msgtype then s
  else if 32 ≤ (s.eth p).stamps.length then (s.bump (0x4810 + p) 3).setReg (0x4810 + p) 4 1
  else
    let e := stampEntry (time80 time.toNat) msgtype domain seqId
    let s := modEth p (fun x =>
      { x with stamps := x.stamps ++ [e], asked := (⟨msgtype, domain, seqId, time.fdiv 1000⟩ :: x.asked).take 32 }) s
    s.setReg (0x4810 + p) 2 (s.eth p).stamps.length

/-- The oldest stamp; 0 of an empty queue (R530). -/
def stampOldest (s : State) (p : Nat) : Nat := (s.eth p).stamps.headD 0

/-- Reading the stamp removes it (R530). -/
def stampRead (p : Nat) (s : State) : State :=
  let s := modEth p (fun x => { x with stamps := x.stamps.drop 1 }) s
  s.setReg (0x4810 + p) 2 (s.eth p).stamps.length

/-! ### Relock and the epoch (R536, R537) -/

/-- An item, cue, commit or band update is admitted with a target. -/
def anythingTargeted (s : State) : Bool :=
  !s.dev.host.items.isEmpty || s.dev.commitPending.isSome || s.dev.commitCaptured.isSome || !s.dev.bandUpdates.isEmpty

/-- Frame lock returns to FREE_RUN, and the pins outside SCHEDULED are inactive from then on; or the write is refused
(R537, R568). -/
def relock (s : State) : Ans :=
  if anythingTargeted s then (abInUse, s)
  else (0, pinsIdle (modTiming (fun t => { t with inLock := 0, outLock := 0, jump := none, trimNext := 0 })
    ((s.setReg 0x4821 1 0).setReg 0x4821 3 0)))

/-- A TIME80 is in range (R532). -/
def time80Good (v : Nat) : Bool := decide (v < 2 ^ 80) && decide (bits v 79 48 < 1000000000)

/-- A write of the epoch or of the anchor (R532, R534, R536). A new epoch starts the first segment (DEDUCED, log 22). -/
def epochWrite (sub v : Nat) (s : State) : Ans :=
  if frameLock s ≠ 0 then (abInUse, s)
  else if sub = 2 then if v < 2 ^ 64 then (0, s.setReg 0x4820 2 v) else (abRange, s)
  else if !time80Good v then (abRange, s)
  else if sub = 1 then (0, ((s.setReg 0x4820 1 v).setReg 0x4820 2 0).setReg 0x4820 3 v)
  else (0, s.setReg 0x4820 3 v)

/-! ### Commands -/

/-- EP_LINK_UP (R516). -/
def execEpLinkUp (p : Nat) (tenG : Bool) (s : State) : Out := run (.epLinkUp p tenG)
    (onDev [.od] (ethUp p tenG) s)

/-- EP_LINK_DOWN (R519). -/
def execEpLinkDown (p : Nat) (s : State) : Out :=
  run (.epLinkDown p) (onDev [.od, .timing, .clock, .sources, .eth, .events, .eventBuffer, .eventMessages] (ethDown
      p) s)

/-- EP_RATE_ALTERNATE (R516). -/
def execEpRateAlternate (p : Nat) (s : State) : Out := run (.epRateAlternate p) (onDev [.eth] (ethAlternate p) s)

/-- ETHERNET_FRAME_RECEIVE (R517). -/
def execEthernetFrameReceive (p : Nat) (proto : EthProto) (vlan : Option Nat) (s : State) : Out :=
  run (.ethernetFrameReceive p proto vlan) (onDev [.od] (frameReceive p proto vlan) s)

/-- ETHERNET_TRANSMIT (R518). -/
def execEthernetTransmit (p bytes : Nat) (s : State) : Out :=
  run (.ethernetTransmit p bytes) (onDev [.od, .eth, .ncp] (frameSend p bytes) s)

/-- PTP_MESSAGE_RECEIVE (R522). -/
def execPtpMessageReceive (p : Nat) (msg : PtpMsg) (s : State) : Out :=
  run (.ptpMessageReceive p msg) (onDev [.od, .timing, .clock, .sources, .eth, .events, .eventBuffer,
      .eventMessages, .drawn] (ptpReceive p msg) s)

/-- PTP_LOCKOUT_END (R521). -/
def execPtpLockoutEnd (p : Nat) (s : State) : Out :=
  run (.ptpLockoutEnd p) (onDev [.eth] (modEth p fun e => { e with lockout := false }) s)

/-- TRANSMIT_STAMP_ENQUEUE (R528). -/
def execTransmitStampEnqueue (p msgtype domain seqId : Nat) (s : State) : Out :=
  run (.transmitStampEnqueue p msgtype domain seqId) (onDev [.od, .eth] (stampEnqueue p msgtype domain seqId) s)

/-- TRANSMIT_STAMP_READ (R530). -/
def execTransmitStampRead (p : Nat) (s : State) : Out := run (.transmitStampRead p)
    (onDev [.od, .eth] (stampRead p) s)

/-- SYNC_TIMEOUT (R523). -/
def execSyncTimeout (src : Nat) (s : State) : Out :=
  run (.syncTimeout src) (onDev [.od, .timing, .clock, .sources, .events, .eventBuffer, .eventMessages] (sourceLost
      src) s)

/-- SOURCE_INVALID (R525). -/
def execSourceInvalid (src : Nat) (s : State) : Out :=
  run (.sourceInvalid src) (onDev [.od, .timing, .clock, .sources, .events, .eventBuffer, .eventMessages]
      (leaveSlave src) s)

/-- SOURCE_STANDBY_RESTORE (R526). -/
def execSourceStandbyRestore (src : Nat) (s : State) : Out :=
  run (.sourceStandbyRestore src) (onDev [.sources] (standbyRestore src) s)

/-- RELOCK (R537). -/
def execRelock (s : State) : Out :=
  run .relock (onDev [.od, .timing, .timeOut] (fun t => (relock t).2) s)

/-- FRAME_EPOCH_WRITE (R536). -/
def execFrameEpochWrite (sub value : Nat) (s : State) : Out :=
  run (.frameEpochWrite sub value) (onDev [.od] (fun t => (epochWrite sub value t).2) s)

end Sys2Proof.Machine
end

