-- ==== Sys2Proof/Machine/Scan.lean ====
section
/-!
DEFINITION. The line of a frame: scan engines, output FIFOs, line packets, the strips' releases and deadlines, region
signatures, the vigil's frame-end sequences, port modes and retrains (R283 to R292, R355 to R374, R404 to R412, R428
to R443, R456, R846, R848).
-/
namespace Sys2Proof.Machine

/-! ### Proxy content (R751, R848, R853 to R856) -/

/-- `len` bytes of the proxy image in the store from offset `off` on. -/
def proxyBytes (s : State) (off len : Nat) : List Byte :=
  (List.range len).map fun i => (pageBytes s.nv (4096 + (off + i) / 64)).getD ((off + i) % 64) 0

/-- The proxy image's value for a hogel, and the ROM pictogram's without a valid image (R848, R854, R855). -/
def proxyImageValue (s : State) (hx hy : Nat) : Rgba :=
  if proxyGood s then
    let i := leNat (proxyBytes s (1600 + leNat (proxyBytes s 6 2) * (hy / 4) + hx / 4) 1)
    let e := proxyBytes s (64 + 6 * i) 6
    { r := fieldLE e 0 2, g := fieldLE e 2 2, b := fieldLE e 4 2 }
  else pictogram hx hy

/-- The source of a hogel's PROXY value: the safety image at the hogel, or the proxy image (R751, R848). In a zone that a
re-drive affects it is 0 until the journal is closed (R509). -/
def proxyValue (s : State) (c : Committed) (hx hy : Nat) : Rgba :=
  if hasBit s.dev.lens.affected (hy / 60) then { r := 0, g := 0, b := 0 }
  else if c.safety then safetyValue { c with zones2D := 0 } (shownImage s c) (24 * hx + 12) (12 * hy + 6)
  else proxyImageValue s hx hy

/-- The drive code of colour `k` of a PROXY value, as the emitter of view (12, 6) of its hogel (R848). Its neighbours
have no values, so it receives no share of them (DEDUCED, log 34). -/
def proxyCode (s : State) (c : Committed) (n hx hy k : Nat) : Nat :=
  let xe := 24 * hx + 12
  let ye := 12 * hy + 6
  let h := halfOf xe
  let g := gainByte s c n xe ye k
  let v := if g = 0 then 0 else matrixStage c h k (proxyValue s c hx hy)
  let z := zoneOf c xe ye
  let post := gainStage (gammaStage c h k v) g (agingFactor c z k) * zoneScaleAt s c n z / 65536
  ditherStage post (ditherOffset c (decide (1 ≤ freezeState s n)) n xe ye k)

/-- The frame of count `n` shows proxy content on every port (R750, R852). -/
def showsProxy (s : State) (n : Nat) : Bool := (stateOf s n).thermal || !lightFieldAt s n

/-! ### Line packets (R355, R356, R364, R405, R410) -/

/-- Emitter columns of a port. -/
def portColumns (c : Committed) : Nat := if c.obj 0x3800 3 = 1 then 960 else 480

/-- The raster half of port `p`. -/
def portHalf (c : Committed) (p : Nat) : Nat := halfOf (portColumns c * p)

/-- The codes that link `l` carries of a line in a depth. -/
def lineCodes (s : State) (n line l depth : Nat) : List Nat :=
  let c := stateOf s n
  let w := portColumns c
  let x0 := w * (l / 2)
  let codes (row : Nat) : List Nat :=
    (amGetD s.dev.synth.strips (stripKey (line / 24) row (x0 / 1920)) []).drop (3 * (x0 % 1920))
  match depth with
  | 0 => ((codes (line % 24)).drop (3 * (l % 2 * (w / 2)))).take (3 * (w / 2))
  | 1 => ((codes (line % 24)).take (3 * w)).map halfCode
  | _ =>
    let row := codes (line / 12 % 2 * 12 + 6)
    ((List.range (w / 24)).map fun q => (List.range 3).map fun k =>
      if showsProxy s n then proxyCode s c n (x0 / 24 + q) (line / 12) k
      else nth row (3 * (24 * q + 12) + k)).flatten

/-- What link `l` is to send for a line: KEEP when its half is stopped or its patch is missed, otherwise a packet in
the depth of the port's mode (R364, R374, R454). -/
def lineOf (s : State) (n line l mode : Nat) : LinkTx :=
  let c := stateOf s n
  let x0 := portColumns c * (l / 2)
  let q : Patch := { count := n, strip := line / 24, patch := x0 / 1920 }
  let depth := if mode = 0 then 0 else if mode ≤ 2 then 1 else 2
  if s.reg 0x3820 (portHalf c (l / 2) + 1) = 4 ∨ (!showsProxy s n && s.dev.synth.missed.contains q) then .keep line 0
  else .sol line depth 0 (lineCodes s n line l depth)

/-- PROXY values of the safety image are read when a strip's first line is (R281). -/
def proxyReads (n line : Nat) (s : State) : State :=
  s.iff (showsProxy s n && line % 24 == 0) (proxyFetches n (line / 24))

/-- The scan engines read a line into the output FIFO of every link that carries its port (R361 to R363); `mode` gives
the mode of a port for the line. -/
def readLine (n line : Nat) (mode : Nat → Nat) (s : State) : State :=
  (proxyReads n line s).each (List.range (nLinks s)) fun l s =>
    let m := mode (l / 2)
    let x := if carriesIn s m l then some (lineOf s n line l m) else none
    modLink l (fun k => { k with fifo := x }) s

/-- Drive codes last sent in what a link has been sending, as 10-bit codes (R366). -/
def lastCodes (old : List Nat) : LinkTx → List Nat
  | .sol _ depth _ codes =>
    if codes.length < 3 then old
    else let t := codes.drop (codes.length - 3); if depth = 1 then t.map halfShown else t
  | _ => old

/-- The data blocks of a line packet on link `l` (R404 to R407). -/
def packetBlocksOf (s : State) (l line depth seq : Nat) (codes : List Nat) : List Nat :=
  dataBlocks (packetData l line depth (widePorts s) (solBlock l line depth seq) codes)

/-- A link starts its line: the SOL or KEEP takes the next SEQ, and the packet's data blocks follow the SOL (R362, R404,
R411, R412). -/
def sendLine (l : Nat) (s : State) : State :=
  let x := s.link l
  let last := lastCodes x.last x.tx
  let go (tx : LinkTx) (blk : Nat) (data : List Nat) : State :=
    (modLink l (fun k =>
      { k with tx := tx, data := data, fifo := none, last := last, seq := (k.seq + 1) % 2 ^ 16
               lastSeq := some x.seq }) (sendBlock l blk s)).bumpSeq (0x4100 + l) 0x0E
  match x.fifo with
  | some (.sol line depth _ codes) =>
    go (.sol line depth x.seq codes) (solBlock l line depth x.seq) (packetBlocksOf s l line depth x.seq codes)
  | some (.keep line _) => go (.keep line x.seq) (keepBlock l line x.seq) []
  | _ =>
    match x.tx with
    | .pattern _ _ => s
    | _ => modLink l (fun k => { k with tx := .idle, data := [], last := last }) s

/-! ### Underruns (R365 to R368) -/

/-- The line on link `l` underruns after `sent` values. -/
def underrun (l sent : Nat) (s : State) : State :=
  match (s.link l).tx with
  | .sol line depth seq codes =>
    let p := l / 2
    let old := (s.link l).last
    let have' := codes.take (3 * sent)
    let fill := if sent = 0 then (if depth = 1 then old.map halfCode else old) else have'.drop (have'.length - 3)
    let tail := (List.replicate ((codes.length - have'.length) / 3) fill).flatten
    let out := have' ++ tail
    let data := packetBlocksOf s l line depth seq out
    let s := modLink l (fun k => { k with tx := .sol line depth seq out, data := data }) s
    let s := s.setReg 0x3831 1 (frameNo s + line * 2 ^ 32 + p * 2 ^ 47)
    if s.dev.timing.underran.contains p then s
    else modTiming (fun t => { t with underran := p :: t.underran }) (s.bump 0x3830 (p + 1))
  | _ => s

/-- The line has ended: a half's first underrun of the frame is logged with its lowest-numbered port (R368). -/
def underrunEvents (s : State) : State :=
  let s := s.each [0, 1] fun h s =>
    let ps := s.dev.timing.underran.filter fun p => portHalf s.dev.live p == h
    match ps with
    | [] => s
    | p :: qs =>
      if s.dev.timing.underLogged.contains h then s
      else
        logEvent 368 3 0x3830 0 (frameNo s + (s.dev.timing.line - 1) * 2 ^ 32 + qs.foldl min p * 2 ^ 47)
          (modTiming (fun t => { t with underLogged := h :: t.underLogged }) s)
  modTiming (fun t => { t with underran := [] }) s

/-! ### Scan engines (R370 to R374) -/

/-- At the first line of a strip the engine that remains drives its half alone (R372). -/
def takeAlone (h line : Nat) (s : State) : State :=
  match amGet s.dev.timing.engineFailed h with
  | some v =>
    if line % 24 = 0 then
      modTiming (fun t => { t with engineFailed := amErase t.engineFailed h }) (s.setReg 0x3820 (h + 1) v)
    else s
  | none => s

/-- The comparison of a line before it enters the FIFOs of half `h` (R371 to R374). Once an engine is marked failed the
lines come from the other one, unchecked, which drives the half alone from the next strip on. -/
def scanEngine (h line : Nat) (k : ScanCheck) (s : State) : State :=
  let s := takeAlone h line s
  let st := s.reg 0x3820 (h + 1)
  let fail (v : Nat) (s : State) : State := latch 2 (modTiming (fun t => { t with engineFailed := amPut t.engineFailed h v }) s)
  let stop (s : State) : State := logEvent 374 3 0x3820 (h + 1) 0 (latch 2 (s.setReg 0x3820 (h + 1) 4))
  if st = 4 ∨ (amGet s.dev.timing.engineFailed h).isSome = true then s
  else if st = 2 ∨ st = 3 then if k.driverParity then stop s else s
  else if !k.differ then s
  else
    let s := s.bump 0x3820 3
    if k.driverParity && k.checkerParity then stop s
    else if k.checkerParity then fail (if st = 0 then 2 else 3) s
    else
      let s := fail (if st = 0 then 3 else 2) s
      if k.driverParity then s else logEvent 372 2 0x3820 (h + 1) 0 (s.bump 0x3820 4)

/-! ### Region signatures (R283 to R292) -/

/-- First and last strip of region `r`. -/
def regionStrips (c : Committed) (r : Nat) : Nat × Nat :=
  let y := bits (c.obj (0x3100 + r) 2) 27 16
  let h := bits (c.obj (0x3100 + r) 3) 27 16
  (min 719 (y / 2), min 719 ((y + max 1 h - 1) / 2))

/-- The patches that region `r` covers. -/
def regionPatches (c : Committed) (n r : Nat) : List Patch :=
  let x := bits (c.obj (0x3100 + r) 2) 11 0
  let w := bits (c.obj (0x3100 + r) 3) 11 0
  let (a, b) := regionStrips c r
  ((List.range (b + 1 - a)).map fun i => (List.range (patchesPerStrip c)).filterMap fun p =>
    if 80 * p < x + w ∧ x ≤ 80 * p + 79 then some { count := n, strip := a + i, patch := p } else none).flatten

/-- The signature input of region `r`, in ascending line and column: the keys rise in that order (R283). -/
def signatureBytes (s : State) (n r : Nat) : List Byte :=
  let lo := signatureKey n r 0 0
  ((s.dev.synth.signature.filter fun e => decide (lo ≤ e.1) && decide (e.1 < lo + 17280 * 61440)).map
    fun e => natLE e.2 8).flatten

/-- The fold word of region `r` (R284). -/
def regionFold (c : Committed) (r : Nat) : Nat :=
  let o := c.obj (0x3100 + r) 2
  r * 2 ^ 24 + bits o 27 16 * 2 ^ 12 + bits o 11 0

/-- The first frame whose composition of region `r`'s first strip starts after the result of the frame of count `n` is
known: the frame after it, or the next one where the region's first strip in that frame is released before the result
(R289, R290). -/
def actsFrom (s : State) (c : Committed) (n r : Nat) : Nat :=
  let next := if n = s.dev.timing.count then nextCount s else n + max 1 s.dev.timing.holdNext
  let a := (regionStrips (stateOf s next) r).1
  let b := (regionStrips c r).2
  if a < 8 ∧ 24 * (712 + a) + 2 ≤ 24 * b then next + 1 else next

/-- A mismatch of region `r` in the frame of count `n` (R288, R289). An action that was to end goes on, or starts again
after its end. -/
def regionMismatch (c : Committed) (n r : Nat) (s : State) : State :=
  let x := s.region r
  let start := actsFrom s c n r
  let s := (s.setReg (0x3100 + r) 7 1).bump (0x3100 + r) 9
  let s := s.iff (!x.mismatching) (logEvent 288 (if 2 ≤ c.obj (0x3100 + r) 1 then 3 else 1) (0x3100 + r) 0 n)
  let s := modRegion r (fun x =>
    let x := { x with agreeing := 0, mismatching := true, compared := some n }
    match x.endAt with
    | none => if x.active then x else { x with startAt := some (x.startAt.getD start) }
    | some e => if start ≤ e then { x with endAt := none } else { x with startAt := some (x.startAt.getD start) }) s
  if freezeState s n = 1 && !s.dev.freeze.failed then
    logEvent 168 1 0x2040 2 n (modFreeze (fun f => { f with failed := true }) s)
  else s

/-- A matching frame of region `r`: the second in a row, with no frame between them in which it is not compared, ends the
action (R290). -/
def regionMatch (c : Committed) (n r : Nat) (s : State) : State :=
  let stop := actsFrom s c n r
  let before := if n = s.dev.timing.count then s.dev.timing.prev else s.dev.timing.count
  modRegion r (fun x =>
    let k := if x.compared = some before then x.agreeing + 1 else 1
    { x with
      agreeing := k, mismatching := false, compared := some n
      endAt := if k = 2 ∧ (x.active ∨ x.startAt.isSome) then some stop else x.endAt }) s

/-- The result of the regions whose last strip is `strip`, at its deadline (R286). A signature that misses a patch has
a free value. -/
def regionResults (n strip : Nat) (s : State) : State :=
  let c := stateOf s n
  if c.safety || c.frozen || c.thermal || !lightFieldAt s n then s
  else
    s.each (List.range 16) fun r s =>
      if (regionStrips c r).2 ≠ strip then s
      else
        let missed := (regionPatches c n r).any fun q => s.dev.synth.missed.contains q
        let v := if missed then freeValue s % 2 ^ 32 else crc32c (regionFold c r) (signatureBytes s n r)
        let s := if missed then drawFree s else s
        let s := s.setReg (0x3100 + r) 6 v
        let lo := signatureKey n r 0 0
        let s := modSynth (fun y =>
          { y with signature := y.signature.filter fun e => !(decide (lo ≤ e.1) && decide (e.1 < lo + 17280 * 61440)) }) s
        if c.obj (0x3100 + r) 1 = 0 then s
        else if missed || v != c.obj (0x3100 + r) 5 then regionMismatch c n r s
        else regionMatch c n r s

/-! ### The vigil (R358 to R360, R428 to R431, R440 to R443, R456) -/

/-- Emission is allowed on port `p` (R846). -/
def emitAllowed (s : State) (p : Nat) : Bool :=
  s.fuses.state != .blank && s.fuses.state != .retired && s.dev.bringup.journalClosed && s.dev.timing.started &&
    (carries s (2 * p) || carries s (2 * p + 1))

/-- The frame-end sequence of port `p` is fixed at V: the frame number of the next calends and the five ARGs in order
of opcode (R428 to R431, R462). -/
def frameEndOf (p : Nat) (s : State) : State :=
  let i := 0x4000 + p
  let limit := min (requestedLimit s) (min s.ceilings.rec2.panelCurrent (s.reg i 5 % 4096))
  let emit := emitAllowed s p
  let args := [limit, 24, ofBool emit, s.reg i 8, ofBool (s.dev.timing.nextHold && s.reg 0x4200 4 == 1)]
  let n := nextCount s % 2 ^ 32
  modPort p (fun x => { x with emit := emit, frameEnd := some (n, 0, args) }) (s.setReg i 6 limit)

/-- Copy `k` of the frame-end sequence goes out on every ACTIVE link (R428, R454). -/
def frameEndSend (k : Nat) (s : State) : State :=
  s.each (List.range (nLinks s)) fun l s =>
    match (s.port (l / 2)).frameEnd with
    | none => s
    | some (n, _, args) =>
      if linkState s l != 6 then s
      else
        let s := modPort (l / 2) (fun x => { x with frameEnd := some (n, k, args) }) s
        let s := sendBlock l (frameEndBlock l n 5 k) s
        s.each (List.range 5) fun j => sendBlock l (cmdBlock l (j + 1) (nth args j))

/-- Link `l` is due for a vigil retrain (R440). -/
def retrainDue (s : State) (l : Nat) : Bool := linkState s l == 6 && (s.link l).vigil == 1

/-- The retraining window exceeds the budget of a link: 190 us and 16,384 block times (R440). -/
def windowFitsRetrain (s : State) (l : Nat) : Bool :=
  let mbps := laneMbps (s.reg (0x4100 + l) 2)
  decide (0 < mbps) && decide (190000000 + 16384 * 66 * 1000000 / mbps < (totalLines s - 17290) * s.reg 0x3801 2)

/-- The vigil retrains that start at V + 8 lines: on ports in FULL, one link of a port, at most 64, the lowest-numbered
first; the low margin of a link that carries a port alone is logged (R440 to R442). -/
def startRetrains (s : State) : State :=
  let due := (List.range (nLinks s)).filter (retrainDue s)
  let alone := due.filter (carriesAlone s)
  let full := due.filter fun l =>
    portMode s (l / 2) == 0 && windowFitsRetrain s l && !(l % 2 == 1 && due.contains (l - 1) && windowFitsRetrain s (l - 1))
  let s := s.each (full.take 64) fun l s =>
    sendBlock l (trainDown 2 (s.reg (0x4100 + l) 2))
      (setLinkState l 8 ((modLink l (fun x => { x with vigil := 2, goodTrains := 0 }) s).bump (0x4100 + l) 4))
  s.each alone fun l s =>
    logEvent 442 2 (0x4100 + l) 0 (s.reg (0x4100 + l) 5) (modLink l (fun x => { x with vigil := 0, lowMargin := 0 }) s)

/-- At V + 8 lines a port whose best mode differs changes to it at the next calends (R456). -/
def portModes (s : State) : State :=
  let proxy := showsProxy s (nextCount s)
  (modTiming (fun t => { t with nextProxy := some proxy }) s).each (List.range (nPorts s)) fun p s =>
    chooseNext p s

/-- A vigil retrain that is not complete at C − 2 lines fails its link (R443). -/
def lateRetrains (s : State) : State :=
  s.each (List.range (nLinks s)) fun l s => if linkState s l = 8 then linkFail l 4 s else s

/-! ### The line start -/

/-- DOWN links start to train: DOWN has no condition but the end of a take-down or a test (R444, R450, R464, R470). -/
def startDown (s : State) : State :=
  s.each (List.range (nLinks s)) fun l s =>
    if linkState s l = 0 && !(s.port (l / 2)).takenDown then trainStart l s else s

/-- Strip `strip` of the frame of count `n` reaches its deadline: a frozen strip must have been read, patches that are
not complete are missed, and regions that end there are compared (R170, R210, R286). -/
def deadline (n strip : Nat) (s : State) : State :=
  let s := if (stateOf s n).frozen && !(stateOf s n).thermal then freezeStripRead strip false false s else s
  regionResults n strip (stripDeadline n strip s)

/-- Per-emitter pseudo-channels leave self-refresh ahead of a strip's read in a hold frame (R670). -/
def hbmLead (s : State) : State :=
  if !s.dev.timing.inHold then s else s.each (pcsOf s 2) fun i s => pcTouch i s

/-- In bring-up a port in HOLD whose link has become ACTIVE carries PROXY packets from the next line read (R843). -/
def bringupModes (s : State) : State :=
  if s.dev.timing.lightField then s
  else s.each (List.range (nPorts s)) fun p s =>
    if portMode s p = 4 ∧ wantedMode s p = 3 then s.setReg (0x4000 + p) 1 3 else s

/-- Line 0 of a frame is about to be read: from the first frame after the journal closes, the affected zones take their
proxy values (R509). -/
def proxyFrame (s : State) : State :=
  s.iff s.dev.bringup.journalClosed (modLens fun l => { l with affected := 0 })

/-- The work of line `j` of the frame that is in force. -/
def lineWork (j : Nat) (left right : ScanCheck) (s : State) : State :=
  let n := s.dev.timing.count
  let next := nextCount s
  let engines (line : Nat) (s : State) : State := scanEngine 1 line right (scanEngine 0 line left s)
  -- Release and deadline of strips (R209, R210).
  let s := if j % 24 = 0 ∧ j < 17280 then
      (if j / 24 < 712 then releaseStrip n (j / 24 + 8) s else releaseStrip next (j / 24 - 712) s) |> hbmLead
    else s
  let s := if j % 24 = 22 ∧ j < 17278 then deadline n ((j + 2) / 24) s else s
  -- Line j goes out, and line j + 1 is read (R362).
  let s := s.each (List.range (nLinks s)) sendLine
  let s := if j + 1 < 17280 then readLine n (j + 1) (portMode s) (engines (j + 1) (bringupModes s)) else s
  -- The vigil (R358): the frame-end sequence names the calends that the DPLL leaves.
  let s := if j = 17280 then (dpll s).each (List.range (nPorts s)) frameEndOf else s
  let s := if 17280 ≤ j ∧ j < 17288 ∧ j % 2 = 0 then frameEndSend ((j - 17280) / 2) s else s
  let s := if j = 17288 then startRetrains (portModes s) else s
  let s := if j + 2 = totalLines s then deadline next 0 (lateRetrains s) else s
  if j + 1 = totalLines s then
    let s := engines 0 (bringupModes (proxyFrame s))
    readLine next 0 (fun p => ((s.port p).nextMode).getD (portMode s p)) s
  else s

/-- A line starts (R362, R369). A frame has no line after its last; and no line after that of its eve starts before the
eve, which lies at the start of its line (R245; DEDUCED, log 47). -/
def lineStart (left right : ScanCheck) (s : State) : State :=
  let t := s.dev.timing
  if !t.started || (decide (17280 < t.line) && decide (totalLines s ≤ t.line)) ||
      (!t.eveDone && decide (eveLine s < t.line)) then s
  else
    let s := lineWork t.line left right (startDown (underrunEvents (s.each [0, 1] ethDrain)))
    modTiming (fun t => { t with line := t.line + 1, lines := t.lines + 1 }) s

/-! ### Commands -/

/-- LINE_START (R362). -/
def execLineStart (left right : ScanCheck) (s : State) : Out :=
  run (.lineStart left right) (onMemNv [.od, .live, .captured, .commitPending, .commitCaptured, .timing, .synth,
      .gov, .bandUpdates, .regions, .jobs, .waiting, .copies, .changed, .clipReady, .late, .lost, .due, .holdSlots,
      .clips, .players, .protectedLogged, .freeze, .links, .ports, .lens, .eth, .tiles, .safety, .timeOut, .host,
      .ncp, .memory, .bringup, .events, .eventBuffer, .eventMessages, .drawn] (lineStart left right) s)

/-- LINK_UNDERRUN (R365). -/
def execLinkUnderrun (l sent : Nat) (s : State) : Out :=
  runOn (.linkUnderrun l sent) (l < nLinks s) s (onDev [.od, .timing, .links] (underrun l sent) s)

end Sys2Proof.Machine
end

