-- ==== Sys2Proof/Machine/Eves.lean ====
section
/-!
DEFINITION. The eve of a frame: fences, the committed state of the next frame, the freeze state and the hold decision
(R35, R159, R164 to R173, R243 to R256, R264 to R274, R294 to R301, R384, R670, R753, R756, R811 to R816).
-/
namespace Sys2Proof.Machine

/-! ### Fences (R264 to R274) -/

/-- Flips and members whose target has come by count `n` and that have not been released. -/
def dueFlips (s : State) (n : Nat) : List Item :=
  sortBy (fun a b => decide (a.num ≤ b.num))
    (s.dev.host.items.filter fun i => i.holds && !i.released && decide (i.target ≤ n))

/-- Held flips that a later accepted update of their layer supersedes from count `n` on (R267), also one whose decode has
failed, and the first update of a binding. -/
def supersedeFlips (n : Nat) (s : State) : State :=
  s.each (dueFlips s n) fun i s =>
    let inside (t : Nat) : Bool := decide (i.target < t) && decide (t ≤ n)
    let gone := (s.dev.host.items.any fun u => u.num != i.num && u.layer? == i.layer? && inside u.target) ||
      (s.dev.lost.any fun u => i.layer? == some u.1 && inside u.2) ||
      (activePlayers s).any fun p => i.layer?.any (mapped p).contains && inside p.t0
    if gone && s.dev.host.items.any (·.num == i.num) then (loseItem i 0x13 0 s).bump 0x3020 3 else s

/-- A group none of whose members is fenced is abandoned: every member completes so (R274). -/
def abandonWhole (i : Item) (s : State) : State := abandonItems (s.dev.host.items.filter (sameGroup i)) s

/-- The fenced member of a group with the smallest timeout count: it caused the group's timeout (R274). -/
def timeoutMember (s : State) (i : Item) : Option Item :=
  let mine := if i.members = 0 then [i] else s.dev.host.items.filter (sameGroup i)
  (mine.filter (·.fenced)).foldl (fun b x => match b with
    | none => some x
    | some y => if x.timeout < y.timeout then some x else some y) none

/-- The flips and groups due at the eve before count `n` are released, held on or abandoned (R264, R266, R272, R274). -/
def checkFences (n : Nat) (s : State) : State :=
  s.each (dueFlips s n) fun i s =>
    match s.dev.host.items.find? fun x => x.num == i.num with
    | none => s
    | some i =>
      if i.released then s
      else if canRelease s i then
        modHost (fun h => { h with items := h.items.map fun x =>
          if x.num = i.num ∨ sameGroup i x = true then { x with released := true } else x }) s
      else if fenceExpired s i n then
        match timeoutMember s i with
        | some x => (loseItem x 0x12 0 s).bump 0x3020 2
        | none => abandonWhole i s
      else s

/-- PLAY cues that a STOP cancels at this eve (R159). -/
def cancelPlays (n : Nat) (s : State) : State :=
  let gone := s.dev.players.filter fun p =>
    p.2.state == 1 && s.dev.host.items.any fun i => match i.kind with
      | .stop q => q == p.2.id && decide (i.target ≤ p.2.t0) && decide (i.target ≤ n)
      | _ => false
  s.each (s.dev.host.items.filter fun x => gone.any fun p => p.1 == x.num) withdraw

/-! ### Steps 1 to 4 of R243 -/

/-- Non-shadow objects that a mode switch sets, at the eve (R815): an address change takes effect as R773 gives, and
the requested limit follows its base code. A host is not silent for a timeout that has become longer (R391). -/
def switchRegs (i : Item) (c : Committed) (s : State) : State :=
  match i.kind with
  | .mode m reload =>
    let sets := (switchSets s c.mode m reload).filter fun e => !shadowKey e.1
    let s := if sets.any fun e => e.1 / 256 == 0x1200 then holdAddress s else s
    let timeout := s.reg 0x3810 3
    let s := s.each sets fun e s => s.setReg (e.1 / 256) (e.1 % 256) e.2
    let s := if timeout < s.reg 0x3810 3 then modTiming (fun t => { t with silent := false }) s else s
    let s := s.setReg 0x5410 6 (requestedLimit s)
    if reload then
      let live := s.dev.images.live
      modImages (fun x => { x with loaded := live }) s
    else s
  | _ => s

/-- Shadow objects that an item sets take its values in their shadows (R610, R814). -/
def itemShadows (i : Item) (c : Committed) (s : State) : State :=
  s.modDev fun d => { d with shadow := shadowAfter s c i d.shadow }

/-- Items that take effect at count `n`. -/
def takenItems (s : State) (n : Nat) : List Item :=
  inOrder (s.dev.host.items.filter fun i =>
    if i.holds then i.released && decide (i.target ≤ n)
    else decide (i.target ≤ n) && (i.layer?.isNone || i.stage == .done))

/-- Items change committed state, in order. -/
def takeItems : List Item → Committed → State → Committed × State
  | [], c, s => (c, s)
  | i :: is, c, s =>
    let c' := applyItem s c i
    takeItems is c' (itemShadows i c (switchRegs i c s))

/-- The dictionary commit is captured (R253, R256). -/
def captureCommit (n : Nat) (c : Committed) (s : State) : Committed × State :=
  match s.dev.commitPending with
  | none => (c, s)
  | some m =>
    if m ≤ n then
      let s := (s.setReg 0x3000 9 (s.reg 0x3000 8)).setReg 0x3000 8 0
      (commitObjs s.dev.shadow c, s.modDev fun d => { d with commitPending := none, commitCaptured := some n })
    else (c, s)

/-- Zones that the planner counts as 2D from the captured state on: those counted before or with a 2D target now, but
for those that have returned to a 3D target; every zone in a thermal fault (R238, R513). -/
def countedZones (s : State) (c : Committed) (back : List (Nat × Bool)) : Nat :=
  let target := if c.thermal && hasLens s then 2 ^ 12288 - 1 else c.obj 0x4410 1 % 2 ^ 12288
  back.foldl (fun m r => if r.2 || hasBit target r.1 then m else putBit m r.1 false) (c.count2D ||| target)

/-- Reports that have arrived change zones' rendering modes (R35, R499); in the safety state they wait. -/
def takeZones (c : Committed) (s : State) : Committed × State :=
  if s.dev.live.safety then ({ c with count2D := countedZones s c [] }, s)
  else
    ({ c with zones2D := s.dev.lens.arrived.foldl (fun m r => putBit m r.1 r.2) c.zones2D
              count2D := countedZones s c s.dev.lens.arrived },
      modLens (fun l => { l with arrived := [] }) s)

/-! ### Step 5 of R243: the safety state (R294 to R301) -/

/-- The image shown from the next calends: 4 is the ROM pictogram (R297, R298). -/
def imageChosen (s : State) : Nat :=
  let k := safetyImage s
  if (amGet s.dev.protectedDefs k).isSome then k else 4

/-- A safety input is active at this eve for count `n`: the pin, low now or since the last eve, or a broadcast whose
target has come (R293, R562). -/
def safetyWanted (s : State) (n : Nat) : Bool :=
  s.dev.safety.pinLow || s.dev.safety.pinSeen || (s.dev.safety.origins.any fun o => decide (o.target ≤ n)) ||
    s.dev.safety.due.any fun t => decide (t ≤ n)

/-- The safety state is captured, goes on, or ends by its release; its image is chosen with it. -/
def takeSafety (n : Nat) (c : Committed) (s : State) : Committed × State :=
  let ends := s.dev.safety.release.any fun r => decide (r ≤ n)
  let on := (s.dev.safety.inForce && !ends) || safetyWanted s n
  let image := if on then imageChosen s else c.image
  let s := modSafety (fun y =>
    { y with inForce := on, pinSeen := false, due := y.due.filter fun t => decide (n < t)
             release := if ends && on then none else y.release }) s
  let s := if on && !s.dev.live.safety then
      logEvent 294 5 0x3190 2 image ((s.setReg 0x3190 2 1).bump 0x3190 5)
    else s
  ({ c with safety := on, image := image }, s)

/-! ### Freeze (R167, R168) -/

/-- Keys of the committed objects that the stable state compares: layers' visibility, the colour, gain, dead-emitter and
governor settings, the protected regions and the zone targets (R167, R382, R501). -/
def stableKey (k : Nat) : Bool :=
  let i := k / 256
  i == 0x3004 || (decide (0x3100 ≤ i) && decide (i < 0x3110)) || (decide (0x3400 ≤ i) && decide (i ≤ 0x3440)) || i == 0x4410

/-- What the stable state of R167 compares of a committed state; the zone targets are those of a thermal fault while it
lasts (R513). -/
def stableView (s : State) (c : Committed) : Committed :=
  { c with objs := amPut (c.objs.filter fun e => stableKey e.1) (key 0x4410 1) (committedMap s c), view := [], count2D := 0, image := if c.safety then c.image else 0
           frozen := false, thermal := false, mode := 0 }

/-- What a FROZEN frame compares with the state that was flattened (R168): also what else its image depends on, the
view table, the early-termination threshold and the raster setting (DEDUCED, log 35). -/
def flatView (s : State) (c : Committed) : Committed :=
  let v := stableView s c
  { v with objs := v.objs ++ c.objs.filter fun e => e.1 / 256 == 0x2110 || e.1 / 256 == 0x3800, view := c.view }

/-- A hold mode is requested: the committed request, or the silence rate while silence counts (R382, R391, R392). -/
def holdCode (s : State) (c : Committed) : Nat × Bool :=
  if c.obj 0x3810 1 ≠ 0 then (c.obj 0x3810 1, false)
  else if s.dev.timing.silent && s.reg 0x3810 3 != 0 then (s.reg 0x3810 4, true) else (0, false)

/-- The freeze state of the frame of count `n`, whose committed state is `c` (R168). Frames that compose nothing flatten
nothing: those before the first light-field frame, and those of a thermal fault (R750; DEDUCED, log 35). -/
def freezeStep (n : Nat) (c : Committed) (s : State) : State :=
  let f := s.dev.freeze
  let calm := decide (stableView s s.dev.live = stableView s c) && (playersAt s n).isEmpty
  let stable := if calm then f.stable + 1 else 0
  let delay := s.reg 0x2040 1
  let ready := decide (8 ≤ stable) && ((delay != 0 && decide (delay ≤ stable)) || (holdCode s c).1 != 0)
  let composed := s.dev.timing.lightField && !c.thermal
  let put (next : Nat) (s : State) : State := modFreeze (fun f => { f with stable := stable, next := next, failed := false }) s
  match s.reg 0x2040 2 with
  | 0 =>
    if ready && composed then modFreeze (fun f => { f with startAt := n, flat := some (flatView s c), post := [] }) (put 1 s) else put 0 s
  | 1 =>
    if f.failed || !calm || !composed then put 0 s
    else if f.valid && decide (9 ≤ f.frames) then put 2 s
    else put 1 s
  | _ => if f.failed || f.flat != some (flatView s c) || !(playersAt s n).isEmpty then put 0 s else put 2 s

/-! ### Hold frames (R381 to R391) -/

/-- Rate of a hold code, Hz. -/
def holdRate (code : Nat) : Nat := nth [1, 30, 10, 1] code

/-- Hold factor of a code at the base rate of `c` (R381). -/
def holdFactor (c : Committed) (code : Nat) : Nat := planHz c / holdRate code

/-- The code may hold at the base rate of `c`. -/
def holdFits (c : Committed) (code : Nat) : Bool :=
  code != 0 && decide (code ≤ 3) && planHz c % holdRate code == 0 && decide (holdRate code ≤ planHz c)

/-- Something admitted targets a count from `lo` to `hi` (R384). -/
def targetsWithin (s : State) (lo hi : Nat) : Bool :=
  let inside (m : Nat) : Bool := decide (lo ≤ m) && decide (m ≤ hi)
  s.dev.host.items.any (fun i => inside i.target) || s.dev.commitPending.any inside ||
    s.dev.bandUpdates.any (fun b => inside b.target) ||
    s.dev.players.any fun p => (List.range (hi + 1 - lo)).any fun k => (clipStep s p.2 (lo + k)).isSome

/-- This device's own conditions for the hold frame at count `n` (R384). -/
def ownConditions (n : Nat) (c : Committed) (s : State) : State :=
  let (code, silent) := holdCode s c
  let k := holdFactor c code
  let ok := holdFits c code && n % (max 1 k) == 0 && c.frozen && !targetsWithin s (n + 1) (n + k - 1)
  modTiming (fun t => { t with ownReady := ok, ownHold := if ok then k else 1, nextBySilence := ok && silent }) s

/-! ### Wake-ups (R670, R754, R756) -/

/-- Domains that the captured state needs start to wake, and the plane stores leave self-refresh when FROZEN is left. -/
def wakeFor (c : Committed) (s : State) : State :=
  let s := if clustersOff s && !c.frozen && !c.thermal then
      s.each clusterDomains fun g s => if groupFailed s g then s else domainWake g s
    else s
  let s := if c.frozen && !c.safety && !c.thermal then s else domainWake 26 s
  if s.dev.live.frozen && !c.frozen then s.each (pcsOf s 0 ++ pcsOf s 1) fun i s => pcTouch i s else s

/-! ### The eve -/

/-- Clip updates decoded for the frame change their layers. -/
def takeClips (c : Committed) (s : State) : Committed × State :=
  ({ c with layers := s.dev.clipReady.foldl (fun m e => amPut m e.1 e.2.2) c.layers },
    s.modDev fun d => { d with clipReady := [] })

/-- The eve of the frame (R243): each frame has one, at the start of line V − L (R245; log 47). -/
def eve (s : State) : State :=
  if !s.dev.timing.started || s.dev.timing.eveDone || decide (s.dev.timing.line ≤ eveLine s) then s
  else
    let n := nextCount s
    let now := s.now
    let s := cancelPlays n (checkFences n (supersedeFlips n (endLate n s)))
    let (c, s) := captureCommit n s.dev.live s
    let (c, s) := takeItems (takenItems s n) c s
    let (c, s) := takeClips c s
    let c := captureBands s n c
    let (c, s) := takeZones { c with thermal := s.dev.thermal.fault } s
    let (c, s) := takeSafety n c s
    let s := freezeStep n c s
    let c := { c with frozen := s.dev.freeze.next == 2 }
    let s := ownConditions n c s
    let s := s.modDev fun d =>
      { d with
        captured := some c
        lost := d.lost.filter fun l => decide (n < l.2)
        due := d.due.filter fun l => decide (n ≤ l.2) }
    let s := s.setReg 0x1242 5 (frameSteps s n c)
    let s := settleHold (modTiming (fun t => { t with eveDone := true, eveAt := now }) s)
    enterClips (nextCount s + s.dev.timing.holdNext) (wakeFor c (wallEve s))

/-- EVE (R243). -/
def execEve (s : State) : Out :=
  run .eve (onMem [.od, .shadow, .captured, .commitPending, .commitCaptured, .timing, .jobs, .waiting, .copies,
      .clipReady, .late, .lost, .due, .holdSlots, .clips, .players, .freeze, .lens, .tiles, .safety, .timeOut,
      .host, .ncp, .memory, .images, .events, .eventBuffer, .eventMessages] eve s)

end Sys2Proof.Machine
end

