-- ==== Sys2Proof/Machine/Frame.lean ====
section
/-!
DEFINITION. The calends: the captured state takes effect, and a frame begins (R134 to R136, R156 to R163, R244, R256,
R262, R270, R290, R332, R341, R342, R353, R385, R456, R496, R535, R573, R613, R750 to R753, R815, R852, R902).
-/
namespace Sys2Proof.Machine

/-! ### The frame that ends -/

/-- Length of the frame that ends, ns, rounded down: its lines at the line time with the frame's trim (R341, R542). -/
def frameNs (s : State) : Nat :=
  totalLines s * (1000000000 + s.dev.timing.trim).toNat / (18000 * max 1 (holdHz s s.dev.timing.hold))

/-- The last flatten frame has ended: the caches are valid (R168). -/
def flattenEnds (s : State) : State :=
  s.iff (s.reg 0x2040 2 == 1 && s.dev.freeze.frames == 8) (modFreeze fun f => { f with valid := true })

/-- A base-rate change starts a segment of the grid, reckoned under the rate that ends (R535). -/
def segmentCalends (n : Nat) (c : Committed) (s : State) : State :=
  if c.obj 0x3800 1 ≠ s.com 0x3800 1 then startSegment n s else s

/-! ### Timing of the frame that begins -/

/-- The frame of count `n` begins (R244, R385, R542, R572). -/
def startFrame (n : Nat) (c : Committed) (s : State) : State :=
  let now := s.now
  let s := s.modDev fun d => { d with live := c, captured := none }
  let s := modTiming (fun t =>
    { t with count := n, prev := t.count, line := 0, eveDone := false, hold := t.holdNext, holdNext := 1, inHold := t.nextHold
             nextHold := false, bySilence := t.nextBySilence, nextBySilence := false, ownReady := false, ownHold := 1
             nextProxy := none, inter := 0, stretch := 0, trim := t.trimNext, jump := none, calendsAt := now, underLogged := [] }) s
  let t := s.dev.timing
  let hz := max 1 (holdHz s t.hold)
  let s := ((s.setReg 0x3801 1 hz).setReg 0x3801 2 (lineTime hz)).setReg 0x3801 3 0
  let s := (s.setReg 0x3801 4 720).setReg 0x3810 2 (if t.inHold then (if t.bySilence then 2 else 1) else 0)
  s.iff t.inHold (·.bump 0x3810 5)

/-- What a port does from the calends on (R429, R456). -/
def startPorts (s : State) : State :=
  s.each (List.range (nPorts s)) fun p s =>
    let s := match (s.port p).frameEnd with
      | none => s
      | some (_, _, args) => modPort p (fun x => { x with item := nth args 3 }) s
    match (s.port p).nextMode with
    | none => s
    | some m => modPort p (fun x => { x with nextMode := none }) (s.setReg (0x4000 + p) 1 m)

/-- The first light-field frame (R845, R852). -/
def startLightField (s : State) : State :=
  if s.dev.timing.lightField || noFirmware s || !hasVisible s.dev.live then s
  else
    let s := modTiming (fun t => { t with lightField := true }) s
    logEvent 852 0 0x6011 1 0 (s.setReg 0x6011 1 4 |> modBringup fun b => { b with bringupMap := false })

/-- First emission, ms from t = 0 (0x6011:02). -/
def firstEmission (s : State) : State :=
  if s.reg 0x6011 2 = 0 && (List.range (nPorts s)).any fun p => (s.port p).emit then
    s.setReg 0x6011 2 (min 65535 ((s.now - s.dev.bringup.t0) / 1000000000))
  else s

/-- Freeze (R168): a flatten starts with its generation. -/
def startFreeze (s : State) : State :=
  let next := s.dev.freeze.next
  let s := if next = 1 then modFreeze (fun f => { f with frames := if s.reg 0x2040 2 = 0 then 1 else f.frames + 1 }) s else s
  let s := if next = 1 ∧ s.reg 0x2040 2 = 0 then
      modFreeze (fun f => { f with valid := false }) (s.setReg 0x2040 3 ((s.reg 0x2040 3 + 1) % 2 ^ 32))
    else if next = 0 then modFreeze (fun f => { f with valid := false, flat := none }) s
    else s
  s.setReg 0x2040 2 next

/-- Domains that the frame does not need switch off, and the clusters' requests end (R172, R750, R754). -/
def startDomains (s : State) : State :=
  let c := s.dev.live
  let s := if clustersOff s then modSynth (fun y => { y with requests := [] }) (s.each clusterDomains domainOff) else s
  if c.frozen && !c.safety && !c.thermal then domainOff 26 s else s

/-- The thermal fault is shown, or has ended (R750, R753). -/
def startThermal (s : State) : State :=
  if s.dev.live.thermal then s.setReg 0x5411 1 2
  else if s.reg 0x5411 1 = 2 then s.setReg 0x5411 1 0 else s

/-- Actions of regions begin and end (R289, R290); in a safety frame none applies (R292). -/
def startRegions (s : State) : State :=
  let n := s.dev.timing.count
  s.each (List.range 16) fun r s =>
    let x := s.region r
    let x := { x with active := x.acts n, startAt := x.startAt.filter (decide <| n < ·), endAt := x.endAt.filter (decide <| n < ·) }
    let shown := x.active && decide (2 ≤ s.com (0x3100 + r) 1) && !s.dev.live.safety
    (modRegion r (fun _ => x) s).setReg (0x3100 + r) 8 (ofBool shown)

/-- Lists of the synthesis keep only the present frame's entries, and the window cache and the window stores those of its
group; redo quarters that waited behind the frame that ended go to the spares that it leaves (R207, R219). -/
def startSynth (s : State) : State :=
  let n := s.dev.timing.count
  let now' (q : Patch) : Bool := decide (n ≤ q.count)
  assignRedo (modSynth (fun y =>
    { y with complete := y.complete.filter now', missed := y.missed.filter now', queue := y.queue.filter now'
             running := y.running.filter fun e => now' e.2, redoWaiting := y.redoWaiting.filter fun r => now' r.1
             redoRunning := y.redoRunning.filter fun e => now' e.2.1, redoDone := y.redoDone.filter fun r => now' r.1
             recomputed := y.recomputed.filter now'
             colourFailed := y.colourFailed.filter now', transparent := y.transparent.filter fun e => now' e.2
             missLogged := y.missLogged.filter fun e => decide (n ≤ e.1), protectedBad := []
             stores := y.stores.map fun e => (e.1, (e.2.filter fun w => w.group == n % 2).map fun w =>
               { w with pins := w.pins.filter now' })
             cache := y.cache.filter fun e => e.group == n % 2 }) s)

/-! ### Items that take effect (R613, R616) -/

/-- A layer has changed its slot: the hold slot it leaves is free from the second calends after (R270). -/
def leaveSlots (old : Committed) (s : State) : State :=
  s.each old.layers fun e s =>
    let k := (amGetD s.dev.live.layers e.1 {}).slot
    if e.2.slot ≠ 0 ∧ e.2.slot ≠ k then putHold (e.2.slot - 1) (some (nextCount s + 1)) s else s

/-- Hold slots whose time has come are free. -/
def freeSlots (s : State) : State :=
  let n := s.dev.timing.count
  s.modDev fun d => { d with holdSlots := d.holdSlots.filter fun h => h.2.all fun m => decide (n < m) }

/-- The objects that report an item of the dictionary (R178, R353, R812, R815). -/
def itemReport (i : Item) (s : State) : State :=
  match i.kind with
  | .view _ =>
    let (dx, dy) := tableSteps (viewTable s.dev.live)
    clipsChanged (((s.setReg 0x2111 4 4).setReg 0x2111 7 dx).setReg 0x2111 8 dy)
  | .raster _ _ _ _ _ => clipsChanged (s.setReg 0x3800 8 4)
  | .mode m _ =>
    let s := (s.setReg 0x1410 7 m).bumpSeq 0x1410 8
    let s := logEvent 811 0 0x1410 7 m s
    s.iff (!i.host && s.reg 0x1410 4 == 1) (·.setReg 0x1410 4 3)
  | _ => s

/-- Items whose calends has come complete in order of admission; a PLAY does so at its end calends, and a flip when it
is released. -/
def completeItems (s : State) : State :=
  let n := s.dev.timing.count
  let due := s.dev.host.items.filter fun i =>
    decide (i.target ≤ n) && (match i.kind with
      | .play _ => (amGet s.dev.players i.num).all fun p => p.endAt.any (decide <| · ≤ n)
      | .update _ _ _ _ => if i.holds then i.released else i.stage == .done
      | _ => true)
  s.each (sortBy (fun a b => decide (a.num ≤ b.num)) due) fun i s =>
    let s := modHost (fun h => { h with items := h.items.filter fun x => x.num != i.num }) s
    postFinal i n 0x10 0 (itemReport i s)

/-- The dictionary commit applies (R256). -/
def commitCalends (s : State) : State :=
  match s.dev.commitCaptured with
  | none => s
  | some m =>
    let f := m % 2 ^ 32
    let s := ((s.setReg 0x3000 0x0A f).setReg 0x3000 9 0).modDev fun d => { d with commitCaptured := none }
    s.iff (s.reg 0x3000 3 == 1 && s.reg 0x3000 4 == f) (·.setReg 0x3000 3 3)

/-- Band updates that the frame applies leave the list (R325). -/
def bandCalends (s : State) : State :=
  let n := s.dev.timing.count
  let gone := s.dev.bandUpdates.filter fun b => b.copied && decide (b.target ≤ n)
  if gone.isEmpty then s
  else
    let s := s.modDev fun d => { d with bandUpdates := d.bandUpdates.filter fun b => !(b.copied && decide (b.target ≤ n)) }
    (s.setReg 0x3412 6 4).setReg 0x3412 9 s.dev.bandUpdates.length

/-- Bindings begin, show their clip frames and end (R157, R160, R163). -/
def playerCalends (s : State) : State :=
  let n := s.dev.timing.count
  let s := s.each (s.dev.players.filter fun p => p.2.endAt.any (decide <| · < n)) endBinding
  s.modDev fun d => { d with players := d.players.map fun x =>
    let p := x.2
    let p := if p.state = 1 ∧ p.t0 ≤ n then { p with state := 2 } else p
    (x.1, match clipStep s p n with
      | some f => { p with frame := f }
      | none => p) }

/-! ### The decode window opens (R134 to R136, R262, R902) -/

/-- Updates of layer `j` for count `n` that are decoded into its own slot: a plane-queue update, or a clip's. -/
def ownUpdate (s : State) (j n : Nat) : Bool :=
  (s.dev.host.items.any fun i => i.layer? == some j && i.target == n && !i.holds) ||
    s.dev.players.any fun p => !cancelledBy s p.2 && (clipTouches s n p.2).contains j

/-- A fenced flip or group member of layer `j` targets count `n`. -/
def fencedUpdate (s : State) (j n : Nat) : Bool :=
  s.dev.host.items.any fun i => i.layer? == some j && i.target == n && i.holds

/-- An update of layer `j` targets or has targeted count `n`, the last calends or a later one (R902). -/
def targets (s : State) (j n : Nat) : Bool :=
  s.dev.changed.contains j || s.dev.due.contains (j, n) || s.dev.host.items.any fun i => i.layer? == some j && i.target == n

/-- The layer's copy for count `n`, when one is reserved and no update uses its slot (R136, R262, R902). -/
def windowCopy (n j : Nat) (s : State) : State :=
  let late := !targets s j (n - 1) && s.dev.late.any fun e => e.1 == j && decide (e.2 + 2 ≤ n)
  let s := s.modDev fun d => { d with late := d.late.filter fun e => !(e.1 == j && decide (e.2 + 2 ≤ n)) }
  if ownUpdate s j n then s
  else if s.dev.changed.contains j || fencedUpdate s j n then startCopy j n false s
  else if late then startCopy j n true s
  else s

/-- Hold slots decoded for the present calends and still held are copied once into the other group (R262). -/
def holdCopies (n : Nat) (s : State) : State :=
  let held := s.dev.host.items.filter fun i =>
    i.holds && !i.released && i.stage == .done && i.target == s.dev.timing.count
  s.each held fun i s => match i.kind with
    | .update layer content lease slot =>
      addCopy { layer := layer, slot := slot, target := n, restore := false, lease := lease, content := content
                frame := i.target } s
    | _ => s

/-- The decode window of count `n` opens. -/
def openWindow (n : Nat) (s : State) : State :=
  let s := s.each (List.range 32) (windowCopy n)
  let s := holdCopies n s
  let s := forgetClips n s
  let s := s.each (s.dev.players.filter fun p => p.2.state != 0) (openClip n)
  if s.dev.jobs.any fun j => decide (j.target ≤ n) then domainWake 25 s else s

/-! ### The calends -/

/-- The captured state `c` takes effect at the calends of count `n`. -/
def calendsOf (n : Nat) (c : Committed) (s : State) : State :=
  let old := s.dev.live
  let s := segmentCalends n c (flattenEnds (agingCalends (frameNs s) (wallBefore s)))
  let s := (startFrame n c s).setReg 0x3440 3 (n % 2 ^ 32)
  let s := startDomains (startThermal (startFreeze (firstEmission (startLightField (startPorts s)))))
  let s := (s.setReg 0x3190 2 (if c.safety then 2 else 0)).iff c.safety (·.setReg 0x3190 6 c.image)
  let s := modSafety (fun y => { y with release := y.release.filter (decide <| n < ·) }) s
  let s := s.iff (rasterOf old != rasterOf c) clipsChanged
  let changed := (List.range 32).filter fun j => amGetD old.layers j {} != amGetD c.layers j {}
  let s := s.modDev fun d => { d with changed := changed, protectedLogged := false }
  let s := completeItems (freeSlots (leaveSlots old s))
  let s := bandCalends (commitCalends (playerCalends s))
  let s := governorCalends (draftSpares (startRegions (startSynth s)))
  let s := pinsCalends (wallAfter (jubilee n s))
  openWindow (nextCount s) (lensCalends s)

/-- The calends: it follows the frame's eve and the last line of its vigil (R13, R358; log 47). -/
def calends (s : State) : State :=
  match s.dev.captured with
  | none => s
  | some c =>
    if s.dev.timing.started && s.dev.timing.eveDone && decide (totalLines s ≤ s.dev.timing.line) then
      calendsOf (nextCount s) c s
    else s

/-- CALENDS (R244). -/
def execCalends (s : State) : Out :=
  run .calends (onMemNv [.od, .live, .captured, .commitCaptured, .timing, .synth, .gov, .bandUpdates, .regions,
      .jobs, .waiting, .copies, .changed, .clipReady, .late, .lost, .due, .holdSlots, .clips, .players,
      .protectedLogged, .freeze, .ports, .lens, .tiles, .safety, .timeOut, .host, .memory, .bringup, .events,
      .eventBuffer, .eventMessages, .drawn] calends s)

end Sys2Proof.Machine
end

