-- ==== Sys2Proof/Machine/Protect.lean ====
section
/-!
DEFINITION. The protected store and the learning of region signatures (R275 to R281, R291).
-/
namespace Sys2Proof.Machine

def State.pslot (s : State) (k : Nat) : ProtectedSlot := amGetD s.dev.protectedSlots k {}
def modPslot (k : Nat) (f : ProtectedSlot → ProtectedSlot) (s : State) : State :=
  s.modDev fun d => { d with protectedSlots := amMod d.protectedSlots k {} f }

/-- The slot cannot change now (R280): it is the safety image being shown, the substitute of a region whose action is
active, or it is being loaded. -/
def slotInUse (s : State) (k : Nat) : Bool :=
  let c := s.dev.live
  (c.safety && c.image == k) ||
    (decide (4 ≤ k) && decide (2 ≤ c.obj (0x3100 + (k - 4)) 1) && !c.safety && regionActs s (k - 4) s.dev.timing.count) ||
    (s.pslot k).state == 1

/-- A slot is invalid from now on. -/
def slotInvalid (k : Nat) (s : State) : State := s.modDev fun d => { d with protectedDefs := amErase d.protectedDefs k }

/-- LOAD of the selected slot starts (R278, R279). -/
def protectedLoad (s : State) : Ans :=
  let k := s.reg 0x3180 1
  if slotInUse s k then (abInUse, s)
  else
    (0, modPslot k (fun _ => { state := 1, staging := s.reg 0x3180 2, length := s.reg 0x3180 3 }) (slotInvalid k s))

/-- ERASE of the selected slot. -/
def protectedErase (s : State) : Ans :=
  let k := s.reg 0x3180 1
  if slotInUse s k then (abInUse, s) else (0, modPslot k (fun _ => {}) (slotInvalid k s))

/-- The OVERLAY_DEF payload of a content. -/
def overlayDef (ct : Content) : List Byte :=
  padTo 32 (natLE ct.w 2 ++ natLE ct.h 2 ++ natLE ct.dx 2 ++ natLE ct.dy 2 ++ natLE ct.dw 2 ++ natLE ct.dh 2 ++
    natLE ct.order 1 ++ [0, 0, 0] ++ natLE ct.occ.length 4 ++
    natLE ((ct.occ.map fun o => popCount o.2 16).foldl (· + ·) 0) 4)

/-- Write a decoded update into protected slot `k` (R277). -/
def protectedWrite (k : Nat) (d : Decoded) (s : State) : State :=
  let base := protectedBase k
  let head := overlayDef d.content ++ List.replicate 28 0
  let s := hbmStore 0 base (head ++ natLE (crc32c (k * 0x1000000) head) 4) s
  let s := s.each d.content.occ fun o s =>
    let pal := ((amGet d.palettes o.1).map paletteSlot).getD []
    hbmStore 0 (base + 0x420000 + 4096 * o.1) ((amGet d.tiles o.1).getD []) (hbmStore 0 (base + 0x20000 + 2048 * o.1) pal s)
  s.each (List.range (blockCount d.content)) fun b s =>
    let cells := cellsOf d.content b
    let count := ((amGet d.palettes b).map (·.count)).getD 0
    let desc := descBytes d.lease (cells != 0) cells count 0 (k * 0x1000000 + 0x10000 + 16 * b)
    hbmStore 0 (base + 0x10000 + 16 * b) desc s

/-- What a LOAD decodes, and the sub-blocks it expands: the checks of R278. -/
def loadDecode (s : State) (p : ProtectedSlot) : Nat × Except Nat Decoded :=
  decodeWhole (stagingBytes s p.staging) { total := p.length }
    { cols := hogelCols s.dev.live, wMax := 4096, hMax := 2048, table := [], overlayOnly := true
      orderTaken := fun _ _ _ => false } none

/-- A LOAD finishes: the slot becomes valid or failed (R278, R279). -/
def loadComplete (k : Nat) (s : State) : State :=
  let p := s.pslot k
  if p.state ≠ 1 then s
  else
    let (x, r) := loadDecode s p
    let s := countExpanded (decodersLeft s) x (hbmAsk 0 false p.staging p.length s)
    match r with
    | .error e => modPslot k (fun p => { p with state := 3, detail := e }) s
    | .ok d =>
      let s := protectedWrite k d s
      modPslot k (fun p => { p with state := 2 })
        (s.modDev fun v => { v with protectedDefs := amPut v.protectedDefs k d.content })

/-- The region's last signature becomes its shadow expected value (R291). -/
def regionLearn (r : Nat) (s : State) : State := s.setShad (0x3100 + r) 5 (s.reg (0x3100 + r) 6)

/-! ### Commands -/

/-- PROTECTED_LOAD (R278). -/
def execProtectedLoad (s : State) : Out := run .protectedLoad
    (onDev [.protectedDefs, .protectedSlots] (fun t => (protectedLoad t).2) s)

/-- PROTECTED_LOAD_COMPLETE (R279). -/
def execProtectedLoadComplete (slot : Nat) (s : State) : Out :=
  run (.protectedLoadComplete slot) (onMem [.od, .protectedDefs, .protectedSlots, .tiles, .memory, .drawn]
      (loadComplete slot) s)

/-- PROTECTED_ERASE (R280). -/
def execProtectedErase (s : State) : Out := run .protectedErase
    (onDev [.protectedDefs, .protectedSlots] (fun t => (protectedErase t).2) s)

/-- PROTECTED_SLOT_READ (R281). -/
def execProtectedSlotRead (slot block : Nat) (bad0 bad1 : Bool) (s : State) : Out :=
  run (.protectedSlotRead slot block bad0 bad1) (onMem [.od, .synth, .protectedLogged, .memory, .events,
      .eventBuffer, .eventMessages] (protectedRead slot block bad0 bad1) s)

/-- REGION_LEARN (R291). -/
def execRegionLearn (r : Nat) (s : State) : Out := run (.regionLearn r) (onDev [.shadow] (regionLearn r) s)

end Sys2Proof.Machine
end

