-- ==== Sys2Proof/Machine/Views.lean ====
section
/-!
DEFINITION. What a read of the object dictionary returns: the objects that are kept elsewhere than in the dictionary,
and what reading does (R8, R10, R19, R242, R530, R570, R595, R706, R817, R841, R870, R874).
-/
namespace Sys2Proof.Machine

/-! ### Structures that objects return -/

/-- A queue context (R595). -/
def contextBytes (s : State) (q : Nat) : List Byte :=
  let c := s.queue q
  let v := c.typ + 2 ^ 4 * c.state + 2 ^ 8 * c.gen + 2 ^ 16 * c.sizeLog2 + 2 ^ 32 * c.head + 2 ^ 64 * c.tail +
    2 ^ 96 * c.ring + 2 ^ 160 * c.cq + 2 ^ 180 * c.vector + 2 ^ 191 * ofBool c.seq.isSome + 2 ^ 192 * c.seq.getD 0 +
    2 ^ 224 * (c.accepted % 2 ^ 32) + 2 ^ 256 * c.refused + 2 ^ 288 * c.violations
  let bs := natLE v 60
  bs ++ natLE (crc32c q bs) 4

/-- An event-log entry (R870). -/
def eventBytes (e : Event) : List Byte :=
  natLE (e.rule % 4096 + 2 ^ 12 * e.cls + 2 ^ 16 * e.index + 2 ^ 32 * e.sub + 2 ^ 48 * e.frame + 2 ^ 80 * e.time +
    2 ^ 160 * e.data + 2 ^ 224 * e.seq) 32

/-- A session slot as 0x1211 shows it. -/
def sessionView (s : State) (i : Nat) : Nat :=
  match (amGet s.dev.ncp.sessions i).join with
  | none => 0
  | some x =>
    x.number + 2 ^ 32 * x.slot + 2 ^ 35 * x.port + 2 ^ 48 * ((s.now - x.touched) / 1000000000000 % 65536)

/-- The binding of clip player `p`: the bound one, or else the first admitted. -/
def playerBinding (s : State) (p : Nat) : Option Player :=
  let mine := (s.dev.players.filter fun x => x.2.id == p && x.2.state != 0).map (·.2)
  (mine.find? (·.state == 2)).or mine.head?

/-- The state word of a clip player (0x2030). -/
def playerView (s : State) (p : Nat) : Nat :=
  match playerBinding s p with
  | none => 0
  | some x => x.clip + 2 ^ 12 * x.state + 2 ^ 16 * (x.frame % 65536)

/-- The source of a layer (0x2012). -/
def layerSource (s : State) (j : Nat) : Nat :=
  match s.dev.players.find? fun x => x.2.state == 2 && (mapped x.2).contains j with
  | none => 0
  | some x => x.2.id + 1

/-- The band table (0x3411). -/
def bandBytes (s : State) : List Byte :=
  withCrc 0x3411 1 (packLE 2 ((List.range 720).map fun b => amGetD s.dev.live.bands b b))

/-- The committed value of the object that 0x3003:01 selects; empty for one that is not shadow (R242). -/
def liveValue (s : State) : List Byte :=
  let k := s.reg 0x3003 1
  let index := bits k 31 16
  let sub := bits k 15 8
  match objHere s index sub with
  | none => []
  | some r =>
    if !r.shadow then []
    else if index = 0x4410 ∧ s.dev.live.thermal then withCrc index sub (natLE (committedMap s s.dev.live) 1536)
    else natLE (s.com index sub) r.size

/-- Flips held now: fenced flips, and groups as one (0x3020:01). -/
def flipsHeld (s : State) : Nat :=
  let held := heldItems s
  (held.filter fun i => i.members == 0).length +
    ((held.filter fun i => i.members != 0).map fun i => (i.group, i.target)).eraseDups.length

/-- Number of the next hold calends at the rate requested; 0 with none requested (0x3810:06, R383). -/
def nextHoldCalends (s : State) : Nat :=
  let code := (holdCode s s.dev.live).1
  if holdFits s.dev.live code then
    let k := max 1 (holdFactor s.dev.live code)
    ((s.dev.timing.count / k + 1) * k) % 2 ^ 32
  else 0

/-- The copies of the selected record (0x5821:04). -/
def recordCopies (s : State) : Nat :=
  match amGet s.nv.records (s.reg 0x5821 1) with
  | none => 0
  | some v => ofBool v.validA + 2 * ofBool v.validB + 4 * ofBool v.single + 8 * ofBool v.inA

/-- A page holds a KEYS record, which no read returns (R829). -/
def keysPage (p : Nat) : Bool := let r := p % 1024; decide (p < 2048) && decide (4 ≤ r) && decide (r < 12)

/-- A raw read of a page: of a KEYS page it gives zeros (DESIGN CHOICE, log 42). -/
def rawPage (s : State) (p : Nat) : List Byte := if keysPage p then List.replicate 64 0 else pageBytes s.nv p

/-- The payload of IMAGE_POINTER, and a field of it (R805). -/
def pointerField (s : State) (off k : Nat) : Nat := fieldLE ((recordPayload s 12).getD []) off k

/-- The proxy source: 0 the store, 1 the ROM pictogram (0x6100:04). -/
def proxySource (s : State) : Nat := if proxyGood s then 0 else 1

/-- The rate in force in the current frame, Hz (R245, R351). -/
def hzInForce (s : State) : Nat := max 1 (holdHz s s.dev.timing.hold)

/-- A verification or a LOAD runs (R151, R278). -/
def checkingChunks (s : State) : Bool :=
  s.dev.clips.any (fun e => e.2.state == 2) || s.dev.protectedSlots.any fun p => p.2.state == 1

/-- State of decoder `de` (0x2000): 4 failed, 1 while it holds a chunk that waits for a Count. At any other moment it
holds a part of a copy that runs, a chunk of a verification or LOAD that runs, or nothing; which of them is free
(log 145). -/
def decoderState (s : State) (de : Nat) : Nat :=
  let r := s.reg 0x2000 (de + 1)
  if r = 4 then 4
  else if (amGet s.dev.waiting de).isSome then 1
  else
    let kinds := 0 :: ((if s.dev.copies.isEmpty then [] else [2]) ++ (if checkingChunks s then [3] else []))
    kinds.getD (Config.decoderWork s.now de % kinds.length) 0

/-! ### Values by object -/

/-- Objects below 0x2000 that are kept elsewhere. -/
def viewLow (s : State) (index sub : Nat) : Option (List Byte) :=
  let small := isSmall s
  let n (k v : Nat) : Option (List Byte) := some (natLE v k)
  match index, sub with
  | 0x1000, 1 => some ([0x52, 0x4B, 0x5A, 0x2D, 0x39, 0x36] ++
      (match s.fuses.part with
        | .rkz9640 => [0x34, 0x30]
        | .rkz9632 => [0x33, 0x32]
        | .rkz9620 => [0x32, 0x30]))
  | 0x1000, 2 => n 4 (partCode s)
  | 0x1000, 3 => n 2 0xA0A0
  | 0x1010, 1 => n 1 (if small then 48 else 96)
  | 0x1010, 2 => n 1 4
  | 0x1010, 3 => n 1 32
  | 0x1010, 4 => n 1 (nStacks s)
  | 0x1010, 5 => n 4 (if small then 73728 else 147456)
  | 0x1010, 6 => n 1 (nPorts s)
  | 0x1010, 7 => n 2 (nLinks s)
  | 0x1010, 8 => n 1 (nTiles s)
  | 0x1010, 9 => n 2 (if hasLens s then 512 else 0)
  | 0x1010, 10 => n 1 (if hasLens s then 24 else 0)
  | 0x1010, 11 => n 13 (((List.range 100).filter (clusterHere s)).foldl setBit 0)
  | 0x1010, 12 => n 4 (if small then 0x050005A0 else 0x0A0005A0)
  | 0x1100, 1 => n 1 s.fuses.state.code
  | 0x1100, 2 => n 1 s.fuses.used
  | 0x1100, 3 => n 1 (64 - s.fuses.used)
  | 0x1100, 5 => n 1 (ofBool (erasurePending s))
  | 0x1100, 6 => n 2 s.dev.bringup.erasureLeft.length
  | 0x1102, k => n 2 (keyKind s (k - 1) + 256 * keyRights s (k - 1))
  | 0x1103, 1 => n 1 (mailRights s)
  | 0x1104, 1 => n 48 (if s.fuses.digestFused then s.fuses.digest else s.reg 0x1104 1)
  | 0x1104, 2 => n 4 s.dev.bringup.runningVersion
  | 0x1104, 3 => n 1 s.fuses.minVersion
  | 0x1120, 1 => n 2 s.ceilings.rec2.panelCurrent
  | 0x1120, 2 => n 2 s.ceilings.rec2.linkAmplitude
  | 0x1120, 3 => n 2 s.ceilings.rec2.tileAmplitude
  | 0x1120, 4 => n 4 s.ceilings.rec2.transmitCap
  | 0x1201, p => n 6 (Config.macAddress (p - 1))
  | 0x1211, k => n 8 (sessionView s (k - 1))
  | 0x1241, 1 => n 4 (s.dev.host.queues.filter fun q => q.2.state == 1).length
  | 0x1242, 6 => n 4 s.dev.host.items.length
  | 0x1244, 2 => some (contextBytes s (s.reg 0x1244 1))
  | 0x1245, 2 => n 8 (fenceValue s (s.reg 0x1245 1))
  | 0x1401, 1 => n 1 (pointerField s 0 1)
  | 0x1401, 2 => n 4 (pointerField s 4 4)
  | 0x1401, 4 => n 1 (pointerField s 1 1)
  | 0x1401, 5 => n 4 ((s.dev.images.loaded.map (·.serial)).getD 0)
  | 0x1402, m => n 1 (((s.dev.images.loaded.bind (·.overlays[m - 1]?)).map (·.cls)).getD 0)
  | 0x1403, m =>
    some ((natLE (((s.dev.images.loaded.bind (·.overlays[m - 1]?)).map (·.name)).getD 0) 8).takeWhile (· != 0))
  | _, _ => none

/-- Objects of 0x2000 to 0x3FFF that are kept elsewhere. -/
def viewMid (s : State) (index sub : Nat) : Option (List Byte) :=
  let n (k v : Nat) : Option (List Byte) := some (natLE v k)
  let c := s.dev.live
  let clip := s.clip (s.reg 0x2021 1)
  match index, sub with
  | 0x2000, k => n 1 (decoderState s (k - 1))
  | 0x2010, j => n 2 (amGetD c.layers (j - 1) {}).lease
  | 0x2012, j => n 1 (layerSource s (j - 1))
  | 0x2020, 1 => n 4 (librarySize s / 0x100000)
  | 0x2020, 2 => n 4 (if isSmall s then 20736 else 41472)
  | 0x2021, 5 => n 1 (clip.state + 128 * ofBool (clipPinned s (s.reg 0x2021 1)))
  | 0x2021, 6 => n 1 (if clip.state = 2 then Config.verifyProgress (s.reg 0x2021 1) s.now % 101 else clip.progress)
  | 0x2021, 7 => n 4 clip.detail
  | 0x2030, p => n 4 (playerView s (p - 1))
  | 0x2100, k => n 1 (clusterState s (k - 1))
  | 0x2111, 6 => some (viewBytes (viewTable c))
  | 0x3000, 6 => n 2 (eveOffset (hzInForce s) false)
  | 0x3000, 7 => n 2 (eveOffset (hzInForce s) true)
  | 0x3003, 2 => some (liveValue s)
  | 0x3005, j => n 1 (amGetD c.layers (j - 1) {}).slot
  | 0x3010, 9 => n 4 (sampleLimit s (hzInForce s))
  | 0x3020, 1 => n 1 (flipsHeld s)
  | 0x3020, 5 => n 1 ((List.range 8).filter fun h => !slotHeld s h).length
  | 0x3180, 5 => n 1 (s.pslot (s.reg 0x3180 1)).state
  | 0x3180, 6 => n 4 (s.pslot (s.reg 0x3180 1)).detail
  | 0x3190, 4 => n 1 (ofBool s.dev.safety.pinLow + 2 * ofBool (!s.dev.safety.origins.isEmpty))
  | 0x3411, 1 => some (bandBytes s)
  | 0x3420, 1 => n 2 s.ceilings.rec2.radiance
  | 0x3420, 4 => some (packLE 4 ((List.range 14400).map (zoneScale s)))
  | 0x3430, 2 => n 1 (if s.reg 0x2040 2 = 0 then 0 else 1)
  | 0x3440, 2 => some (packLE 8 ((List.range 43200).map (agingCounter s)))
  | 0x3810, 6 => n 4 (nextHoldCalends s)
  | _, _ => none

/-- Objects from 0x4000 on that are kept elsewhere. -/
def viewHigh (s : State) (index sub : Nat) : Option (List Byte) :=
  let n (k v : Nat) : Option (List Byte) := some (natLE v k)
  let temp (t : Int) : Option (List Byte) := n 2 (ofSigned 16 t)
  let ports (p : Nat → Bool) : Nat := ((List.range (nPorts s)).filter fun i => p (portMode s i)).length
  let record := amGet s.nv.records (s.reg 0x5821 1)
  let ring := amGet s.nv.rings (s.reg 0x5822 1)
  if 0x4810 ≤ index ∧ index < 0x4812 ∧ sub = 1 then n 16 (stampOldest s (index - 0x4810))
  else if 0x48D0 ≤ index ∧ index < 0x48D4 ∧ sub = 3 then n 16 (captureOldest s (index - 0x48D0))
  else if 0x4100 ≤ index ∧ index < 0x4200 ∧ sub = 0x0D then
    n 4 (min (s.reg index sub + loopErrors s (index - 0x4100)) 0xFFFFFFFF)
  else if 0x5000 ≤ index ∧ index < 0x5080 ∧ sub = 2 then n 1 (pcOwner (index - 0x5000))
  else
    match index, sub with
    | 0x4200, 5 => n 1 (ports (· == 0))
    | 0x4200, 6 => n 1 (ports (· != 0))
    | 0x4200, 7 => n 2 ((List.range (nLinks s)).filter fun l => linkState s l == 7).length
    | 0x4400, 4 => n 2 s.ceilings.rec2.lensVoltage
    | 0x4400, 7 => temp (lensTemperature s)
    | 0x4402, 6 => n 4 s.ceilings.rec2.dcBalance
    | 0x4410, 2 => n 1536 s.dev.lens.reached
    | 0x4410, 3 => n 1536 s.dev.live.zones2D
    | 0x4410, 4 => n 2 s.dev.lens.transitions.length
    | 0x4802, 5 => n 10 (time80 (localTime s).toNat)
    | 0x4820, 4 => n 8 s.dev.timing.count
    | 0x4820, 5 => n 4 (frameNo s)
    | 0x4840, 5 => n 2 (((shownOrigin s).map (·.id)).getD 0)
    | 0x5400, i => temp (s.sensor (i - 1)).reading
    | 0x5402, i => temp (effective s (i - 1))
    | 0x5403, 1 => temp s.dev.thermal.td
    | 0x5404, 1 => temp (hottest s).1
    | 0x5404, 2 => n 1 (hottest s).2
    | 0x5820, 1 => n 1 (ofBool s.nv.writing.isSome)
    | 0x5820, 2 => n 1 (min 64 s.nv.queue.length)
    | 0x5820, 9 => n 2 s.nv.worn.length
    | 0x5820, 11 => some (rawPage s (s.reg 0x5820 10))
    | 0x5821, 2 => some ((record.map (·.payload)).getD [])
    | 0x5821, 3 => n 4 ((record.map (·.seq)).getD 0)
    | 0x5821, 4 => n 1 (recordCopies s)
    | 0x5822, 2 => some ((ring.map (·.payload)).getD [])
    | 0x5822, 3 => n 4 ((ring.map (·.seq)).getD 0)
    | 0x5822, 4 => n 1 ((ring.map (·.slot)).getD 0)
    | 0x6000, 2 => some ((s.dev.events.head?.map eventBytes).getD (List.replicate 32 0))
    | 0x6000, 3 => n 4 s.dev.events.length
    | 0x6030, 2 => n 4 (liveConditions s)
    | 0x6100, 4 => n 1 (proxySource s)
    | 0x6100, 5 => some ((List.range 232000).map (Config.romByte (s.com 0x3800 2)))
    | _, _ => none

/-- The value of an object that is not kept in the dictionary's own tables. -/
def objView (s : State) (index sub : Nat) : Option (List Byte) :=
  if index < 0x2000 then viewLow s index sub
  else if index < 0x4000 then viewMid s index sub else viewHigh s index sub

/-- The value of an existing object, as a read that passes its gate returns it. -/
def readBytes (s : State) (r : ObjRow) (index sub : Nat) : List Byte :=
  if sub = 0 then natLE r.dflt 1
  else if r.access = 2 then List.replicate r.size 0
  else
    match objView s index sub with
    | some bs => bs
    | none => if r.shadow then natLE (s.shad index sub) r.size else natLE (s.reg index sub) r.size

/-- Take the oldest unread event away (R874). -/
def eventTaken (s : State) : State := s.modDev fun d => { d with events := d.events.drop 1 }

/-- What a read of an object does besides returning it (R19, R530, R570). -/
def readDone (r : ObjRow) (index sub : Nat) (s : State) : State :=
  if r.access ≠ 4 ∨ sub = 0 then s
  else if 0x4810 ≤ index ∧ index < 0x4812 ∧ sub = 1 then stampRead (index - 0x4810) s
  else if 0x48D0 ≤ index ∧ index < 0x48D4 ∧ sub = 3 then captureRead (index - 0x48D0) s
  else if index = 0x6000 ∧ sub = 2 then eventTaken s
  else s.setReg index sub 0

/-- EVENT_READ (R874). -/
def execEventRead (s : State) : Out := run .eventRead (onDev [.events] eventTaken s)

end Sys2Proof.Machine
end

