-- ==== Sys2Proof/Machine/NvStore.lean ====
section
/-!
DEFINITION. The non-volatile store: page validity, the selection of records and rings, interrupted writes, and what
the drive die and the main die take from the store (R703 to R726, R730, R736, R748, R819, R825, R835).
-/
namespace Sys2Proof.Machine

/-! ### Pages (R716, R721) -/

/-- Page `p` reads empty on both reads. -/
def pageEmpty (nv : NvStore) (p : Nat) : Bool := !nv.torn.contains p && pageBytes nv p == emptyPage

/-- Page `p` is valid for a type and a copy (R716). -/
def pageValid (nv : NvStore) (p typ copy : Nat) : Bool :=
  let bs := pageBytes nv p
  let len := fieldLE bs 2 1
  fieldLE bs 0 1 == typ && fieldLE bs 1 1 == copy && decide (len ≤ 52) && fieldLE bs 3 1 == 0 &&
    allZero (slice bs (8 + len) (52 - len)) && !nv.torn.contains p && fieldLE bs 60 4 == crc32c (64 * p) (bs.take 60)

/-- Sequence and payload of a page. -/
def pageSeq (nv : NvStore) (p : Nat) : Nat := fieldLE (pageBytes nv p) 4 4
def pagePayload (nv : NvStore) (p : Nat) : List Byte :=
  let bs := pageBytes nv p
  slice bs 8 (fieldLE bs 2 1)

/-- What the comparison of R720 looks at: Type, Length and the payload bytes. -/
def pageBody (nv : NvStore) (p : Nat) : List Byte :=
  let bs := pageBytes nv p
  slice bs 0 1 ++ slice bs 2 1 ++ slice bs 8 52

/-- Page `p` holds the bytes of a write; an empty page is not listed. -/
def putPage (p : Nat) (bs : List Byte) (nv : NvStore) : NvStore :=
  { nv with pages := if bs = emptyPage then amErase nv.pages p else amPut nv.pages p bs
            torn := nv.torn.filter (· != p) }

/-- Byte `i` of a page whose write ended in a phase: 0 erase, 1 program (R721). Which reading it gives, and an unstable
one's value, are free. -/
def tornByte (draw phase i : Nat) (old new : Byte) : Byte × Bool :=
  let k := (Config.freeByte i draw).toNat % 3
  if k = 0 then (if phase = 0 then old else 0xFF, false)
  else if k = 1 then (if phase = 0 then 0xFF else new, false)
  else (Config.freeByte (64 + i) draw, true)

/-- The page after an interrupted write. Unstable bytes may differ between two reads. -/
def tornPage (draw p : Nat) (new : List Byte) (nv : NvStore) : NvStore :=
  let phase := (Config.freeByte 128 draw).toNat % 2
  let old := pageBytes nv p
  let bs := (List.range 64).map fun i => tornByte draw phase i (old.getD i 0xFF) (new.getD i 0xFF)
  let differs := bs.any (·.2) && (Config.freeByte 129 draw).toNat % 2 == 1
  let nv := putPage p (bs.map (·.1)) nv
  if differs then { nv with torn := nv.torn ++ [p] } else nv

/-- Power, or the drive die's reset, ends the write in progress; the queue is cleared (R711, R721). -/
def storeCut (s : State) : State :=
  let draw := s.dev.drawn
  let cut (nv : NvStore) : NvStore :=
    match nv.writing with
    | none => nv
    | some w => tornPage draw w.page w.bytes nv
  drawFree (modNv (fun nv => { cut nv with writing := none, queue := [], pageRead := none }) s)

/-! ### Selection (R719 to R724, R726) -/

/-- The selected value that copy A or B gives. -/
def selectedOf (nv : NvStore) (r : Nat) (inA validA validB : Bool) : Selected :=
  let p := if inA then r else 1024 + r
  { seq := pageSeq nv p, payload := pagePayload nv p, inA := inA, validA := validA, validB := validB
    single := nv.worn.contains r || nv.worn.contains (1024 + r) }

/-- Select record `r` by the validity of its copies (R719). -/
def putSelected (r : Nat) (inA validA validB : Bool) (s : State) : State :=
  modNv (fun nv => { nv with records := amPut nv.records r (selectedOf nv r inA validA validB) }) s

/-- One copy is valid and the other is neither valid nor empty (R720): `bad` is its page. -/
def selectSpoiled (r good bad : Nat) (s : State) : State :=
  if pageBody s.nv bad = pageBody s.nv good then
    logEvent 720 1 0x5820 6 r (writeRecord r (pagePayload s.nv good) .none (s.bump 0x5820 6))
  else logEvent 720 1 0x5820 5 r (s.bump 0x5820 5)

/-- Select record `r` (R719). -/
def selectRecord (r : Nat) (s : State) : State :=
  let t := recordType r
  let a := r
  let b := 1024 + r
  let nv := s.nv
  match pageValid nv a t 0, pageValid nv b t 1 with
  | true, true =>
    if pageSeq nv a ≠ pageSeq nv b then putSelected r (later 32 (pageSeq nv b) (pageSeq nv a)) true true s
    else
      let s := putSelected r true true true s
      if pagePayload nv a = pagePayload nv b then s else logEvent 719 1 0x5820 7 r (s.bump 0x5820 7)
  | true, false =>
    let s := putSelected r true true false s
    if pageEmpty nv b then s else selectSpoiled r a b s
  | false, true =>
    let s := putSelected r false false true s
    if pageEmpty nv a then s else selectSpoiled r b a s
  | false, false =>
    let s := s.bump 0x5820 8
    if pageEmpty nv a && pageEmpty nv b then s else logEvent 719 2 0x5820 8 r s

/-- The valid slots of ring `r`. -/
def validSlots (nv : NvStore) (r : Nat) : List Nat :=
  (List.range (ringBase r).2).filter fun i => pageValid nv ((ringBase r).1 + i) (ringType r) 2

/-- Select the latest slot of ring `r` (R723). -/
def selectRing (r : Nat) (s : State) : State :=
  let nv := s.nv
  let base := (ringBase r).1
  let slots := validSlots nv r
  let seq (i : Nat) : Nat := pageSeq nv (base + i)
  match slots.find? fun i => slots.all fun j => !later 32 (seq i) (seq j) with
  | none => s
  | some i =>
    let e : RingLatest := { seq := seq i, slot := i, payload := pagePayload nv (base + i) }
    let s := modNv (fun nv => { nv with rings := amPut nv.rings r e }) s
    if slots.any fun j => j != i && seq j == seq i then logEvent 723 1 0x5820 7 r (s.bump 0x5820 7) else s

/-- Assigned records (R717). -/
def assignedRecords : List Nat := (List.range 1024).filter fun r => recordType r != 0

/-- The drive die reads its record and ring areas and selects every record and ring (R726). -/
def storeSelect (s : State) : State :=
  let s := modNv (fun nv => { nv with records := [], rings := [] }) (s.setReg 0x5820 8 0)
  (s.each assignedRecords selectRecord).each (List.range 16) selectRing

/-! ### What is taken from the records -/

/-- The effective ceilings reach the enforcing circuits (R838, R839). -/
def ceilingsLoad (s : State) : State :=
  let rec' (r : Nat) : Ceilings := ((recordPayload s r).map ceilingsOf).getD {}
  let s := { s with ceilings := { rec1 := rec' 1, rec2 := rec' 2 } }
  if s.reg 0x4402 1 ≤ s.ceilings.rec2.dcBalance then s else s.setReg 0x4402 1 s.ceilings.rec2.dcBalance

/-- LIFECYCLE mirrors the fuses; where they disagree the record is rewritten (R819), with the erasure of a state that
has one (R822). -/
def lifeRepair (s : State) : State :=
  let p := (recordPayload s 3).getD (lifePayload .blank 0 false 7)
  let st := s.fuses.state
  let other := fieldLE p 0 1 != st.code
  if other || fieldLE p 1 1 != s.fuses.used then
    let erase := fieldLE p 2 1 == 1 || (other && (st == .returned || st == .retired))
    writeRecord 3 (lifePayload st s.fuses.used erase (fieldLE p 3 1)) (.transition erase) s
  else s

/-- Calibration offsets are loaded: effective readings come from the sensors (R730, R731). -/
def offsetsLoad (s : State) : State :=
  let s := modThermal (fun t => { t with calibrated := true }) s
  if (recordPayload s 14).isSome then s else logEvent 730 1 0x5401 0 0 s

/-- Sensor states come from record 15 (R736). -/
def sensorStatesLoad (s : State) : State :=
  match recordPayload s 15 with
  | none => s
  | some p =>
    let failed := fieldLE p 0 7
    let retired := fieldLE p 7 7
    let s := s.each (List.range 52) fun i t =>
      if hasBit retired i then t.setReg 0x5401 (i + 1) 2 else if hasBit failed i then t.setReg 0x5401 (i + 1) 1 else t
    if anySensorFailed s then s.setReg 0x5403 3 1 else s

/-- The frame anchor is read back at every reset (R535). -/
def anchorLoad (s : State) : State :=
  match recordPayload s 13 with
  | none => s
  | some p => (s.setReg 0x4820 2 (fieldLE p 0 8)).setReg 0x4820 3 (fieldLE p 8 10)

/-- Statistics go on from rings 2 and 3 (R748). -/
def statisticsLoad (s : State) : State :=
  let ring (r : Nat) : Option (List Byte) := (amGet s.nv.rings r).map (·.payload)
  let s := match ring 2 with
    | none => s
    | some p =>
      let bands := (List.range 6).map fun b => (b, fieldLE p (4 + 4 * b) 4)
      modThermal (fun t => { t with onHours := fieldLE p 0 4, bandIntervals := bands.filter (·.2 != 0) }) s
  match ring 3 with
  | none => s
  | some p =>
    let steps := (List.range 9).map fun k => (k, 10 * fieldLE p (4 * k) 4)
    modThermal (fun t => { t with stepTenths := steps.filter (·.2 != 0), advances := fieldLE p 36 4
                                  faults := fieldLE p 40 4, highest := toSigned 16 (fieldLE p 44 2) }) s

/-- The repair maps are loaded and every row is marched (R690): the maps in force are those of the store. -/
def repairLoad (s : State) : State :=
  s.each (List.range 128) fun b t =>
    match recordPayload t (16 + b) with
    | none => t
    | some p =>
      let used := ((List.range 8).filter fun k => hasBit (fieldLE p (2 * k) 2) 15).length
      let map := leNat (packLE 2 ((List.range 8).map fun k => fieldLE p (2 * k) 2 % 4096 + fieldLE p (2 * k) 2 / 32768 * 32768))
      ((t.setReg (0x5100 + b) 5 map).setReg (0x5100 + b) 2 used).setReg (0x5100 + b) 1 (if used = 0 then 0 else 1)

/-- What a reset of the main die takes from the records (R535, R731, R736, R748, R819). -/
def recordsLoad (s : State) : State :=
  statisticsLoad (anchorLoad (sensorStatesLoad (offsetsLoad (lifeRepair s))))

/-- An erasure whose flag is set starts again from its first page (R825). -/
def erasureResume (s : State) : State := if erasurePending s then erasureStart s else s

/-! ### Record and ring writes (R718, R724) -/

/-- What follows a write of record `r` that no other rule asked for. -/
def useOf (r : Nat) : StoreUse :=
  if r = 1 ∨ r = 2 then .ceilings
  else if 4 ≤ r ∧ r < 12 then .key (r - 4)
  else if r = 12 then .pointer
  else .none

/-- A record write; the pages of reserved records stay empty (R717). -/
def recordWrite (r : Nat) (payload : List Byte) (s : State) : State :=
  if recordType r = 0 then s else writeRecord r payload (useOf r) s

/-- A raw page read: it waits for the write that runs (R705). -/
def pageContents (s : State) : State :=
  let p := s.reg 0x5820 10
  if s.nv.writing.isSome then modNv (fun nv => { nv with pageRead := some p }) s
  else modNv (fun nv => { nv with pageData := rawPage s p }) s

/-! ### Commands -/

/-- RECORD_WRITE (R718). -/
def execRecordWrite (rec' : Nat) (payload : List Byte) (s : State) : Out :=
  run (.recordWrite rec' payload) (onNv [.od] (recordWrite rec' payload) s)

/-- RING_WRITE (R724). -/
def execRingWrite (ring : Nat) (payload : List Byte) (s : State) : Out :=
  run (.ringWrite ring payload) (onNv [.od] (writeRing ring payload .none) s)

/-- PAGE_CONTENTS_READ (R705). -/
def execPageContentsRead (s : State) : Out := run .pageContentsRead (onNv [] pageContents s)

end Sys2Proof.Machine
end

