-- ==== Sys2Proof/Machine/Bringup.lean ====
section
/-!
DEFINITION. Power-up, resets of the main die, of the drive die and of the management domain, the watchdog, and
running without firmware (R59, R843 to R865, R880, R883).
-/
namespace Sys2Proof.Machine

/-! ### The proxy image (R853 to R856) -/

/-- The bytes of a proxy image pass every check of R856 but the one on the raster setting. -/
def proxyImageGood (bs : List Byte) : Bool :=
  let wc := fieldLE bs 6 2
  let n := fieldLE bs 10 2
  let cells := wc * 360
  fieldLE bs 0 4 == 0x59585250 && fieldLE bs 4 1 == 1 && fieldLE bs 5 1 == 0 && (wc == 320 || wc == 640) &&
    fieldLE bs 8 2 == 360 && decide (1 ≤ n) && decide (n ≤ 256) && allZero (slice bs 20 40) &&
    fieldLE bs 60 4 == crc32c 0x00040000 (bs.take 60) &&
    fieldLE bs 16 4 == crc32c 0x00040040 (slice bs 64 (1536 + cells)) &&
    allZero (slice bs (64 + 6 * n) (1536 - 6 * n)) && (slice bs 1600 cells).all fun b => decide (b.toNat < n)

/-- Pages of the proxy image, 232,000 bytes. -/
def proxyPages : Nat := 3625

/-- The proxy image of the store passes its checks; during an erasure none is used (R825, R856). -/
def proxyStored (s : State) : Bool :=
  let pages := (List.range proxyPages).map (4096 + ·)
  if (amGet s.nv.pages 4096).isNone || erasurePending s then false
  else !(pages.any s.nv.torn.contains) && proxyImageGood ((pages.map (pageBytes s.nv)).flatten)

def proxyCheck (s : State) : State :=
  let good := proxyStored s
  modBringup (fun b => { b with proxyValid := good }) s

/-- The area is read at a reset: its image is valid, or there is none (0x6100:03; DEDUCED, log 157). -/
def proxyRead (s : State) : State :=
  let s := proxyCheck s
  s.setReg 0x6100 3 (if s.dev.bringup.proxyValid then 2 else 0)

/-! ### Power-up (R843) -/

/-- Domains that are never off, and those that carry proxy content from the start (R754, R848). -/
def domainsUp (s : State) : State := s.each [26, 27, 29, 30, 31, 32, 37, 39] domainOn

/-- Start DOWN links (R843 step 6). -/
def linksUp (s : State) : State := startDown s

/-- The main die reads the zone states from the drive die; the next eve acts on them (R507). -/
def zonesRead (s : State) : State :=
  let states := ((zonesHere s).filter (hasBit s.dev.lens.reached)).map fun z => (z, true)
  modLens (fun l => { l with arrived := states, reports := [] }) s

/-- Steps 3 to 6 of power-up: repair maps, records, the configuration image, the proxy image, and the links. -/
def mainSteps (s : State) : State :=
  let s := loadImage (recordsLoad (repairLoad (ceilingsLoad s)))
  linksUp (proxyRead s)

/-- What the drive die reads of its layer at its own reset: kind, polarity and source (R475). It keeps them without
power (DEDUCED, log 44). -/
def layerObject (k : Nat) : Bool := k == key 0x4400 1 || k == key 0x4400 2 || k == key 0x4400 3

/-- POWER_ON: everything but the fuses and the store is reset; the drive die begins to select its records (R843,
R859). Local time runs on. -/
def powerOn (s : State) : State :=
  let now := s.now
  let d : Dev := { od := s.dev.od.filter fun e => layerObject e.1
                   drawn := s.dev.drawn, ncp := { drawn := s.dev.ncp.drawn }, host := { memory := s.dev.host.memory }
                   safety := { pinLow := s.dev.safety.pinLow }, bringup := { selecting := true, t0 := now } }
  let s := storeCut s
  domainsUp { s with dev := { d with drawn := s.dev.drawn }, hbm := [], bank := [], ceilings := {}
                     nv := { pages := s.nv.pages, worn := s.nv.worn, torn := s.nv.torn } }

/-- STORE_SELECTION_COMPLETE: the records and rings are selected, the ceilings loaded, the lens journal is read, and
steps 3 to 6 begin. -/
def selectionComplete (s : State) : State :=
  if !s.dev.bringup.selecting then s
  else
    let s := modBringup (fun b => { b with selecting := false }) (storeSelect s)
    mainSteps (erasureResume (s.iff (hasLens s) lensReset))

/-- Calends 0 (R538, R551, R843 step 7): FREE_RUN at the base rate of the loaded image. -/
def firstCalends (s : State) : State :=
  let b := s.dev.bringup
  if s.dev.timing.started || b.inReset || b.selecting then s
  else
    let now := s.now
    let hz := max 1 (baseHz s)
    let s := modTiming (fun t => { t with started := true, count := 0, line := 0, calendsAt := now }) s
    let s := (((s.setReg 0x3801 1 hz).setReg 0x3801 2 (lineTime hz)).setReg 0x3801 4 720).setReg 0x4821 1 0
    let s := s.setReg 0x6011 1 (max 1 (s.reg 0x6011 1))
    let s := logEvent 843 0 0x6011 1 0 s
    let s := readLine 0 0 (portMode s) (bringupModes (proxyFrame s))
    openWindow 1 ((wallAfter s).iff (hasLens s) lensCalends)

/-- The stacks leave reset, and training runs (R656, R843 step 9). -/
def hbmRelease (s : State) : State :=
  let b := s.dev.bringup
  if s.dev.memory.releasedAt.isSome || b.inReset || b.selecting then s
  else
    let now := s.now
    let s := s.each [33, 34, 35, 36] domainOn
    modMemory (fun m => { m with releasedAt := some now }) ((s.setReg 0x5090 1 1).setReg 0x6011 1 2)

/-- A port has its links at the target speed, or a link that is ABSENT (R851). -/
def portReady (s : State) (p : Nat) : Bool :=
  let at' (l : Nat) : Bool := (linkState s l == 6 || linkState s l == 8) && s.reg (0x4100 + l) 2 == targetSpeed s
  linkState s (2 * p) == 7 || linkState s (2 * p + 1) == 7 || (at' (2 * p) && at' (2 * p + 1))

/-- The conditions of R851. The planner admits items as long as the main die is out of reset. -/
def readyNow (s : State) : Bool :=
  hbmTrained s && !s.dev.host.retryStatus && !s.dev.bringup.inReset &&
    (clusterDomains.all fun d => !domainHere s d || decide (2 ≤ domainState s d)) &&
    (List.range (nPorts s)).all (portReady s)

/-- Light-field ready (R851). -/
def lightFieldReady (s : State) : State :=
  if s.dev.bringup.ready || !readyNow s then s
  else
    let ms := min 65535 ((s.now - s.dev.bringup.t0) / 1000000000)
    let s := (s.setReg 0x6011 1 (max 3 (s.reg 0x6011 1))).setReg 0x6011 3 ms
    logEvent 851 0 0x6011 3 ms (modBringup (fun b => { b with ready := true }) s)

/-! ### Firmware (R836, R857, R858, R863, R864) -/

/-- The slot that the boot ROM runs: each slot passes its signature with a version, or does not. -/
def bootSlot (minimum : Nat) (slot0 slot1 : Option Nat) : Option (Nat × Nat) :=
  match slot0.filter (decide <| minimum ≤ ·), slot1.filter (decide <| minimum ≤ ·) with
  | some a, some b => if a < b then some (1, b) else some (0, a)
  | some a, none => some (0, a)
  | none, some b => some (1, b)
  | none, none => none

/-- The boot ROM checks both slots and runs one (R836, R857). In BLANK and RETIRED no firmware runs (R818). -/
def firmwareBoot (slot0 slot1 : Option Nat) (s : State) : State :=
  if s.dev.bringup.firmwareRuns && s.reg 0x6020 3 != 2 then s
  else
    match if romServes s then none else bootSlot s.fuses.minVersion slot0 slot1 with
    | none => (modBringup (fun b => { b with firmwareRuns := false }) s).setReg 0x6012 1 0xFF
    | some (slot, version) =>
      let now := s.now
      let s := (s.setReg 0x6012 1 slot).setReg 0x6020 3 0
      storeStart (logEvent 857 0 0x6012 1 slot
        (modBringup (fun b => { b with firmwareRuns := true, runningVersion := version, refreshedAt := now }) s))

/-- Every PTP source is lost at once: the servo has stopped, and local time enters HOLDOVER (R527, R865). -/
def servoStop (s : State) : State := sourcesLost [0, 1] s

/-- A restart of the management domain (R859, R864): NCP sessions close, a mailbox request is dropped, and answers owed
by the store are lost. -/
def managementRestart (cause : Nat) (s : State) : State :=
  let s := closeSessions (fun _ => true) s
  let s := modNcp (fun n => { n with challenges := [], failures := [], ignored := [] }) s
  let s := modHost (fun h => { h with mailState := 0, mailTransfer := none }) s
  let s := (s.modDev fun d => { d with delayed := [] })
  let s := modNv (fun nv => { nv with queue := nv.queue.map fun q => { q with answers := [] }
                                      writing := nv.writing.map fun w => { w with req := { w.req with answers := [] } } }) s
  let s := ((s.setReg 0x6010 2 cause).bumpSeq 0x6010 3).bump 0x6012 2
  servoStop (s.setReg 0x6020 3 2)

/-- The restarted firmware runs, and the store writes that waited for it go on (R864). -/
def managementRestarted (s : State) : State :=
  if s.reg 0x6020 3 = 2 then
    let now := s.now
    storeStart (modBringup (fun b => { b with refreshedAt := now }) (s.setReg 0x6020 3 0))
  else s

/-- MC0 to MC3 stop (R59, R865). -/
def coresStop (s : State) : State := servoStop (s.setReg 0x6020 3 1)

/-- Firmware refreshes the watchdog (R863). -/
def watchdogRefresh (s : State) : State :=
  let now := s.now
  if s.reg 0x6020 3 = 0 then modBringup (fun b => { b with refreshedAt := now }) s else s

/-- No refresh has come for the timeout (R863). -/
def watchdogDue (s : State) : Bool :=
  s.dev.bringup.firmwareRuns && s.reg 0x6020 3 != 2 &&
    decide (s.dev.bringup.refreshedAt + s.reg 0x6020 1 * 1000000000000 ≤ s.now)

def watchdogFired (s : State) : State :=
  if watchdogDue s then
    managementRestart 3 (logEvent 863 1 0x6020 2 0 (latch 5 (s.bump 0x6020 2)))
  else s

/-! ### Resets (R507, R711, R859 to R862, R880, R883) -/

/-- Objects of the drive die, and the count of resets, keep their values over a reset of the main die. -/
def keptOverReset (k : Nat) : Bool :=
  let i := k / 256
  (decide (0x4400 ≤ i) && decide (i ≤ 0x4420)) || (decide (0x5820 ≤ i) && decide (i ≤ 0x5822)) ||
    k == key 0x5430 39 || k == key 0x5430 40 || k == key 0x5431 39 || k == key 0x5431 40 || k == key 0x6010 3

/-- The main die after a reset: its registers, units, banks and stacks start over; the drive die, the drivers' rows and
the store go on. Answers and requests beyond the store's 64 places are lost (R709, R711). -/
def mainReset (cause : Nat) (s : State) : State :=
  let b := s.dev.bringup
  let nv := s.nv
  let d : Dev :=
    { od := s.dev.od.filter fun e => keptOverReset e.1
      drivers := s.dev.drivers
      lens := s.dev.lens
      safety := { pinLow := s.dev.safety.pinLow }
      host := { memory := s.dev.host.memory }
      ncp := { drawn := s.dev.ncp.drawn }
      bringup := { inReset := true, journalClosed := b.journalClosed, erasureLeft := b.erasureLeft, v33Low := b.v33Low
                   selecting := b.selecting, t0 := s.now }
      drawn := s.dev.drawn }
  let nv := { nv with pageRead := none
                      queue := (nv.queue.take 64).map fun q => { q with answers := [] }
                      writing := nv.writing.map fun w => { w with req := { w.req with answers := [] } } }
  let s := domainsUp (((({ s with dev := d, nv := nv, hbm := [], bank := [] } : State).setReg 0x6010 2 cause).bumpSeq
    0x6010 3))
  s.iff (hasLens s) lensPause

/-- The main die comes out of reset: power-up resumes at step 3 (R860), when the drive die has selected its records. -/
def mainResume (s : State) : State :=
  if !s.dev.bringup.inReset then s
  else
    let s := modBringup (fun b => { b with inReset := false }) s
    if s.dev.bringup.selecting then s
    else
      let s := mainSteps s
      s.iff (hasLens s) fun s => lensResume (zonesRead s)

/-- The main-die reset command (R859). -/
def mainDieReset (s : State) : State := mainResume (mainReset 2 s)

/-- A reset of the drive die (R711, R726, R807, R859, R862): the store queue is cleared, a commit and a STORE that run
are abandoned, records are selected, and the lens section starts over. -/
def driveReset (s : State) : State :=
  let s := storeCut s
  let s := if committing s then modImages (fun x => { x with committing := none }) (s.setReg 0x1400 3 0) else s
  let s := modBringup (fun b => { b with gate := none, erasureLeft := [], v33Low := false }) s
  let s := modLens (fun l => { l with onHold := false, inReset := false }) s
  let s := ceilingsLoad (storeSelect s)
  let s := modImages (fun x => { x with live := namedImage s }) (proxyRead s)
  erasureResume (lifeRepair (s.iff (hasLens s) lensReset))

/-- The drive die restarts after a supply loss (R859, R883). -/
def supplyRestore (s : State) : State :=
  if s.dev.bringup.v33Low then driveReset (s.setReg 0x6010 2 4) else s

/-- Code 3 of 0x6010:01 is accepted in MAKER or RETURNED, or while a SERVICE overlay is in force (R861). -/
def driveResetAllowed (s : State) : Bool := gateOf s == .maker || gateOf s == .returned || serviceInForce s

/-- The drive-die reset command (R861). -/
def driveDieReset (s : State) : State := if driveResetAllowed s then driveReset (s.setReg 0x6010 2 2) else s

/-! ### Commands -/

/-- POWER_ON (R843). -/
def execPowerOn (s : State) : Out := run .powerOn (onAll powerOn s)

/-- STORE_SELECTION_COMPLETE (R726). -/
def execStoreSelectionComplete (s : State) : Out := run .storeSelectionComplete
    (onCeil
      [.od, .shadow, .live, .links, .lens, .thermal, .images, .bringup, .events, .eventBuffer, .eventMessages]
      selectionComplete s)

/-- FIRST_CALENDS (R843). -/
def execFirstCalends (s : State) : Out :=
  run .firstCalends (onMemNv [.od, .timing, .synth, .jobs, .waiting, .copies, .clipReady, .late, .lost, .due,
      .holdSlots, .players, .protectedLogged, .links, .lens, .tiles, .host, .memory, .events, .eventBuffer,
      .eventMessages, .drawn] firstCalends s)

/-- HBM_RELEASE (R843). -/
def execHbmRelease (s : State) : Out := run .hbmRelease (onDev [.od, .memory] hbmRelease s)

/-- FIRMWARE_BOOT (R857). -/
def execFirmwareBoot (slot0 slot1 : Option Nat) (s : State) : Out :=
  run (.firmwareBoot slot0 slot1) (onNv [.od, .bringup, .events, .eventBuffer, .eventMessages] (firmwareBoot slot0
      slot1) s)

/-- LIGHT_FIELD_READY (R851). -/
def execLightFieldReady (s : State) : Out :=
  run .lightFieldReady (onDev [.od, .bringup, .events, .eventBuffer, .eventMessages] lightFieldReady s)

/-- SYS_RESET (R860): the main die stays in reset until SYS_RESET_RELEASE. -/
def execSysReset (s : State) : Out := run .sysReset (onAll (mainReset 1) s)

/-- SYS_RESET_RELEASE (R860). -/
def execSysResetRelease (s : State) : Out := run .sysResetRelease
    (onCeil
      [.od, .shadow, .live, .links, .lens, .thermal, .images, .bringup, .events, .eventBuffer, .eventMessages] mainResume s)

/-- RAIL_BAD (R880): as SYS_RESET_N does. -/
def execRailBad (s : State) : Out := run .railBad (onAll (mainReset 1) s)

/-- MANAGEMENT_RESTART_COMMAND (R861). -/
def execManagementRestartCommand (s : State) : Out :=
  run .managementRestartCommand (onNv [.od, .timing, .clock, .sources, .host, .ncp, .events, .eventBuffer,
      .eventMessages, .delayed] (managementRestart 2) s)

/-- MAIN_DIE_RESET_COMMAND (R861). -/
def execMainDieResetCommand (s : State) : Out := run .mainDieResetCommand (onAll mainDieReset s)

/-- WATCHDOG_REFRESH (R863). -/
def execWatchdogRefresh (s : State) : Out := run .watchdogRefresh (onDev [.bringup] watchdogRefresh s)

/-- WATCHDOG_EXPIRY (R863). -/
def execWatchdogExpiry (s : State) : Out :=
  run .watchdogExpiry (onNv [.od, .timing, .clock, .sources, .host, .ncp, .events, .eventBuffer, .eventMessages,
      .delayed] watchdogFired s)

/-- MANAGEMENT_RESTART_COMPLETE (R864). -/
def execManagementRestartComplete (s : State) : Out := run .managementRestartComplete
    (onNv [.od, .bringup] managementRestarted s)

/-- MANAGEMENT_CORES_STOP (R59). -/
def execManagementCoresStop (s : State) : Out :=
  run .managementCoresStop (onDev [.od, .timing, .clock, .sources, .events, .eventBuffer, .eventMessages] coresStop
      s)

end Sys2Proof.Machine
end

