-- ==== Sys2Proof/Machine/CheckUnits.lean ====
section
/-!
DEFINITION. The check units CU0 to CU23 (R696 to R702).
-/
namespace Sys2Proof.Machine

/-- A FEED is running on unit `u`. -/
def cuRunning (s : State) (u : Nat) : Bool := s.reg (0x5800 + u) 0x0A == 1

/-- Length of the range unit `u` feeds: source 2 feeds the bytes of its data piece (0x5800+u:08). -/
def cuLength (s : State) (u : Nat) : Nat :=
  if s.reg (0x5800 + u) 5 = 2 then (s.unit u).data.length else s.reg (0x5800 + u) 7

/-- Byte `off` of slot `slot` of the strip buffer (R33): the 10-bit codes of a strip packed as the freeze caches hold them
(log 129). -/
def stripByte (s : State) (slot off : Nat) : Byte :=
  let w := 5760 * patchesPerStrip s.dev.live
  let code (i : Nat) : Nat :=
    ((amGet s.dev.synth.strips (stripKey slot (i / w) (i % w / 5760))).getD []).getD (i % 5760) 0
  let i := 8 * off / 10
  BitVec.ofNat 8 ((code i + code (i + 1) * 1024) >>> (8 * off % 10))

/-- The byte of bank space at `a` (R678). The manual lays out nothing within the window cache, nor what follows a strip in
its slot, so what a check unit reads there is free (log 18). -/
def bankByte (s : State) (a : Nat) : Byte :=
  if a < 0x4000000 then Config.freeByte s.dev.drawn a
  else if a < 0x7000000 then
    let off := (a - 0x4000000) % 0x600000
    if off < cacheStripBytes s.dev.live then stripByte s ((a - 0x4000000) / 0x600000) off else Config.freeByte s.dev.drawn a
  else cellGet s.bank a

/-- Byte `i` of the range unit `u` feeds (R696); none where the read is poisoned. -/
def cuByte (s : State) (u i : Nat) : Option Byte :=
  let a := s.reg (0x5800 + u) 6 + i
  match s.reg (0x5800 + u) 5 with
  | 0 => hbmByte s a
  | 1 => some (bankByte s a)
  | _ => (s.unit u).data[i]?

/-- The range of unit `u` crosses no reserved HBM offset and not the end of bank space (R701). -/
def cuRangeGood (s : State) (u : Nat) : Bool :=
  let a := s.reg (0x5800 + u) 6
  match s.reg (0x5800 + u) 5 with
  | 0 => inAreas s a (cuLength s u)
  | 1 => decide (a + cuLength s u ≤ 0x8000000)
  | _ => true

/-- START: the folded initial value and length 0 (R699). -/
def cuStart (u : Nat) (s : State) : State :=
  if cuRunning s u then s
  else (s.setReg (0x5800 + u) 3 (crcInit (s.reg (0x5800 + u) 1) (s.reg (0x5800 + u) 2))).setReg (0x5800 + u) 4 0

/-- FEED for HBM source `src`: status is running until the last byte is fed (R699); a bad range is refused (R701). A range
of HBM is asked for under the source ID of the one who gave the command (R696). -/
def cuFeed (src u : Nat) (s : State) : State :=
  if cuRunning s u || !cuRangeGood s u then s
  else
    let s := s.setReg (0x5800 + u) 0x0A 1
    s.iff (s.reg (0x5800 + u) 5 == 0) (hbmAsk src false (s.reg (0x5800 + u) 6) (cuLength s u))

/-- The running value and the length take `n` bytes of the range (R698). -/
def cuTake (u n : Nat) (s : State) : State :=
  let bs := (List.range n).filterMap (cuByte s u)
  let i := 0x5800 + u
  drawFree ((s.setReg i 3 (crcFeed (s.reg i 1) (s.reg i 3) bs)).setReg i 4 ((s.reg i 4 + n) % 2 ^ 64))

/-- The FEED ends: at the last byte, or at the 8-byte step that holds a poisoned byte (R701). `bad` is the offset of a
byte that the read returns poisoned. -/
def cuFeedEnd (u : Nat) (bad : Option Nat) (s : State) : State :=
  if !cuRunning s u then s
  else
    let len := cuLength s u
    let lost := (List.range len).find? fun i => (cuByte s u i).isNone || bad == some i
    match lost with
    | none => (cuTake u len s).setReg (0x5800 + u) 0x0A 2
    | some i => (cuTake u (i / 8 * 8) s).setReg (0x5800 + u) 0x0A 3

/-- FINISH: the result is the running value with the final XOR (R699). -/
def cuFinish (u : Nat) (s : State) : State :=
  if cuRunning s u then s
  else s.setReg (0x5800 + u) 0x0B (s.reg (0x5800 + u) 3 ^^^ crcFinal (s.reg (0x5800 + u) 1))

/-- ABORT after `fed` bytes: the FEED stops at the next 8-byte step, or at its end (R699). The status is idle again
(DEDUCED, log 19). -/
def cuAbort (u fed : Nat) (s : State) : State :=
  if cuRunning s u then (cuTake u (min (cuLength s u) ((fed + 7) / 8 * 8)) s).setReg (0x5800 + u) 0x0A 0 else s

/-- A parity failure: status 3, counted and logged (R702). -/
def cuParity (u : Nat) (s : State) : State :=
  logEvent 702 1 (0x5800 + u) 0 0 ((s.setReg (0x5800 + u) 0x0A 3).bump (0x5800 + u) 0x0C)

/-- The command of code `c` on unit `u` (0x5800+u:09), given for HBM source `src`. -/
def cuCommand (src u c : Nat) (s : State) : State :=
  match c with
  | 1 => cuStart u s
  | 2 => cuFeed src u s
  | 3 => cuFinish u s
  | _ => cuAbort u 0 s

/-- START (R699). -/
def execStart (u : Nat) (s : State) : Out := run (.start u) (onDev [.od] (cuStart u) s)

/-- FEED (R699, R701), given by management core MC0 (log 155). -/
def execFeed (u : Nat) (s : State) : Out :=
  run (.feed u) (onDev [.od, .memory] (cuFeed 48 u) s)

/-- FEED_COMPLETE (R701). -/
def execFeedComplete (u : Nat) (bad : Option Nat) (s : State) : Out :=
  run (.feedComplete u bad) (onDev [.od, .drawn] (cuFeedEnd u bad) s)

/-- FINISH (R699). -/
def execFinish (u : Nat) (s : State) : Out := run (.finish u) (onDev [.od] (cuFinish u) s)

/-- ABORT (R699). -/
def execAbort (u fed : Nat) (s : State) : Out := run (.abort u fed) (onDev [.od, .drawn] (cuAbort u fed) s)

/-- CHECK_UNIT_PARITY_FAIL (R702). -/
def execCheckUnitParityFail (u : Nat) (s : State) : Out :=
  run (.checkUnitParityFail u) (onDev [.od, .events, .eventBuffer, .eventMessages] (cuParity u) s)

end Sys2Proof.Machine
end

