-- ==== Sys2Proof/Machine/Settings.lean ====
section
/-!
DEFINITION. What a write of each object of the dictionary does once it has passed its gate and form: settings,
command objects, sticky bits, and the objects whose values the store keeps (R19, R20, R241, R469, R699, R739, R768,
R773, R801, R812, R820, R830, R838, R858, R861).
-/
namespace Sys2Proof.Machine

/-! ### Objects that cannot change now -/

/-- The object cannot change in the present state, as its rule says (0x0A04 of R770). Commands whose own rule answers so
check it themselves. -/
def objectInUse (s : State) (index sub v : Nat) : Bool :=
  if index = 0x1400 ∧ (sub = 1 ∨ sub = 2) then committing s
  else if index = 0x3410 ∧ sub = 2 then gainEnabled s
  else if index = 0x4820 ∧ 1 ≤ sub ∧ sub ≤ 3 then frameLock s != 0
  else if 0x4100 ≤ index ∧ index < 0x4200 ∧ sub = 0x0C then v != 0 && !testAllowed s (index - 0x4100)
  else if 0x5800 ≤ index ∧ index < 0x5818 ∧ sub = 9 then cuRunning s (index - 0x5800) && v != 4
  else if index = 0x5420 ∧ sub = 1 then !(decide (v < 52) && sensorState s v == 1 && serviceInForce s)
  else if index = 0x5420 ∧ sub = 2 then !(decide (v < 52) && sensorState s v == 2 && serviceInForce s)
  else false

/-! ### The proxy image (R858, R874) -/

/-- A STORE or an ERASE of the proxy image runs. -/
def proxyBusy (s : State) : Bool :=
  let own (q : StoreReq) : Bool := match q.use with
    | .proxy _ => true
    | .proxyErase _ => true
    | _ => false
  s.nv.queue.any own || s.nv.writing.any fun w => own w.req

/-- Queue pages of the proxy area; the last write is the one that ends the command, and owes its answers. -/
def proxyQueue (use : Bool → StoreUse) (owed : Owed) : List (Nat × List Byte) → State → State
  | [], s => s
  | [(p, bs)], s => storeRequest { target := .page (4096 + p), bytes := bs, use := use true, answers := owed, asked := true } s
  | (p, bs) :: rest, s =>
    proxyQueue use owed rest (storeRequest { target := .page (4096 + p), bytes := bs, use := use false } s)

/-- STORE: the buffer is checked; its header page is written empty, then its pages, the header last (R858). -/
def proxyStore (owed : Owed) (s : State) : Reply :=
  let bs := padTo 232000 s.dev.bringup.proxyBuffer
  if proxyBusy s then (some abInUse, s)
  else if !proxyImageGood bs || fieldLE bs 6 2 != (if halfTile s then 320 else 640) then
    (some abMalformed, s.setReg 0x6100 3 3)
  else
    let page (p : Nat) : Nat × List Byte := (p, slice bs (64 * p) 64)
    let body := (List.range (proxyPages - 1)).map fun i => page (i + 1)
    (none, proxyQueue .proxy owed ((0, emptyPage) :: body ++ [page 0]) (s.setReg 0x6100 3 1))

/-- ERASE: the pages of the area that are not empty are written empty, the header first (DESIGN CHOICE, log 45). -/
def proxyErase (owed : Owed) (s : State) : Reply :=
  if proxyBusy s then (some abInUse, s)
  else
    let pages := (List.range proxyPages).filter fun p => (amGet s.nv.pages (4096 + p)).isSome
    if pages.isEmpty then (some 0, s.setReg 0x6100 3 0)
    else (none, proxyQueue .proxyErase owed (pages.map fun p => (p, emptyPage)) (s.setReg 0x6100 3 1))

/-! ### Command objects -/

/-- A write of the reset command (R861). -/
def resetWrite (o : Origin) (v : Nat) (s : State) : Reply :=
  if v / 256 ≠ 0x525354 then (some abRange, s)
  else
    match v % 256 with
    | 1 => (some 0, managementRestart 2 s)
    | 2 => (some 0, mainDieReset s)
    | 3 =>
      if hasRight s o (some rService) && driveResetAllowed s then (some 0, driveDieReset s) else (some abRange, s)
    | _ => (some abRange, s)

/-- Give a command of one code, or another. -/
def byCode (v : Nat) (f g : State → Ans) (s : State) : Reply := Reply.of (if v = 1 then f s else g s)

/-- A command without a refusal of its own. -/
def always (f : State → State) (s : State) : Reply := (some 0, f s)

/-- A command object, when index:subindex is one: its reply. -/
def commandWrite (o : Origin) (index sub v : Nat) (owed : Owed) (s : State) : Option Reply :=
  if 0x3100 ≤ index ∧ index < 0x3110 ∧ sub = 0x0A then some (always (regionLearn (index - 0x3100)) s)
  else if 0x5800 ≤ index ∧ index < 0x5818 ∧ sub = 9 then
    let u := index - 0x5800
    if v = 2 && !cuRangeGood s u then some (some abRange, s) else some (always (cuCommand (if isMailbox o then 46 else 48) u v) s)
  else
    match index, sub with
    | 0x1100, 4 => some (transition o v owed s)
    | 0x1104, 4 => some (Reply.of (raiseMinimum v s))
    | 0x1400, 2 => some (byCode v imageVerify imageCommit s)
    | 0x1410, 3 => some (Reply.of (modeSubmit s))
    | 0x2021, 4 =>
      some (Reply.of (if v = 1 then clipRegister s else if v = 2 then clipVerify s else clipUnregister s))
    | 0x2111, 3 => some (Reply.of (viewSubmit s))
    | 0x3000, 1 => some (Reply.of (commitRequest s))
    | 0x3180, 4 => some (byCode v protectedLoad protectedErase s)
    | 0x3190, 3 => some (Reply.of (safetyRelease s))
    | 0x3410, 4 => some (always gainCheck s)
    | 0x3412, 5 => some (Reply.of (bandSubmit s))
    | 0x3440, 5 => some (always agingRefresh s)
    | 0x3800, 7 => some (Reply.of (rasterSubmit s))
    | 0x4402, 7 => some (always layerRestart s)
    | 0x4820, 6 => some (Reply.of (relock s))
    | 0x5420, 1 => some (none, oweRecord 15 owed (retireSensor v s))
    | 0x5420, 2 => some (none, oweRecord 15 owed (restoreSensor v s))
    | 0x6010, 1 => some (resetWrite o v s)
    | 0x6100, 2 => some (if v = 1 then proxyStore owed s else proxyErase owed s)
    | _, _ => none

/-! ### Objects that the store keeps -/

/-- The mailbox rights are kept in LIFECYCLE (0x1103:01). -/
def mailRightsWrite (v : Nat) (owed : Owed) (s : State) : State :=
  let p := (intendedPayload s 3).getD (lifePayload s.fuses.state s.fuses.used false 7)
  oweRecord 3 owed (writeRecord 3 (p.take 3 ++ natLE v 1) .none s)

/-- A stored object's reply (R708). -/
def storedWrite (index sub v : Nat) (bs : List Byte) (owed : Owed) (s : State) : Option Reply :=
  if index = 0x1101 then some (keyWrite (sub - 1) bs owed s)
  else if index = 0x1103 then some (none, mailRightsWrite (cleaned index sub v) owed s)
  else if index = 0x1401 ∧ sub = 4 then some (resetModeWrite v owed s)
  else if index = 0x5821 ∧ sub = 2 then
    let r := s.reg 0x5821 1
    some (none, oweRecord r owed (recordWrite r bs s))
  else if index = 0x5822 ∧ sub = 2 then
    some (none, storeRequest { target := .ring (s.reg 0x5822 1), bytes := bs, answers := owed, asked := true } s)
  else (ceilingAt index sub).map fun c => ceilingWrite c (cleaned index sub v) owed s

/-! ### Settings -/

/-- The aging counters (R341, R343): a counter counts 2^40 of its total. -/
def countersWrite (v : Nat) (s : State) : State :=
  let totals := (List.range 43200).filterMap fun i =>
    let c := (v >>> (64 * i)) % 2 ^ 64
    if c = 0 then none else some (i, c * 2 ^ 40)
  modGov (fun g => { g with aging := totals }) s

/-- A PTP source is enabled or disabled (0x4800+c:01): a disabled one is lost; an enabled one listens once its port has
link. -/
def sourceEnable (c : Nat) (on : Bool) (s : State) : State :=
  if on then
    s.iff (s.reg (0x4800 + c) 6 == 0 && s.reg (0x4812 + s.reg (0x4800 + c) 3) 1 != 0) (·.setReg (0x4800 + c) 6 1)
  else (leaveSlave c s).setReg (0x4800 + c) 6 0

/-- What else a new value of a setting does, once the object holds it. -/
def settingEffect (index sub v : Nat) (s : State) : State :=
  if index = 0x4800 ∧ sub = 1 then sourceEnable 0 (v == 1) s
  else if index = 0x4801 ∧ sub = 1 then sourceEnable 1 (v == 1) s
  else if 0x4880 ≤ index ∧ index < 0x4888 ∧ sub = 9 then
    let t := index - 0x4880
    if v = 0 then setTileState t 0 s else tileLink t (domainWake 31 s)
  else if index = 0x5410 ∧ 3 ≤ sub ∧ sub ≤ 5 then s.setReg 0x5410 6 (requestedLimit s)
  else s

/-- A write of a setting. -/
def settingWrite (index sub v : Nat) (bs : List Byte) (s : State) : Ans :=
  if index = 0x1200 then (0, (holdAddress s).setReg index sub (cleaned index sub v))
  else if index = 0x1400 ∧ sub = 1 then (0, modImages (fun x => { x with buffer := bs }) s)
  else if index = 0x6100 ∧ sub = 1 then (0, modBringup (fun b => { b with proxyBuffer := bs }) s)
  else if index = 0x3410 ∧ sub = 2 then gainBaseWrite v s
  else if index = 0x3440 ∧ sub = 2 then (0, countersWrite v s)
  else if 0x4100 ≤ index ∧ index < 0x4200 ∧ sub = 0x0C then
    (0, if v = 0 then testOff (index - 0x4100) s else testLoop (index - 0x4100) v s)
  else if index = 0x4820 ∧ sub ≤ 3 then epochWrite sub v s
  else if index = 0x4840 ∧ sub = 1 then (0, originateWrite v s)
  else if index = 0x4840 ∧ sub = 2 then originCommand v s
  else if 0x5800 ≤ index ∧ index < 0x5818 ∧ sub = 8 then (0, modUnit (index - 0x5800) (fun u => { u with data := bs }) s)
  else (0, settingEffect index sub v (s.setReg index sub (cleaned index sub v)))

/-! ### The write -/

/-- A write of an existing object that has passed its gate and its form (R768, R771): RO and RC ignore it, W1C clears
the bits written as 1. The refusal of aging curves carries the reason for a malformed item (R345; DEDUCED, log 141).
`owed` is the answer that waits when the store is written. -/
def objectWrite (o : Origin) (r : ObjRow) (index sub : Nat) (bs : List Byte) (owed : Owed) (s : State) : Reply :=
  let v := leNat bs
  if sub = 0 ∨ r.access = 0 ∨ r.access = 4 then (some 0, s)
  else if r.access = 3 then (some 0, s.setReg index sub (s.reg index sub - (s.reg index sub &&& v)))
  else if r.shadow then Reply.of (shadowWrite r index sub bs s)
  else if objectInUse s index sub v then (some abInUse, s)
  else
    let a := valueAbort s r index sub bs
    if a ≠ 0 then (some a, s.iff (a == abRefused) (countRefusal 2 0))
    else
      match storedWrite index sub v bs owed s with
      | some a => a
      | none =>
        match commandWrite o index sub v owed s with
        | some a => a
        | none => Reply.of (settingWrite index sub v bs s)

/-! ### Commands -/

/-- PROXY_STORE (R858). -/
def execProxyStore (s : State) : Out := run .proxyStore (onNv [.od] (fun t => (proxyStore [] t).2) s)

/-- PROXY_ERASE (R874). -/
def execProxyErase (s : State) : Out := run .proxyErase (onNv [.od] (fun t => (proxyErase [] t).2) s)

end Sys2Proof.Machine
end

