-- ==== Sys2Proof/Machine/Services.lean ====
section
/-!
DEFINITION. Requests on the object dictionary: services, segmented transfers, answers over the mailbox and over NCP,
order of execution, and frames that a session accepts (R60, R770, R771, R774 to R794, R835).
-/
namespace Sys2Proof.Machine

/-! ### Answers (R781) -/

/-- A RESPONSE or a mailbox response, but for its service code. -/
structure Answer where
  index : Nat
  sub : Nat
  typ : Nat := 0
  abort : Nat := 0
  size : Nat := 0
  data : List Byte := []
deriving DecidableEq, Repr

/-- The 16 bytes of the response header, and the data. -/
def answerBytes (svc : Nat) (a : Answer) : List Byte :=
  natLE svc 1 ++ natLE (ofBool (a.abort != 0)) 1 ++ natLE a.index 2 ++ natLE a.sub 1 ++ natLE a.typ 1 ++
    natLE a.data.length 2 ++ natLE a.abort 4 ++ natLE a.size 4 ++ a.data

/-! ### Frames (R774 to R779) -/

/-- An NCP frame without its tag. -/
def frameBody (typ session seq txn : Nat) (payload : List Byte) : List Byte :=
  natLE 1 1 ++ natLE typ 1 ++ [0, 0] ++ natLE session 4 ++ natLE seq 4 ++ natLE txn 2 ++ natLE payload.length 2 ++ payload

/-- A frame goes out on a port for a source, under the transmit cap like every frame of firmware (R518). -/
def sendFrame (port dst : Nat) (bs : List Byte) (s : State) : State :=
  frameOut port { size := bs.length, ncp := some (dst, bs) } s

/-- A RESPONSE goes out with the next sequence of its session (R779, R785). -/
def sendResponse (place : Nat) (x : Session) (f : NcpHead) (payload : List Byte) (s : State) : State :=
  let body := frameBody 6 x.number x.sendSeq f.txn payload
  sendFrame f.port f.src (body ++ hmac x.key body)
    (putSession place (some { x with sendSeq := (x.sendSeq + 1) % 2 ^ 32 }) s)

/-- Answer a request: in the mailbox's response area, or to its session while it is open (R785, R786, R789). -/
def respond (svc : Nat) (o : Origin) (a : Answer) (s : State) : State :=
  let payload := answerBytes svc a
  match o with
  | .mailbox => modHost (fun h => { h with mailResponse := payload, mailState := 2 }) s
  | .ncp f =>
    match sessionAt s f.session with
    | none => s
    | some (i, x) => sendResponse i { x with responses := ((f.txn, payload) :: x.responses).take 16 } f payload s

/-- NCP has an address in force (R772, R817): IPv4 address 0 disables IPv4. -/
def addressed (s : State) : Bool := addressInForce s 1 != 0 || addressInForce s 4 == 1

/-- A request is served now (R60, R772, R818, R835): by firmware, over NCP at an address; or in BLANK and RETIRED by the
boot ROM, which serves the mailbox alone. -/
def served (s : State) (o : Origin) : Bool :=
  if romServes s then isMailbox o
  else s.dev.bringup.firmwareRuns && s.reg 0x6020 3 == 0 && (isMailbox o || addressed s)

/-! ### Objects -/

/-- Most data bytes of one request or answer (R780, R790). -/
def dataLimit : Origin → Nat
  | .mailbox => 16384
  | .ncp _ => 1024

/-- A service that carries no Type (R780). -/
def typeless (svc : Nat) : Bool := svc == 1 || svc == 3 || 5 ≤ svc

/-- A field that the service does not use is not 0, or Length does not name the data that follow (R780, R787, R790). -/
def misused (svc : Nat) (r : Request) : Bool :=
  r.reserved != 0 || (typeless svc && r.typ != 0) || (svc != 3 && svc != 4 && r.offset != 0) ||
    (svc != 4 && r.total != 0) || (if svc = 3 then !r.data.isEmpty else r.length != r.data.length)

/-- Types that segmented services take: STR, OCTETS and DOMAIN (R770). -/
def segmentable (typ : Nat) : Bool := decide (0x0B ≤ typ)

/-- The next existing object after index:subindex (R782): subindex 0 of an index counts. -/
def nextObject? (s : State) (index sub : Nat) : Option (Nat × Nat) :=
  let above := allRows.filter fun r => decide (index < r.base + r.count)
  let subs (i : Nat) : List Nat := (List.range 256).filter fun k => (objHere s i k).isSome
  match (subs index).find? fun k => decide (sub < k) with
  | some k => some (index, k)
  | none =>
    let after := (above.map fun r => (List.range r.count).map (r.base + ·)).flatten.filter fun i =>
      decide (index < i) && indexHere s i
    (after.foldl (fun b i => match b with
      | none => some i
      | some x => some (min x i)) none).map fun i => (i, 0)

/-- The description of an object (R784). -/
def describe (s : State) (r : ObjRow) (index sub : Nat) : List Byte :=
  natLE r.typ 1 ++ natLE r.access 1 ++ natLE r.attr 1 ++ [0] ++ natLE r.size 4 ++ natLE (readGate s index sub) 1 ++
    natLE (writeGate s r index sub) 1 ++ [0, 0]

/-- The value's present length, for an object that can be read. -/
def valueSize (s : State) (r : ObjRow) (index sub : Nat) : Nat := (readBytes s r index sub).length

/-- The abort of a request before its value is looked at, in the order of R771. -/
def requestAbort (svc : Nat) (o : Origin) (r : Request) (row : Option ObjRow) (s : State) : Nat :=
  let limit := dataLimit o
  match row with
  | none => if limit < r.data.length ∨ (svc = 3 ∧ limit < r.length) then abTooLong else abNone
  | some w =>
    if limit < r.data.length ∨ (svc = 3 ∧ limit < r.length) ∨ (svc = 1 ∧ limit < valueSize s w r.index r.sub) then abTooLong
    else if (svc = 3 ∨ svc = 4) ∧ segmentable w.typ = false then abNotDomain
    else if svc = 5 then (if !gateOpen s (readGate s r.index r.sub) && romServes s then abDenied else 0)
    else if (svc = 1 ∨ svc = 3) ∧ mayRead s o r.index r.sub = false then abDenied
    else if (svc = 2 ∨ svc = 4) ∧ mayWrite s o w r.index r.sub = false then abDenied
    else if (svc = 2 ∨ svc = 4) ∧ r.typ ≠ w.typ then abType
    else 0

/-! ### Segmented transfers (R783) -/

/-- The transfer open for an origin. -/
def transferOf (s : State) : Origin → Option Transfer
  | .mailbox => s.dev.host.mailTransfer
  | .ncp f => (sessionAt s f.session).bind (·.2.transfer)

def putTransfer (o : Origin) (t : Option Transfer) (s : State) : State :=
  match o with
  | .mailbox => modHost (fun h => { h with mailTransfer := t }) s
  | .ncp f =>
    match sessionAt s f.session with
    | none => s
    | some (i, x) => putSession i (some { x with transfer := t }) s

/-- The transfer that a segment goes on with: a new one at Offset 0, and otherwise the open one of its object. -/
def transferFor (s : State) (o : Origin) (r : Request) : Option Transfer :=
  if r.offset = 0 then some { key := key r.index r.sub, typ := r.typ, total := r.total, data := [], touched := s.now }
  else
    match transferOf s o with
    | none => none
    | some t => if t.key = key r.index r.sub ∧ r.offset = t.data.length then some t else none

/-! ### Performing a request -/

/-- A whole value is written: length and type first, then the object's own rules (R764, R782). -/
def writeWhole (o : Origin) (w : ObjRow) (r : Request) (bs : List Byte) (owed : Owed) (s : State) : Reply :=
  if w.access ≠ 0 ∧ w.access ≠ 4 ∧ lengthGood w bs.length = false then (some (if w.typ = 0x0B then abRange else abType), s)
  else objectWrite o w r.index r.sub bs owed s

/-- One segment (R783). -/
def writeSegment (o : Origin) (w : ObjRow) (r : Request) (owed : Owed) (s : State) : Reply :=
  match transferFor s o r with
  | none => (some abOrder, s)
  | some t =>
    let data := t.data ++ r.data
    if data.length = t.total then writeWhole o w r data owed (putTransfer o none s)
    else (some 0, putTransfer o (some { t with data := data, touched := s.now }) s)

/-- The answer of a request that needs no store write; none while one is awaited. -/
def finish (r : Request) (w : ObjRow) (x : Reply) : Option Answer × State :=
  (x.1.map fun a =>
    { index := r.index, sub := r.sub, typ := w.typ, abort := a, size := if a = 0 then valueSize x.2 w r.index r.sub else 0 },
    x.2)

/-- Perform service `svc` (R782). -/
def perform (svc : Nat) (o : Origin) (r : Request) (s : State) : Option Answer × State :=
  let row := objHere s r.index r.sub
  let blank : Answer := { index := r.index, sub := r.sub, typ := (row.map (·.typ)).getD 0 }
  let fail (a : Nat) (s : State) : Option Answer × State := (some { blank with abort := a }, s)
  if svc = 4 ∧ (transferFor s o r).isNone = true then fail abOrder s
  else if svc = 4 && (transferFor s o r).any (fun t => decide (t.total < t.data.length + r.data.length)) then
    fail abTooLong (putTransfer o none s)
  else if svc = 7 then
    fail (if romServes s then abDenied else if misused svc r then abType else 0) s
  else if svc = 6 then
    match nextObject? s r.index r.sub with
    | none => fail abNone s
    | some (i, k) =>
      if romServes s then fail abDenied s
      else if misused svc r then fail abType s
      else
        let next := objHere s i k
        (some { index := i, sub := k, typ := (next.map (·.typ)).getD 0
                size := (next.map fun w => valueSize s w i k).getD 0 }, s)
  else
    let a := requestAbort svc o r row s
    if a ≠ 0 then fail a s
    else if misused svc r then fail abType s
    else
      match row with
      | none => fail abNone s
      | some w =>
        let bs := readBytes s w r.index r.sub
        match svc with
        | 1 => (some { blank with size := bs.length, data := bs }, readDone w r.index r.sub s)
        | 3 => (some { blank with size := bs.length, data := slice bs r.offset r.length }, readDone w r.index r.sub s)
        | 2 => finish r w (writeWhole o w r r.data [(svc, o, r)] s)
        | 4 => finish r w (writeSegment o w r [(svc, o, r)] s)
        | _ => (some { blank with size := valueSize s w r.index r.sub, data := describe s w r.index r.sub }, s)

/-- The answer to a write that waited for the store: its abort code. -/
def owedAnswer (s : State) (r : Request) (abort : Nat) : Answer :=
  let row := objHere s r.index r.sub
  { index := r.index, sub := r.sub, typ := (row.map (·.typ)).getD 0, abort := abort
    size := if abort = 0 then (row.map fun w => valueSize s w r.index r.sub).getD 0 else 0 }

/-- Answer the requests that a store write owes (R708). An answer that falls due while nothing serves its origin is lost
(R864). -/
def answerOwed (abort : Nat) (owed : Owed) (s : State) : State :=
  s.each owed fun e s => if served s e.2.1 then respond e.1 e.2.1 (owedAnswer s e.2.2 abort) s else s

/-! ### Order (R705, R792, R793) -/

/-- A raw page read waits while the store writes (0x5820:0B, R705). -/
def pageWait (s : State) (svc : Nat) (r : Request) : Bool :=
  (svc == 1 || svc == 3) && r.index == 0x5820 && r.sub == 0x0B && s.nv.writing.isSome

/-- The stored RESPONSE to a request's transaction, with its session and place (R785). -/
def storedResponse (s : State) : Origin → Option (Nat × Session × List Byte)
  | .mailbox => none
  | .ncp h =>
    match sessionAt s h.session with
    | none => none
    | some (i, x) => (x.responses.find? fun p => p.1 == h.txn).map fun p => (i, x, p.2)

/-- Send a stored RESPONSE again (R785). -/
def resend (o : Origin) (e : Nat × Session × List Byte) (s : State) : State :=
  match o with
  | .mailbox => s
  | .ncp h => (sendResponse e.1 e.2.1 h e.2.2 s).bump 0x1210 8

/-- A request that may run is performed and answered; a write of the store is answered when it ends. A transaction that
has been answered is not performed again (R785). -/
def runRequest (svc : Nat) (o : Origin) (r : Request) (s : State) : State :=
  match storedResponse s o with
  | some e => resend o e s
  | none =>
    match perform svc o r s with
    | (some a, t) => respond svc o a t
    | (none, t) => t

/-- A request arrives whole: it waits, or it runs. -/
def takeRequest (svc : Nat) (o : Origin) (r : Request) (s : State) : State :=
  if mustWait (owedNow s ++ s.dev.delayed) svc o r || pageWait s svc r then
    s.modDev fun d => { d with delayed := d.delayed ++ [(svc, o, r)] }
  else runRequest svc o r s

/-- The first delayed request that need not wait; `before` are those in front of it. -/
def firstReady (s : State) : Owed → Owed → Option (Nat × Origin × Request)
  | _, [] => none
  | before, e :: es =>
    if mustWait (owedNow s ++ before) e.1 e.2.1 e.2.2 || pageWait s e.1 e.2.2 then firstReady s (before ++ [e]) es
    else some e

/-- Delayed requests run as soon as they may, in order of arrival. -/
def drainDelayed : Nat → State → State
  | 0, s => s
  | n + 1, s =>
    match firstReady s [] s.dev.delayed with
    | none => s
    | some e =>
      drainDelayed n (runRequest e.1 e.2.1 e.2.2 (s.modDev fun d => { d with delayed := d.delayed.erase e }))

/-- While the management cores are stopped no request runs (R60). -/
def drain (s : State) : State := if coresStopped s then s else drainDelayed s.dev.delayed.length s

/-! ### What a session accepts (R777 to R779, R785, R787, R788) -/

/-- A fault counted for a session: 64 within 1 s close it (R788). -/
def sessionFault (number : Nat) (s : State) : State :=
  match sessionAt s number with
  | none => s
  | some (i, x) =>
    let ts := s.now :: within1s s.now x.faults
    if 64 ≤ ts.length then (putSession i none s).bump 0x1210 7 else putSession i (some { x with faults := ts }) s

/-- A frame fails authentication: 256 tag failures of a source within 1 s have it ignored (R787, R788). -/
def authFailure (src : Nat) (s : State) : State :=
  let ts := s.now :: within1s s.now (amGetD s.dev.ncp.failures src [])
  let s := modNcp (fun n =>
    { n with failures := amPut n.failures src ts
             ignored := if 256 ≤ ts.length && !n.ignored.contains src then n.ignored ++ [src] else n.ignored }) s
  logEvent 787 7 0x1210 4 src (s.bump 0x1210 4)

/-- A sequence is later than every one accepted, or one of the 63 below that has not been accepted (R779). -/
def sequenceGood (x : Session) (seq : Nat) : Bool :=
  let behind := ahead 32 seq x.high
  later 32 x.high seq || (decide (1 ≤ behind) && decide (behind ≤ 63) && !x.seen.contains seq && seq != 0)

/-- The session after a frame is accepted. -/
def accepted (x : Session) (now seq : Nat) : Session :=
  let high := if later 32 x.high seq then seq else x.high
  { x with high := high, touched := now
           seen := (seq :: x.seen).filter fun q => decide (ahead 32 q high ≤ 63) }

/-- A frame of a session, `body` its bytes before the tag: dropped and counted, or accepted and handed to `f` with its
session's place (R777 to R779, R787). -/
def sessionFrame (h : NcpHead) (body : List Byte) (f : Nat → Session → State → State) (s : State) : State :=
  if s.dev.ncp.ignored.contains h.src then s
  else
    match sessionAt s h.session with
    | none => authFailure h.src s
    | some (i, x) =>
      if hmac x.key body ≠ h.tag then authFailure h.src s
      else if !sequenceGood x h.seq then sessionFault h.session (s.bump 0x1210 5)
      else
        let x := accepted x s.now h.seq
        f i x ((putSession i (some x) s).bumpSeq 0x1210 3)

/-- The payload of a REQUEST (R780). -/
def requestBytes (svc : Nat) (r : Request) : List Byte :=
  natLE svc 1 ++ natLE r.reserved 1 ++ natLE r.index 2 ++ natLE r.sub 1 ++ natLE r.typ 1 ++ natLE r.length 2 ++
    natLE r.offset 4 ++ natLE r.total 4 ++ r.data

/-- A write that arrives over the mailbox ends a silence even while nothing serves it, one over NCP when its session
accepts it (R391). -/
def heardWrite (svc : Nat) (s : State) : State := s.iff (svc == 2 || svc == 4) hostHeard

/-- A REQUEST that its session accepts runs, or has its stored RESPONSE sent again (R785); a misused header is counted
(R787). -/
def sessionRequest (svc : Nat) (h : NcpHead) (r : Request) (i : Nat) (x : Session) (s : State) : State :=
  let s := heardWrite svc s
  match x.responses.find? fun p => p.1 == h.txn with
  | some p => resend (.ncp h) (i, x, p.2) s
  | none => takeRequest svc (.ncp h) r (if misused svc r then sessionFault h.session (s.bump 0x1210 6) else s)

/-- A request arrives from its origin (R60, R835). -/
def arrive (svc : Nat) (o : Origin) (r : Request) (s : State) : State :=
  let s := s.iff (isMailbox o) (heardWrite svc)
  if !served s o then s
  else
    match o with
    | .mailbox => takeRequest svc o r s
    | .ncp h => sessionFrame h (frameBody 5 h.session h.seq h.txn (requestBytes svc r)) (sessionRequest svc h r) s

/-! ### The mailbox (R789 to R791) -/

/-- The request in the mailbox's request area: its service and its header. -/
def mailRequest (s : State) : Nat × Request :=
  let m := s.dev.host.mailRequest
  let h := cellsGet m 0 16
  let f (off k : Nat) : Nat := fieldLE h off k
  let svc := f 0 1
  (svc, { reserved := f 1 1, index := f 2 2, sub := f 4 1, typ := f 5 1, length := f 6 2, offset := f 8 4, total := f 12 4
          data := if svc = 3 then [] else cellsGet m 16 (min 16384 (f 6 2)) })

/-- A write of DOORBELL (R789 to R791). While nothing serves the mailbox its request stays busy (R60). -/
def mailDoorbell (v : Nat) (s : State) : State :=
  if s.dev.host.mailState = 1 then hostViolation none s
  else
    let s := (modHost (fun h => { h with mailState := 1, mailTag := v % 65536 }) s).bumpSeq 0x1220 1
    let (svc, r) := mailRequest s
    let s := heardWrite svc s
    if !served s .mailbox then s
    else if svc = 0 ∨ 7 < svc then
      respond svc .mailbox { index := r.index, sub := r.sub, abort := abService } s
    else drain (takeRequest svc .mailbox r s)

/-- A transfer has had no segment for 10 s (R783): place 16 is the mailbox. -/
def transferTimeout (slot : Nat) (s : State) : State :=
  let old (t : Transfer) : Bool := decide (t.touched + 10000000000000 ≤ s.now)
  if slot = 16 then
    if s.dev.host.mailTransfer.any old then modHost (fun h => { h with mailTransfer := none }) s else s
  else
    match (amGet s.dev.ncp.sessions slot).join with
    | none => s
    | some x => if x.transfer.any old then putSession slot (some { x with transfer := none }) s else s

/-! ### Commands -/

/-- A write of service `svc`, with the delayed requests that may run after it. -/
def serve (svc : Nat) (o : Origin) (r : Request) (s : State) : State := drain (arrive svc o r s)

/-- The parts of the device that answering a request may change. -/
def servedParts : List DevPart :=
  [.od, .shadow, .live, .captured, .commitPending, .timing, .gov, .bandUpdates, .clips, .protectedDefs,
    .protectedSlots, .links, .ports, .lens, .clock, .sources, .eth, .tiles, .safety, .timeIn, .host, .ncp, .units,
    .thermal, .images, .bringup, .events, .eventBuffer, .eventMessages, .delayed, .drawn]

/-- READ (R782). -/
def execReadObject (o : Origin) (r : Request) (s : State) : Out := run (.readObject o r)
    (onDev servedParts (arrive 1 o r) s)

/-- WRITE (R782). -/
def execWriteObject (o : Origin) (r : Request) (s : State) : Out := run (.writeObject o r) (onFuses (serve 2 o r) s)

/-- READ_SEG (R782). -/
def execReadSeg (o : Origin) (r : Request) (s : State) : Out := run (.readSeg o r)
    (onDev servedParts (arrive 3 o r) s)

/-- WRITE_SEG (R783). -/
def execWriteSeg (o : Origin) (r : Request) (s : State) : Out := run (.writeSeg o r) (onFuses (serve 4 o r) s)

/-- DESCRIBE (R784). -/
def execDescribe (o : Origin) (r : Request) (s : State) : Out := run (.describe o r)
    (onDev servedParts (arrive 5 o r) s)

/-- NEXT (R782). -/
def execNextObject (o : Origin) (r : Request) (s : State) : Out := run (.nextObject o r)
    (onDev servedParts (arrive 6 o r) s)

/-- KEEPALIVE (R782). -/
def execKeepalive (o : Origin) (r : Request) (s : State) : Out := run (.keepalive o r)
    (onDev servedParts (arrive 7 o r) s)

/-- MAILBOX_DOORBELL (R790). -/
def execMailboxDoorbell (value : Nat) (s : State) : Out :=
  run (.mailboxDoorbell value) (onFuses (mailDoorbell value) s)

/-- SEGMENT_TRANSFER_TIMEOUT (R783). -/
def execSegmentTransferTimeout (slot : Nat) (s : State) : Out :=
  run (.segmentTransferTimeout slot) (onDev [.od, .host, .ncp] (transferTimeout slot) s)

end Sys2Proof.Machine
end

