-- ==== Sys2Proof/Machine/Bars.lean ====
section
/-!
DEFINITION. Writes to BAR0 (R582 to R586, R592, R597, R634, R789, R791).
-/
namespace Sys2Proof.Machine

/-- Byte positions of a write of `len` bytes from `off` on that lie from `lo` on and below `hi`. -/
def covers (off len lo hi : Nat) : Bool := decide (off < hi) && decide (lo < off + len)

/-- A field of `k` bytes at offset `at'`, `old` its value, after the bytes written from `off` on. -/
def mergeField (off : Nat) (data : List Byte) (at' k old : Nat) : Nat :=
  leNat ((List.range k).map fun i =>
    if off ≤ at' + i ∧ at' + i < off + data.length then data.getD (at' + i - off) 0 else BitVec.ofNat 8 (old >>> (8 * i)))

/-- The host register block (R583). A write that reaches no writable register is a violation (R634). -/
def hostBlockWrite (off : Nat) (data : List Byte) (s : State) : State :=
  let len := data.length
  let n := max 1 (bar2Size s)
  let s' := if covers off len 0 8 then
      modHost (fun h => { h with aperture := mergeField off data 0 8 h.aperture / n * n }) s
    else s
  let s' := if covers off len 8 16 then modHost (fun h => { h with markers := h.markers ++ [.wcm] }) s' else s'
  if covers off len 0 16 then s' else hostViolation none s

/-- The writable fields of the administration block below CMD. -/
def adminMask : Nat := (2 ^ 20 - 1) + (2 ^ 20 - 1) * 2 ^ 32 + (2 ^ 64 - 1) * 2 ^ 64 + (2 ^ 20 - 1) * 2 ^ 128

/-- The administration block (R592): the fields, and a command when CMD is written. -/
def adminWrite (off : Nat) (data : List Byte) (s : State) : State :=
  let len := data.length
  let s' := modHost (fun h => { h with admin := mergeField off data 0 20 h.admin &&& adminMask }) s
  let cmd := if covers off len 20 21 then (data.getD (20 - off) 0).toNat % 4 else 0
  let writable := [(0, 3), (4, 7), (8, 19), (20, 21)].any fun r => covers off len r.1 r.2
  if !writable then hostViolation none s
  else if cmd = 1 then queueCreate s'
  else if cmd = 2 then queueDelete s'
  else if cmd = 3 then adminDone 2 (adminField s' 19 0) s'
  else s'

/-- Window `n` of the DMA windows, written from `off` of its 32 bytes on (R585). -/
def windowBytes (n off : Nat) (data : List Byte) (s : State) : State :=
  let len := data.length
  let w := s.window n
  let field (c : Bool) (k v : Nat) (s : State) : State := if c then windowWrite n k v s else s
  if w.lock || !covers off len 0 17 then hostViolation none s
  else
    let s := field (covers off len 0 8) 0 (mergeField off data 0 8 w.base) s
    let s := field (covers off len 8 16) 1 (mergeField off data 8 8 w.limit) s
    field (covers off len 16 17) 2 (mergeField off data 16 1 (ofBool w.enable)) s

/-- The mailbox (R789, R791). -/
def mailWrite (off : Nat) (data : List Byte) (s : State) : State :=
  if off < 0x4010 then
    if s.dev.host.mailState = 1 then hostViolation none s
    else modHost (fun h => { h with mailRequest := cellsPut h.mailRequest off (data.take (0x4010 - off)) }) s
  else if covers off data.length 0xFFF0 0xFFF4 then mailDoorbell (mergeField off data 0xFFF0 4 0) s
  else hostViolation none s

/-- The doorbell region: one 8-byte write to offset 0 of a queue's slot (R597, R634). -/
def doorbellWrite (off : Nat) (data : List Byte) (s : State) : State :=
  let q := off / 16
  if off % 16 = 0 ∧ data.length = 8 then doorbellArrive q (fieldLE data 0 4) (fieldLE data 4 1) s
  else hostViolation (some q) s

/-- The DMA windows, written from `off` of their area on: each window that the write reaches takes its own bytes (R585;
DEDUCED, log 194). -/
def windowsWrite (off : Nat) (data : List Byte) (s : State) : State :=
  s.each (List.range ((off % 32 + data.length + 31) / 32)) fun k t =>
    let n := off / 32 + k
    let at' := if k = 0 then off % 32 else 0
    if n < 32 then windowBytes n at' (slice data (32 * n + at' - off) (32 - at')) t else hostViolation none t

/-- A BAR0 write at `off` (R582). -/
def bar0Write (off : Nat) (data : List Byte) (s : State) : State :=
  if off < 0x1000 then hostBlockWrite off data s
  else if off < 0x2000 then adminWrite (off - 0x1000) data s
  else if off < 0x2400 then windowsWrite (off - 0x2000) data s
  else if 0x10000 ≤ off ∧ off < 0x20000 then mailWrite (off - 0x10000) data s
  else if 0x1000000 ≤ off ∧ off < 0x2000000 then doorbellWrite (off - 0x1000000) data s
  else hostViolation none s

/-! ### What BAR0 reads (R582)

No row of the table reads BAR0 (log 201). -/

/-- The administration block as it reads; CMD is write-only (R592). -/
def adminBlock (s : State) : Nat :=
  let h := s.dev.host
  h.admin + 2 ^ 168 * h.adminStatus + 2 ^ 176 * h.adminError + 2 ^ 184 * h.adminGen

/-- A DMA window as it reads (R585). -/
def windowBlock (w : Window) : Nat :=
  w.base + 2 ^ 64 * w.limit + 2 ^ 128 * ofBool w.enable + 2 ^ 129 * ofBool w.lock

/-- Byte `k` of a number. -/
def byteOf (n k : Nat) : Byte := BitVec.ofNat 8 (n >>> (8 * k))

/-- The byte that a read of BAR0 at `off` gives; doorbells and reserved space read 0 (R582, R583, R592, R627, R634,
R789). -/
def bar0Byte (s : State) (off : Nat) : Byte :=
  let h := s.dev.host
  if off < 0x1000 then byteOf (h.aperture / max 1 (bar2Size s) * max 1 (bar2Size s) + 2 ^ 128 * h.wcmDone) off
  else if off < 0x2000 then byteOf (adminBlock s) (off - 0x1000)
  else if off < 0x2400 then byteOf (windowBlock (s.window ((off - 0x2000) / 32))) (off % 32)
  else if 0x10000 ≤ off ∧ off < 0x14010 then cellGet h.mailRequest (off - 0x10000)
  else if 0x18000 ≤ off ∧ off < 0x1C010 then h.mailResponse.getD (off - 0x18000) 0
  else if 0x1FFF4 ≤ off ∧ off < 0x1FFF8 then byteOf (h.mailState + 2 ^ 16 * h.mailTag) (off - 0x1FFF4)
  else if 0x800000 ≤ off ∧ off < 0x880000 then byteOf (fenceValue s ((off - 0x800000) / 8)) (off % 8)
  else 0

/-- Class code and device ID in configuration space, which no row of the table reads (R576; log 201). -/
def pciClass : Nat := 0x038000
def pciDeviceId (s : State) : Nat := partCode s % 65536

/-- BAR0_REGISTER_WRITE (R582). -/
def execBar0RegisterWrite (off : Nat) (data : List Byte) (s : State) : Out :=
  run (.bar0RegisterWrite off data) (onFuses (bar0Write off data) s)

end Sys2Proof.Machine
end

