-- ==== Sys2Proof/Machine/Complete.lean ====
section
/-!
DEFINITION. A page write of the store ends: it is verified or repeated, what waits for it follows, its requests are
answered, and the next write starts (R502, R514, R706 to R710, R718, R724, R725, R786, R804 to R806, R820 to R823, R838,
R858); and the resets of the drive die, after which delayed requests run.
-/
namespace Sys2Proof.Machine

/-! ### The selected values (R706, R725) -/

/-- Record `n`'s selected value after its copy on page `p` is verified. -/
def recordVerified (n p : Nat) (bs : List Byte) (nv : NvStore) : NvStore :=
  let inA := decide (p < 1024)
  let old := amGet nv.records n
  let e : Selected :=
    { seq := fieldLE bs 4 4, payload := slice bs 8 (fieldLE bs 2 1), inA := inA
      validA := inA || old.any (·.validA), validB := !inA || old.any (·.validB)
      single := nv.worn.contains n || nv.worn.contains (1024 + n) }
  { nv with records := amPut nv.records n e }

/-- Ring `n`'s latest slot after page `p` is verified. -/
def ringVerified (n p : Nat) (bs : List Byte) (nv : NvStore) : NvStore :=
  let e : RingLatest :=
    { seq := fieldLE bs 4 4, slot := p - (ringBase n).1, payload := slice bs 8 (fieldLE bs 2 1) }
  { nv with rings := amPut nv.rings n e }

/-- An endurance event, when the sequence reaches its bound (R725). -/
def enduranceEvent (bound seq : Nat) (s : State) : State :=
  if seq = bound then logEvent 725 1 0x5822 5 seq (s.bump 0x5822 5) else s

/-- A verified write is in the array and in the drive die's RAM. -/
def writeVerified (w : StoreWrite) (s : State) : State :=
  let s := modNv (fun nv => { putPage w.page w.bytes nv with writing := none }) s
  match w.req.target with
  | .page _ => s
  | .record n => enduranceEvent 180000 (fieldLE w.bytes 4 4) (modNv (recordVerified n w.page w.bytes) s)
  | .ring n => enduranceEvent (90000 * (ringBase n).2) (fieldLE w.bytes 4 4) (modNv (ringVerified n w.page w.bytes) s)

/-- The third failure: the page is marked worn, and what it holds is free (R707, log 46). -/
def writeFailed (w : StoreWrite) (s : State) : State :=
  let draw := s.dev.drawn
  let bs := (List.range 64).map fun i => Config.freeByte i draw
  let worn (nv : NvStore) : NvStore :=
    let nv := putPage w.page bs nv
    { nv with writing := none, worn := if nv.worn.contains w.page then nv.worn else nv.worn ++ [w.page] }
  let s := drawFree (modNv worn s)
  let s := match w.req.target with
    | .record n =>
      let one (v : Selected) : Selected :=
        if w.page < 1024 then { v with single := true, validA := false } else { v with single := true, validB := false }
      modNv (fun nv => { nv with records := match amGet nv.records n with
                                   | none => nv.records
                                   | some v => amPut nv.records n (one v) }) s
    | _ => s
  logEvent 707 2 0x5820 4 w.page (latch 8 (s.bump 0x5820 4))

/-! ### What follows -/

/-- The transition is answered: its gates apply, and an erasure starts (R821, R822). -/
def transitionDone (erase : Bool) (s : State) : State :=
  let s := modBringup (fun b => { b with gate := none }) s
  s.iff erase erasureStart

/-- The erasure's flag is clear: the main die resets (R820). -/
def erasureEnded (s : State) : State := mainDieReset s

/-- The proxy image of a STORE is written (R858). -/
def proxyWritten (last : Bool) (s : State) : State :=
  let s := proxyCheck s
  if last then s.setReg 0x6100 3 (if s.dev.bringup.proxyValid then 2 else 4) else s

/-- What follows a verified write of record or page `t` for `use`. -/
def useDone (use : StoreUse) (t : StoreTarget) (s : State) : State :=
  match use with
  | .none => s
  | .ceilings => match t with
    | .record r => ceilingsDone r s
    | _ => s
  | .key k => keyDone k s
  | .transition erase => transitionDone erase s
  | .journalBegin => journalBegun s
  | .journalRow => journalRowDone s
  | .journalEnd => journalEnded s
  | .image n => commitPageDone n s
  | .pointer => pointerDone s
  | .erasure => erasureDone s
  | .erasureEnd => erasureEnded s
  | .proxy last => proxyWritten last s
  | .proxyErase last => (proxyCheck s).iff last (·.setReg 0x6100 3 0)

/-- What follows a write that has failed: the value it was for keeps its previous value (R514, R708, R806). -/
def useFailed (use : StoreUse) (s : State) : State :=
  match use with
  | .transition _ => modBringup (fun b => { b with gate := none }) s
  | .journalBegin => journalFailed s
  | .journalRow => journalFailed s
  | .journalEnd => journalFailed s
  | .image _ => commitLost s
  | .pointer => commitLost s
  | .erasure => erasureDone s
  | .proxy _ => (proxyCheck s).setReg 0x6100 3 4
  | .proxyErase _ => (proxyCheck s).setReg 0x6100 3 4
  | _ => s

/-- A failed proxy command takes its other pages and its answers with it: the answers it owes. -/
def proxyOwed (s : State) : Owed :=
  (s.nv.queue.filter fun q => match q.use with
    | .proxy _ => true
    | .proxyErase _ => true
    | _ => false).map (·.answers) |>.flatten

def isProxyUse : StoreUse → Bool
  | .proxy _ => true
  | .proxyErase _ => true
  | _ => false

def dropProxy (s : State) : State :=
  modNv (fun nv => { nv with queue := nv.queue.filter fun q => !isProxyUse q.use }) s

/-- The write in progress ends for good (R707, R708). -/
def writeEnds (w : StoreWrite) (ok : Bool) (s : State) : State :=
  if ok then answerOwed 0 w.req.answers (useDone w.req.use w.req.target (writeVerified w s))
  else
    let s := useFailed w.req.use (writeFailed w s)
    if isProxyUse w.req.use then
      let owed := w.req.answers ++ proxyOwed s
      answerOwed abStore owed (dropProxy s)
    else answerOwed abStore w.req.answers s

/-- A raw page read that waited for the store (R705). -/
def pageReadServe (s : State) : State :=
  match s.nv.pageRead with
  | none => s
  | some p => modNv (fun nv => { nv with pageRead := none, pageData := rawPage s p }) s

/-- STORE_WRITE_COMPLETE (R707): `ok` says that both reads equal the written bytes. -/
def storeWriteComplete (ok : Bool) (s : State) : State :=
  match s.nv.writing with
  | none => s
  | some w =>
    if !ok && decide (w.attempts < 3) then
      (modNv (fun nv => { nv with writing := some { w with attempts := w.attempts + 1 } }) s).bumpSeq 0x5820 3
    else storeStart (drain (pageReadServe (writeEnds w ok s)))

/-! ### Commands -/

/-- STORE_WRITE_COMPLETE (R707). -/
def execStoreWriteComplete (ok : Bool) (s : State) : Out :=
  run (.storeWriteComplete ok) (onFuses (storeWriteComplete ok) s)

/-- DRIVE_DIE_RESET_COMMAND (R861). -/
def execDriveDieResetCommand (s : State) : Out :=
  run .driveDieResetCommand (onFuses (fun t => drain (driveDieReset t)) s)

/-- DRIVE_DIE_RESET (R508): a reset of the drive die itself. -/
def execDriveDieReset (s : State) : Out :=
  run .driveDieReset (onFuses (fun t => drain (driveReset (t.setReg 0x6010 2 4))) s)

/-- DRIVE_DIE_SUPPLY_RESTORE (R883). -/
def execDriveDieSupplyRestore (s : State) : Out :=
  run .driveDieSupplyRestore (onFuses (fun t => drain (supplyRestore t)) s)

end Sys2Proof.Machine
end

