-- ==== Sys2Proof/Machine/Driver.lean ====
section
/-!
DEFINITION. The column driver of each port, as the manual binds a compatible one (R416 to R437, R445, R446).
-/
namespace Sys2Proof.Machine

/-- The driver's end of link `l`. -/
def laneOf (s : State) (l : Nat) : DriverLane :=
  if l % 2 = 0 then (s.driver (l / 2)).lower else (s.driver (l / 2)).upper

def modLane (l : Nat) (f : DriverLane → DriverLane) (s : State) : State :=
  modDriver (l / 2) (fun d => if l % 2 = 0 then { d with lower := f d.lower } else { d with upper := f d.upper }) s

/-- A block goes upstream on link `l`. -/
def upSend (l b : Nat) (s : State) : State :=
  let now := s.now
  modLane l (fun x => { x with out := (b :: x.out).take 16, wire := some (controlWire (256 + l) now x.wire [] b) }) s

/-- STATUS of link `l` (R402, R436); sending it wakes the upstream lane (R462), and clears DISCARDS and FE_MISS. -/
def sendStatus (l margin : Nat) (urgent : Bool) (s : State) : State :=
  let d := s.driver (l / 2)
  let x := laneOf s l
  let s := upSend l (statusBlock x.link d.lower.lock d.upper.lock urgent d.feMiss d.emit margin x.accepted x.discards) s
  modDriver (l / 2) (fun d => { d with feMiss := false })
    (modLane l (fun x => { x with discards := 0, upAsleep := false }) s)

/-- An urgent STATUS on every working upstream lane of the port; the margin it carries is free (R435, log 15). -/
def urgentStatus (p : Nat) (s : State) : State :=
  let s := if (s.driver p).lower.step = 0 then sendStatus (2 * p) (freeValue s % 64) true s else s
  let s := if (s.driver p).upper.step = 0 then sendStatus (2 * p + 1) (freeValue s % 64) true s else s
  drawFree s

/-- A block that is not IDLE has come downstream on link `l`. -/
def hearDown (l : Nat) (s : State) : State :=
  let now := s.now
  modLane l (fun x => { x with rx := x.rx.hear now }) s

/-- Discards on link `l` are counted (R420). -/
def countDiscards (l n : Nat) (s : State) : State := modLane l (fun x => { x with discards := min 255 (x.discards + n) }) s

/-- Values skipped between the last SEQ seen and `seq` (R420). -/
def skipped (x : DriverLane) (seq : Nat) : Nat :=
  match x.seq with
  | none => 0
  | some a => ahead 16 (a + 1) seq

/-- SEQ is later than the last SEQ seen; the first after ACTIVE passes (R417, R423). -/
def seqPasses (x : DriverLane) (seq : Nat) : Bool :=
  match x.seq with
  | none => true
  | some a => later 16 a seq

/-- The SEQ of an SOL or KEEP is seen: skipped values count as discarded lines, with an urgent STATUS (R420, R435). -/
def seeSeq (l seq : Nat) (s : State) : State :=
  let n := skipped (laneOf s l) seq
  let s := modLane l (fun x => { x with seq := some seq }) s
  if n = 0 then s else urgentStatus (l / 2) (countDiscards l n s)

/-- A command takes effect (R429); a reserved opcode is ignored (R434). -/
def driverCommand (d : Driver) (c : Nat × Nat) : Driver :=
  match c.1 with
  | 1 => { d with current := c.2 % 4096 }
  | 2 => { d with replicate := c.2 % 32 }
  | 3 => { d with emit := hasBit c.2 0 }
  | 4 => { d with telem := c.2 % 256 }
  | 5 => { d with upSleep := hasBit c.2 0 }
  | _ => d

/-- Without UP_SLEEP in force the upstream lanes stay awake (R462). -/
def wakeUp (d : Driver) : Driver :=
  if d.upSleep then d
  else { d with lower := { d.lower with upAsleep := false }, upper := { d.upper with upAsleep := false } }

/-! ### What is lit (R425, R426) -/

/-- The 10-bit code that an emitter shows: column `m` of a half-row, colour `k` (R421). -/
def shownCode (d : Driver) (row half m k : Nat) : Nat := nth (amGetD d.rows (2 * row + half) []) (3 * m + k)

/-- How a driver lights an emitter (R425): its duty in 1,023rds of each line time, and its current in 4,095ths of full
scale. With EMIT 0 it is not lit. -/
def emitterLight (d : Driver) (row half m k : Nat) : Nat × Nat :=
  if d.emit then (shownCode d row half m k, d.current) else (0, 0)

/-- The calends, marked by LINE 0 on the lower link while it has lock, otherwise on the upper (R416, R432, R433). -/
def driverCalends (l line : Nat) (s : State) : State :=
  let d := s.driver (l / 2)
  if line = 0 ∧ ((l % 2 = 0 ∧ d.lower.lock) ∨ (l % 2 = 1 ∧ d.lower.lock = false)) then
    modDriver (l / 2) (fun d =>
      let d := { d with halfLines := [] }
      match d.commands with
      | none => { d with feMiss := true }
      | some cs => wakeUp { cs.foldl driverCommand d with commands := none }) s
  else s

/-- The 10-bit codes that a packet's payload gives to the half-rows it covers (R405, R409): (half, codes). -/
def shownCodes (wide : Bool) (depth half replicate : Nat) (payload : Nat) : List (Nat × List Nat) :=
  let cs := unpackBits (codeBits depth) (codesOf wide depth) payload
  let n := if wide then 1440 else 720
  match depth with
  | 0 => [(half, cs)]
  | 1 => let ds := cs.map halfShown
         [(0, ds.take n), (1, (ds.drop n).take n)]
  | _ =>
    let ds := (List.range (2 * n)).map fun k => nth cs (k / 3 / replicate * 3 + k % 3)
    [(0, ds.take n), (1, (ds.drop n).take n)]

/-- A line packet arrives on link `l` (R417 to R424): the first check that fails discards it. -/
def solReceive (l sol : Nat) (data : List Nat) (s : State) : State :=
  let p := l / 2
  let s := hearDown l s
  let d := s.driver p
  let x := laneOf s l
  let line := bits sol 23 8
  let depth := bits sol 25 24
  let seq := bits sol 47 32
  if !(blockGood x.link sol && blockType sol == 0x2D && bits sol 31 26 == 0) then urgentStatus p s
  else if depth = 3 ∨ 17279 < line then urgentStatus p s
  else if !seqPasses x seq then urgentStatus p (countDiscards l 1 s)
  else
    let s := driverCalends l line (seeSeq l seq s)
    let bytes := packLE 8 data
    let n := dataBytes d.wide depth
    let body := bytes.take (n - 4)
    let good := bytes.length == n &&
      fieldLE bytes (n - 4) 4 == crc32c (x.link * 2 ^ 16 + line) (slice (natLE sol 8) 1 5 ++ body)
    if !good then urgentStatus p (countDiscards l 1 s)
    else
      let upper := l % 2 == 1
      let s := modLane l (fun x => { x with accepted := seq }) s
      if depth = 0 ∧ (s.driver p).halfLines.contains (line, !upper) then s
      else
        let rows := shownCodes d.wide depth (l % 2) (max 1 (s.driver p).replicate) (leNat body)
        modDriver p (fun d =>
          { d with rows := rows.foldl (fun m r => amPut m (2 * line + r.1) r.2) d.rows
                   halfLines := if depth = 1 then (line, upper) :: d.halfLines else d.halfLines }) s

/-- A KEEP arrives on link `l` (R422, R423). -/
def keepReceive (l b : Nat) (s : State) : State :=
  let p := l / 2
  let s := hearDown l s
  let x := laneOf s l
  let line := bits b 23 8
  let seq := bits b 47 32
  if !(blockGood x.link b && blockType b == 0x3C && bits b 31 24 == 0) || decide (17279 < line) then urgentStatus p s
  else if !seqPasses x seq then urgentStatus p (countDiscards l 1 s)
  else driverCalends l line (modLane l (fun x => { x with accepted := seq }) (seeSeq l seq s))

/-- A copy of the frame-end sequence arrives: the first intact one gives the commands (R428, R432, R434). -/
def frameEndReceive (l head : Nat) (cmds : List Nat) (s : State) : State :=
  let s := hearDown l s
  let x := laneOf s l
  let headGood := blockGood x.link head && blockType head == 0x55 && bits head 47 46 == 0 &&
    bits head 43 40 == cmds.length
  let cmdsGood := cmds.all fun c => blockGood x.link c && blockType c == 0x66
  if headGood && cmdsGood && (s.driver (l / 2)).commands.isNone then
    modDriver (l / 2) (fun d => { d with commands := some (cmds.map fun c => (bits c 15 8, bits c 47 16)) }) s
  else s

/-- The driver loses downstream block lock on link `l`; after an intact SLEEP this is no loss (R435, R461). -/
def downLockLoss (l : Nat) (s : State) : State :=
  if (laneOf s l).asleep || !(laneOf s l).lock then s
  else urgentStatus (l / 2) (modLane l (fun x => { x with rx := x.rx.loss }) s)

/-- The driver gains downstream block lock on link `l` (R438, R461). -/
def downLockGain (l : Nat) (s : State) : State :=
  let now := s.now
  modLane l (fun x => { x with rx := x.rx.gain now, asleep := false }) s

/-- Downstream lock has been lost for 10 ms: TRAIN_REQ on the links without it (R445). -/
def lockLossTimeout (p : Nat) (s : State) : State :=
  s.each [2 * p, 2 * p + 1] fun l t =>
    if (laneOf t l).lock then t
    else upSend l (trainUp 15 false 0) (modLane l (fun x => { x with step := 15, seq := none, cap := false }) t)

/-- Power-up or reset of port `p`'s driver: rows at 0, EMIT 0, CURRENT_LIMIT 0, and TRAIN_REQ (R426, R445). -/
def driverPowerUp (p : Nat) (s : State) : State :=
  upSend (2 * p + 1) (trainUp 15 false 0) (upSend (2 * p) (trainUp 15 false 0) (modDriver p (fun _ => {}) s))

/-- The periodic STATUS (R435). -/
def driverStatus (l margin : Nat) (s : State) : State :=
  if (laneOf s l).step = 0 then sendStatus l margin false s else s

/-- One TELEM for the selected item in a frame; a reserved item gets none (R437). With UP_SLEEP in force the driver then
sends SLEEP and leaves the lane idle, as it may (R462; DESIGN CHOICE, log 149). -/
def driverTelem (l value : Nat) (s : State) : State :=
  let d := s.driver (l / 2)
  let x := laneOf s l
  if x.step = 0 ∧ 1 ≤ d.telem ∧ d.telem ≤ 8 then
    let s := upSend l (telemBlock x.link d.telem value) s
    if d.upSleep then upSend l (sleepBlock x.link) (modLane l (fun x => { x with upAsleep := true }) s) else s
  else s

/-- A downstream TRAIN or CAP arrives during training (R446); STEP 6 ends it, and the first SEQ that follows passes. -/
def driverTrain (l b : Nat) (s : State) : State :=
  let s := hearDown l s
  if trainDownGood b ∧ 1 ≤ bits b 11 8 ∧ bits b 11 8 ≤ 6 then
    let step := bits b 11 8
    modLane l (fun x =>
      { x with step := if step = 6 then 0 else step
               trains := if step = x.step then x.trains else 0
               cap := x.cap && (step != 3 || x.step == 3)
               seq := if step = 6 then none else x.seq }) s
  else if capGood b then
    modDriver (l / 2) (fun d => { d with wide := hasBit b 17 })
      (modLane l (fun x => { x with link := bits b 15 8, cap := true }) s)
  else s

/-- CAP_UP parts 0 and 1 of port `p`'s driver (R402); its capabilities are its own (log 15). -/
def capUpBlocks (p : Nat) : List Nat :=
  let (protocol, speeds, wide, vendor, model, maxcur) := Config.driverCaps p
  [block 0 (0x4B + (max 1 (protocol % 256)) * 2 ^ 16 + setBit (speeds % 16) 0 * 2 ^ 24 + ofBool wide * 2 ^ 28 +
      vendor % 2 ^ 16 * 2 ^ 32),
   block 0 (0x4B + 2 ^ 8 + model % 2 ^ 16 * 2 ^ 16 + maxcur % 4096 * 2 ^ 32)]

/-- The TRAIN of every 16 upstream block times, with CAP_UP after every fourth in STEP 3 (R446). -/
def driverTrainSend (l margin : Nat) (s : State) : State :=
  let x := laneOf s l
  if x.step = 0 then s
  else if x.step = 15 then upSend l (trainUp 15 x.lock margin) s
  else
    let s := upSend l (trainUp x.step x.lock margin) s
    let s := modLane l (fun x => { x with trains := x.trains + 1 }) s
    if x.step = 3 ∧ x.cap = false ∧ (x.trains + 1) % 4 = 0 then s.each (capUpBlocks (l / 2)) (upSend l) else s

/-- The CONFIRM pattern has ended: TEST_RESULT (R446). -/
def patternEnd (l errors : Nat) (s : State) : State :=
  let s := hearDown l s
  if (laneOf s l).step = 5 then upSend l (resultBlock errors) s else s

/-- TEST_RESULT every 1 ms of the PATTERN loop (R467). -/
def patternResult (l errors : Nat) (s : State) : State :=
  if s.reg (0x4100 + l) 1 = 9 ∧ s.reg (0x4100 + l) 0x0C = 3 then upSend l (resultBlock errors) s else s

/-! ### Commands -/

/-- DRIVER_POWER_UP (R426). -/
def execDriverPowerUp (p : Nat) (s : State) : Out := runOn (.driverPowerUp p) (p < nPorts s) s
    (onDev [.drivers] (driverPowerUp p) s)

/-- DRIVER_SOL_RECEIVE (R417). -/
def execDriverSolReceive (l sol : Nat) (data : List Nat) (s : State) : Out :=
  runOn (.driverSolReceive l sol data) (l < nLinks s) s (onDev [.drivers, .drawn] (solReceive l sol data) s)

/-- DRIVER_KEEP_RECEIVE (R423). -/
def execDriverKeepReceive (l block : Nat) (s : State) : Out :=
  runOn (.driverKeepReceive l block) (l < nLinks s) s (onDev [.drivers, .drawn] (keepReceive l block) s)

/-- DRIVER_FRAME_END_RECEIVE (R432). -/
def execDriverFrameEndReceive (l head : Nat) (cmds : List Nat) (s : State) : Out :=
  runOn (.driverFrameEndReceive l head cmds) (l < nLinks s) s (onDev [.drivers] (frameEndReceive l head cmds) s)

/-- DRIVER_DOWNSTREAM_LOCK_LOSS (R435). -/
def execDriverDownstreamLockLoss (l : Nat) (s : State) : Out :=
  runOn (.driverDownstreamLockLoss l) (l < nLinks s) s (onDev [.drivers, .drawn] (downLockLoss l) s)

/-- DRIVER_DOWNSTREAM_LOCK_GAIN (R438). -/
def execDriverDownstreamLockGain (l : Nat) (s : State) : Out :=
  runOn (.driverDownstreamLockGain l) (l < nLinks s) s (onDev [.drivers] (downLockGain l) s)

/-- DRIVER_LOCK_LOSS_TIMEOUT (R445). -/
def execDriverLockLossTimeout (p : Nat) (s : State) : Out :=
  runOn (.driverLockLossTimeout p) (p < nPorts s) s (onDev [.drivers] (lockLossTimeout p) s)

/-- DRIVER_STATUS_SEND (R435). -/
def execDriverStatusSend (l margin : Nat) (s : State) : Out :=
  runOn (.driverStatusSend l margin) (l < nLinks s) s (onDev [.drivers] (driverStatus l margin) s)

/-- DRIVER_TELEM_SEND (R437). -/
def execDriverTelemSend (l value : Nat) (s : State) : Out :=
  runOn (.driverTelemSend l value) (l < nLinks s) s (onDev [.drivers] (driverTelem l value) s)

/-- DRIVER_TRAIN_RECEIVE (R446). -/
def execDriverTrainReceive (l block : Nat) (s : State) : Out :=
  runOn (.driverTrainReceive l block) (l < nLinks s) s (onDev [.drivers] (driverTrain l block) s)

/-- DRIVER_TRAIN_SEND (R446). -/
def execDriverTrainSend (l margin : Nat) (s : State) : Out :=
  runOn (.driverTrainSend l margin) (l < nLinks s) s (onDev [.drivers] (driverTrainSend l margin) s)

/-- DRIVER_PATTERN_END (R446). -/
def execDriverPatternEnd (l errors : Nat) (s : State) : Out :=
  runOn (.driverPatternEnd l errors) (l < nLinks s) s (onDev [.drivers] (patternEnd l errors) s)

/-- PATTERN_TEST_RESULT_SEND (R467). -/
def execPatternTestResultSend (l errors : Nat) (s : State) : Out :=
  runOn (.patternTestResultSend l errors) (l < nLinks s) s (onDev [.drivers] (patternResult l errors) s)

end Sys2Proof.Machine
end

