-- ==== Sys2Proof/Machine/Ncp.lean ====
section
/-!
DEFINITION. NCP sessions: CHALLENGE, OPEN, CLOSE, malformed frames, and what ends them (R773 to R779, R786 to R788).
-/
namespace Sys2Proof.Machine

/-! ### Opening a session (R776 to R778) -/

/-- The payload of CHALLENGE and OPEN. -/
def challengeBytes (slot : Nat) (nc nd : List Byte) : List Byte := natLE slot 1 ++ [0, 0, 0] ++ nc ++ nd

/-- The bytes of an OPEN before its tag. -/
def openBody (f : NcpHead) (slot : Nat) (nc nd : List Byte) : List Byte :=
  frameBody 3 f.session f.seq f.txn (challengeBytes slot nc nd)

/-- A frame that opens a session carries no session, sequence or tag of its own (R774). -/
def bareHead (f : NcpHead) : Bool := f.session == 0 && f.seq == 0

/-- A HELLO draws a CHALLENGE (R776); one that names a slot without a usable key is dropped and counted (R787). -/
def hello (f : NcpHead) (slot : Nat) (nc : List Byte) (s : State) : State :=
  if !served s (.ncp f) || s.dev.ncp.ignored.contains f.src then s
  else if !bareHead f || !allZero f.tag then s.bump 0x1210 6
  else if (sessionKey s slot).isNone then authFailure f.src s
  else
    let nd := natLE (Config.deviceNonce s.dev.ncp.drawn) 16
    let c : Challenge := { src := f.src, slot := slot, nc := nc, nd := nd }
    let s := modNcp (fun n => { n with drawn := n.drawn + 1, challenges := lastN 16 (n.challenges ++ [c]) }) s
    sendFrame f.port f.src (frameBody 2 0 0 f.txn (challengeBytes slot nc nd) ++ List.replicate 32 0)
      (s.bumpSeq 0x1210 3)

/-- A session number that no session holds, and that is not 0 (R778). -/
def freshNumber (s : State) : Nat :=
  let n := Config.sessionNumber s.dev.ncp.drawn
  (((List.range 18).map fun i => (n + i) % 2 ^ 32).find? fun k => k != 0 && (sessionAt s k).isNone).getD 1

/-- The lowest free session place. -/
def freePlace (s : State) : Option Nat :=
  (List.range 16).find? fun i => ((amGet s.dev.ncp.sessions i).join).isNone

/-- An OPEN that matches a CHALLENGE and whose tag passes opens a session (R776 to R778). -/
def openSession (f : NcpHead) (slot : Nat) (nc nd : List Byte) (s : State) : State :=
  if !served s (.ncp f) || s.dev.ncp.ignored.contains f.src then s
  else if !bareHead f then s.bump 0x1210 6
  else
    let c : Challenge := { src := f.src, slot := slot, nc := nc, nd := nd }
    match sessionKey s slot with
    | none => authFailure f.src s
    | some k =>
      if !s.dev.ncp.challenges.contains c || hmac k (openBody f slot nc nd) ≠ f.tag then authFailure f.src s
      else
        match freePlace s with
        | none => s.bump 0x1210 6
        | some i =>
          let ks := hmac k ([0x4E, 0x43, 0x50, 0x31] ++ nc ++ nd)
          let x : Session :=
            { number := freshNumber s, slot := slot, port := f.port, src := f.src, key := ks, touched := s.now }
          let body := frameBody 4 x.number 1 f.txn (natLE (s.reg 0x1210 2) 2 ++ [0, 0])
          let s := modNcp (fun n => { n with drawn := n.drawn + 1, challenges := n.challenges.erase c }) s
          sendFrame f.port f.src (body ++ hmac ks body) (putSession i (some x) (s.bumpSeq 0x1210 3))

/-- CLOSE ends its session (R786). -/
def closeFrame (f : NcpHead) (s : State) : State :=
  if !served s (.ncp f) then s
  else sessionFrame f (frameBody 7 f.session f.seq f.txn []) (fun i _ s => putSession i none s) s

/-! ### Malformed frames (R787) -/

/-- The head of a frame of raw bytes. -/
def headOf (p src : Nat) (bs : List Byte) : NcpHead :=
  let len := fieldLE bs 14 2
  { port := p, src := src, session := fieldLE bs 4 4, seq := fieldLE bs 8 4, txn := fieldLE bs 12 2
    tag := slice bs (16 + len) 32 }

/-- A REQUEST with a reserved field or a reserved service, accepted by its session: it is answered and counted. -/
def malformedRequest (bs : List Byte) (h : NcpHead) (s : State) : State :=
  let svc := fieldLE bs 16 1
  let a := if svc = 0 ∨ 7 < svc then abService else abType
  let s := respond svc (.ncp h) { index := fieldLE bs 18 2, sub := fieldLE bs 20 1, abort := a } (s.bump 0x1210 6)
  sessionFault h.session s

/-- A reserved field of a REQUEST's header or service header is not 0, its service is reserved, or it is too short to
hold a service header. -/
def requestMalformed (bs : List Byte) : Bool :=
  let svc := fieldLE bs 16 1
  fieldLE bs 2 2 != 0 || svc == 0 || decide (7 < svc) || fieldLE bs 17 1 != 0 || decide (fieldLE bs 14 2 < 16) ||
    (typeless svc && fieldLE bs 21 1 != 0)

/-- A frame of raw bytes meets the table of R787, row by row. Well-formed frames have commands of their own and are left
to them. -/
def malformedFrame (p src : Nat) (bs : List Byte) (s : State) : State :=
  let typ := fieldLE bs 1 1
  let h := headOf p src bs
  if !served s (.ncp h) || s.dev.ncp.ignored.contains src then s
  else if bs.length < 48 ∨ 1280 < bs.length ∨ fieldLE bs 14 2 + 48 ≠ bs.length ∨ fieldLE bs 0 1 ≠ 1 ∨ typ = 0 ∨ 7 < typ then
    s.bump 0x1210 6
  else if typ = 2 ∨ typ = 4 ∨ typ = 6 then s.bump 0x1210 6
  else if typ = 1 ∨ typ = 3 then
    let good := fieldLE bs 2 2 == 0 && fieldLE bs 4 4 == 0 && fieldLE bs 8 4 == 0 && allZero (slice bs 17 3) &&
      fieldLE bs 14 2 == (if typ = 1 then 20 else 36)
    if good then s else s.bump 0x1210 6
  else if typ = 5 && requestMalformed bs then
    sessionFrame h (bs.take (bs.length - 32)) (fun _ _ s => malformedRequest bs h s) s
  else if typ = 7 && (fieldLE bs 2 2 != 0 || fieldLE bs 14 2 != 0) then
    sessionFrame h (bs.take (bs.length - 32)) (fun _ _ s => sessionFault h.session (s.bump 0x1210 6)) s
  else s

/-! ### What ends them (R773, R776, R786, R788) -/

/-- The oldest CHALLENGE is discarded (R776). -/
def challengeExpire (s : State) : State := modNcp (fun n => { n with challenges := n.challenges.drop 1 }) s

/-- A session has had no accepted frame for the idle timeout (R786). -/
def sessionIdle (slot : Nat) (s : State) : State :=
  match (amGet s.dev.ncp.sessions slot).join with
  | none => s
  | some x => if x.touched + s.reg 0x1210 2 * 1000000000000 ≤ s.now then putSession slot none s else s

/-- A source is heard again after 10 s (R788). -/
def sourceHeard (src : Nat) (s : State) : State :=
  modNcp (fun n => { n with ignored := n.ignored.filter (· != src), failures := amErase n.failures src }) s

/-- A written address takes effect, and the sessions opened on the old one close (R773). -/
def addressApply (s : State) : State :=
  if s.dev.ncp.oldAddress.isSome then
    modNcp (fun n => { n with oldAddress := none }) (closeSessions (fun _ => true) s)
  else s

/-! ### Commands -/

/-- NCP_HELLO (R776). -/
def execNcpHello (f : NcpHead) (slot : Nat) (nc : List Byte) (s : State) : Out :=
  run (.ncpHello f slot nc) (onDev [.od, .eth, .ncp, .events, .eventBuffer, .eventMessages] (hello f slot nc) s)

/-- NCP_OPEN (R778). -/
def execNcpOpen (f : NcpHead) (slot : Nat) (nc nd : List Byte) (s : State) : Out :=
  run (.ncpOpen f slot nc nd) (onDev [.od, .eth, .ncp, .events, .eventBuffer, .eventMessages] (openSession f slot
      nc nd) s)

/-- NCP_CLOSE (R786). -/
def execNcpClose (f : NcpHead) (s : State) : Out :=
  run (.ncpClose f) (onDev [.od, .ncp, .events, .eventBuffer, .eventMessages] (closeFrame f) s)

/-- NCP_MALFORMED_FRAME (R787). -/
def execNcpMalformedFrame (p src : Nat) (bytes : List Byte) (s : State) : Out :=
  run (.ncpMalformedFrame p src bytes) (onDev [.od, .eth, .host, .ncp, .events, .eventBuffer, .eventMessages]
      (malformedFrame p src bytes) s)

/-- CHALLENGE_EXPIRY (R776). -/
def execChallengeExpiry (s : State) : Out := run .challengeExpiry (onDev [.ncp] challengeExpire s)

/-- SESSION_IDLE_TIMEOUT (R786). -/
def execSessionIdleTimeout (slot : Nat) (s : State) : Out :=
  run (.sessionIdleTimeout slot) (onDev [.od, .ncp] (sessionIdle slot) s)

/-- SOURCE_IGNORE_END (R788). -/
def execSourceIgnoreEnd (src : Nat) (s : State) : Out := run (.sourceIgnoreEnd src)
    (onDev [.ncp] (sourceHeard src) s)

/-- NCP_ADDRESS_APPLY (R773). -/
def execNcpAddressApply (s : State) : Out := run .ncpAddressApply (onDev [.od, .ncp] addressApply s)

end Sys2Proof.Machine
end

