-- ==== Sys2Proof/Machine/Dispatch.lean ====
section
/-!
DEFINITION. One arm for each command: the meaning of the command on everything but the queue of waiting commands.
-/
namespace Sys2Proof.Machine

/-- What command `i` does (the rows of spec/opcode_table.json). -/
def exec (i : Instr) (s : State) : Host.Outcome State Fault Refusal :=
  match i with
  | .lineStart left right => Sys2Proof.Machine.execLineStart left right s
  | .linkUnderrun l sent => Sys2Proof.Machine.execLinkUnderrun l sent s
  | .eve => Sys2Proof.Machine.execEve s
  | .calends => Sys2Proof.Machine.execCalends s
  | .patchRequest sc => Sys2Proof.Machine.execPatchRequest sc s
  | .patchComplete strip patch => Sys2Proof.Machine.execPatchComplete strip patch s
  | .windowFetch strip patch layer block first bad1 => Sys2Proof.Machine.execWindowFetch strip patch layer block first bad1 s
  | .clusterFault sc => Sys2Proof.Machine.execClusterFault sc s
  | .windowStoreEccError sc double again => Sys2Proof.Machine.execWindowStoreEccError sc double again s
  | .clusterHeartbeatTimeout sc => Sys2Proof.Machine.execClusterHeartbeatTimeout sc s
  | .patchWatchdogExpiry strip patch => Sys2Proof.Machine.execPatchWatchdogExpiry strip patch s
  | .redoQuarterComplete sc => Sys2Proof.Machine.execRedoQuarterComplete sc s
  | .spareFault sc => Sys2Proof.Machine.execSpareFault sc s
  | .overlayEngineFault e => Sys2Proof.Machine.execOverlayEngineFault e s
  | .colourResidueFail strip patch second => Sys2Proof.Machine.execColourResidueFail strip patch second s
  | .gainMapReadFault off len => Sys2Proof.Machine.execGainMapReadFault off len s
  | .ceilingScaleRecompute => Sys2Proof.Machine.execCeilingScaleRecompute s
  | .freezeCacheStripRead strip bad0 bad1 => Sys2Proof.Machine.execFreezeCacheStripRead strip bad0 bad1 s
  | .chunkDecode de ord => Sys2Proof.Machine.execChunkDecode de ord s
  | .indexRecordResume de => Sys2Proof.Machine.execIndexRecordResume de s
  | .decoderFault de => Sys2Proof.Machine.execDecoderFault de s
  | .internalMarkerComplete src => Sys2Proof.Machine.execInternalMarkerComplete src s
  | .copyComplete layer => Sys2Proof.Machine.execCopyComplete layer s
  | .clipRegister => Sys2Proof.Machine.execClipRegister s
  | .clipVerify => Sys2Proof.Machine.execClipVerify s
  | .clipUnregister => Sys2Proof.Machine.execClipUnregister s
  | .clipVerificationComplete entry => Sys2Proof.Machine.execClipVerificationComplete entry s
  | .viewTableSubmit => Sys2Proof.Machine.execViewTableSubmit s
  | .commitRequest => Sys2Proof.Machine.execCommitRequest s
  | .shadowWrite index sub value => Sys2Proof.Machine.execShadowWrite index sub value s
  | .protectedLoad => Sys2Proof.Machine.execProtectedLoad s
  | .protectedLoadComplete slot => Sys2Proof.Machine.execProtectedLoadComplete slot s
  | .protectedErase => Sys2Proof.Machine.execProtectedErase s
  | .protectedSlotRead slot block bad0 bad1 => Sys2Proof.Machine.execProtectedSlotRead slot block bad0 bad1 s
  | .regionLearn r => Sys2Proof.Machine.execRegionLearn r s
  | .safeShowNAssert => Sys2Proof.Machine.execSafeShowNAssert s
  | .safeShowNRelease => Sys2Proof.Machine.execSafeShowNRelease s
  | .safetyRelease => Sys2Proof.Machine.execSafetyRelease s
  | .safetyReleaseCancel => Sys2Proof.Machine.execSafetyReleaseCancel s
  | .gainMapBaseWrite value => Sys2Proof.Machine.execGainMapBaseWrite value s
  | .gainMapCheck => Sys2Proof.Machine.execGainMapCheck s
  | .gainMapCheckComplete => Sys2Proof.Machine.execGainMapCheckComplete s
  | .bandSubmit => Sys2Proof.Machine.execBandSubmit s
  | .bandCopyComplete band => Sys2Proof.Machine.execBandCopyComplete band s
  | .hardwareCeilingWrite value => Sys2Proof.Machine.execHardwareCeilingWrite value s
  | .agingRefresh => Sys2Proof.Machine.execAgingRefresh s
  | .rasterSubmit => Sys2Proof.Machine.execRasterSubmit s
  | .hostSilenceTimeout => Sys2Proof.Machine.execHostSilenceTimeout s
  | .laneSleepEnter l => Sys2Proof.Machine.execLaneSleepEnter l s
  | .laneWake l => Sys2Proof.Machine.execLaneWake l s
  | .statusReceive l block => Sys2Proof.Machine.execStatusReceive l block s
  | .trainReceive l block => Sys2Proof.Machine.execTrainReceive l block s
  | .trainReqReceive l => Sys2Proof.Machine.execTrainReqReceive l s
  | .capUpReceive l block => Sys2Proof.Machine.execCapUpReceive l block s
  | .testResultReceive l block => Sys2Proof.Machine.execTestResultReceive l block s
  | .telemReceive l block => Sys2Proof.Machine.execTelemReceive l block s
  | .upstreamSleepReceive l block => Sys2Proof.Machine.execUpstreamSleepReceive l block s
  | .upstreamViolation l => Sys2Proof.Machine.execUpstreamViolation l s
  | .upstreamLockGain l => Sys2Proof.Machine.execUpstreamLockGain l s
  | .upstreamLockLoss l => Sys2Proof.Machine.execUpstreamLockLoss l s
  | .upstreamLaneLost l => Sys2Proof.Machine.execUpstreamLaneLost l s
  | .portBlindTimeout p => Sys2Proof.Machine.execPortBlindTimeout p s
  | .linkTransmitFault l => Sys2Proof.Machine.execLinkTransmitFault l s
  | .trainingTimerExpiry l => Sys2Proof.Machine.execTrainingTimerExpiry l s
  | .presetSweepStep l => Sys2Proof.Machine.execPresetSweepStep l s
  | .linkAbsentRetry l => Sys2Proof.Machine.execLinkAbsentRetry l s
  | .portTakedownRetrain p => Sys2Proof.Machine.execPortTakedownRetrain p s
  | .linkSpeedRaise l => Sys2Proof.Machine.execLinkSpeedRaise l s
  | .testLoopNear l => Sys2Proof.Machine.execTestLoopNear l s
  | .testLoopFar l => Sys2Proof.Machine.execTestLoopFar l s
  | .testLoopPattern l => Sys2Proof.Machine.execTestLoopPattern l s
  | .testLoopOff l => Sys2Proof.Machine.execTestLoopOff l s
  | .driverPowerUp p => Sys2Proof.Machine.execDriverPowerUp p s
  | .driverSolReceive l sol data => Sys2Proof.Machine.execDriverSolReceive l sol data s
  | .driverKeepReceive l block => Sys2Proof.Machine.execDriverKeepReceive l block s
  | .driverFrameEndReceive l head cmds => Sys2Proof.Machine.execDriverFrameEndReceive l head cmds s
  | .driverDownstreamLockLoss l => Sys2Proof.Machine.execDriverDownstreamLockLoss l s
  | .driverStatusSend l margin => Sys2Proof.Machine.execDriverStatusSend l margin s
  | .driverTelemSend l value => Sys2Proof.Machine.execDriverTelemSend l value s
  | .driverTrainReceive l block => Sys2Proof.Machine.execDriverTrainReceive l block s
  | .driverPatternEnd l errors => Sys2Proof.Machine.execDriverPatternEnd l errors s
  | .driveFrameBoundary => Sys2Proof.Machine.execDriveFrameBoundary s
  | .zoneTargetReached z => Sys2Proof.Machine.execZoneTargetReached z s
  | .zoneReportReceive z => Sys2Proof.Machine.execZoneReportReceive z s
  | .pulsePhaseEnd => Sys2Proof.Machine.execPulsePhaseEnd s
  | .biasSourceStart v33 => Sys2Proof.Machine.execBiasSourceStart v33 s
  | .biasMeasure v4 v0 v1 v2 v3 => Sys2Proof.Machine.execBiasMeasure v4 v0 v1 v2 v3 s
  | .biasOvervoltageTrip => Sys2Proof.Machine.execBiasOvervoltageTrip s
  | .biasRetry => Sys2Proof.Machine.execBiasRetry s
  | .dcMonitorSample out vout => Sys2Proof.Machine.execDcMonitorSample out vout s
  | .forcedInversion out => Sys2Proof.Machine.execForcedInversion out s
  | .dcStop out => Sys2Proof.Machine.execDcStop out s
  | .layerRestart => Sys2Proof.Machine.execLayerRestart s
  | .outputFault out => Sys2Proof.Machine.execOutputFault out s
  | .lensBandChange => Sys2Proof.Machine.execLensBandChange s
  | .driveDieReset => Sys2Proof.Machine.execDriveDieReset s
  | .holdupSwitch => Sys2Proof.Machine.execHoldupSwitch s
  | .driveDieSupplyRestore => Sys2Proof.Machine.execDriveDieSupplyRestore s
  | .vholdLowLog mv => Sys2Proof.Machine.execVholdLowLog mv s
  | .epLinkUp p tenG => Sys2Proof.Machine.execEpLinkUp p tenG s
  | .epLinkDown p => Sys2Proof.Machine.execEpLinkDown p s
  | .epRateAlternate p => Sys2Proof.Machine.execEpRateAlternate p s
  | .ethernetFrameReceive p proto vlan => Sys2Proof.Machine.execEthernetFrameReceive p proto vlan s
  | .ethernetTransmit p bytes => Sys2Proof.Machine.execEthernetTransmit p bytes s
  | .ptpMessageReceive p msg => Sys2Proof.Machine.execPtpMessageReceive p msg s
  | .ptpLockoutEnd p => Sys2Proof.Machine.execPtpLockoutEnd p s
  | .transmitStampEnqueue p msgtype domain seqId => Sys2Proof.Machine.execTransmitStampEnqueue p msgtype domain seqId s
  | .transmitStampRead p => Sys2Proof.Machine.execTransmitStampRead p s
  | .syncTimeout src => Sys2Proof.Machine.execSyncTimeout src s
  | .sourceInvalid src => Sys2Proof.Machine.execSourceInvalid src s
  | .sourceStandbyRestore src => Sys2Proof.Machine.execSourceStandbyRestore src s
  | .relock => Sys2Proof.Machine.execRelock s
  | .frameEpochWrite sub value => Sys2Proof.Machine.execFrameEpochWrite sub value s
  | .tilePortHello t block => Sys2Proof.Machine.execTilePortHello t block s
  | .helloSend t => Sys2Proof.Machine.execHelloSend t s
  | .markerReceive t block stamp => Sys2Proof.Machine.execMarkerReceive t block stamp s
  | .markerFollowSend t => Sys2Proof.Machine.execMarkerFollowSend t s
  | .markerFollowReceive t block => Sys2Proof.Machine.execMarkerFollowReceive t block s
  | .eveBlockReceive t block => Sys2Proof.Machine.execEveBlockReceive t block s
  | .safetyReceive t block => Sys2Proof.Machine.execSafetyReceive t block s
  | .tilePortViolation t => Sys2Proof.Machine.execTilePortViolation t s
  | .tilePortLockTimeout t => Sys2Proof.Machine.execTilePortLockTimeout t s
  | .safetyRepeat => Sys2Proof.Machine.execSafetyRepeat s
  | .safetyOriginCommand value => Sys2Proof.Machine.execSafetyOriginCommand value s
  | .safetyOriginExpiry origin => Sys2Proof.Machine.execSafetyOriginExpiry origin s
  | .timeOutPulse j edge => Sys2Proof.Machine.execTimeOutPulse j edge s
  | .timeInEdge j rising width => Sys2Proof.Machine.execTimeInEdge j rising width s
  | .captureEntryRead j => Sys2Proof.Machine.execCaptureEntryRead j s
  | .perst => Sys2Proof.Machine.execPerst s
  | .flr => Sys2Proof.Machine.execFlr s
  | .bar2Write off data => Sys2Proof.Machine.execBar2Write off data s
  | .bar2Read off len => Sys2Proof.Machine.execBar2Read off len s
  | .wcmRequest => Sys2Proof.Machine.execWcmRequest s
  | .writeCompleteMarkerDone => Sys2Proof.Machine.execWriteCompleteMarkerDone s
  | .dmaWindowWrite n field value => Sys2Proof.Machine.execDmaWindowWrite n field value s
  | .bar0RegisterWrite off data => Sys2Proof.Machine.execBar0RegisterWrite off data s
  | .queueCreate => Sys2Proof.Machine.execQueueCreate s
  | .queueDelete => Sys2Proof.Machine.execQueueDelete s
  | .submissionDoorbell q count gen => Sys2Proof.Machine.execSubmissionDoorbell q count gen s
  | .completionDoorbell q count gen => Sys2Proof.Machine.execCompletionDoorbell q count gen s
  | .hostViolation v => Sys2Proof.Machine.execHostViolation v s
  | .update q e u => Sys2Proof.Machine.execUpdate q e u s
  | .play q e u => Sys2Proof.Machine.execPlay q e u s
  | .stop q e player => Sys2Proof.Machine.execStop q e player s
  | .pulse q e pin offset width => Sys2Proof.Machine.execPulse q e pin offset width s
  | .modeCue q e m => Sys2Proof.Machine.execModeCue q e m s
  | .zones q e map crc => Sys2Proof.Machine.execZones q e map crc s
  | .visible q e mask values => Sys2Proof.Machine.execVisible q e mask values s
  | .cancel q e queue ctag => Sys2Proof.Machine.execCancel q e queue ctag s
  | .signal q e fence value => Sys2Proof.Machine.execSignal q e fence value s
  | .completionPost ring c => Sys2Proof.Machine.execCompletionPost ring c s
  | .mailboxDoorbell value => Sys2Proof.Machine.execMailboxDoorbell value s
  | .hbmTrainingComplete failed => Sys2Proof.Machine.execHbmTrainingComplete failed s
  | .readDelayCheck lane lowBad highBad => Sys2Proof.Machine.execReadDelayCheck lane lowBad highBad s
  | .refreshDue pc busy => Sys2Proof.Machine.execRefreshDue pc busy s
  | .stackTemperatureRead stack temp => Sys2Proof.Machine.execStackTemperatureRead stack temp s
  | .selfRefreshEntry pc => Sys2Proof.Machine.execSelfRefreshEntry pc s
  | .selfRefreshExitDone pc => Sys2Proof.Machine.execSelfRefreshExitDone pc s
  | .hbmReadError pc addr => Sys2Proof.Machine.execHbmReadError pc addr s
  | .mirrorReadComplete pc addr good => Sys2Proof.Machine.execMirrorReadComplete pc addr good s
  | .patrolScrubStep single uncorrectable => Sys2Proof.Machine.execPatrolScrubStep single uncorrectable s
  | .atomicAdd addr wide value => Sys2Proof.Machine.execAtomicAdd addr wide value s
  | .atomicSwap addr wide value => Sys2Proof.Machine.execAtomicSwap addr wide value s
  | .bankUncorrectableWord addr => Sys2Proof.Machine.execBankUncorrectableWord addr s
  | .backgroundRowTestStart => Sys2Proof.Machine.execBackgroundRowTestStart s
  | .rowTestComplete failed => Sys2Proof.Machine.execRowTestComplete failed s
  | .rowTestAbandon => Sys2Proof.Machine.execRowTestAbandon s
  | .start u => Sys2Proof.Machine.execStart u s
  | .feed u => Sys2Proof.Machine.execFeed u s
  | .feedComplete u bad => Sys2Proof.Machine.execFeedComplete u bad s
  | .finish u => Sys2Proof.Machine.execFinish u s
  | .abort u fed => Sys2Proof.Machine.execAbort u fed s
  | .checkUnitParityFail u => Sys2Proof.Machine.execCheckUnitParityFail u s
  | .storeWriteComplete ok => Sys2Proof.Machine.execStoreWriteComplete ok s
  | .recordWrite rec payload => Sys2Proof.Machine.execRecordWrite rec payload s
  | .ringWrite ring payload => Sys2Proof.Machine.execRingWrite ring payload s
  | .pageContentsRead => Sys2Proof.Machine.execPageContentsRead s
  | .sensorReading sensor raw => Sys2Proof.Machine.execSensorReading sensor raw s
  | .sensorConversionTimeout sensor => Sys2Proof.Machine.execSensorConversionTimeout sensor s
  | .tdCrossCheck td => Sys2Proof.Machine.execTdCrossCheck td s
  | .sensorRepair sensor => Sys2Proof.Machine.execSensorRepair sensor s
  | .retireSensor sensor => Sys2Proof.Machine.execRetireSensor sensor s
  | .restoreSensor sensor => Sys2Proof.Machine.execRestoreSensor sensor s
  | .octaveEvaluate => Sys2Proof.Machine.execOctaveEvaluate s
  | .octaveClockStepApply => Sys2Proof.Machine.execOctaveClockStepApply s
  | .thermalFaultEnter => Sys2Proof.Machine.execThermalFaultEnter s
  | .thermalFaultEnd => Sys2Proof.Machine.execThermalFaultEnd s
  | .domainPowerGood pd => Sys2Proof.Machine.execDomainPowerGood pd s
  | .domainWakeTimeout pd => Sys2Proof.Machine.execDomainWakeTimeout pd s
  | .decoderDomainIdleOff => Sys2Proof.Machine.execDecoderDomainIdleOff s
  | .onHoursWrite => Sys2Proof.Machine.execOnHoursWrite s
  | .throttleWrite => Sys2Proof.Machine.execThrottleWrite s
  | .ncpHello f slot nc => Sys2Proof.Machine.execNcpHello f slot nc s
  | .ncpOpen f slot nc nd => Sys2Proof.Machine.execNcpOpen f slot nc nd s
  | .ncpClose f => Sys2Proof.Machine.execNcpClose f s
  | .ncpMalformedFrame p src bytes => Sys2Proof.Machine.execNcpMalformedFrame p src bytes s
  | .challengeExpiry => Sys2Proof.Machine.execChallengeExpiry s
  | .sessionIdleTimeout slot => Sys2Proof.Machine.execSessionIdleTimeout slot s
  | .sourceIgnoreEnd src => Sys2Proof.Machine.execSourceIgnoreEnd src s
  | .ncpAddressApply => Sys2Proof.Machine.execNcpAddressApply s
  | .readObject o r => Sys2Proof.Machine.execReadObject o r s
  | .writeObject o r => Sys2Proof.Machine.execWriteObject o r s
  | .readSeg o r => Sys2Proof.Machine.execReadSeg o r s
  | .writeSeg o r => Sys2Proof.Machine.execWriteSeg o r s
  | .segmentTransferTimeout slot => Sys2Proof.Machine.execSegmentTransferTimeout slot s
  | .describe o r => Sys2Proof.Machine.execDescribe o r s
  | .nextObject o r => Sys2Proof.Machine.execNextObject o r s
  | .keepalive o r => Sys2Proof.Machine.execKeepalive o r s
  | .imageVerify => Sys2Proof.Machine.execImageVerify s
  | .imageCommit => Sys2Proof.Machine.execImageCommit s
  | .modeSubmit => Sys2Proof.Machine.execModeSubmit s
  | .lifecycleTransition o value => Sys2Proof.Machine.execLifecycleTransition o value s
  | .erasureComplete => Sys2Proof.Machine.execErasureComplete s
  | .keyWrite o slot payload => Sys2Proof.Machine.execKeyWrite o slot payload s
  | .raiseMinimumVersion v => Sys2Proof.Machine.execRaiseMinimumVersion v s
  | .ceilingWrite which value => Sys2Proof.Machine.execCeilingWrite which value s
  | .powerOn => Sys2Proof.Machine.execPowerOn s
  | .firstCalends => Sys2Proof.Machine.execFirstCalends s
  | .hbmRelease => Sys2Proof.Machine.execHbmRelease s
  | .firmwareBoot slot0 slot1 => Sys2Proof.Machine.execFirmwareBoot slot0 slot1 s
  | .lightFieldReady => Sys2Proof.Machine.execLightFieldReady s
  | .sysReset => Sys2Proof.Machine.execSysReset s
  | .railBad => Sys2Proof.Machine.execRailBad s
  | .managementRestartCommand => Sys2Proof.Machine.execManagementRestartCommand s
  | .mainDieResetCommand => Sys2Proof.Machine.execMainDieResetCommand s
  | .driveDieResetCommand => Sys2Proof.Machine.execDriveDieResetCommand s
  | .watchdogRefresh => Sys2Proof.Machine.execWatchdogRefresh s
  | .watchdogExpiry => Sys2Proof.Machine.execWatchdogExpiry s
  | .managementRestartComplete => Sys2Proof.Machine.execManagementRestartComplete s
  | .eventRead => Sys2Proof.Machine.execEventRead s
  | .proxyStore => Sys2Proof.Machine.execProxyStore s
  | .proxyErase => Sys2Proof.Machine.execProxyErase s
  | .refclockLoss quadrant => Sys2Proof.Machine.execRefclockLoss quadrant s
  | .driverDownstreamLockGain l => Sys2Proof.Machine.execDriverDownstreamLockGain l s
  | .driverLockLossTimeout p => Sys2Proof.Machine.execDriverLockLossTimeout p s
  | .driverTrainSend l margin => Sys2Proof.Machine.execDriverTrainSend l margin s
  | .patternTestResultSend l errors => Sys2Proof.Machine.execPatternTestResultSend l errors s
  | .sysResetRelease => Sys2Proof.Machine.execSysResetRelease s
  | .hbmCommandParityError pc => Sys2Proof.Machine.execHbmCommandParityError pc s
  | .stackControlFailure stack => Sys2Proof.Machine.execStackControlFailure stack s
  | .tilePortLockGain t lane => Sys2Proof.Machine.execTilePortLockGain t lane s
  | .tilePortLockLoss t lane => Sys2Proof.Machine.execTilePortLockLoss t lane s
  | .tilePortTakeDownEnd t => Sys2Proof.Machine.execTilePortTakeDownEnd t s
  | .tileSerdesDomainOff => Sys2Proof.Machine.execTileSerdesDomainOff s
  | .pcieLinkTrained speed width => Sys2Proof.Machine.execPcieLinkTrained speed width s
  | .pcieLinkDown => Sys2Proof.Machine.execPcieLinkDown s
  | .storeSelectionComplete => Sys2Proof.Machine.execStoreSelectionComplete s
  | .managementCoresStop => Sys2Proof.Machine.execManagementCoresStop s

end Sys2Proof.Machine
end

