-- ==== Sys2Proof/Machine/Step.lean ====
section
/-!
DEFINITION. One step: the command at the front of the queue runs with the rest of the queue waiting behind it. With
nothing waiting, local time passes.
-/
namespace Sys2Proof.Machine

/-- One step of the block. An empty queue lets `Config.tickPs` of local time pass (DESIGN CHOICE, log 1). -/
def step (s : State) : Host.Outcome State Fault Refusal :=
  match s.pending with
  | [] => .next { s with now := s.now + Config.tickPs }
  | c :: rest => exec c { s with pending := rest }

/-- `s` with the command that a word spells at the front of the queue; no row of the table gives bits, so no word
spells one and `s` stands. -/
def State.withFetchWord (s : State) (nbits w : Nat) : State :=
  match decodeTableWord nbits w with
  | some c => { s with pending := c :: s.pending }
  | none => s

end Sys2Proof.Machine
end

