-- ==== Sys2Proof/Safety.lean ====
section
/-!
DEFINITION. What counts as a safe state and a safe step, in the terms claims use: memories in canonical form, what an
event in the log is, and which parts of the block a command may reach.
-/
namespace Sys2Proof.Machine

/-- HBM and bank memory are in canonical form. -/
abbrev Memory.wf (s : State) : Prop := memoryWf s.hbm = true ∧ memoryWf s.bank = true

/-- An event written now finds room: HBM is trained, or the buffer on chip is not full (R869). -/
def canLog (s : State) : Prop := hbmTrained s = true ∨ s.dev.eventBuffer.length < 4096

/-- The step from `s` to `t` wrote an event of rule `r`: it carries the next sequence number (R869 to R871). -/
def eventLogged (r : Nat) (s t : State) : Prop :=
  ∃ e : Event, e.rule = r ∧ e.seq = (s.reg 0x6000 1 + 1) % 2 ^ 32 ∧ (e ∈ t.dev.events ∨ e ∈ t.dev.eventBuffer)

/-- A counter object one event later (R21). -/
def counted (s t : State) (index sub : Nat) : Prop := t.reg index sub = min (s.reg index sub + 1) 0xFFFFFFFF

/-- Queue `q` is a submission queue with an entry that waits (R599), and the queue engine serves it (R602). -/
def entryWaits (s : State) (q : Nat) : Prop :=
  s.dev.host.serving = some q ∧ (s.queue q).typ ≠ 0 ∧ (s.queue q).typ ≠ 4 ∧ (s.queue q).head ≠ (s.queue q).tail

/-- The next entry of queue `q` waits, and the bytes of its ring slot are those of the entry `x` (R600, R603). -/
def entrySpelt {α : Type} [BEq α] (s : State) (q : Nat) (read : List Byte → α) (x : α) : Prop :=
  entryWaits s q ∧ slotHolds s q (read · == x) = true

/-- The state in which the planner tests the next entry of queue `q`: it has been read from its ring and taken from the
queue (R600, R649). -/
def entryPopped (s : State) (q : Nat) : State :=
  let c := s.queue q
  noteAnswer (modQueue q (fun c => { c with head := (c.head + 1) % 2 ^ 32 })
    (hbmAsk 46 false (c.ring + 64 * (c.head % 2 ^ c.sizeLog2)) 64 s))

/-- The entry of queue `q` was answered with acceptance and an item of this kind was admitted for count `n` under the
next admission number (R613, R624). -/
def admitted (s t : State) (q : Nat) (e : Entry) (n : Nat) (kind : ItemKind) : Prop :=
  (∃ i : Item, t.dev.host.items = s.dev.host.items ++ [i] ∧ i.num = s.dev.host.nextNum ∧ i.host = true ∧ i.queue = q ∧
    i.tag = e.tag ∧ i.target = n ∧ i.kind = kind) ∧
  t.dev.host.nextNum = s.dev.host.nextNum + 1 ∧ (t.queue q).head = ((s.queue q).head + 1) % 2 ^ 32 ∧
  (t.queue q).accepted = ((s.queue q).accepted + 1) % 2 ^ 32 ∧ counted s t 0x1242 1

/-- The entry of queue `q` was answered with a refusal for reason `r`, and nothing was admitted or changed for any
frame (R52, R613, R619). -/
def refused (s t : State) (q r : Nat) : Prop :=
  t.dev.host.items = s.dev.host.items ∧ t.dev.host.nextNum = s.dev.host.nextNum ∧
  t.dev.host.fences = s.dev.host.fences ∧ t.dev.jobs = s.dev.jobs ∧ t.dev.players = s.dev.players ∧
  t.dev.holdSlots = s.dev.holdSlots ∧ t.dev.timeOut = s.dev.timeOut ∧ t.dev.live = s.dev.live ∧ t.hbm = s.hbm ∧
  (t.queue q).head = ((s.queue q).head + 1) % 2 ^ 32 ∧ counted s t 0x1242 2 ∧ counted s t 0x1243 r

/-- A mailbox request that arrives now is served at once: no request waits for the store or is delayed (R792, R793). -/
def mailIdle (s : State) : Prop := served s .mailbox = true ∧ owedNow s = [] ∧ s.dev.delayed = []

/-- The mailbox holds this answer of service `svc` and reads done (R781, R789). -/
def mailAnswer (s : State) (svc : Nat) (a : Answer) : Prop :=
  s.dev.host.mailResponse = answerBytes svc a ∧ s.dev.host.mailState = 2

/-- A write of `target` with these bytes has been asked of the store: it waits in the queue, or it is being written
(R709, R710). -/
def storeAsked (s : State) (target : StoreTarget) (bytes : List Byte) : Prop :=
  ∃ q : StoreReq, q.target = target ∧ q.bytes = bytes ∧ (q ∈ s.nv.queue ∨ s.nv.writing.map (·.req) = some q)

/-- `s`, but for this answer of service `svc` in the mailbox. -/
def mailAnswered (svc : Nat) (a : Answer) (s : State) : State :=
  modHost (fun h => { h with mailResponse := answerBytes svc a, mailState := 2 }) s

/-- A frame of firmware for `dst` has left by port `p`, as it does when no other waits there and the cap leaves its bits
(R518). -/
def frameLeaves (s u : State) (p dst : Nat) (bs : List Byte) : Prop :=
  (s.eth p).waiting = [] → 8 * bs.length ≤ capLeft s p → u.dev.ncp.sent.head? = some (p, dst, bs)

/-- The job whose chunk `ord` a free decoder takes now, as its decode finds it, and the state in which it does: the job's
slot is open (R122, R133). -/
def chunkTaken? (s : State) (ord : Nat) : Option (Job × State) := (jobFor s ord).map fun j => (j.opening, openJob j s)

/-- Decoder `de` can take chunk `ord` of job `j` before the eve; it finds it at `off` of the staging area, in state `u`
(R122, R134). -/
def chunkGiven (s : State) (de ord off : Nat) (j : Job) (u : State) : Prop :=
  s.reg 0x2000 (de + 1) ≠ 4 ∧ amGet s.dev.waiting de = none ∧ s.dev.timing.eveDone = false ∧
  chunkTaken? s ord = some (j, u) ∧ jobOf u j.num = some j ∧ (jobOffsets u j)[ord]? = some off

/-- Decoder `de` waits for a Count that its chunk, found at `off` of job `j`, need not wait for any more (R123). -/
def chunkResumed (s : State) (de off : Nat) (w : Waiting) (j : Job) : Prop :=
  amGet s.dev.waiting de = some w ∧ jobOf s w.job = some j ∧ countAwaited j w.chunk w.block = false ∧
  (jobOffsets s j)[w.chunk]? = some off

/-- Chunk `ord` of job `j` has been decoded, or its update has failed and is counted: a chunk that passes can still be
the one with which the chunks end and no END has come (R117). -/
def chunkSettled (s t : State) (ord : Nat) (j : Job) : Prop :=
  (jobOf t j.num).map (·.taken) = some (ord :: j.taken) ∨ ((∀ y ∈ t.dev.jobs, y.num ≠ j.num) ∧ counted s t 0x2002 2)

/-- What the records of the palette chunk `c` of job `j` fail with, and what those of an index chunk give (R123). -/
def paletteFail (j : Job) (ord : Nat) (c : Chunk) : Option Nat :=
  firstFail (paletteRecords j.content (spanBad j.palSpans ord) (c.len / 8) c.payload none []
    (if j.content.occ.isEmpty then [0x0A] else [])).2
def indexRun (s : State) (j : Job) (ord : Nat) (c : Chunk) : IndexRun :=
  indexRecords j.content (shownBefore s s.dev.live j.layer j.target) (countOf? j ord) (countAwaited j ord) (spanBad j.idxSpans ord)
    (c.len / 8) 0 c.payload { fails := if j.content.occ.isEmpty then [0x0A] else [] }

/-! ### What a command may change -/

/-- What a command may change besides nothing: parts of the device (every one, for none), HBM, the banks, the store, the
ceilings and the fuses. -/
structure Reach where
  parts : Option (List DevPart)
  hbm : Bool := false
  bank : Bool := false
  store : Bool := false
  ceilings : Bool := false
  fuses : Bool := false

def Reach.dev (ps : List DevPart) : Reach := { parts := some ps }
def Reach.mem (ps : List DevPart) : Reach := { parts := some ps, hbm := true }
def Reach.onChip (ps : List DevPart) : Reach := { parts := some ps, bank := true }
def Reach.bankNv (ps : List DevPart) : Reach := { parts := some ps, bank := true, store := true }
def Reach.nv (ps : List DevPart) : Reach := { parts := some ps, store := true }
def Reach.memNv (ps : List DevPart) : Reach := { parts := some ps, hbm := true, store := true }
def Reach.ceil (ps : List DevPart) : Reach := { parts := some ps, store := true, ceilings := true }
def Reach.all : Reach := { parts := none, hbm := true, bank := true, store := true, ceilings := true }
def Reach.withFuses : Reach := { Reach.all with fuses := true }

/-- Between `s` and `t` nothing outside the reach changed; the waiting commands and local time never do. -/
def Reach.keeps (r : Reach) (s t : State) : Prop :=
  t.pending = s.pending ∧ t.now = s.now ∧ (r.hbm = false → t.hbm = s.hbm) ∧ (r.bank = false → t.bank = s.bank) ∧
  (r.store = false → t.nv = s.nv) ∧ (r.ceilings = false → t.ceilings = s.ceilings) ∧
  (r.fuses = false → t.fuses = s.fuses) ∧ ∀ ps, r.parts = some ps → ∀ p, p ∉ ps → p.same s.dev t.dev

/-- The reach of each command. -/
def reach : Instr → Reach
  | .lineStart .. =>
      .memNv [.od, .live, .captured, .commitPending, .commitCaptured, .timing, .synth, .gov, .bandUpdates,
        .regions, .jobs, .waiting, .copies, .changed, .clipReady, .late, .lost, .due, .holdSlots, .clips,
        .players, .protectedLogged, .freeze, .links, .ports, .lens, .eth, .tiles, .safety, .timeOut, .host,
        .ncp, .memory, .bringup, .events, .eventBuffer, .eventMessages, .drawn]
  | .linkUnderrun .. =>
      .dev [.od, .timing, .links]
  | .eve =>
      .mem [.od, .shadow, .captured, .commitPending, .commitCaptured, .timing, .jobs, .waiting, .copies,
        .clipReady, .late, .lost, .due, .holdSlots, .clips, .players, .freeze, .lens, .tiles, .safety, .timeOut,
        .host, .ncp, .memory, .images, .events, .eventBuffer, .eventMessages]
  | .calends =>
      .memNv [.od, .live, .captured, .commitCaptured, .timing, .synth, .gov, .bandUpdates, .regions, .jobs,
        .waiting, .copies, .changed, .clipReady, .late, .lost, .due, .holdSlots, .clips, .players,
        .protectedLogged, .freeze, .ports, .lens, .tiles, .safety, .timeOut, .host, .memory, .bringup, .events,
        .eventBuffer, .eventMessages, .drawn]
  | .patchRequest .. =>
      .dev [.synth]
  | .patchComplete .. | .redoQuarterComplete .. =>
      .mem [.od, .synth, .gov, .protectedLogged, .freeze, .memory, .events, .eventBuffer, .eventMessages]
  | .windowFetch .. =>
      .mem [.od, .synth, .memory, .events, .eventBuffer, .eventMessages]
  | .clusterFault .. | .clusterHeartbeatTimeout .. | .patchWatchdogExpiry .. | .spareFault .. =>
      .dev [.od, .synth, .events, .eventBuffer, .eventMessages]
  | .windowStoreEccError .. =>
      .mem [.od, .synth, .memory, .events, .eventBuffer, .eventMessages, .drawn]
  | .overlayEngineFault .. | .portBlindTimeout .. | .vholdLowLog .. | .readDelayCheck .. | .checkUnitParityFail ..
  | .domainWakeTimeout .. | .imageVerify | .stackControlFailure .. =>
      .dev [.od, .events, .eventBuffer, .eventMessages]
  | .colourResidueFail .. =>
      .dev [.od, .synth]
  | .gainMapReadFault .. =>
      .dev [.od, .gov, .memory, .events, .eventBuffer, .eventMessages]
  | .ceilingScaleRecompute =>
      .dev [.od, .gov]
  | .freezeCacheStripRead .. =>
      .dev [.od, .synth, .freeze, .memory, .events, .eventBuffer, .eventMessages]
  | .chunkDecode .. | .indexRecordResume .. =>
      .mem [.od, .jobs, .waiting, .lastChunk, .copies, .lost, .due, .holdSlots, .players, .host, .memory,
        .events, .eventBuffer, .eventMessages]
  | .decoderFault .. =>
      .mem [.od, .jobs, .waiting, .lastChunk, .copies, .lost, .due, .holdSlots, .players, .host, .memory,
        .events, .eventBuffer, .eventMessages, .drawn]
  | .internalMarkerComplete .. =>
      .mem [.od, .bandUpdates, .jobs, .waiting, .copies, .clipReady, .host, .memory]
  | .copyComplete .. =>
      .mem [.od, .copies, .memory]
  | .clipRegister =>
      .dev [.od, .clips, .memory]
  | .clipVerify | .clipUnregister =>
      .dev [.clips]
  | .clipVerificationComplete .. =>
      .dev [.od, .clips, .tiles, .memory, .drawn]
  | .viewTableSubmit | .rasterSubmit | .perst | .flr | .completionPost .. | .modeSubmit | .pcieLinkTrained ..
  | .pcieLinkDown =>
      .dev [.od, .host]
  | .commitRequest =>
      .dev [.od, .commitPending]
  | .shadowWrite .. =>
      .dev [.shadow, .commitPending]
  | .protectedLoad | .protectedErase =>
      .dev [.protectedDefs, .protectedSlots]
  | .protectedLoadComplete .. =>
      .mem [.od, .protectedDefs, .protectedSlots, .tiles, .memory, .drawn]
  | .protectedSlotRead .. =>
      .mem [.od, .synth, .protectedLogged, .memory, .events, .eventBuffer, .eventMessages]
  | .regionLearn .. | .agingRefresh =>
      .dev [.shadow]
  | .safeShowNAssert =>
      .dev [.tiles, .safety]
  | .safeShowNRelease | .safetyRelease | .safetyReleaseCancel | .safetyOriginExpiry .. =>
      .dev [.safety]
  | .gainMapBaseWrite .. | .laneWake .. | .epLinkUp .. | .ethernetFrameReceive .. | .frameEpochWrite .. | .start ..
  | .finish .. | .decoderDomainIdleOff | .tilePortLockLoss .. | .tileSerdesDomainOff =>
      .dev [.od]
  | .gainMapCheck =>
      .dev [.od, .live, .captured]
  | .gainMapCheckComplete | .refreshDue .. | .selfRefreshEntry .. | .selfRefreshExitDone .. | .feed .. | .hbmRelease =>
      .dev [.od, .memory]
  | .bandSubmit =>
      .dev [.od, .bandUpdates]
  | .bandCopyComplete .. =>
      .mem [.od, .bandUpdates, .memory, .events, .eventBuffer, .eventMessages]
  | .hardwareCeilingWrite .. | .recordWrite .. | .ringWrite .. | .sensorRepair .. | .retireSensor ..
  | .restoreSensor .. | .erasureComplete | .keyWrite .. | .ceilingWrite .. | .proxyStore | .proxyErase =>
      .nv [.od]
  | .hostSilenceTimeout =>
      .dev [.timing]
  | .laneSleepEnter .. =>
      .dev [.od, .links, .drivers]
  | .statusReceive .. | .trainReceive .. | .trainReqReceive .. | .capUpReceive .. | .testResultReceive ..
  | .telemReceive .. | .upstreamSleepReceive .. | .upstreamViolation .. | .linkTransmitFault .. | .refclockLoss .. =>
      .dev [.od, .links, .ports, .events, .eventBuffer, .eventMessages]
  | .upstreamLockGain .. | .upstreamLockLoss .. | .trainingTimerExpiry .. | .linkAbsentRetry .. | .testLoopOff .. =>
      .dev [.od, .links]
  | .upstreamLaneLost .. | .presetSweepStep .. =>
      .dev [.links]
  | .portTakedownRetrain .. | .linkSpeedRaise .. | .testLoopNear .. | .testLoopFar .. | .testLoopPattern .. =>
      .dev [.od, .links, .ports]
  | .driverPowerUp .. | .driverFrameEndReceive .. | .driverStatusSend .. | .driverTelemSend ..
  | .driverTrainReceive .. | .driverPatternEnd .. | .driverDownstreamLockGain .. | .driverLockLossTimeout ..
  | .driverTrainSend .. | .patternTestResultSend .. =>
      .dev [.drivers]
  | .driverSolReceive .. | .driverKeepReceive .. | .driverDownstreamLockLoss .. =>
      .dev [.drivers, .drawn]
  | .driveFrameBoundary | .zoneTargetReached .. | .biasSourceStart .. | .dcMonitorSample .. | .forcedInversion .. =>
      .dev [.od, .lens]
  | .zoneReportReceive .. | .lensBandChange =>
      .dev [.lens]
  | .pulsePhaseEnd | .biasRetry | .layerRestart =>
      .nv [.od, .lens]
  | .biasMeasure .. | .biasOvervoltageTrip | .dcStop .. | .outputFault .. =>
      .dev [.od, .lens, .events, .eventBuffer, .eventMessages]
  | .driveDieReset | .driveDieSupplyRestore | .bar0RegisterWrite .. | .mailboxDoorbell .. | .storeWriteComplete ..
  | .writeObject .. | .writeSeg .. | .lifecycleTransition .. | .raiseMinimumVersion .. | .driveDieResetCommand =>
      .withFuses
  | .holdupSwitch =>
      .dev [.od, .lens, .bringup]
  | .epLinkDown .. =>
      .dev [.od, .timing, .clock, .sources, .eth, .events, .eventBuffer, .eventMessages]
  | .epRateAlternate .. | .ptpLockoutEnd .. =>
      .dev [.eth]
  | .ethernetTransmit .. =>
      .dev [.od, .eth, .ncp]
  | .ptpMessageReceive .. =>
      .dev [.od, .timing, .clock, .sources, .eth, .events, .eventBuffer, .eventMessages, .drawn]
  | .transmitStampEnqueue .. | .transmitStampRead .. =>
      .dev [.od, .eth]
  | .syncTimeout .. | .sourceInvalid .. | .managementCoresStop =>
      .dev [.od, .timing, .clock, .sources, .events, .eventBuffer, .eventMessages]
  | .sourceStandbyRestore .. =>
      .dev [.sources]
  | .relock =>
      .dev [.od, .timing, .timeOut]
  | .tilePortHello .. | .markerReceive .. | .markerFollowReceive .. | .tilePortViolation .. =>
      .dev [.od, .tiles, .events, .eventBuffer, .eventMessages]
  | .helloSend .. | .markerFollowSend .. | .safetyRepeat =>
      .dev [.tiles]
  | .eveBlockReceive .. =>
      .dev [.od, .timing, .tiles, .events, .eventBuffer, .eventMessages]
  | .safetyReceive .. =>
      .dev [.od, .tiles, .safety, .events, .eventBuffer, .eventMessages]
  | .tilePortLockTimeout .. | .tilePortLockGain .. | .tilePortTakeDownEnd .. =>
      .dev [.od, .tiles]
  | .safetyOriginCommand .. =>
      .dev [.od, .tiles, .safety]
  | .timeOutPulse .. =>
      .dev [.timeOut]
  | .timeInEdge .. | .captureEntryRead .. =>
      .dev [.od, .timeIn]
  | .bar2Write .. =>
      .mem [.od, .memory]
  | .bar2Read .. =>
      .mem [.od, .host, .memory]
  | .wcmRequest | .queueCreate =>
      .dev [.host]
  | .writeCompleteMarkerDone | .queueDelete =>
      .dev [.od, .timing, .host, .events, .eventBuffer, .eventMessages]
  | .dmaWindowWrite .. | .hostViolation .. =>
      .dev [.od, .host, .events, .eventBuffer, .eventMessages]
  | .submissionDoorbell .. | .completionDoorbell .. =>
      .dev [.timing, .host]
  | .update .. =>
      .mem [.od, .timing, .jobs, .copies, .holdSlots, .host, .memory, .events, .eventBuffer, .eventMessages,
        .drawn]
  | .play .. =>
      .mem [.od, .timing, .jobs, .waiting, .copies, .clipReady, .lost, .due, .holdSlots, .players, .host,
        .memory, .events, .eventBuffer, .eventMessages, .drawn]
  | .stop .. | .cancel .. =>
      .mem [.od, .timing, .jobs, .waiting, .copies, .clipReady, .lost, .due, .holdSlots, .clips, .players,
        .timeOut, .host, .memory, .events, .eventBuffer, .eventMessages, .drawn]
  | .pulse .. =>
      .dev [.od, .timing, .timeOut, .host, .memory, .events, .eventBuffer, .eventMessages, .drawn]
  | .modeCue .. | .zones .. | .visible .. | .signal .. =>
      .dev [.od, .timing, .host, .memory, .events, .eventBuffer, .eventMessages, .drawn]
  | .hbmTrainingComplete .. =>
      .dev [.od, .host, .memory, .events, .eventBuffer, .eventMessages]
  | .stackTemperatureRead .. | .hbmCommandParityError .. =>
      .dev [.od, .memory, .events, .eventBuffer, .eventMessages]
  | .hbmReadError .. | .mirrorReadComplete .. | .patrolScrubStep .. =>
      .mem [.od, .memory, .events, .eventBuffer, .eventMessages]
  | .atomicAdd .. | .atomicSwap .. =>
      .onChip [.od, .memory, .events, .eventBuffer, .eventMessages]
  | .bankUncorrectableWord .. =>
      .dev [.od, .synth, .events, .eventBuffer, .eventMessages, .drawn]
  | .backgroundRowTestStart =>
      .dev [.memory]
  | .rowTestComplete .. =>
      .bankNv [.od, .memory]
  | .rowTestAbandon =>
      .onChip [.od, .memory]
  | .feedComplete .. | .abort .. =>
      .dev [.od, .drawn]
  | .pageContentsRead =>
      .nv []
  | .sensorReading .. | .sensorConversionTimeout .. | .tdCrossCheck .. =>
      .nv [.od, .thermal, .events, .eventBuffer, .eventMessages]
  | .octaveEvaluate | .octaveClockStepApply | .domainPowerGood .. =>
      .dev [.od, .thermal]
  | .thermalFaultEnter =>
      .dev [.od, .thermal, .events, .eventBuffer, .eventMessages]
  | .thermalFaultEnd =>
      .dev [.thermal]
  | .onHoursWrite | .throttleWrite =>
      .nv [.od, .thermal]
  | .ncpHello .. | .ncpOpen .. =>
      .dev [.od, .eth, .ncp, .events, .eventBuffer, .eventMessages]
  | .ncpClose .. =>
      .dev [.od, .ncp, .events, .eventBuffer, .eventMessages]
  | .ncpMalformedFrame .. =>
      .dev [.od, .eth, .host, .ncp, .events, .eventBuffer, .eventMessages]
  | .challengeExpiry | .sourceIgnoreEnd .. =>
      .dev [.ncp]
  | .sessionIdleTimeout .. | .ncpAddressApply =>
      .dev [.od, .ncp]
  | .readObject .. | .readSeg .. | .describe .. | .nextObject .. | .keepalive .. =>
      .dev [.od, .shadow, .live, .captured, .commitPending, .timing, .gov, .bandUpdates, .clips, .protectedDefs,
        .protectedSlots, .links, .ports, .lens, .clock, .sources, .eth, .tiles, .safety, .timeIn, .host, .ncp,
        .units, .thermal, .images, .bringup, .events, .eventBuffer, .eventMessages, .delayed, .drawn]
  | .segmentTransferTimeout .. =>
      .dev [.od, .host, .ncp]
  | .imageCommit =>
      .nv [.od, .images, .events, .eventBuffer, .eventMessages]
  | .powerOn | .sysReset | .railBad | .mainDieResetCommand =>
      .all
  | .firstCalends =>
      .memNv [.od, .timing, .synth, .jobs, .waiting, .copies, .clipReady, .late, .lost, .due, .holdSlots,
        .players, .protectedLogged, .links, .lens, .tiles, .host, .memory, .events, .eventBuffer,
        .eventMessages, .drawn]
  | .firmwareBoot .. =>
      .nv [.od, .bringup, .events, .eventBuffer, .eventMessages]
  | .lightFieldReady =>
      .dev [.od, .bringup, .events, .eventBuffer, .eventMessages]
  | .managementRestartCommand | .watchdogExpiry =>
      .nv [.od, .timing, .clock, .sources, .host, .ncp, .events, .eventBuffer, .eventMessages, .delayed]
  | .watchdogRefresh =>
      .dev [.bringup]
  | .managementRestartComplete =>
      .nv [.od, .bringup]
  | .eventRead =>
      .dev [.events]
  | .sysResetRelease | .storeSelectionComplete =>
      .ceil [.od, .shadow, .live, .links, .lens, .thermal, .images, .bringup, .events, .eventBuffer,
        .eventMessages]

/-! ### Registers a command may change, and units it needs -/

/-- Dictionary indexes that a command of a link, of the wall, of network time, of NCP or of the host may change
registers of. -/
def portIndexes : Instr → Option (List (Nat × Nat))
  | .laneSleepEnter .. | .laneWake .. | .statusReceive .. | .trainReceive .. | .trainReqReceive ..
  | .capUpReceive .. | .testResultReceive .. | .telemReceive .. | .upstreamSleepReceive .. | .upstreamViolation ..
  | .upstreamLockGain .. | .upstreamLockLoss .. | .portBlindTimeout .. | .linkTransmitFault ..
  | .trainingTimerExpiry .. | .linkAbsentRetry .. | .portTakedownRetrain .. | .linkSpeedRaise .. | .testLoopNear ..
  | .testLoopFar .. | .testLoopPattern .. | .testLoopOff .. | .refclockLoss .. =>
      some [(0x4000, 0x41FF), (0x6000, 0x6000)]
  | .epLinkUp .. | .epLinkDown .. | .ethernetFrameReceive .. | .ethernetTransmit .. | .ptpMessageReceive ..
  | .transmitStampEnqueue .. | .transmitStampRead .. | .syncTimeout .. | .sourceInvalid .. | .relock
  | .frameEpochWrite .. =>
      some [(0x4800, 0x4821), (0x6000, 0x6000)]
  | .tilePortHello .. | .markerReceive .. | .markerFollowReceive .. | .eveBlockReceive .. | .safetyReceive ..
  | .tilePortViolation .. | .tilePortLockTimeout .. | .safetyOriginCommand .. | .tilePortLockGain ..
  | .tilePortLockLoss .. | .tilePortTakeDownEnd .. | .tileSerdesDomainOff =>
      some [(0x3840, 0x3840), (0x4830, 0x4840), (0x4880, 0x4887), (0x5430, 0x5430), (0x6000, 0x6000)]
  | .ncpHello .. | .ncpOpen .. | .ncpClose .. | .ncpMalformedFrame .. | .sessionIdleTimeout .. | .ncpAddressApply
  | .segmentTransferTimeout .. =>
      some [(0x1210, 0x1210), (0x4812, 0x4813), (0x6000, 0x6000)]
  | .timeInEdge .. | .captureEntryRead .. =>
      some [(0x48D0, 0x48D3)]
  | .perst | .flr | .pcieLinkTrained .. | .pcieLinkDown | .dmaWindowWrite .. | .queueDelete | .hostViolation ..
  | .writeCompleteMarkerDone | .completionPost .. =>
      some [(0x1240, 0x1241), (0x5430, 0x5430), (0x6000, 0x6000)]
  | _ => none

/-- The same for commands of the memories, the check units, the store, the sensors and the lens section. -/
def unitIndexes : Instr → Option (List (Nat × Nat))
  | .atomicAdd .. | .atomicSwap .. | .bankUncorrectableWord .. | .rowTestAbandon =>
      some [(0x5100, 0x5180), (0x6000, 0x6000)]
  | .start .. | .feed .. | .feedComplete .. | .finish .. | .abort .. | .checkUnitParityFail .. =>
      some [(0x5000, 0x507F), (0x5800, 0x5817), (0x6000, 0x6000)]
  | .recordWrite .. | .ringWrite .. | .hardwareCeilingWrite .. | .erasureComplete | .keyWrite .. | .ceilingWrite ..
  | .proxyStore | .proxyErase | .onHoursWrite | .throttleWrite =>
      some [(0x1241, 0x1241), (0x5820, 0x5820), (0x6100, 0x6100)]
  | .sensorReading .. | .sensorConversionTimeout .. | .tdCrossCheck .. | .sensorRepair .. | .retireSensor ..
  | .restoreSensor .. =>
      some [(0x5401, 0x5404), (0x5820, 0x5820), (0x6000, 0x6000), (0x6030, 0x6030)]
  | .octaveEvaluate | .thermalFaultEnter =>
      some [(0x5410, 0x5411), (0x6000, 0x6000)]
  | .octaveClockStepApply | .domainPowerGood .. | .decoderDomainIdleOff =>
      some [(0x2110, 0x2110), (0x5430, 0x5430)]
  | .driveFrameBoundary | .zoneTargetReached .. | .pulsePhaseEnd | .biasSourceStart .. | .biasMeasure ..
  | .biasOvervoltageTrip | .biasRetry | .dcMonitorSample .. | .forcedInversion .. | .dcStop .. | .layerRestart
  | .outputFault .. | .holdupSwitch | .vholdLowLog .. =>
      some [(0x4400, 0x4420), (0x5430, 0x5431), (0x5820, 0x5820), (0x6000, 0x6000), (0x6030, 0x6030)]
  | .readDelayCheck .. | .refreshDue .. | .selfRefreshEntry .. | .selfRefreshExitDone .. | .stackTemperatureRead .. =>
      some [(0x5000, 0x5083), (0x6000, 0x6000)]
  | _ => none

/-- The same for submission entries, decoding, synthesis, colour and the requests of the dictionary. -/
def frameIndexes : Instr → Option (List (Nat × Nat))
  | .update .. | .play .. | .stop .. | .pulse .. | .modeCue .. | .zones .. | .visible .. | .cancel .. | .signal .. =>
      some [(0x1241, 0x1243), (0x2000, 0x2002), (0x3020, 0x3020), (0x5000, 0x507F), (0x5430, 0x5431), (0x6000,
        0x6000)]
  | .chunkDecode .. | .indexRecordResume .. | .decoderFault .. | .internalMarkerComplete .. | .copyComplete .. =>
      some [(0x1241, 0x1241), (0x2000, 0x2002), (0x3020, 0x3020), (0x3410, 0x3412), (0x5000, 0x507F), (0x5430,
        0x5431), (0x6000, 0x6000), (0x6030, 0x6030)]
  | .clusterFault .. | .clusterHeartbeatTimeout .. | .patchWatchdogExpiry .. | .spareFault .. =>
      some [(0x2100, 0x2103), (0x5430, 0x5430), (0x6000, 0x6000), (0x6030, 0x6030)]
  | .overlayEngineFault .. =>
      some [(0x3010, 0x3010), (0x6000, 0x6000), (0x6030, 0x6030)]
  | .patchComplete .. | .redoQuarterComplete .. | .windowStoreEccError .. =>
      some [(0x2011, 0x2011), (0x2100, 0x2103), (0x3180, 0x3180), (0x5000, 0x5090), (0x5430, 0x5430), (0x6000,
        0x6000), (0x6030, 0x6030)]
  | .ceilingScaleRecompute | .gainMapBaseWrite .. | .gainMapCheck | .gainMapCheckComplete | .bandSubmit
  | .bandCopyComplete .. | .colourResidueFail .. | .gainMapReadFault .. =>
      some [(0x3410, 0x3450), (0x5000, 0x5090), (0x5430, 0x5430), (0x6000, 0x6000), (0x6030, 0x6030)]
  | .clipVerificationComplete .. =>
      some [(0x2001, 0x2001), (0x5000, 0x507F)]
  | .viewTableSubmit =>
      some [(0x2111, 0x2111)]
  | .commitRequest =>
      some [(0x3000, 0x3000)]
  | .rasterSubmit =>
      some [(0x3800, 0x3800)]
  | .modeSubmit =>
      some [(0x1410, 0x1410)]
  | .imageVerify =>
      some [(0x1400, 0x1400), (0x6000, 0x6000)]
  | .linkUnderrun .. =>
      some [(0x3830, 0x3831)]
  | _ => none

/-- The unit that a command acts on is absent from the part (R1, R8). -/
def unitAbsent (s : State) : Instr → Bool
  | .linkUnderrun l _ | .laneSleepEnter l | .laneWake l | .statusReceive l _ | .trainReceive l _
  | .trainReqReceive l | .capUpReceive l _ | .testResultReceive l _ | .telemReceive l _ | .upstreamSleepReceive l _
  | .upstreamViolation l | .upstreamLockGain l | .upstreamLockLoss l | .upstreamLaneLost l | .linkTransmitFault l
  | .trainingTimerExpiry l | .presetSweepStep l | .linkAbsentRetry l | .linkSpeedRaise l | .testLoopNear l
  | .testLoopFar l | .testLoopPattern l | .testLoopOff l | .driverSolReceive l _ _ | .driverKeepReceive l _
  | .driverFrameEndReceive l _ _ | .driverDownstreamLockLoss l | .driverStatusSend l _ | .driverTelemSend l _
  | .driverTrainReceive l _ | .driverPatternEnd l _ | .driverDownstreamLockGain l | .driverTrainSend l _
  | .patternTestResultSend l _ => decide (nLinks s ≤ l)
  | .patchRequest sc | .clusterFault sc | .windowStoreEccError sc _ _ | .clusterHeartbeatTimeout sc
  | .redoQuarterComplete sc | .spareFault sc => !clusterHere s sc
  | .portBlindTimeout p | .portTakedownRetrain p | .driverPowerUp p | .driverLockLossTimeout p => decide (nPorts s ≤ p)
  | .driveFrameBoundary | .zoneTargetReached .. | .zoneReportReceive .. | .pulsePhaseEnd | .biasSourceStart ..
  | .biasMeasure .. | .biasOvervoltageTrip | .biasRetry | .dcMonitorSample .. | .forcedInversion .. | .dcStop ..
  | .layerRestart | .outputFault .. | .lensBandChange => !hasLens s
  | .tilePortHello t _ | .helloSend t | .markerReceive t _ _ | .markerFollowSend t | .markerFollowReceive t _
  | .eveBlockReceive t _ | .safetyReceive t _ | .tilePortViolation t | .tilePortLockTimeout t
  | .tilePortLockGain t _ | .tilePortLockLoss t _ | .tilePortTakeDownEnd t => decide (nTiles s ≤ t)
  | .readDelayCheck lane _ _ => decide (4 * nPcs s ≤ lane)
  | .refreshDue pc _ | .selfRefreshEntry pc | .selfRefreshExitDone pc | .hbmReadError pc _
  | .mirrorReadComplete pc _ _ | .hbmCommandParityError pc => decide (nPcs s ≤ pc)
  | .stackTemperatureRead stack _ | .stackControlFailure stack => decide (nStacks s ≤ stack)
  | .domainPowerGood pd | .domainWakeTimeout pd => !domainHere s pd
  | _ => false

end Sys2Proof.Machine
end

