-- ==== Sys2Proof/Certificates/Slice0/Obligations.lean ====
section
/-!
DEFINITION. The statements for the provers, one for each entry of OBLIGATIONS.json.
-/
open Sys2Proof Sys2Proof.Machine

/-- A step runs the command at the front of the queue, with the rest of the queue behind it. Cites 15 Execution order:
R792; 01 Between two calends. -/
def Obligations.StepRunsTheFrontCommand : Prop :=
  (∀ (c : Instr) (s : State) (rest : List Instr),
    step { s with pending := c :: rest } = exec c { s with pending := rest }) ∧
  (∀ s : State, s.pending = [] → ∃ n, step s = .next { s with now := n } ∧ s.now ≤ n)

/-- After reset the registers of every chapter hold the defaults of its Objects table, and nothing runs. Cites 03
Objects: R174; 04 Objects: R225; 05 Objects: R302; 06 Objects: R348; 07 Objects: R392; 08 Objects: R471; 09 Objects:
R515; 10 Objects: R575; 11 Objects: R636; 12 Objects: R691; 15 Objects: R817; 17 Objects: R874. -/
def Obligations.ResetValues : Prop :=
  (∀ e ∈ [(0x1200, 7, 41920), (0x1210, 2, 30), (0x1240, 6, 1), (0x1401, 3, 2), (0x2020, 2, 41472), (0x2040, 1, 240),
      (0x2110, 2, 384), (0x3000, 6, 201), (0x3000, 7, 309), (0x3010, 9, 5760000), (0x3020, 5, 8), (0x3420, 1, 16383),
      (0x3440, 6, 3600), (0x3801, 1, 120), (0x3801, 2, 462963), (0x3801, 4, 720), (0x3810, 3, 10), (0x4000, 1, 4),
      (0x407F, 8, 1), (0x4200, 1, 4), (0x4400, 4, 24000), (0x4402, 1, 5000), (0x4402, 6, 20000), (0x4802, 1, 2),
      (0x4821, 7, 40), (0x4887, 9, 1), (0x507F, 3, 3900), (0x5090, 3, 10), (0x5180, 1, 878), (0x5403, 3, 10),
      (0x5410, 3, 9200), (0x5410, 6, 4095), (0x5821, 1, 512), (0x6020, 1, 10), (0x6030, 1, 0x1E5), (0x6000, 1, 0),
      (0x6010, 2, 0), (0x1120, 4, 10000)], State.reset.reg e.1 e.2.1 = e.2.2) ∧
  (∀ e ∈ [(0x2110, 1, 256), (0x3004, 32, 1), (0x310F, 3, 65537), (0x3404, 2, 256), (0x3430, 1, 1), (0x48C3, 4, 1000)],
    State.reset.shad e.1 e.2.1 = e.2.2 ∧ State.reset.com e.1 e.2.1 = e.2.2) ∧
  State.reset.pending = [] ∧ State.reset.dev.events = [] ∧ State.reset.dev.eventBuffer = [] ∧
  State.reset.dev.host.items = [] ∧ State.reset.dev.host.fences = [] ∧ State.reset.dev.ncp.sessions = [] ∧
  State.reset.dev.jobs = [] ∧ State.reset.dev.players = [] ∧ State.reset.nv.queue = [] ∧ State.reset.nv.writing = none ∧
  hbmTrained State.reset = false ∧ State.reset.dev.host.retryStatus = true ∧ State.reset.dev.host.mailState = 0 ∧
  State.reset.dev.timing.started = false

/-- The memories of the state after reset are in canonical form. Cites 12 On-chip banks: R677; 12 The HBM address map. -/
def Obligations.ResetMemoryIsCanonical : Prop :=
  Memory.wf State.reset ∧ State.reset.hbm = [] ∧ State.reset.bank = [] ∧ State.reset.pending = []

/-- Every step of the block keeps HBM and bank memory in canonical form. Cites 12 The HBM address map: R644, R645; 12
On-chip banks: R677, R680; 12 Atomics: R681. -/
def Obligations.EveryStepKeepsMemoryCanonical : Prop :=
  ∀ s t : State, Memory.wf s → step s = .next t → Memory.wf t

/-- A command that completes changes only the parts of the block in its reach. Cites 17 Resets: R859; 17 Running without
firmware: R864; 16 Bounds on faulty firmware: R838, R839; 13 The store: R709; 01 Units and pipelines; 01 Between two
calends. -/
def Obligations.CommandsKeepToTheirReach : Prop :=
  ∀ (i : Instr) (s t : State), exec i s = .next t → (reach i).keeps s t

/-- The commands of links, the wall, network time, NCP and the host change registers of their own indexes alone. Cites
08 Training: R444; 10 Two sources: R525; 10 Tile ports: R549; 15 The Nymod control protocol: R778; 11 Host
violations: R634. -/
def Obligations.PortRegisterFrames : Prop :=
  ∀ (i : Instr) (s t : State) (rs : List (Nat × Nat)), portIndexes i = some rs → exec i s = .next t →
    ∀ x y, y < 256 → (∀ r ∈ rs, x < r.1 ∨ r.2 < x) → t.reg x y = s.reg x y

/-- The commands of the memories, check units, store, sensors and lens section change registers of their own indexes
alone. Cites 12 Atomics: R681; 13 Check units: R699; 13 The store: R709; 14 Sensors: R733; 09 Faults: R514; 12
Refresh: R661. -/
def Obligations.UnitRegisterFrames : Prop :=
  ∀ (i : Instr) (s t : State) (rs : List (Nat × Nat)), unitIndexes i = some rs → exec i s = .next t →
    ∀ x y, y < 256 → (∀ r ∈ rs, x < r.1 ∨ r.2 < x) → t.reg x y = s.reg x y

/-- The commands of submission entries, decoding, synthesis, colour and dictionary requests change registers of their
own indexes alone. Cites 11 Completions: R613; 03 Decoders: R125; 04 Faults and spare redo: R217; 06 The gain map:
R321; 05 The dictionary commit: R251. -/
def Obligations.FrameWorkRegisterFrames : Prop :=
  ∀ (i : Instr) (s t : State) (rs : List (Nat × Nat)), frameIndexes i = some rs → exec i s = .next t →
    ∀ x y, y < 256 → (∀ r ∈ rs, x < r.1 ∨ r.2 < x) → t.reg x y = s.reg x y

/-- Every command in form completes on every state, changing nothing on a unit the part lacks. Cites 00 The parts: R1,
R3, R4; 00 Finding out what is present: R8. -/
def Obligations.EveryCommandCompletesOnPresentUnits : Prop :=
  ∀ (i : Instr) (s : State),
    (i.wellFormed = false → exec i s = .refused .illFormed) ∧
    (i.wellFormed = true → unitAbsent s i = true → exec i s = .next s) ∧
    (i.wellFormed = true → ∃ t, exec i s = .next t)

/-- ADD and SWAP on an aligned general-store word return the old value and write the new one; any other atomic is not
performed. Cites R681; R683. -/
def Obligations.AtomicOperations : Prop :=
  (∀ (s : State) (addr value : Nat) (wide : Bool), memoryWf s.bank = true →
    (∀ r, s.dev.memory.rowTest = some r → r.saved.length = 256) → atomicGood addr wide = true →
    (∃ t, exec (.atomicAdd addr wide value) s = .next t ∧
      t.dev.memory.atomic = some (bankNat s addr (if wide then 8 else 4)) ∧
      bankNat t addr (if wide then 8 else 4) =
        (bankNat s addr (if wide then 8 else 4) + value) % 2 ^ (if wide then 64 else 32) ∧
      ∀ a, a < 0x8000000 → (a < addr ∨ addr + (if wide then 8 else 4) ≤ a) → bankGet t a = bankGet s a) ∧
    (∃ t, exec (.atomicSwap addr wide value) s = .next t ∧
      t.dev.memory.atomic = some (bankNat s addr (if wide then 8 else 4)) ∧
      bankNat t addr (if wide then 8 else 4) = value % 2 ^ (if wide then 64 else 32) ∧
      ∀ a, a < 0x8000000 → (a < addr ∨ addr + (if wide then 8 else 4) ≤ a) → bankGet t a = bankGet s a)) ∧
  (∀ (s : State) (addr value : Nat) (wide : Bool), atomicGood addr wide = false → canLog s →
    (∃ t, exec (.atomicAdd addr wide value) s = .next t ∧ t.bank = s.bank ∧ t.dev.memory.atomic = none ∧
      eventLogged 683 s t) ∧
    (∃ t, exec (.atomicSwap addr wide value) s = .next t ∧ t.bank = s.bank ∧ t.dev.memory.atomic = none ∧
      eventLogged 683 s t))

/-- PERST_N and FLR free every queue and every DMA window, and leave the frame tick, the almanac and every admitted
item. Cites R578. -/
def Obligations.ResetsOfTheFunction : Prop :=
  ∀ (s : State) (c : Instr), c = .perst ∨ c = .flr →
    ∃ t, exec c s = .next t ∧
      (∀ q, (t.queue q).typ = 0 ∧ (t.queue q).head = 0 ∧ (t.queue q).tail = 0) ∧ (∀ n, t.window n = {}) ∧
      t.dev.host.markers = [] ∧ t.dev.host.wcmDone = 0 ∧ t.dev.host.aperture = 0 ∧ t.dev.host.adminStatus = 0 ∧
      t.dev.timing = s.dev.timing ∧ t.dev.players = s.dev.players ∧ t.dev.clips = s.dev.clips ∧
      t.dev.host.items = s.dev.host.items ∧ t.dev.host.nextNum = s.dev.host.nextNum ∧
      t.dev.host.fences = s.dev.host.fences

/-- QUEUE_CREATE with no error takes the next generation modulo 256, sets HEAD and TAIL to 0 and clears the expected
sequence. Cites R593. -/
def Obligations.QueueCreateFreesPointers : Prop :=
  ∀ s : State, createError s = 0 →
    ∃ t, exec .queueCreate s = .next t ∧
      (t.queue (adminField s 19 0)).gen = ((s.queue (adminField s 19 0)).gen + 1) % 2 ^ 8 ∧
      (t.queue (adminField s 19 0)).head = 0 ∧ (t.queue (adminField s 19 0)).tail = 0 ∧
      (t.queue (adminField s 19 0)).seq = none ∧ (t.queue (adminField s 19 0)).typ = adminField s 35 32 ∧
      t.dev.host.adminStatus = 2 ∧ t.dev.host.adminError = 0 ∧
      ∀ q, q ≠ adminField s 19 0 → t.queue q = s.queue q

/-- SIGNAL raises its fence, an equal value is accepted and changes nothing, a lower one is refused as malformed. Cites
R628. -/
def Obligations.SignalMovesItsFence : Prop :=
  ∀ (s : State) (q : Nat) (e : Entry) (fence value : Nat), q < 1048576 →
    entrySpelt s q signalEntry (e, fence, value) → headerFits e 0x31 [3] (s.queue q).typ = true → e.target = 0 → bit e.flags 0 = 0 → fence < 65536 → value < 2 ^ 64 →
    ∃ t, exec (.signal q e fence value) s = .next t ∧
      (fenceValue s fence < value →
        fenceValue t fence = value ∧ (∀ f, f ≠ fence → fenceValue t f = fenceValue s f) ∧ counted s t 0x1242 1) ∧
      (value = fenceValue s fence → (∀ f, fenceValue t f = fenceValue s f) ∧ counted s t 0x1242 1) ∧
      (value < fenceValue s fence → refused s t q 2)

/-- Doorbells, markers, QUEUE_DELETE and BAR0 writes act as the manual says. Cites 11 Address spaces: R582, R583, R584;
11 Queues: R592, R594; 11 Doorbells: R597, R598, R599, R601, R602; 11 Completions: R617, R618; 11 Host violations:
R634. -/
def Obligations.QueueCommands : Prop :=
  (∀ (s : State) (q count gen : Nat), q < 1048576 → count < 4294967296 → gen < 256 →
    (∃ t, exec (.submissionDoorbell q count gen) s = .next t ∧
      t.dev.host.markers = s.dev.host.markers ++ [.doorbell q count gen]) ∧
    (∃ t, exec (.completionDoorbell q count gen) s = .next t ∧
      t.dev.host.markers = s.dev.host.markers ++ [.doorbell q count gen]) ∧
    (∃ t, exec (.bar0RegisterWrite (0x1000000 + 16 * q) (natLE count 4 ++ natLE gen 4)) s = .next t ∧
      t.dev.host.markers = s.dev.host.markers ++ [.doorbell q count gen])) ∧
  (∀ (s : State) (ms : List Marker), s.dev.host.markers = .wcm :: ms →
    ∃ t, exec .writeCompleteMarkerDone s = .next t ∧ t.dev.host.markers = ms ∧
      t.dev.host.wcmDone = (s.dev.host.wcmDone + 1) % 2 ^ 64) ∧
  (∀ (s : State) (q count gen : Nat) (ms : List Marker), s.dev.host.markers = .doorbell q count gen :: ms →
    ∃ t, exec .writeCompleteMarkerDone s = .next t ∧ t.dev.host.markers = ms ∧
      t.dev.host.wcmDone = s.dev.host.wcmDone ∧
      (s.dev.host.serving.isSome = true →
        t.dev.host.doorbells = s.dev.host.doorbells ++ [(q, count, gen)] ∧ t.queue q = s.queue q)) ∧
  (∀ (s : State) (q count gen : Nat) (ms : List Marker), s.dev.host.markers = .doorbell q count gen :: ms →
    s.dev.host.serving = none → s.dev.host.doorbells = [] →
    s.dev.host.cache.contains q = true ∨ contextLost s q = false →
    ∃ t, exec .writeCompleteMarkerDone s = .next t ∧ t.dev.host.doorbells = [] ∧
      ((s.queue q).typ = 0 ∨ (s.queue q).gen ≠ gen → t.queue q = s.queue q ∧ counted s t 0x1241 4) ∧
      ((s.queue q).typ ≠ 0 → (s.queue q).typ ≠ 4 → (s.queue q).gen = gen → (s.queue q).state ≠ 2 →
        (count + 2 ^ 32 - (s.queue q).head) % 2 ^ 32 ≤ 2 ^ (s.queue q).sizeLog2 →
        later 32 (s.queue q).tail count = true →
        t.queue q = { s.queue q with tail := count } ∧
          t.dev.host.serving = if (s.queue q).head = count then none else some q) ∧
      ((s.queue q).typ = 4 → (s.queue q).gen = gen → (s.queue q).state ≠ 2 → s.dev.host.overflow = [] →
        later 32 (s.queue q).tail count = false → earlier 32 (s.queue q).head count = false →
        t.queue q = { s.queue q with head := count, messaged := false })) ∧
  (∀ s : State, deleteError s = 0 →
    ∃ t, exec .queueDelete s = .next t ∧
      t.queue (adminField s 19 0) = { gen := (s.queue (adminField s 19 0)).gen } ∧
      t.dev.host.items = s.dev.host.items ∧ t.dev.host.adminStatus = 2 ∧ t.dev.host.adminError = 0) ∧
  (∀ (s : State) (v : Nat), v < 2 ^ 64 →
    ∃ t, exec (.bar0RegisterWrite 0 (natLE v 8)) s = .next t ∧
      t.dev.host.aperture = v / max 1 (bar2Size s) * max 1 (bar2Size s)) ∧
  (∀ (s : State) (off : Nat) (data : List Byte), 0x20000 ≤ off → off < 0x1000000 → 0 < data.length →
    ∃ t, exec (.bar0RegisterWrite off data) s = .next t ∧ t.dev.host = s.dev.host ∧ counted s t 0x1241 5)

/-- A completion posted at producer count P fills slot P mod 2^k, with PHASE ((P >> k) & 1) XOR 1. Cites R615. -/
def Obligations.CompletionsLandInTheirSlots : Prop :=
  ∀ (s : State) (r : Nat) (c : Completion), r < 1048576 → (s.queue r).typ = 4 →
    ringUsed (s.queue r) < 2 ^ (s.queue r).sizeLog2 → (s.dev.host.overflow.any fun e => e.1 == r) = false →
    inWindow s 0 ((s.queue r).ring + 16 * ((s.queue r).tail % 2 ^ (s.queue r).sizeLog2)) 16 = true →
    memoryWf s.dev.host.memory = true →
    ∃ t, exec (.completionPost r c) s = .next t ∧
      (∀ a, cellGet t.dev.host.memory a =
        if (s.queue r).ring + 16 * ((s.queue r).tail % 2 ^ (s.queue r).sizeLog2) ≤ a ∧
            a < (s.queue r).ring + 16 * ((s.queue r).tail % 2 ^ (s.queue r).sizeLog2) + 16 then
          (completionBytes c (((s.queue r).tail >>> (s.queue r).sizeLog2 &&& 1) ^^^ 1)).getD
            (a - ((s.queue r).ring + 16 * ((s.queue r).tail % 2 ^ (s.queue r).sizeLog2))) 0
        else cellGet s.dev.host.memory a) ∧
      (t.queue r).tail = ((s.queue r).tail + 1) % 2 ^ 32 ∧ memoryWf t.dev.host.memory = true

/-- The eve captures a state and leaves the one in force; the calends puts the captured state in force whole. Cites
R244. -/
def Obligations.CapturedStateTakesEffectAtCalends : Prop :=
  (∀ s : State, ∃ t, exec .eve s = .next t ∧ t.dev.live = s.dev.live ∧
    (s.dev.timing.started = true → s.dev.timing.eveDone = false → eveLine s < s.dev.timing.line →
      t.dev.captured.isSome = true ∧ t.dev.timing.eveDone = true ∧ t.dev.timing.count = s.dev.timing.count)) ∧
  (∀ (s : State) (c : Committed), s.dev.captured = some c → s.dev.timing.started = true → s.dev.timing.eveDone = true →
    totalLines s ≤ s.dev.timing.line →
    ∃ t, exec .calends s = .next t ∧ t.dev.live = c ∧ t.dev.captured = none ∧ t.dev.timing.count = nextCount s ∧
      t.dev.timing.line = 0 ∧ t.dev.timing.eveDone = false ∧ t.dev.timing.calendsAt = s.now)

/-- LINE_START advances the frame by one line, and an underrun repeats the last colour value sent. Cites 07 Scan engines
and output FIFOs: R362, R365, R368; 07 Two locked halves: R369. -/
def Obligations.LineCommands : Prop :=
  (∀ (s : State) (l r : ScanCheck), s.dev.timing.started = true →
    s.dev.timing.line ≤ 17280 ∨ s.dev.timing.line < totalLines s →
    s.dev.timing.eveDone = true ∨ s.dev.timing.line ≤ eveLine s →
    ∃ t, exec (.lineStart l r) s = .next t ∧ t.dev.timing.line = s.dev.timing.line + 1 ∧
      t.dev.timing.lines = s.dev.timing.lines + 1 ∧ t.dev.live = s.dev.live) ∧
  (∀ (s : State) (l sent line depth seq : Nat) (codes : List Nat), l < nLinks s → l < 256 → 1 ≤ sent →
    3 * sent ≤ codes.length → (s.link l).tx = .sol line depth seq codes →
    ∃ t, exec (.linkUnderrun l sent) s = .next t ∧
      (t.link l).tx = .sol line depth seq (codes.take (3 * sent) ++
        (List.replicate ((codes.length - 3 * sent) / 3) ((codes.take (3 * sent)).drop (3 * sent - 3))).flatten) ∧
      (s.dev.timing.underran.contains (l / 2) = false → counted s t 0x3830 (l / 2 + 1)))

/-- CLIP_REGISTER, CLIP_VERIFY and CLIP_UNREGISTER of a clip that an admitted or bound player plays are refused as in
use. Cites R154. -/
def Obligations.PinnedClipsAreKept : Prop :=
  ∀ (s : State), (∃ p ∈ s.dev.players, p.2.state ≠ 0 ∧ p.2.clip = clipSelected s) →
    clipRegister s = (abInUse, s) ∧ clipVerify s = (abInUse, s) ∧ clipUnregister s = (abInUse, s) ∧
    (∃ t, exec .clipRegister s = .next t ∧ t.dev.clips = s.dev.clips) ∧
    (∃ t, exec .clipVerify s = .next t ∧ t.dev.clips = s.dev.clips) ∧
    (∃ t, exec .clipUnregister s = .next t ∧ t.dev.clips = s.dev.clips)

/-- A commit request before the eve of frame n goes to frame n+1, and one at or after it to frame n+2. Cites R249. -/
def Obligations.CommitsFollowTheEve : Prop :=
  ∀ s : State, s.reg 0x3000 2 = 0 → s.dev.timing.jump = none → s.dev.timing.hold = 1 → s.dev.timing.holdNext = 1 →
    s.dev.commitPending = none →
    (s.dev.timing.eveDone = false → commitFails (s.dev.timing.count + 1) s = none →
      ∃ t, exec .commitRequest s = .next t ∧ t.dev.commitPending = some (s.dev.timing.count + 1) ∧
        t.reg 0x3000 4 = (s.dev.timing.count + 1) % 2 ^ 32) ∧
    (s.dev.timing.eveDone = true → commitFails (s.dev.timing.count + 2) s = none →
      ∃ t, exec .commitRequest s = .next t ∧ t.dev.commitPending = some (s.dev.timing.count + 2) ∧
        t.reg 0x3000 4 = (s.dev.timing.count + 2) % 2 ^ 32)

/-- In every step the fuses only advance: the part stays, the minimum version and the transitions used never fall, and
RETIRED is final. Cites 16 States: R818, R819, R820; 16 Firmware: R837. -/
def Obligations.FusesOnlyAdvance : Prop :=
  ∀ s t : State, step s = .next t →
    t.fuses.part = s.fuses.part ∧ s.fuses.minVersion ≤ t.fuses.minVersion ∧
    (s.fuses.minVersion ≤ 32 → t.fuses.minVersion ≤ 32) ∧ s.fuses.used ≤ t.fuses.used ∧
    (s.fuses.used ≤ 64 → t.fuses.used ≤ 64) ∧ (t.fuses.state ≠ s.fuses.state → s.fuses.used < t.fuses.used) ∧
    (s.fuses.digestFused = true → t.fuses.digestFused = true) ∧
    (s.fuses.state = .retired → t.fuses.state = .retired ∧ t.fuses.used = s.fuses.used)

/-- A ring write goes to the first unworn slot after the latest, with the next sequence; an empty ring starts at its
first page. Cites R724. -/
def Obligations.RingWritesTakeTheNextSlot : Prop :=
  ∀ (s : State) (r : Nat) (payload : List Byte), r < 16 → payload.length ≤ 52 → s.nv.queue = [] →
    s.nv.writing = none → s.dev.lens.onHold = false → (s.dev.lens.paused = true → 2 ≤ r) →
    (∃ i, i < (ringBase r).2 ∧ s.nv.worn.contains ((ringBase r).1 + i) = false) →
    ∃ u w k, exec (.ringWrite r payload) s = .next u ∧ u.nv.writing = some w ∧ k < (ringBase r).2 ∧
      (∀ start seq, ((amGet s.nv.rings r).map fun v => (v.slot + 1, (v.seq + 1) % 2 ^ 32)).getD (0, 1) = (start, seq) →
        w.page = (ringBase r).1 + (start + k) % (ringBase r).2 ∧
        w.bytes = recordPage w.page (ringType r) 2 seq payload ∧ s.nv.worn.contains w.page = false ∧
        ∀ j, j < k → s.nv.worn.contains ((ringBase r).1 + (start + j) % (ringBase r).2) = true)

/-- A write of 0x1104:04 raises the fused minimum version, within its bounds. Cites R837. -/
def Obligations.MinimumVersionRises : Prop :=
  (∀ (s : State) (v : Nat), v < 256 →
    (coresStopped s = false → v ≤ 32 → s.fuses.minVersion ≤ v → v ≤ s.dev.bringup.runningVersion →
      exec (.raiseMinimumVersion v) s = .next { s with fuses := { s.fuses with minVersion := v } }) ∧
    (coresStopped s = true ∨ 32 < v ∨ v < s.fuses.minVersion ∨ s.dev.bringup.runningVersion < v →
      exec (.raiseMinimumVersion v) s = .next s)) ∧
  (∀ (s : State) (r : Request) (w : ObjRow) (b : Byte), mailIdle s → r.index = 0x1104 → r.sub = 4 →
    objHere s 0x1104 4 = some w → mayWrite s .mailbox w 0x1104 4 = true → r.typ = w.typ → r.data = [b] →
    misused 2 r = false →
    (b.toNat ≤ 32 → s.fuses.minVersion ≤ b.toNat → b.toNat ≤ s.dev.bringup.runningVersion →
      ∃ u n, exec (.writeObject .mailbox r) s = .next u ∧ u.fuses.minVersion = b.toNat ∧
        mailAnswer u 2 { index := 0x1104, sub := 4, typ := w.typ, size := n }) ∧
    (32 < b.toNat ∨ b.toNat < s.fuses.minVersion ∨ s.dev.bringup.runningVersion < b.toNat →
      exec (.writeObject .mailbox r) s = .next
        (mailAnswered 2 { index := 0x1104, sub := 4, typ := w.typ, abort := 0x0A030002 } (hostHeard s))))

/-- Without a refresh for the timeout the watchdog expires: restart, event, and FAULT_N bit 5. Cites R863. -/
def Obligations.WatchdogRestartsManagement : Prop :=
  (∀ s : State, s.reg 0x6020 3 = 0 →
    exec .watchdogRefresh s = .next (modBringup (fun b => { b with refreshedAt := s.now }) s)) ∧
  (∀ s : State, s.dev.bringup.firmwareRuns = true → s.reg 0x6020 3 ≠ 2 →
    (s.dev.bringup.refreshedAt + s.reg 0x6020 1 * 10 ^ 12 ≤ s.now →
      ∃ u, exec .watchdogExpiry s = .next u ∧ u.reg 0x6020 3 = 2 ∧ u.reg 0x6010 2 = 3 ∧
        (∀ i, (amGet u.dev.ncp.sessions i).join = none) ∧ u.dev.host.mailState = 0 ∧ counted s u 0x6020 2 ∧
        counted s u 0x6012 2 ∧ hasBit (u.reg 0x6030 3) 5 = true ∧ (canLog s → eventLogged 863 s u)) ∧
    (s.now < s.dev.bringup.refreshedAt + s.reg 0x6020 1 * 10 ^ 12 → exec .watchdogExpiry s = .next s))

/-- SAFE_SHOW_N and the release commands run and set the safety inputs and the pending release. Cites 05 Safety content:
R293, R300, R301; 10 Safety broadcasts: R560. -/
def Obligations.SafetyInputCommands : Prop :=
  (∀ s : State, ∃ t, exec .safeShowNAssert s = .next t ∧ t.dev.safety.pinLow = true ∧ t.dev.safety.highAt = none ∧
    (∀ r, s.dev.safety.release = some r → beforeEveOf s r = true → t.dev.safety.release = none)) ∧
  (∀ s : State, s.dev.safety.pinLow = true →
    ∃ t, exec .safeShowNRelease s = .next t ∧ t.dev.safety.pinLow = false ∧ t.dev.safety.highAt = some s.now) ∧
  (∀ s : State, s.dev.safety.release = none → s.reg 0x3190 2 ≠ 0 → s.dev.safety.pinLow = false →
    s.dev.safety.origins = [] → secondAgo s s.dev.safety.highAt = true → secondAgo s s.dev.safety.quietAt = true →
    ∃ t, exec .safetyRelease s = .next t ∧ t.dev.safety.release = some (earliestRequest s)) ∧
  (∀ (s : State) (r : Nat), s.dev.safety.release = some r → beforeEveOf s r = true →
    ∃ t, exec .safetyReleaseCancel s = .next t ∧ t.dev.safety.release = none)

/-- The time pins: pulse edges drive TIME_OUT, edges of TIME_IN are stamped, and a read takes the oldest entry. Cites 10
Time pins: R565, R568, R569, R570. -/
def Obligations.TimePinCommands : Prop :=
  (∀ (s : State) (j : Nat) (edge : Bool), j < 4 → pinMode s j = 1 → frameLock s ≠ 0 →
    edge = false ∨ framePulse s j = true →
    ∃ t, exec (.timeOutPulse j edge) s = .next t ∧ (t.pinOut j).active = edge) ∧
  (∀ (s : State) (j k : Nat), j < 4 → pinMode s j = 2 → scheduledPulse s j = some k →
    ∃ t, exec (.timeOutPulse j true) s = .next t ∧ (t.pinOut j).active = true ∧
      (t.pinOut j).given = k + 1) ∧
  (∀ (s : State) (j : Nat) (edge : Bool), j < 4 → pinMode s j ≠ 2 → frameLock s = 0 →
    ∃ t, exec (.timeOutPulse j edge) s = .next t ∧ (t.pinOut j).active = false) ∧
  (∀ (s : State) (j : Nat) (rising : Bool) (width : Nat), j < 4 →
    hasBit (s.reg (0x48D0 + j) 1) (if rising then 0 else 1) = true → s.reg (0x48D0 + j) 2 ≤ width →
    (∀ a, (s.pinIn j).lastAt = some a → a + 100000 ≤ s.now) → (s.pinIn j).queue.length < 16 →
    ∃ t, exec (.timeInEdge j rising width) s = .next t ∧
      (t.pinIn j).queue = (s.pinIn j).queue ++ [captureEntry s rising] ∧ (t.pinIn j).lastAt = some s.now ∧
      t.reg (0x48D0 + j) 4 = (s.pinIn j).queue.length + 1) ∧
  (∀ (s : State) (j : Nat), j < 4 →
    ∃ t, exec (.captureEntryRead j) s = .next t ∧ (t.pinIn j).queue = (s.pinIn j).queue.drop 1 ∧
      t.reg (0x48D0 + j) 4 = (s.pinIn j).queue.length - 1)

/-- START, FEED, FEED_COMPLETE, FINISH, ABORT and a parity failure move a check unit's registers as the manual says.
Cites 13 Check units: R696, R698, R699, R701, R702. -/
def Obligations.CheckUnitCommands : Prop :=
  (∀ (s : State) (u : Nat), u < 24 → cuRunning s u = false →
    ∃ t, exec (.start u) s = .next t ∧ t.reg (0x5800 + u) 4 = 0 ∧
      t.reg (0x5800 + u) 3 = crcInit (s.reg (0x5800 + u) 1) (s.reg (0x5800 + u) 2)) ∧
  (∀ (s : State) (u : Nat), u < 24 → cuRunning s u = false → cuRangeGood s u = true →
    ∃ t, exec (.feed u) s = .next t ∧ t.reg (0x5800 + u) 0x0A = 1) ∧
  (∀ (s : State) (u : Nat) (bad : Option Nat), u < 24 → cuRunning s u = true →
    (∀ i, i < cuLength s u → (cuByte s u i).isSome = true ∧ bad ≠ some i) →
    ∃ t, exec (.feedComplete u bad) s = .next t ∧ t.reg (0x5800 + u) 0x0A = 2 ∧
      t.reg (0x5800 + u) 4 = (s.reg (0x5800 + u) 4 + cuLength s u) % 2 ^ 64 ∧
      t.reg (0x5800 + u) 3 = crcFeed (s.reg (0x5800 + u) 1) (s.reg (0x5800 + u) 3)
        ((List.range (cuLength s u)).filterMap (cuByte s u))) ∧
  (∀ (s : State) (u k : Nat), u < 24 → cuRunning s u = true → k < cuLength s u →
    (∀ i, i < k → (cuByte s u i).isSome = true) →
    ∃ t, exec (.feedComplete u (some k)) s = .next t ∧ t.reg (0x5800 + u) 0x0A = 3 ∧
      t.reg (0x5800 + u) 4 = (s.reg (0x5800 + u) 4 + k / 8 * 8) % 2 ^ 64) ∧
  (∀ (s : State) (u : Nat), u < 24 → cuRunning s u = false →
    ∃ t, exec (.finish u) s = .next t ∧
      t.reg (0x5800 + u) 0x0B = s.reg (0x5800 + u) 3 ^^^ crcFinal (s.reg (0x5800 + u) 1)) ∧
  (∀ (s : State) (u fed : Nat), u < 24 → cuRunning s u = true →
    ∃ t, exec (.abort u fed) s = .next t ∧ cuRunning t u = false ∧
      t.reg (0x5800 + u) 4 = (s.reg (0x5800 + u) 4 + min (cuLength s u) ((fed + 7) / 8 * 8)) % 2 ^ 64) ∧
  (∀ (s : State) (u : Nat), u < 24 → canLog s →
    ∃ t, exec (.checkUnitParityFail u) s = .next t ∧ t.reg (0x5800 + u) 0x0A = 3 ∧ counted s t (0x5800 + u) 0x0C ∧
      eventLogged 702 s t)

/-- The PCIe link, BAR2, the DMA windows and host violations act as the manual says. Cites 11 The PCI Express link:
R577, R580; 11 Address spaces: R583; 11 DMA windows: R585, R586, R587; 11 Host violations: R634, R635; 12 Errors,
mirror reads and failed pseudo-channels: R673. -/
def Obligations.HostLinkCommands : Prop :=
  (∀ (s : State) (speed width : Nat), 1 ≤ speed → speed ≤ 7 → [1, 2, 4, 8, 16].contains width = true →
    ∃ t, exec (.pcieLinkTrained speed width) s = .next t ∧ t.dev.host.linkUp = true ∧ t.reg 0x1240 1 = speed ∧
      t.reg 0x1240 2 = width) ∧
  (∀ s : State, ∃ t, exec .pcieLinkDown s = .next t ∧ t.dev.host.linkUp = false ∧ t.reg 0x1240 1 = 0 ∧
    t.dev.host.items = s.dev.host.items) ∧
  (∀ (s : State) (off : Nat) (data : List Byte), 0 < data.length → off % 4096 + data.length ≤ 4096 →
    off + data.length ≤ bar2Size s → inWindow s 16 (bar2Offset s off) data.length = true →
    onManagement s (bar2Offset s off) = false → (place s (bar2Offset s off)).isSome = true →
    memoryWf s.hbm = true →
    ∃ t, exec (.bar2Write off data) s = .next t ∧
      (∀ c, (∀ k p i, k < data.length → place s (bar2Offset s off + k) = some p → i ∈ p.copies →
          c ≠ i * pcSize + p.addr) → cellGet t.hbm c = cellGet s.hbm c) ∧
      (∀ b p i, data = [b] → place s (bar2Offset s off) = some p → i ∈ p.copies → pcFailed s i = false →
        cellGet t.hbm (i * pcSize + p.addr) = b)) ∧
  (∀ (s : State) (off len : Nat), len ≤ 4096 →
    ∃ t, exec (.bar2Read off len) s = .next t ∧ t.dev.host.answer.length = len ∧
      ∀ k, k < len → t.dev.host.answer.getD k 0 =
        if (place s (bar2Offset s off + k)).isNone then 0 else (hbmByte s (bar2Offset s off + k)).getD 0) ∧
  (∀ s : State, ∃ t, exec .wcmRequest s = .next t ∧ t.dev.host.markers = s.dev.host.markers ++ [.wcm]) ∧
  (∀ (s : State) (n v : Nat), n < 32 → (s.window n).lock = false →
    (∃ t, exec (.dmaWindowWrite n 0 v) s = .next t ∧
      t.window n = { s.window n with base := v % 2 ^ 64 / 4096 * 4096 }) ∧
    (∃ t, exec (.dmaWindowWrite n 1 v) s = .next t ∧
      t.window n = { s.window n with limit := v % 2 ^ 64 / 4096 * 4096 + 0xFFF }) ∧
    (∃ t, exec (.dmaWindowWrite n 2 v) s = .next t ∧
      t.window n = { s.window n with enable := hasBit v 0, lock := hasBit v 1 })) ∧
  (∀ (s : State) (n field v : Nat), n < 32 → field < 3 → (s.window n).lock = true →
    ∃ t, exec (.dmaWindowWrite n field v) s = .next t ∧ t.window n = s.window n ∧ counted s t 0x1241 5) ∧
  (∀ (s : State) (v : Violation), ∃ t, exec (.hostViolation v) s = .next t ∧ counted s t 0x1241 5 ∧
    (v.poisoned = true → counted s t 0x1240 5))

/-- A PULSE, MODE, ZONES or VISIBLE cue that passes the planner's tests is admitted, and CANCEL withdraws an item. Cites
11 Doorbells: R599, R600; 11 Submission entries: R603, R606, R608, R609, R610, R611, R612; 11 Completions: R613; 11
Admission: R620, R624. -/
def Obligations.AdmittedCues : Prop :=
  (∀ (s : State) (q : Nat) (e : Entry) (pin width n : Nat) (offset : Int) (g : State → State), q < 1048576 →
    entrySpelt s q pulseEntry (e, pin, offset, width) → pulseVerdict q e pin offset width (s.queue q) (entryPopped s q) = .ok (n, g) →
    ∃ t, exec (.pulse q e pin offset width) s = .next t ∧ admitted s t q e n (.pulse pin offset width) ∧
      (t.pinOut pin).cues =
        (s.pinOut pin).cues ++ [{ num := s.dev.host.nextNum, count := n, offset := offset, width := width }]) ∧
  (∀ (s : State) (q : Nat) (e : Entry) (m n : Nat) (g : State → State), q < 1048576 →
    entrySpelt s q modeEntry (e, m) → modeVerdict q e m (s.queue q) (entryPopped s q) = .ok (n, g) →
    ∃ t, exec (.modeCue q e m) s = .next t ∧ admitted s t q e n (.mode m false)) ∧
  (∀ (s : State) (q : Nat) (e : Entry) (map crc' n z : Nat) (g : State → State), q < 1048576 →
    entrySpelt s q zonesEntry (e, map, crc') → zonesVerdict q e map crc' (s.queue q) (entryPopped s q) = .ok (n, g) → zoneMap (entryPopped s q) map crc' = some z →
    ∃ t, exec (.zones q e map crc') s = .next t ∧ admitted s t q e n (.zones z)) ∧
  (∀ (s : State) (q : Nat) (e : Entry) (mask values n : Nat) (g : State → State), q < 1048576 →
    entrySpelt s q visibleEntry (e, mask, values) → visibleVerdict q e mask values (s.queue q) (entryPopped s q) = .ok (n, g) →
    ∃ t, exec (.visible q e mask values) s = .next t ∧ admitted s t q e n (.visible mask values)) ∧
  (∀ (s : State) (q : Nat) (e : Entry) (queue tag : Nat) (i : Item), q < 1048576 →
    entrySpelt s q cancelEntry (e, queue, tag) → headerFits e 0x2F [1, 2] (s.queue q).typ = true → e.target = 0 → bit e.flags 0 = 0 → queue < 2 ^ 20 →
    tag < 2 ^ 32 → itemTagged s queue tag = some i → frontier s < i.target →
    ∃ t, exec (.cancel q e queue tag) s = .next t ∧
      ∀ x ∈ t.dev.host.items, x ∈ s.dev.host.items ∧ x.num ≠ i.num)

/-- An UPDATE, PLAY or STOP that passes the planner's tests is admitted with the content, binding or player it names.
Cites 11 Doorbells: R599; 11 Submission entries: R606, R607; 11 Completions: R613; 11 Admission: R620, R624; 03 Clip
players: R156, R159, R160; 02 Malformed input: R117. -/
def Obligations.AdmittedUpdatesAndPlays : Prop :=
  (∀ (s : State) (q : Nat) (e : Entry) (u : UpdateOps) (n : Nat) (g : State → State), q < 1048576 →
    entrySpelt s q updateEntry (e, u) → updateVerdict q e u (s.queue q) (entryPopped s q) = .ok (n, g) →
    ∃ t a slot, exec (.update q e u) s = .next t ∧
      updateChunks (entryPopped s q) (s.queue q) u (some n) = .ok a ∧
      admitted s t q e n (.update a.layer a.content a.lease slot)) ∧
  (∀ (s : State) (q : Nat) (e : Entry) (u : PlayOps) (n : Nat) (g : State → State), q < 1048576 →
    entrySpelt s q playEntry (e, u) → playVerdict q e u (s.queue q) (entryPopped s q) = .ok (n, g) →
    ∃ t, exec (.play q e u) s = .next t ∧ (t.queue q).head = ((s.queue q).head + 1) % 2 ^ 32 ∧ counted s t 0x1242 1 ∧
      (s.dev.timing.eveDone = true ∨ nextCount s < n → admitted s t q e n (.play u.player) ∧
        amGet t.dev.players s.dev.host.nextNum = some (bindingOf (entryPopped s q) u n))) ∧
  (∀ (s : State) (q : Nat) (e : Entry) (player n : Nat) (g : State → State), q < 1048576 →
    entrySpelt s q stopEntry (e, player) → stopVerdict q e player (s.queue q) (entryPopped s q) = .ok (n, g) →
    ∃ t, exec (.stop q e player) s = .next t ∧ (t.queue q).head = ((s.queue q).head + 1) % 2 ^ 32 ∧ counted s t 0x1242 1 ∧
      (s.dev.timing.eveDone = true ∨ (∀ p ∈ s.dev.players, p.2.id ≠ player) → admitted s t q e n (.stop player)))

/-- An entry that fails a test of the planner is refused, counted under its reason, and changes nothing else that is
planned. Cites 11 Doorbells: R599, R600; 11 Submission entries: R603; 11 Completions: R613, R619; 01 The timing
promise: R50, R52; 11 Admission: R620. -/
def Obligations.RefusedEntriesChangeNothing : Prop :=
  ∀ (s : State) (q : Nat) (e : Entry) (r d : Nat), q < 1048576 → r < 256 →
    (∀ u, entrySpelt s q updateEntry (e, u) →
      updateVerdict q e u (s.queue q) (entryPopped s q) = .error (r, d) →
      ∃ t, exec (.update q e u) s = .next t ∧ refused s t q r) ∧
    (∀ u, entrySpelt s q playEntry (e, u) →
      playVerdict q e u (s.queue q) (entryPopped s q) = .error (r, d) →
      ∃ t, exec (.play q e u) s = .next t ∧ refused s t q r) ∧
    (∀ player, entrySpelt s q stopEntry (e, player) →
      stopVerdict q e player (s.queue q) (entryPopped s q) = .error (r, d) →
      ∃ t, exec (.stop q e player) s = .next t ∧ refused s t q r) ∧
    (∀ pin offset width, entrySpelt s q pulseEntry (e, pin, offset, width) →
      pulseVerdict q e pin offset width (s.queue q) (entryPopped s q) = .error (r, d) →
      ∃ t, exec (.pulse q e pin offset width) s = .next t ∧ refused s t q r) ∧
    (∀ m, entrySpelt s q modeEntry (e, m) →
      modeVerdict q e m (s.queue q) (entryPopped s q) = .error (r, d) →
      ∃ t, exec (.modeCue q e m) s = .next t ∧ refused s t q r) ∧
    (∀ map crc', entrySpelt s q zonesEntry (e, map, crc') →
      zonesVerdict q e map crc' (s.queue q) (entryPopped s q) = .error (r, d) →
      ∃ t, exec (.zones q e map crc') s = .next t ∧ refused s t q r) ∧
    (∀ mask values, entrySpelt s q visibleEntry (e, mask, values) →
      visibleVerdict q e mask values (s.queue q) (entryPopped s q) = .error (r, d) →
      ∃ t, exec (.visible q e mask values) s = .next t ∧ refused s t q r) ∧
    (∀ queue tag, entrySpelt s q cancelEntry (e, queue, tag) →
      cancelVerdict q e queue tag (s.queue q) (entryPopped s q) = .error (r, d) →
      ∃ t, exec (.cancel q e queue tag) s = .next t ∧ refused s t q r) ∧
    (∀ fence value, entrySpelt s q signalEntry (e, fence, value) →
      signalVerdict q e fence value (s.queue q) (entryPopped s q) = .error (r, d) →
      ∃ t, exec (.signal q e fence value) s = .next t ∧ refused s t q r)

/-- The background row test saves a row, replaces a failing one by a spare, or is abandoned; an uncorrectable word is
counted. Cites 12 On-chip banks: R680; 12 Background test: R684, R685, R688, R689; 12 Objects. -/
def Obligations.RowTestCommands : Prop :=
  (∀ s : State, s.reg 0x5180 2 ≠ 0 → s.dev.memory.rowTest = none →
    ∃ t, exec .backgroundRowTestStart s = .next t ∧
      t.dev.memory.rowTest = some
        { bank := s.dev.memory.sweep % 128, row := s.dev.memory.sweep / 128,
          saved := (List.range 256).map fun k =>
            cellGet s.bank (rowByte (s.dev.memory.sweep % 128) (s.dev.memory.sweep / 128) k) }) ∧
  (∀ (s : State) (r : RowTest), s.dev.memory.rowTest = some r → memoryWf s.bank = true → r.bank < 128 →
    r.row < 4096 →
    (∃ t, exec (.rowTestComplete false) s = .next t ∧ t.dev.memory.rowTest = none ∧
      t.dev.memory.sweep = (s.dev.memory.sweep + 1) % 524288 ∧ t.nv = s.nv ∧
      ∀ k, k < 256 → bankGet t (rowByte r.bank r.row k) = r.saved.getD k 0) ∧
    (∃ t, exec .rowTestAbandon s = .next t ∧ t.dev.memory.rowTest = none ∧
      t.dev.memory.sweep = (s.dev.memory.sweep + 1) % 524288 ∧ counted s t 0x5180 4 ∧
      ∀ k, k < 256 → bankGet t (rowByte r.bank r.row k) = r.saved.getD k 0)) ∧
  (∀ (s : State) (r : RowTest), s.dev.memory.rowTest = some r → s.reg (0x5100 + r.bank) 2 < 8 →
    ∃ t, exec (.rowTestComplete true) s = .next t ∧ t.dev.memory.rowTest = none ∧
      t.reg (0x5100 + r.bank) 2 = s.reg (0x5100 + r.bank) 2 + 1) ∧
  (∀ (s : State) (addr : Nat), addr < 0x8000000 →
    ∃ t, exec (.bankUncorrectableWord addr) s = .next t ∧ counted s t (0x5100 + bankOf addr) 4)

/-- Training, the read-delay check, refresh and self-refresh move a pseudo-channel's registers as the manual says. Cites
12 Training: R657, R659, R660; 12 Refresh: R661, R663; 12 Self-refresh: R667, R668. -/
def Obligations.PseudoChannelStates : Prop :=
  (∀ s : State, s.reg 0x5090 1 = 1 → s.reg 0x5090 6 = 0 →
    ∃ t, exec (.hbmTrainingComplete []) s = .next t ∧ t.reg 0x5090 1 = 2 ∧ t.dev.host.retryStatus = false ∧
      t.dev.eventBuffer = []) ∧
  (∀ (s : State) (lane : Nat) (low : Bool), lane < 512 → lane < 4 * nPcs s →
    ∃ t, exec (.readDelayCheck lane low (!low)) s = .next t ∧ counted s t (0x5000 + lane / 4) 0x0F) ∧
  (∀ (s : State) (lane : Nat), lane < 512 → lane < 4 * nPcs s → canLog s →
    ∃ t, exec (.readDelayCheck lane true true) s = .next t ∧ eventLogged 660 s t) ∧
  (∀ (s : State) (pc : Nat), pc < 128 → pc < nPcs s → s.reg (0x5000 + pc) 1 = 1 →
    ((s.pc pc).waiting = [] → ∃ t, exec (.refreshDue pc false) s = .next t ∧ t.reg (0x5000 + pc) 4 = 0) ∧
    ((s.pc pc).waiting ≠ [] → pcUrgent s pc = false →
      ∃ t, exec (.refreshDue pc false) s = .next t ∧ t.reg (0x5000 + pc) 4 = s.reg (0x5000 + pc) 4) ∧
    (s.reg (0x5000 + pc) 4 < 8 → s.reg (0x5080 + pc / 32) 2 ≠ 2 →
      ∃ t, exec (.refreshDue pc true) s = .next t ∧ t.reg (0x5000 + pc) 4 = s.reg (0x5000 + pc) 4 + 1)) ∧
  (∀ (s : State) (pc : Nat), pc < 128 → pc < nPcs s → s.reg (0x5000 + pc) 1 = 1 → selfRefreshAllowed s pc = true →
    pcIdle s pc = true →
    ∃ t, exec (.selfRefreshEntry pc) s = .next t ∧ t.reg (0x5000 + pc) 1 = 2 ∧ t.reg (0x5000 + pc) 4 = 0) ∧
  (∀ (s : State) (pc : Nat), pc < 128 → pc < nPcs s → s.reg (0x5000 + pc) 1 = 2 →
    ∃ t, exec (.selfRefreshEntry pc) s = .next t ∧ t.reg (0x5000 + pc) 1 = 3 ∧ counted s t (0x5000 + pc) 8) ∧
  (∀ (s : State) (pc : Nat), pc < 128 → pc < nPcs s → s.reg (0x5000 + pc) 1 = 4 →
    ∃ t, exec (.selfRefreshExitDone pc) s = .next t ∧ t.reg (0x5000 + pc) 1 = 1 ∧ t.reg (0x5000 + pc) 4 = 0)

/-- HBM errors: mirror reads are reissued and rewritten, failures mark pseudo-channels, the scrub moves on, temperatures
are kept. Cites 12 Errors, mirror reads and failed pseudo-channels: R671, R672, R673, R674, R675, R676; 12 Refresh:
R661, R662; 12 The HBM address map: R642. -/
def Obligations.HbmErrorCommands : Prop :=
  (∀ (s : State) (pc addr : Nat), pc < 128 → pc < nPcs s → mirroredAt s pc addr = true →
    pcFailed s (pcMate pc) = false →
    ∃ t, exec (.hbmReadError pc addr) s = .next t ∧
      t.dev.memory.mirrorReads = s.dev.memory.mirrorReads ++ [(pc, addr)]) ∧
  (∀ (s : State) (pc addr : Nat), pc < 128 → pc < nPcs s → mirroredAt s pc addr = false →
    ∃ t, exec (.hbmReadError pc addr) s = .next t ∧ counted s t (0x5000 + pc) 6 ∧ accessOf pc addr ∈ t.dev.memory.bad) ∧
  (∀ (s : State) (pc addr : Nat), pc < 128 → pc < nPcs s → (pc, addr) ∈ s.dev.memory.mirrorReads →
    pcFailed s pc = false → memoryWf s.hbm = true →
    ∃ t, exec (.mirrorReadComplete pc addr true) s = .next t ∧ counted s t (0x5000 + pc) 7 ∧
      (canLog s → eventLogged 672 s t) ∧
      (∀ k, k < 32 → cellGet t.hbm (pc * pcSize + addr / 32 * 32 + k) =
        cellGet s.hbm (pcMate pc * pcSize + addr / 32 * 32 + k)) ∧
      (∀ a, (a < pc * pcSize + addr / 32 * 32 ∨ pc * pcSize + addr / 32 * 32 + 32 ≤ a) →
        cellGet t.hbm a = cellGet s.hbm a)) ∧
  (∀ (s : State) (single uncorrectable : Bool), s.reg 0x5090 4 ≠ 0 →
    ∃ t, exec (.patrolScrubStep single uncorrectable) s = .next t ∧
      (isScratch s (s.dev.memory.scrub + 1) = false →
        t.dev.memory.scrub = (s.dev.memory.scrub + 1) % (nPcs s * unitsPerPc)) ∧
      (isScratch s (s.dev.memory.scrub + 1) = true →
        t.dev.memory.scrub = ((s.dev.memory.scrub + 1) / unitsPerPc + 1) * unitsPerPc % (nPcs s * unitsPerPc))) ∧
  (∀ (s : State) (pc : Nat), pc < 128 → pc < nPcs s → 15 ≤ (within1s s.now (s.pc pc).parity).length →
    ∃ t, exec (.hbmCommandParityError pc) s = .next t ∧ pcFailed t pc = true) ∧
  (∀ (s : State) (stack pc : Nat), stack < 4 → stack < nStacks s → pc / 32 = stack →
    ∃ t, exec (.stackControlFailure stack) s = .next t ∧ pcFailed t pc = true) ∧
  (∀ (s : State) (stack : Nat) (temp : Int), stack < 4 → stack < nStacks s →
    ∃ t, exec (.stackTemperatureRead stack (some temp)) s = .next t ∧ t.reg (0x5080 + stack) 1 = ofSigned 16 temp ∧
      (85 ≤ temp → t.reg (0x5080 + stack) 2 = if 95 < temp then 2 else 1))

/-- Patch requests, cluster faults, the watchdog, redo quarters and overlay engine faults act as the manual says. Cites
04 Dispatch and deadlines: R209, R212; 04 Faults and spare redo: R216, R217, R218, R219, R220, R221; 05 Overlay
engines: R239. -/
def Obligations.DispatchAndRedoCommands : Prop :=
  (∀ (s : State) (sc : Nat) (p : Patch) (ps : List Patch), sc < 100 → scheduled s sc = true → clustersOff s = false →
    s.dev.synth.requests = [] → (s.dev.synth.redoRunning.any fun e => e.1 == sc) = false → s.dev.synth.queue = p :: ps →
    ∃ t, exec (.patchRequest sc) s = .next t ∧ t.dev.synth.queue = ps ∧
      t.dev.synth.running = s.dev.synth.running ++ [(sc, p)] ∧ t.dev.synth.requests = []) ∧
  (∀ (s : State) (sc : Nat) (c : Instr), sc < 100 → clusterHere s sc = true → clusterFailed s sc = false → canLog s →
    c = .clusterFault sc ∨ c = .clusterHeartbeatTimeout sc ∨ c = .spareFault sc →
    ∃ t, exec c s = .next t ∧ t.reg 0x2100 (sc + 1) = 3 ∧ counted s t 0x2102 (sc + 1) ∧ eventLogged 217 s t ∧
      ∀ x ∈ t.dev.synth.running, x.1 ≠ sc) ∧
  (∀ (s : State) (sc : Nat) (again : Bool), sc < 100 → clusterHere s sc = true →
    (∃ t, exec (.windowStoreEccError sc false again) s = .next t ∧ counted s t 0x2103 5) ∧
    (∀ w, (amGetD s.dev.synth.stores sc [])[freeValue s % max 1 (amGetD s.dev.synth.stores sc []).length]? = some w →
      (w.pins = [] → ∃ t, exec (.windowStoreEccError sc true false) s = .next t ∧
        amGetD t.dev.synth.stores sc [] = (amGetD s.dev.synth.stores sc []).erase w) ∧
      (∀ q, w.pins = [q] → ∃ t, exec (.windowStoreEccError sc true false) s = .next t ∧
        t.dev.synth = (fetchFor q w.layer w.block false false (modSynth (fun y =>
          { y with stores := amMod y.stores sc [] fun xs => xs.erase w }) (drawFree s))).dev.synth)) ∧
    (∃ t, exec (.windowStoreEccError sc true true) s = .next t ∧ t.reg 0x2100 (sc + 1) = 3)) ∧
  (∀ (s : State) (strip patch i : Nat) (p : Patch), strip < 720 → patch < 32 → i < 100 →
    (s.dev.synth.running.find? fun e => e.2.strip == strip && e.2.patch == patch) = some (i, p) →
    ∃ t, exec (.patchWatchdogExpiry strip patch) s = .next t ∧ counted s t 0x2103 2 ∧ counted s t 0x2102 (i + 1)) ∧
  (∀ (s : State) (sc : Nat) (r : Patch × Nat), sc < 100 → clusterHere s sc = true →
    amGet s.dev.synth.redoRunning sc = some r → lineFree s r.1 (6 * r.2 + 5) = true →
    s.dev.synth.colourFailed.contains r.1 = false →
    ∃ t, exec (.redoQuarterComplete sc) s = .next t ∧ t.reg 0x2101 (sc + 1) = (s.reg 0x2101 (sc + 1) + 1) % 2 ^ 32 ∧
      ((∀ k, k < 4 → k ≠ r.2 → (r.1, k) ∈ s.dev.synth.redoDone) → r.1 ∈ t.dev.synth.complete) ∧
      ((∃ k, k < 4 ∧ k ≠ r.2 ∧ (r.1, k) ∉ s.dev.synth.redoDone) → r ∈ t.dev.synth.redoDone)) ∧
  (∀ (s : State) (e : Nat), e < 8 → s.reg 0x3010 (e + 1) ≠ 1 →
    ∃ t, exec (.overlayEngineFault e) s = .next t ∧ t.reg 0x3010 (e + 1) = 1 ∧ counted s t 0x3010 10)

/-- Patch completion, window fetches, freeze-cache reads and the colour unit's faults act as the manual says. Cites 03
Lease checks at window fetch: R140, R141, R142, R143; 03 The freeze cache: R170, R171; 04 Window store and patch
footprint: R208; 04 Dispatch and deadlines: R210; 06 Faults: R346, R347; 06 The gain map: R321; 12 Errors, mirror
reads and failed pseudo-channels: R671, R674. -/
def Obligations.PatchAndWindowCommands : Prop :=
  (∀ (s : State) (strip patch : Nat) (sc : Option Nat) (p : Patch), strip < 720 → patch < 32 →
    runningPatch s strip patch = some (sc, p) → s.dev.synth.colourFailed.contains p = false → slotFree s p = true →
    ∃ t, exec (.patchComplete strip patch) s = .next t ∧ p ∈ t.dev.synth.complete ∧
      ∀ i, sc = some i → i < 100 → t.reg 0x2101 (i + 1) = (s.reg 0x2101 (i + 1) + 1) % 2 ^ 32) ∧
  (∀ (s : State) (strip patch : Nat) (second : Bool) (p : Patch), strip < 720 → patch < 32 →
    (workedAt s strip patch).or ((runningPatch s strip patch).map (·.2)) = some p →
    ∃ t, exec (.colourResidueFail strip patch second) s = .next t ∧
      counted s t 0x3450 (halfOf (1920 * patch) + 1) ∧
      (second = true → p ∈ t.dev.synth.colourFailed ∧ (∀ e ∈ t.dev.synth.running, e.2 ≠ p) ∧
        ∀ e ∈ t.dev.synth.redoRunning, e.2.1 ≠ p) ∧
      (second = false → p ∈ t.dev.synth.recomputed ∧ t.dev.synth.running = s.dev.synth.running)) ∧
  (∀ (s : State) (off len : Nat), ∃ t, exec (.gainMapReadFault off len) s = .next t ∧
    t.dev.gov.badGain = (gainFrame s off, off, len) :: s.dev.gov.badGain ∧ counted s t 0x3410 6 ∧
    (canLog s → (∀ i, (within1s s.now (s.pc i).uncorrectable).length < 15) → eventLogged 321 s t)) ∧
  (∀ (s : State) (strip patch layer block : Nat) (p : Patch) (single bad1 : Bool), strip < 720 → patch < 32 → layer < 32 →
    block < 32768 → workedAt s strip patch = some p →
    (∀ x, (cachedBlock s p layer (amGetD (stateOf s p.count).layers layer {}).lease block).or
        (blockCopy s p.count layer (amGetD (stateOf s p.count).layers layer {}).slot
          (amGetD (stateOf s p.count).layers layer {}).lease block 0) = some x →
      ∃ t, exec (.windowFetch strip patch layer block ⟨single, false⟩ bad1) s = .next t ∧
        (∀ i, single = true → descriptorPc s p.count layer (amGetD (stateOf s p.count).layers layer {}).slot block 0 = some i →
          cachedBlock s p layer (amGetD (stateOf s p.count).layers layer {}).lease block = none →
          counted s t (0x5000 + i) 5) ∧
        ∃ e ∈ t.dev.synth.cache, e.layer = layer ∧ e.group = p.count % 2 ∧ e.block = block ∧ e.tile = x.1 ∧
          e.palette = x.2 ∧ e.lease = (amGetD (stateOf s p.count).layers layer {}).lease) ∧
    (cachedBlock s p layer (amGetD (stateOf s p.count).layers layer {}).lease block = none →
      ∃ t, exec (.windowFetch strip patch layer block ⟨single, true⟩ true) s = .next t ∧
        (layer, p) ∈ t.dev.synth.transparent)) ∧
  (∀ (s : State) (strip : Nat) (bad0 bad1 : Bool), strip < 720 → (stateOf s (stripCount s strip)).frozen = true →
    slotFree s ⟨stripCount s strip, strip, 0⟩ = true →
    s.dev.synth.complete.contains ⟨stripCount s strip, strip, 0⟩ = false →
    s.dev.synth.missed.contains ⟨stripCount s strip, strip, 0⟩ = false →
    ∃ t, exec (.freezeCacheStripRead strip bad0 bad1) s = .next t ∧
      (bad0 = true → bad1 = true → counted s t 0x2040 4 ∧
        ∀ k, k < patchesPerStrip (stateOf s (stripCount s strip)) →
          (⟨stripCount s strip, strip, k⟩ : Patch) ∈ t.dev.synth.missed) ∧
      (bad0 = false → (cacheRead (hbmAsk 39 false (cacheBase s 0 + strip * cacheStripBytes (stateOf s (stripCount s strip)))
          (cacheStripBytes (stateOf s (stripCount s strip))) s) strip 0).isSome = true →
        ∀ k, k < patchesPerStrip (stateOf s (stripCount s strip)) →
          (⟨stripCount s strip, strip, k⟩ : Patch) ∈ t.dev.synth.complete))

/-- The gain map, band updates, the lowered ceiling and the aging refresh act as the manual says. Cites 06 Loading the
map: R322, R323; 06 Band updates: R324, R325, R326, R327, R328; 06 Radiance governor: R904; 06 Aging: R344. -/
def Obligations.ColourCommands : Prop :=
  (∀ (s : State) (v : Nat), gainEnabled s = false → v % 4096 = 0 → v < 2 ^ 64 →
    ∃ t, exec (.gainMapBaseWrite v) s = .next t ∧ t.reg 0x3410 2 = v) ∧
  (∀ s : State, ∃ t, exec .gainMapCheck s = .next t ∧ t.reg 0x3410 5 = 1 ∧ t.dev.live.bands = []) ∧
  (∀ s : State, s.reg 0x3410 5 = 1 →
    ∃ t, exec .gainMapCheckComplete s = .next t ∧ t.reg 0x3410 5 =
      match rangeCheck s 0 (720 * bandSize s.dev.live) (s.reg 0x3410 2) (crcInit 0 0x34100003) 0 with
      | none => 3
      | some (v, _) => if v = s.reg 0x3410 3 then 2 else 3) ∧
  (∀ (s : State) (n k : Nat), 0x6C0000000 ≤ s.reg 0x3412 2 → s.reg 0x3412 2 + bandSize s.dev.live ≤ 0x740000000 →
    (place s (s.reg 0x3412 2 + bandSize s.dev.live - 1)).isSome = true → bandTarget s = .ok n →
    s.dev.bandUpdates.length < 8 →
    (s.dev.bandUpdates.any fun x => x.band == s.reg 0x3412 1 && x.target == n) = false → freeBandSlot s = some k →
    ∃ t, exec .bandSubmit s = .next t ∧ t.reg 0x3412 6 = 1 ∧ t.dev.bandUpdates = s.dev.bandUpdates ++
      [{ band := s.reg 0x3412 1, staging := s.reg 0x3412 2, crc := s.reg 0x3412 3, target := n, slot := k }]) ∧
  (∀ (s : State) (b : Nat) (u : BandUpdate), b < 720 →
    (s.dev.bandUpdates.find? fun u => u.band == b && !u.copied) = some u →
    ∃ t, exec (.bandCopyComplete b) s = .next t ∧
      if (hbmRead s u.staging (bandSize s.dev.live)).any (fun bs => crc32c b bs == u.crc) then
        t.dev.memory.markers = s.dev.memory.markers ++ [(47, .bandCopied b)] ∧ t.dev.bandUpdates = s.dev.bandUpdates
      else t.dev.bandUpdates = s.dev.bandUpdates.erase u ∧ t.reg 0x3412 6 = 5) ∧
  (∀ (s : State) (z p : Nat), s.dev.gov.lowered = true → s.reg 0x2040 2 ≠ 1 → s.dev.gov.preLast = [(z, p)] →
    amSorted 0 s.dev.gov.scale = true →
    ∃ t, exec .ceilingScaleRecompute s = .next t ∧
      zoneScale t z = min (zoneScale s z) (scaleTarget p (zoneBudget s s.dev.live z)) ∧ t.dev.gov.lowered = false) ∧
  (∀ s : State, ∃ t, exec .agingRefresh s = .next t ∧
    t.shad 0x3440 1 = leNat (withCrc 0x3440 1 (packLE 2 ((List.range 43200).map fun i =>
      agingAt (s.reg 0x3440 4) (i % 3) (agingCounter s i)))))

/-- Clips are registered, verified and unregistered along the directory's states. Cites 03 The show library: R145, R150,
R151, R153. -/
def Obligations.ClipCommands : Prop :=
  (∀ s : State, clipPinned s (clipSelected s) = false → (s.clip (clipSelected s)).state = 0 →
    headerGood s (clipSelected s) (s.reg 0x2021 2) (s.reg 0x2021 3) = true →
    ∃ t, exec .clipRegister s = .next t ∧ t.clip (clipSelected s) =
      { addr := s.reg 0x2021 2, length := s.reg 0x2021 3, state := 1
        frames := fieldLE (libraryBytes s (s.reg 0x2021 2) 64) 6 2
        mask := fieldLE (libraryBytes s (s.reg 0x2021 2) 64) 8 4 } ∧
      ∀ e, e ≠ clipSelected s → t.clip e = s.clip e) ∧
  (∀ s : State, clipPinned s (clipSelected s) = false →
    (s.clip (clipSelected s)).state = 1 ∨ (s.clip (clipSelected s)).state = 4 →
    ∃ t, exec .clipVerify s = .next t ∧
      t.clip (clipSelected s) = { s.clip (clipSelected s) with state := 2, progress := 0, detail := 0 } ∧
      ∀ e, e ≠ clipSelected s → t.clip e = s.clip e) ∧
  (∀ s : State, clipPinned s (clipSelected s) = false → (s.clip (clipSelected s)).state ≠ 0 →
    ∃ t, exec .clipUnregister s = .next t ∧ t.clip (clipSelected s) = {} ∧
      ∀ e, e ≠ clipSelected s → t.clip e = s.clip e) ∧
  (∀ (s : State) (k : Nat), k < 4096 → (s.clip k).state = 2 →
    ∃ t, exec (.clipVerificationComplete k) s = .next t ∧ (∀ e, e ≠ k → t.clip e = s.clip e) ∧
      match (verifyClip s k).2 with
      | .ok sum => t.clip k = { s.clip k with state := 3, progress := 100, summary := sum }
      | .error (d, f, i) => (t.clip k).state = 4 ∧
          (t.clip k).detail = d % 256 + f % 65536 * 2 ^ 8 + (maskLayers (s.clip k).mask).getD i 0 * 2 ^ 24)

/-- Chunks are decoded, resumed, faulted and finished, and copies end, as the manual says. Cites 02 Malformed input:
R114, R117, R118; 03 Decoders: R122, R123, R125; 03 Layer buffers: R133; 03 Carry-forward and restore: R135, R136;
12 Sources, order and page hints: R654. -/
def Obligations.DecoderCommands : Prop :=
  (∀ (s u : State) (de ord off x : Nat) (j : Job), de < 32 → chunkGiven s de ord off j u →
    headerFail (jobExpect u.dev.live j ord) (chunkAt (stagingBytes u j.staging) off) = some x →
    ∃ t, exec (.chunkDecode de ord) s = .next t ∧ (∀ y ∈ t.dev.jobs, y.num ≠ j.num) ∧ counted s t 0x2002 2) ∧
  (∀ (s u : State) (de ord off : Nat) (j : Job) (c : Chunk), de < 32 → chunkGiven s de ord off j u →
    c = chunkAt (stagingBytes u j.staging) off → headerFail (jobExpect u.dev.live j ord) c = none → c.typ = 2 →
    paletteFail j ord c = none →
    ∃ t, exec (.chunkDecode de ord) s = .next t ∧ t.reg 0x2000 (de + 1) = 0 ∧ chunkSettled s t ord j) ∧
  (∀ (s u : State) (de ord off : Nat) (j : Job) (c : Chunk), de < 32 → chunkGiven s de ord off j u →
    c = chunkAt (stagingBytes u j.staging) off → headerFail (jobExpect u.dev.live j ord) c = none → c.typ = 3 →
    (indexRun u j ord c).wait = none → firstFail (indexRun u j ord c).fails = none →
    ∃ t, exec (.chunkDecode de ord) s = .next t ∧ t.reg 0x2000 (de + 1) = 0 ∧
      t.reg 0x2001 (de + 1) = (s.reg 0x2001 (de + 1) + (indexRun u j ord c).expanded) % 2 ^ 32 ∧
      chunkSettled s t ord j) ∧
  (∀ (s u : State) (de ord off record block : Nat) (j : Job) (c : Chunk), de < 32 → chunkGiven s de ord off j u →
    c = chunkAt (stagingBytes u j.staging) off → headerFail (jobExpect u.dev.live j ord) c = none → c.typ = 3 →
    (indexRun u j ord c).wait = some (record, block) →
    ∃ t, exec (.chunkDecode de ord) s = .next t ∧ t.reg 0x2000 (de + 1) = 1 ∧
      amGet t.dev.waiting de = some { job := j.num, chunk := ord, record := record, block := block }) ∧
  (∀ (s u : State) (de ord off : Nat) (j : Job) (c : Chunk), de < 32 → chunkGiven s de ord off j u →
    c = chunkAt (stagingBytes u j.staging) off → headerFail (jobExpect u.dev.live j ord) c = none → c.typ = 0x0F →
    earlierTaken j ord = true →
    endFail j.content c (ord + 1) (off + 32 + c.len) j.length (fun b => j.palDone.contains b)
      (fun b => j.idxDone.contains b) = none →
    ∃ t, exec (.chunkDecode de ord) s = .next t ∧ t.reg 0x2000 (de + 1) = 0 ∧
      t.dev.memory.markers = s.dev.memory.markers ++ [(de, .finalDescriptors j.num)] ∧
      (jobOf t j.num).map (·.marking) = some true) ∧
  (∀ (s : State) (de : Nat) (w : Waiting) (j : Job), de < 32 → amGet s.dev.waiting de = some w →
    jobOf s w.job = some j → countAwaited j w.chunk w.block = true →
    ∃ t, exec (.indexRecordResume de) s = .next t ∧ t.dev.waiting = s.dev.waiting ∧ t.dev.jobs = s.dev.jobs) ∧
  (∀ (s : State) (de off : Nat) (w : Waiting) (j : Job) (c : Chunk), de < 32 → chunkResumed s de off w j →
    c = chunkAt (stagingBytes s j.staging) off → headerFail (jobExpect s.dev.live j w.chunk) c = none → c.typ = 3 →
    (indexRun s j w.chunk c).wait = none → firstFail (indexRun s j w.chunk c).fails = none →
    ∃ t, exec (.indexRecordResume de) s = .next t ∧ t.reg 0x2000 (de + 1) = 0 ∧
      t.reg 0x2001 (de + 1) = (s.reg 0x2001 (de + 1) + (indexRun s j w.chunk c).expanded) % 2 ^ 32 ∧
      chunkSettled s t w.chunk j) ∧
  (∀ (s : State) (de : Nat), de < 32 → s.reg 0x2000 (de + 1) ≠ 4 →
    ∃ t, exec (.decoderFault de) s = .next t ∧ t.reg 0x2000 (de + 1) = 4 ∧ (∀ w ∈ t.dev.waiting, w.1 ≠ de) ∧
      ∀ num ord j, amGet s.dev.lastChunk de = some (num, ord) → jobOf s num = some j → j.marking = false →
        j.reissued.contains ord = false →
        (jobOf t num).map (·.reissued) = some (ord :: j.reissued) ∧ (jobOf t num).map (·.taken.contains ord) = some false) ∧
  (∀ (s : State) (src num : Nat) (j : Job), src < 64 →
    (s.dev.memory.markers.find? fun m => m.1 == src) = some (src, .finalDescriptors num) → jobOf s num = some j →
    j.marking = true →
    ∃ t, exec (.internalMarkerComplete src) s = .next t ∧ (∀ y ∈ t.dev.jobs, y.num ≠ j.num) ∧ counted s t 0x2002 1 ∧
      t.dev.memory.markers = s.dev.memory.markers.erase (src, .finalDescriptors num)) ∧
  (∀ (s : State) (src band : Nat) (u : BandUpdate), src < 64 →
    (s.dev.memory.markers.find? fun m => m.1 == src) = some (src, .bandCopied band) →
    (s.dev.bandUpdates.find? fun u => u.band == band && !u.copied) = some u →
    ∃ t, exec (.internalMarkerComplete src) s = .next t ∧ t.reg 0x3412 6 = 2 ∧
      { u with copied := true } ∈ t.dev.bandUpdates) ∧
  (∀ (s : State) (src : Nat) (c : CopyJob), src < 64 →
    (s.dev.memory.markers.find? fun m => m.1 == src) = some (src, .copyDescriptors c) → c ∈ s.dev.copies →
    ∃ t, exec (.internalMarkerComplete src) s = .next t ∧ t.dev.copies = s.dev.copies.erase c ∧
      counted s t 0x2002 (if c.restore then 4 else 3)) ∧
  (∀ (s : State) (layer : Nat) (c : CopyJob), layer < 32 →
    (s.dev.copies.find? fun c => c.layer == layer && !c.marking) = some c →
    ∃ t, exec (.copyComplete layer) s = .next t ∧ t.dev.copies = (s.dev.copies.map fun x => if x = c then c.marked else x) ∧
      t.dev.memory.markers = s.dev.memory.markers ++ [(0, .copyDescriptors c.marked)])

/-- The view table, the raster setting, a commit and a shadow write are admitted when the planner finds nothing against
them. Cites 04 The view table: R179, R180, R181; 05 The dictionary commit: R248, R250, R251, R253, R255; 07 Frame
rates and lines: R353, R354; 07 Hold modes: R391; 10 Wraps: R574; 11 Admission: R620, R624. -/
def Obligations.SubmitsAndShadows : Prop :=
  (∀ (s : State) (n : Nat), crcPasses 0x2111 1 (natLE (s.reg 0x2111 1) 1156) = true →
    tableGood (tableOf (s.reg 0x2111 1)) = true → targetCount s (s.reg 0x2111 2) = .ok n →
    itemFails s { num := s.dev.host.nextNum, target := n, kind := .view (tableOf (s.reg 0x2111 1)) } = none →
    ∃ t, exec .viewTableSubmit s = .next t ∧ t.reg 0x2111 4 = 2 ∧ t.dev.host.items = s.dev.host.items ++
      [{ num := s.dev.host.nextNum, target := n, kind := .view (tableOf (s.reg 0x2111 1)) }]) ∧
  (∀ (s : State) (n : Nat), targetCount s (s.reg 0x3800 6) = .ok n →
    rasterHere s (s.shad 0x3800 1) (s.shad 0x3800 2) (s.shad 0x3800 3) (s.shad 0x3800 4) = true → anyBound s = false →
    itemFails s { num := s.dev.host.nextNum, target := n, kind := (.raster (s.shad 0x3800 1) (s.shad 0x3800 2)
      (s.shad 0x3800 3) (s.shad 0x3800 4) (s.shad 0x3800 5)) } = none →
    ∃ t, exec .rasterSubmit s = .next t ∧ t.reg 0x3800 8 = 2 ∧ t.dev.host.items = s.dev.host.items ++
      [{ num := s.dev.host.nextNum, target := n, kind := (.raster (s.shad 0x3800 1) (s.shad 0x3800 2) (s.shad 0x3800 3)
          (s.shad 0x3800 4) (s.shad 0x3800 5)) }]) ∧
  (∀ (s : State) (n : Nat), targetCount s (s.reg 0x3000 2) = .ok n → s.dev.commitPending = none → commitFails n s = none →
    ∃ t, exec .commitRequest s = .next t ∧ t.dev.commitPending = some n ∧ t.reg 0x3000 3 = 1 ∧
      t.reg 0x3000 4 = n % 2 ^ 32 ∧ t.dev.shadow = s.dev.shadow) ∧
  (∀ (s : State) (index sub value : Nat) (r : ObjRow), index < 65536 → sub < 256 → objHere s index sub = some r →
    r.shadow = true → r.access = 1 → value < 2 ^ (8 * r.size) →
    valueAbort s r index sub (natLE value r.size) = 0 → s.dev.commitPending = none →
    ∃ t, exec (.shadowWrite index sub value) s = .next t ∧
      t.shad index sub = cleaned index sub (leNat (natLE value r.size)) ∧ t.dev.live = s.dev.live ∧ t.dev.od = s.dev.od) ∧
  (∀ s : State, s.reg 0x3810 3 ≠ 0 → ∃ t, exec .hostSilenceTimeout s = .next t ∧ t.dev.timing.silent = true)

/-- Protected slots are loaded, erased and read, and a region's signature is learnt, as the manual says. Cites 05 The
protected store: R278, R279, R280, R281; 05 Protected regions and signatures: R291. -/
def Obligations.ProtectedStoreCommands : Prop :=
  (∀ s : State, slotInUse s (s.reg 0x3180 1) = false →
    (∃ t, exec .protectedLoad s = .next t ∧
      t.pslot (s.reg 0x3180 1) = { state := 1, staging := s.reg 0x3180 2, length := s.reg 0x3180 3 }) ∧
    (∃ t, exec .protectedErase s = .next t ∧ t.pslot (s.reg 0x3180 1) = {})) ∧
  (∀ s : State, slotInUse s (s.reg 0x3180 1) = true →
    (∃ t, exec .protectedLoad s = .next t ∧ t.dev.protectedSlots = s.dev.protectedSlots ∧
      t.dev.protectedDefs = s.dev.protectedDefs) ∧
    (∃ t, exec .protectedErase s = .next t ∧ t.dev.protectedSlots = s.dev.protectedSlots ∧
      t.dev.protectedDefs = s.dev.protectedDefs)) ∧
  (∀ (s : State) (k : Nat), k < 20 → (s.pslot k).state = 1 →
    ∃ t, exec (.protectedLoadComplete k) s = .next t ∧
      match (loadDecode s (s.pslot k)).2 with
      | .ok d => (t.pslot k).state = 2 ∧ amGet t.dev.protectedDefs k = some d.content
      | .error e => (t.pslot k).state = 3 ∧ (t.pslot k).detail = e ∧ t.hbm = s.hbm) ∧
  (∀ (s : State) (k b : Nat) (bad1 : Bool), k < 20 → b < 2048 → (amGet s.dev.protectedDefs k).isSome = true →
    ((protectedCopy s k b 0).isSome = true →
      ∃ t, exec (.protectedSlotRead k b false bad1) s = .next t ∧ t.reg 0x3180 7 = s.reg 0x3180 7 ∧
        t.dev.protectedLogged = s.dev.protectedLogged ∧ (k, b) ∉ t.dev.synth.protectedBad) ∧
    (∃ t, exec (.protectedSlotRead k b true true) s = .next t ∧ counted s t 0x3180 7 ∧
      t.dev.protectedLogged = true ∧ (k, b) ∈ t.dev.synth.protectedBad)) ∧
  (∀ (s : State) (r : Nat), r < 16 →
    ∃ t, exec (.regionLearn r) s = .next t ∧ t.shad (0x3100 + r) 5 = s.reg (0x3100 + r) 6 ∧ t.dev.live = s.dev.live)

/-- Tile ports gain and lose lock, send and classify HELLO, count violations and are taken down and released. Cites 10
Neighbours: R552, R553; 10 Tile ports: R548, R549, R550, R551; 10 Safety broadcasts: R564; 14 Power domains: R754. -/
def Obligations.TilePortCommands : Prop :=
  (∀ (s : State) (t b c : Nat), t < nTiles s → tileState s t = 1 → firstIntact helloGood c = b → helloGood b = true →
    bits b 47 40 = 1 →
    ∃ u, exec (.tilePortHello t c) s = .next u ∧ u.reg (0x4880 + t) 3 = bits b 19 8 ∧ u.reg (0x4880 + t) 4 = bits b 39 24 ∧
      (bits b 39 24 ≠ s.reg 0x4830 2 → tileState u t = 3 ∧ (canLog s → eventLogged 552 s u)) ∧
      (bits b 39 24 = s.reg 0x4830 2 → bits b 19 8 = wallId s →
        tileState u t = 4 ∧ counted s u 0x4830 3 ∧ (canLog s → eventLogged 552 s u)) ∧
      (bits b 39 24 = s.reg 0x4830 2 → bits b 19 8 ≠ wallId s → isPairing s t = true → tileState u t = 5) ∧
      (bits b 39 24 = s.reg 0x4830 2 → bits b 19 8 ≠ wallId s → isPairing s t = false → tileState u t = 2)) ∧
  (∀ (s : State) (t : Nat), t < nTiles s → tileState s t ≠ 0 →
    ∃ u, exec (.helloSend t) s = .next u ∧ (u.tile t).sent.head? = some (helloBlock s t) ∧ u.dev.od = s.dev.od) ∧
  (∀ (s : State) (t lane : Nat), t < nTiles s → lane < 4 → domainState s 31 = 2 → tileState s t = 0 → s.reg (0x4880 + t) 9 = 1 →
    (s.tile t).takenDown = false →
    ∃ u, exec (.tilePortLockGain t lane) s = .next u ∧ u.reg (0x4880 + t) 2 = setBit (s.reg (0x4880 + t) 2) lane ∧
      tileState u t = 1 ∧ (u.tile t).sent.head? = some (helloBlock s t)) ∧
  (∀ (s : State) (t lane : Nat), t < nTiles s → lane < 4 →
    ∃ u, exec (.tilePortLockLoss t lane) s = .next u ∧ u.reg (0x4880 + t) 2 = clearBit (s.reg (0x4880 + t) 2) lane ∧
      tileState u t = tileState s t) ∧
  (∀ (s : State) (t : Nat), t < nTiles s → s.reg (0x4880 + t) 2 = 0 →
    ∃ u, exec (.tilePortLockTimeout t) s = .next u ∧ tileState u t = 0) ∧
  (∀ (s : State) (t : Nat), t < nTiles s →
    ∃ u, exec (.tilePortViolation t) s = .next u ∧ counted s u (0x4880 + t) 8 ∧
      ((within1s s.now (s.tile t).violations).length + 1 < 256 → tileState u t = tileState s t ∧
        (u.tile t).takenDown = (s.tile t).takenDown) ∧
      (256 ≤ (within1s s.now (s.tile t).violations).length + 1 → (s.tile t).takenDown = false →
        tileState u t = 0 ∧ (u.tile t).takenDown = true ∧ (canLog s → eventLogged 564 s u))) ∧
  (∀ (s : State) (t : Nat), t < nTiles s → (s.tile t).takenDown = true → tileState s t = 0 →
    ∃ u, exec (.tilePortTakeDownEnd t) s = .next u ∧ (u.tile t).takenDown = false ∧
      tileState u t = if s.reg (0x4880 + t) 2 ≠ 0 ∧ s.reg (0x4880 + t) 9 = 1 then 1 else 0) ∧
  (∀ s : State, (∀ t, t < nTiles s → s.reg (0x4880 + t) 9 = 0) → domainState s 31 ≠ 3 →
    ∃ u, exec .tileSerdesDomainOff s = .next u ∧ domainState u 31 = 0 ∧ ∀ t, t < nTiles s → u.reg (0x4880 + t) 2 = 0)

/-- Markers give a neighbour's cable delay and phase, and safety broadcasts are sent, forwarded, repeated and expire.
Cites 10 Tile ports: R548, R549, R550, R551; 10 Neighbours: R554, R555, R557, R559; 10 Safety broadcasts: R560,
R561, R562, R563. -/
def Obligations.WallBlockCommands : Prop :=
  (∀ (s : State) (t b c stamp : Nat), t < nTiles s → tileJoined s t = true → tileGood s t b 0x87 47 46 = true →
    firstIntact (fun x => tileGood s t x 0x87 47 46) c = b →
    ∃ u, exec (.markerReceive t c stamp) s = .next u ∧ (u.tile t).a4 = some (stamp / 10 * 10, bits b 39 8) ∧
      (u.tile t).setting = some (bits b 42 40, bit b 43, bits b 45 44) ∧
      (strangeFrame s (bits b 39 8) (stamp / 10 * 10) = true → canLog s → eventLogged 556 s u)) ∧
  (∀ (s : State) (t a1 a4 f : Nat), t < nTiles s → tileJoined s t = true → (s.tile t).a1 = some (a1, f) →
    (s.tile t).a4 = some (a4, f) → hasBit (s.reg (0x4880 + t) 2) 0 = true → ((a1 : Int) - a4).natAbs < 2 ^ 23 →
    ∃ u, exec (.markerFollowSend t) s = .next u ∧ (u.tile t).sent.head? =
      some (followBlock s ((a1 - s.dev.timing.calendsAt) % 2 ^ 16) (ofSigned 24 ((a1 : Int) - a4)))) ∧
  (∀ (s : State) (t b c a1 a4 : Nat) (d phi : Int), t < nTiles s → tileJoined s t = true → tileGood s t b 0x96 0 1 = true →
    firstIntact (fun x => tileGood s t x 0x96 0 1) c = b →
    (s.tile t).a1 = some (a1, frameNo s) → (s.tile t).a4 = some (a4, frameNo s) → (s.tile t).followed = false →
    bits b 47 24 ≠ 0x800000 → hasBit (s.reg (0x4880 + t) 2) 0 = true →
    2 * d = (a4 : Int) - a1 - toSigned 24 (bits b 47 24) →
    phi = ((a4 : Int) - d - bits b 23 8) - (a1 - ((a1 : Int) - s.dev.timing.calendsAt)) →
    0 ≤ d → d < 2 ^ 32 → -2 ^ 31 ≤ phi → phi < 2 ^ 31 →
    ∃ u, exec (.markerFollowReceive t c) s = .next u ∧ (u.reg (0x4880 + t) 5 : Int) = d ∧
      toSigned 32 (u.reg (0x4880 + t) 6) = phi) ∧
  (∀ (s : State) (t b c : Nat), t < nTiles s → tileJoined s t = true → tileGood s t b 0xA5 47 41 = true →
    firstIntact (fun x => tileGood s t x 0xA5 47 41) c = b →
    ∃ u, exec (.eveBlockReceive t c) s = .next u ∧ (u.tile t).nextFrame = some (bits b 39 8) ∧
      (u.tile t).holdReady = hasBit b 40 ∧ (u.tile t).eveAt = s.now) ∧
  (∀ (s : State) (t b c : Nat), t < nTiles s → tileJoined s t = true → safetyGood s t b = true →
    firstIntact (safetyGood s t) c = b → (originates s = true → bits b 23 12 ≠ wallId s) →
    (∀ o, (s.dev.safety.origins.find? fun o => o.id == bits b 23 12) = some o → o.forwarded ≠ s.dev.timing.count) →
    ∃ u, exec (.safetyReceive t c) s = .next u ∧
      { id := bits b 23 12, image := bits b 9 8, target := safetyTarget s (bits b 39 24),
        forwarded := s.dev.timing.count } ∈ u.dev.safety.origins ∧ counted s u 0x4840 3 ∧
      (∀ p, p < nTiles s → p ≠ t → tileJoined s p = true →
        (u.tile p).sent.head? = some (safetyBlock s (bits b 9 8) (bits b 23 12) (bits b 39 24))) ∧
      (u.tile t).sent = (s.tile t).sent ∧
      ((s.dev.safety.origins.find? fun o => o.id == bits b 23 12) = none →
        safetyTarget s (bits b 39 24) ≤ s.dev.timing.count → counted s u 0x4840 4)) ∧
  (∀ (s : State) (t b c : Nat) (o : OriginState), t < nTiles s → tileJoined s t = true → safetyGood s t b = true →
    firstIntact (safetyGood s t) c = b → originates s = true → bits b 23 12 = wallId s →
    (s.dev.safety.origins.find? fun o => o.id == wallId s) = some o →
    ∃ u, exec (.safetyReceive t c) s = .next u ∧
      { o with forwarded := s.dev.timing.count } ∈ u.dev.safety.origins) ∧
  (∀ (s : State) (o : OriginState), originates s = true →
    (s.dev.safety.origins.find? fun o => o.id == wallId s) = some o →
    ∃ u, exec .safetyRepeat s = .next u ∧ u.dev.safety = s.dev.safety ∧
      ∀ p, p < nTiles s → tileJoined s p = true →
        (u.tile p).sent.head? = some (safetyBlock s (safetyImage s) (wallId s) o.target)) ∧
  (∀ (s : State) (v : Nat), 1 ≤ v → v ≤ 4 →
    ∃ u, exec (.safetyOriginCommand v) s = .next u ∧ u.reg 0x4840 2 = v ∧
      ∃ o ∈ u.dev.safety.origins, o.id = wallId s ∧ o.image = v - 1 ∧
        ∀ p, p < nTiles s → tileJoined s p = true →
          (u.tile p).sent.head? = some (safetyBlock u (safetyImage u) (wallId u) o.target)) ∧
  (∀ s : State, s.dev.safety.originating = false ∨ s.reg 0x4840 1 ≠ 1 →
    ∃ u, exec (.safetyOriginCommand 0) s = .next u ∧ u.reg 0x4840 2 = 0 ∧ ∀ o ∈ u.dev.safety.origins, o.id ≠ wallId s) ∧
  (∀ (s : State) (id : Nat), id < 4096 → (id = wallId s → originates s = false) →
    ∃ u, exec (.safetyOriginExpiry id) s = .next u ∧ ∀ o ∈ u.dev.safety.origins, o.id ≠ id)

/-- Network ports link, alternate, lose link, filter frames, hold to the cap, and queue transmit stamps. Cites 10
Network ports: R516, R517, R518, R519; 10 Transmit time stamps: R528, R530, R531. -/
def Obligations.NetworkPortCommands : Prop :=
  (∀ (s : State) (p : Nat) (tenG : Bool), p < 2 →
    ∃ u, exec (.epLinkUp p tenG) s = .next u ∧
      (s.reg (0x4812 + p) 1 = 0 → (s.eth p).try1G = !tenG → u.reg (0x4812 + p) 1 = (if tenG then 2 else 1) ∧
        ∀ c, c < 2 → s.reg (0x4800 + c) 1 = 1 → s.reg (0x4800 + c) 3 = p → s.reg (0x4800 + c) 6 = 0 →
          u.reg (0x4800 + c) 6 = 1) ∧
      (s.reg (0x4812 + p) 1 ≠ 0 ∨ (s.eth p).try1G = tenG → u.dev.od = s.dev.od)) ∧
  (∀ (s : State) (p : Nat), p < 2 →
    ∃ u, exec (.epLinkDown p) s = .next u ∧ u.reg (0x4812 + p) 1 = 0 ∧
      ∀ c, c < 2 → s.reg (0x4800 + c) 3 = p → (u.source c).valid = false ∧ u.reg (0x4800 + c) 6 ≤ 1) ∧
  (∀ (s : State) (p : Nat), p < 2 → s.reg (0x4812 + p) 1 = 0 →
    ∃ u, exec (.epRateAlternate p) s = .next u ∧ (u.eth p).try1G = !(s.eth p).try1G) ∧
  (∀ (s : State) (p : Nat) (proto : EthProto) (vlan : Option Nat), p < 2 →
    ∃ u, exec (.ethernetFrameReceive p proto vlan) s = .next u ∧
      (frameTaken s proto vlan = true → u.dev.od = s.dev.od) ∧
      (frameTaken s proto vlan = false → counted s u (0x4812 + p) 2)) ∧
  (∀ (s : State) (p bytes : Nat), p < 2 → (s.eth p).waiting = [] →
    ∃ u, exec (.ethernetTransmit p bytes) s = .next u ∧
      (8 * bytes ≤ capLeft s p → (u.eth p).waiting = [] ∧ (u.eth p).sent = sentLately s p ++ [(s.now, 8 * bytes)]) ∧
      (capLeft s p < 8 * bytes → bytes ≤ 65536 → (u.eth p).waiting = [{ size := bytes }] ∧ (u.eth p).sent = sentLately s p)) ∧
  (∀ (s : State) (p bytes : Nat) (left : List EthFrame) (sent : List (Nat × Nat)), p < 2 →
    drainFrames s.now s.ceilings.rec2.transmitCap (s.eth p).waiting (sentLately s p) = (left, sent) → left ≠ [] →
    65536 < (left.map (·.size)).foldl (· + ·) 0 + bytes →
    ∃ u, exec (.ethernetTransmit p bytes) s = .next u ∧ (u.eth p).waiting = left ∧ counted s u (0x4812 + p) 3) ∧
  (∀ (s : State) (p msgtype domain seqId : Nat), p < 2 → msgtype < 16 → domain < 256 → seqId < 65536 →
    ∃ u, exec (.transmitStampEnqueue p msgtype domain seqId) s = .next u ∧
      (entersStamp s msgtype = false → (u.eth p).stamps = (s.eth p).stamps) ∧
      (entersStamp s msgtype = true → (s.eth p).stamps.length < 32 → (u.eth p).stamps = (s.eth p).stamps ++
        [stampEntry (time80 (localTime s + phyLatency s p 1).toNat) msgtype domain seqId] ∧
        u.reg (0x4810 + p) 2 = (s.eth p).stamps.length + 1) ∧
      (entersStamp s msgtype = true → 32 ≤ (s.eth p).stamps.length → (u.eth p).stamps = (s.eth p).stamps ∧ counted s u (0x4810 + p) 3 ∧
        u.reg (0x4810 + p) 4 = 1)) ∧
  (∀ (s : State) (p : Nat), p < 2 →
    ∃ u, exec (.transmitStampRead p) s = .next u ∧ (u.eth p).stamps = (s.eth p).stamps.drop 1 ∧
      u.reg (0x4810 + p) 2 = (s.eth p).stamps.length - 1)

/-- PTP messages discipline, change or lose a source, the standby takes over with δ, and HOLDOVER follows without one.
Cites 10 Precision time: R520, R521; 10 Two sources: R523, R525, R526, R527; 10 The frame DPLL: R543. -/
def Obligations.TimeSourceCommands : Prop :=
  (∀ (s : State) (p : Nat) (m : PtpMsg), p < 2 → (s.eth p).lockout = false → s.reg 0x6020 3 = 0 → unsupported m = true →
    ∃ u, exec (.ptpMessageReceive p m) s = .next u ∧
      ((s.reg 0x4802 9 >>> (32 * p)) % 2 ^ 32 ≠ 0xFFFFFFFF → u.reg 0x4802 9 = s.reg 0x4802 9 + 2 ^ (32 * p)) ∧
      (1000 ≤ (within1s s.now (s.eth p).violations).length → (u.eth p).lockout = true ∧ (canLog s → eventLogged 521 s u)) ∧
      ((within1s s.now (s.eth p).violations).length < 1000 → (u.eth p).lockout = false)) ∧
  (∀ (s : State) (p : Nat), p < 2 → ∃ u, exec (.ptpLockoutEnd p) s = .next u ∧ (u.eth p).lockout = false) ∧
  (∀ (s : State) (p : Nat) (m : PtpMsg), p < 2 → (s.eth p).lockout = true →
    ∃ u, exec (.ptpMessageReceive p m) s = .next u ∧ u = s) ∧
  (∀ (s : State) (p c : Nat) (m : PtpMsg) (o sent rx k : Int), p < 2 → (s.eth p).lockout = false → s.reg 0x6020 3 = 0 →
    unsupported m = false → sourceOf s p m.domain m.transport = some c → 3 ≤ s.reg (0x4800 + c) 6 →
    (s.source c).valid = true →
    (m.kind = .sync ∧ m.twoStep = false ∧ sent = m.t ∧ rx = (localTime s - phyLatency s p 0).fdiv 1000) ∨
      (m.kind = .followUp ∧ (s.source c).sync = some (m.seqId, rx, k) ∧ sent = m.t + k) →
    o = sent + s.reg (0x4800 + c) 8 - rx →
    (∀ a, (s.source c).offsets.head? = some a → (o - a).natAbs ≤ 1000000) →
    ∃ u, exec (.ptpMessageReceive p m) s = .next u ∧ (u.source c).offsets.head? = some o ∧
      u.reg (0x4800 + c) 7 = ofSigned 32 (saturate 32 o) ∧
      (u.dev.clock.adj - s.dev.clock.adj).natAbs ≤ (s.now - s.dev.clock.movedAt) / 10000) ∧
  (∀ (s : State) (p c : Nat) (m : PtpMsg), p < 2 → (s.eth p).lockout = false → s.reg 0x6020 3 = 0 →
    unsupported m = false → m.kind = .announce → m.slave = true → sourceOf s p m.domain m.transport = some c →
    ∃ u, exec (.ptpMessageReceive p m) s = .next u ∧ u.reg (0x4800 + c) 9 = m.grandmaster % 2 ^ 64 ∧
      3 ≤ u.reg (0x4800 + c) 6 ∧ (s.reg (0x4800 + c) 9 ≠ m.grandmaster → (u.source c).valid = false)) ∧
  (∀ (s : State) (p c : Nat) (m : PtpMsg) (d : Nat) (t' : Int), p < 2 → (s.eth p).lockout = false → s.reg 0x6020 3 = 0 →
    unsupported m = false → sourceOf s p m.domain m.transport = some c → d < 2 ^ 32 →
    (m.kind = .delayResp ∧ s.reg (0x4800 + c) 4 = 0 ∧ askedAt s p 1 m.domain m.seqId = some t' ∧
      2 * (d : Int) = ((s.source c).t2 - (s.source c).t1) + (m.t - t')) ∨
    (m.kind = .pdelayResp ∧ s.reg (0x4800 + c) 4 = 1 ∧ m.twoStep = false ∧ askedAt s p 2 m.domain m.seqId = some t' ∧
      2 * (d : Int) = (receiveStamp s p - t') - m.t) →
    ∃ u, exec (.ptpMessageReceive p m) s = .next u ∧ u.reg (0x4800 + c) 8 = d) ∧
  (∀ (s : State) (c : Nat) (i : Instr), c < 2 → i = .syncTimeout c ∨ i = .sourceInvalid c →
    ∃ u, exec i s = .next u ∧ (u.source c).valid = false ∧
      (s.reg 0x4802 1 = c → (s.source (1 - c)).valid = true → u.reg 0x4802 1 = 1 - c ∧ u.reg 0x4802 2 = 1 ∧
        counted s u 0x4802 4 ∧ (canLog s → eventLogged 525 s u) ∧
        ((s.source (1 - c)).former = false → u.reg 0x4802 3 = ofSigned 32 (saturate 32 (deltaFor s (1 - c))))) ∧
      (s.reg 0x4802 1 = c → (s.source (1 - c)).valid = false → u.reg 0x4802 1 = 2 ∧
        (s.reg 0x4802 2 = 1 → u.reg 0x4802 2 = 2) ∧ (frameLock s = 1 ∨ frameLock s = 2 → frameLock u = 3)) ∧
      (s.reg 0x4802 1 ≠ c → u.reg 0x4802 1 = s.reg 0x4802 1)) ∧
  (∀ (s : State) (c : Nat), c < 2 → (s.source c).valid = true → (s.source c).former = true →
    (s.source c).validSince + 64 * 10 ^ 12 ≤ s.now →
    ∃ u, exec (.sourceStandbyRestore c) s = .next u ∧ (u.source c).former = false)

/-- The epoch and the anchor are written only in FREE_RUN, and RELOCK returns to FREE_RUN when nothing is targeted.
Cites R536; R537. -/
def Obligations.EpochAndRelockNeedFreeRun : Prop :=
  (∀ (s : State) (sub v : Nat), 1 ≤ sub → sub ≤ 3 → frameLock s = 0 →
    (sub = 2 → v < 2 ^ 64) → (sub ≠ 2 → time80Good v = true) →
    ∃ u, exec (.frameEpochWrite sub v) s = .next u ∧ u.reg 0x4820 sub = v ∧ (epochWrite sub v s).1 = 0) ∧
  (∀ (s : State) (sub v : Nat), 1 ≤ sub → sub ≤ 3 → frameLock s ≠ 0 →
    exec (.frameEpochWrite sub v) s = .next s ∧ (epochWrite sub v s).1 = abInUse) ∧
  (∀ s : State, s.dev.host.items = [] → s.dev.commitPending = none → s.dev.commitCaptured = none → s.dev.bandUpdates = [] →
    ∃ u, exec .relock s = .next u ∧ frameLock u = 0 ∧ (relock s).1 = 0) ∧
  (∀ s : State, s.dev.host.items ≠ [] ∨ s.dev.commitPending ≠ none ∨ s.dev.commitCaptured ≠ none ∨ s.dev.bandUpdates ≠ [] →
    exec .relock s = .next s ∧ (relock s).1 = abInUse)

/-- A link trains from DETECT through LOCK, EXCHANGE, EQUALIZE and CONFIRM to ACTIVE, and failed attempts take the
ladder. Cites 08 Training: R444, R447, R448, R449; 08 Block lock and adaptation: R438; 08 Partner violations: R466;
18 Driver links and tile ports: R890. -/
def Obligations.LinkTrainingCommands : Prop :=
  (∀ (s : State) (l : Nat), l < nLinks s → linkState s l = 1 →
    ∃ u, exec (.upstreamLockGain l) s = .next u ∧ linkState u l = 2 ∧ (u.link l).upLock = true ∧
      (u.link l).sent.head? = some (trainDown 2 (s.reg (0x4100 + l) 2))) ∧
  (∀ (s : State) (l : Nat), l < nLinks s → (s.link l).upLock = true → hasBit (s.reg (0x4100 + l) 0x0B) 1 = false →
    ∃ u, exec (.upstreamLockLoss l) s = .next u ∧ (u.link l).upLock = false ∧ counted s u (0x4100 + l) 9) ∧
  (∀ (s : State) (l : Nat), l < nLinks s → (s.link l).upLock = false →
    ∃ u, exec (.upstreamLaneLost l) s = .next u ∧ (u.link l).lost = true) ∧
  (∀ (s : State) (l b : Nat), l < nLinks s → trainUpGood b = true → bits b 11 8 ≠ 15 →
    (linkState s l = 2 → hasBit b 12 = true →
      ∃ u, exec (.trainReceive l b) s = .next u ∧ linkState u l = 3 ∧
        (u.link l).sent.head? = some (trainDown 3 (s.reg (0x4100 + l) 2))) ∧
    (linkState s l = 4 → (s.link l).swept = true → 15 ≤ (s.link l).goodTrains → s.reg 0x4200 2 ≤ bits b 21 16 →
      ∃ u, exec (.trainReceive l b) s = .next u ∧ linkState u l = 5 ∧
        (u.link l).sent.take 2 = [testBlock 65536, trainDown 5 (s.reg (0x4100 + l) 2)])) ∧
  (∀ (s : State) (l b p0 : Nat), l < nLinks s → capUpGood b = true → linkState s l = 3 → bits b 9 8 = 1 →
    (s.link l).part0 = some p0 → capPasses s l p0 = true → (s.link l).ladder ≠ 1 →
    ∃ u, exec (.capUpReceive l b) s = .next u ∧ linkState u l = 4 ∧ (u.link l).sent.take 2 =
      [trainDown 4 (s.reg (0x4100 + l) 2), capBlock l (s.reg (0x4100 + l) 2) (widePorts s)] ∧
      u.reg (0x4000 + l / 2) 4 = bits p0 23 16 ∧ u.reg (0x4000 + l / 2) 5 = bits b 43 32) ∧
  (∀ (s : State) (l : Nat), l < nLinks s → linkState s l = 4 → (s.link l).swept = false →
    ∃ u, exec (.presetSweepStep l) s = .next u ∧
      ((s.link l).preset < 7 → (u.link l).preset = (s.link l).preset + 1 ∧ (u.link l).swept = false) ∧
      (7 ≤ (s.link l).preset → (u.link l).swept = true ∧
        ∀ i, i < 8 → nth (s.link l).margins i ≤ nth (s.link l).margins (u.link l).preset)) ∧
  (∀ (s : State) (l b : Nat), l < nLinks s → resultGood b = true → bits b 39 8 = 0 → linkState s l = 5 →
    ∃ u, exec (.testResultReceive l b) s = .next u ∧ linkState u l = 6 ∧ (u.link l).seq = 0 ∧
      (u.link l).sent.head? = some (trainDown 6 (s.reg (0x4100 + l) 2))) ∧
  (∀ (s : State) (l : Nat), l < nLinks s → 1 ≤ linkState s l → linkState s l ≤ 5 → (s.link l).upLock = false →
    ∃ u, exec (.trainingTimerExpiry l) s = .next u ∧ counted s u (0x4100 + l) 3 ∧
      ((s.link l).attempts < 2 → linkState u l = 1 ∧ u.reg (0x4100 + l) 2 = s.reg (0x4100 + l) 2 ∧
        (u.link l).sent.head? = some (trainDown 1 (s.reg (0x4100 + l) 2))) ∧
      (2 ≤ (s.link l).attempts → (s.link l).ladder = 0 → linkState u l = 1 ∧ u.reg (0x4100 + l) 2 = 1 ∧
        (u.link l).ladder = 1) ∧
      (2 ≤ (s.link l).attempts → (s.link l).ladder = 1 → (s.link l).passed = 0 → linkState u l = 7)) ∧
  (∀ (s : State) (l : Nat), l < nLinks s → linkState s l = 7 → (s.link l).upLock = false →
    ∃ u, exec (.linkAbsentRetry l) s = .next u ∧ linkState u l = 1 ∧ u.reg (0x4100 + l) 2 = targetSpeed s ∧
      (u.link l).attempts = 0)

/-- STATUS, telemetry, violations, failures, sleep, retraining and test loops of links in service. Cites 08 Upstream:
R436, R437; 08 Training: R445, R450, R452; 08 Port modes and link failure: R453, R456; 08 Sleep: R460, R463; 08
Partner violations: R464, R465; 08 Test loops: R467, R469, R470; 18 Other pins: R897. -/
def Obligations.LinkServiceCommands : Prop :=
  (∀ (s : State) (l b : Nat), l < nLinks s → statusGood l b = true →
    ((s.link l).lastSeq.any fun q => later 16 q (bits b 39 24)) = false →
    ∃ u, exec (.statusReceive l b) s = .next u ∧ hasBit (u.reg (0x4000 + l / 2) 2) 0 = false ∧
      u.reg (0x4000 + l / 2) 7 = bit b 12 ∧ u.reg (0x4100 + l) 5 = bits b 21 16 ∧
      ∀ k, k < 2 → hasBit b (8 + k) = false → linkState s (2 * (l / 2) + k) = 6 →
        linkState u (2 * (l / 2) + k) = 0 ∧ u.reg (0x4100 + (2 * (l / 2) + k)) 7 = 2) ∧
  (∀ (s : State) (l b : Nat), l < nLinks s → telemGood l b = true →
    ∃ u, exec (.telemReceive l b) s = .next u ∧
      (bits b 15 8 = (s.port (l / 2)).item → u.reg (0x4000 + l / 2) 9 = bits b 47 16) ∧
      (bits b 15 8 ≠ (s.port (l / 2)).item → counted s u (0x4100 + l) 0x0A)) ∧
  (∀ (s : State) (l : Nat), l < nLinks s →
    ∃ u, exec (.upstreamSleepReceive l (sleepBlock l)) s = .next u ∧ hasBit (u.reg (0x4100 + l) 0x0B) 1 = true) ∧
  (∀ (s : State) (l : Nat), l < nLinks s →
    ∃ u, exec (.upstreamViolation l) s = .next u ∧ counted s u (0x4100 + l) 0x0A ∧ counted s u (0x4000 + l / 2) 0x0C ∧
      ((within1s s.now (s.port (l / 2)).violations).length < 255 →
        (u.port (l / 2)).takenDown = (s.port (l / 2)).takenDown ∧ linkState u l = linkState s l) ∧
      (255 ≤ (within1s s.now (s.port (l / 2)).violations).length → (s.port (l / 2)).takenDown = false →
        (u.port (l / 2)).takenDown = true ∧ counted s u (0x4000 + l / 2) 0x0D ∧
        (∀ k, k < 2 → linkState u (2 * (l / 2) + k) = 0) ∧
        (hbmTrained s = true → u.dev.events.getLast?.map (·.rule) = some 464))) ∧
  (∀ (s : State) (p : Nat), p < nPorts s → hasBit (s.reg (0x4000 + p) 2) 0 = false →
    (upAsleep s (2 * p) && upAsleep s (2 * p + 1)) = false →
    ∃ u, exec (.portBlindTimeout p) s = .next u ∧ hasBit (u.reg (0x4000 + p) 2) 0 = true ∧ (canLog s → eventLogged 464 s u)) ∧
  (∀ (s : State) (l cause : Nat) (c : Instr), l < nLinks s →
    (c = .linkTransmitFault l ∧ cause = 1) ∨
      (c = .trainReqReceive l ∧ cause = 5 ∧ (linkState s l = 6 ∨ linkState s l = 8)) →
    ∃ u, exec c s = .next u ∧ linkState u l = 0 ∧ counted s u (0x4100 + l) 6 ∧ u.reg (0x4100 + l) 7 = cause ∧
      (carries s l = true → canLog s → eventLogged 456 s u)) ∧
  (∀ (s : State) (q : Nat), q < 4 →
    ∃ u, exec (.refclockLoss q) s = .next u ∧ ∀ i, i < nLinks s / 4 → linkState u (q * (nLinks s / 4) + i) = 0 ∧
        u.reg (0x4100 + (q * (nLinks s / 4) + i)) 7 = 1) ∧
  (∀ (s : State) (p : Nat), p < nPorts s → (s.port p).takenDown = true →
    ∃ u, exec (.portTakedownRetrain p) s = .next u ∧ (u.port p).takenDown = false ∧
      ∀ k, k < 2 → linkState s (2 * p + k) = 0 → linkState u (2 * p + k) = (if (s.link (2 * p + k)).upLock then 2 else 1) ∧
        u.reg (0x4100 + (2 * p + k)) 2 = targetSpeed s) ∧
  (∀ (s : State) (l : Nat), l < nLinks s → linkState s l = 6 → s.reg (0x4100 + l) 2 < targetSpeed s →
    carries s (mate l) = true → portMode s (l / 2) ≠ 0 →
    ∃ u, exec (.linkSpeedRaise l) s = .next u ∧ linkState u l = (if (s.link l).upLock then 2 else 1) ∧
      u.reg (0x4100 + l) 2 = targetSpeed s) ∧
  (∀ (s : State) (l : Nat), l < nLinks s → maySleep s l = true →
    ∃ u, exec (.laneSleepEnter l) s = .next u ∧ hasBit (u.reg (0x4100 + l) 0x0B) 0 = true ∧
      (u.link l).sent.head? = some (sleepBlock l)) ∧
  (∀ (s : State) (l : Nat), l < nLinks s →
    ∃ u, exec (.laneWake l) s = .next u ∧ hasBit (u.reg (0x4100 + l) 0x0B) 0 = false) ∧
  (∀ (s : State) (l code : Nat) (c : Instr), l < nLinks s → testAllowed s l = true →
    (c = .testLoopNear l ∧ code = 1) ∨ (c = .testLoopFar l ∧ code = 2) ∨ (c = .testLoopPattern l ∧ code = 3) →
    ∃ u, exec c s = .next u ∧ linkState u l = 9 ∧ u.reg (0x4100 + l) 0x0C = code ∧
      hasBit (u.reg (0x4000 + l / 2) 2) 1 = true) ∧
  (∀ (s : State) (l : Nat), l < nLinks s → linkState s l = 9 →
    ∃ u, exec (.testLoopOff l) s = .next u ∧ linkState u l = 0 ∧ u.reg (0x4100 + l) 0x0C = 0)

/-- A column driver powers up dark, takes lines, keeps, commands and training, and reports STATUS, TELEM and results.
Cites 08 The column driver: R416, R417, R418, R420, R421, R422, R423, R426; 08 Frame-end blocks and commands: R429,
R432, R433; 08 Upstream: R435, R436, R437; 08 Block lock and adaptation: R438; 08 Training: R445, R446; 08 Sleep:
R461, R462; 08 Test loops: R467. -/
def Obligations.DriverCommands : Prop :=
  (∀ (s : State) (p : Nat), p < nPorts s →
    ∃ u, exec (.driverPowerUp p) s = .next u ∧ (u.driver p).rows = [] ∧ (u.driver p).emit = false ∧
      (u.driver p).current = 0 ∧ (u.driver p).commands = none ∧
      ∀ k, k < 2 → (laneOf u (2 * p + k)).step = 15 ∧ (laneOf u (2 * p + k)).out.head? = some (trainUp 15 false 0)) ∧
  (∀ (s : State) (l sol line depth seq : Nat) (wide : Bool) (data : List Nat), l < nLinks s →
    blockGood (laneOf s l).link sol = true → blockType sol = 0x2D → bits sol 31 26 = 0 → bits sol 25 24 = depth →
    depth ≤ 2 → bits sol 23 8 = line → line ≤ 17279 → bits sol 47 32 = seq → seqPasses (laneOf s l) seq = true →
    skipped (laneOf s l) seq = 0 → (s.driver (l / 2)).wide = wide → (packLE 8 data).length = dataBytes wide depth →
    fieldLE (packLE 8 data) (dataBytes wide depth - 4) 4 = crc32c ((laneOf s l).link * 2 ^ 16 + line)
      (slice (natLE sol 8) 1 5 ++ (packLE 8 data).take (dataBytes wide depth - 4)) →
    (depth = 0 → (s.driver (l / 2)).halfLines.contains (line, !(l % 2 == 1)) = false) →
    ∃ u, exec (.driverSolReceive l sol data) s = .next u ∧ (laneOf u l).accepted = seq ∧
      (∀ r ∈ shownCodes wide depth (l % 2) (max 1 (u.driver (l / 2)).replicate)
        (leNat ((packLE 8 data).take (dataBytes wide depth - 4))),
        amGet (u.driver (l / 2)).rows (2 * line + r.1) = some r.2) ∧
      ∀ k, k / 2 ≠ line → amGet (u.driver (l / 2)).rows k = amGet (s.driver (l / 2)).rows k) ∧
  (∀ (s : State) (l sol : Nat) (data : List Nat), l < nLinks s → blockGood (laneOf s l).link sol = false →
    ∃ u, exec (.driverSolReceive l sol data) s = .next u ∧ (u.driver (l / 2)).rows = (s.driver (l / 2)).rows ∧
      ∀ k, k / 2 = l / 2 → (laneOf s k).step = 0 → ∃ fe m, (laneOf u k).out.head? =
        some (statusBlock (laneOf s k).link ((hearDown l s).driver (l / 2)).lower.lock
          ((hearDown l s).driver (l / 2)).upper.lock true fe
          (s.driver (l / 2)).emit m (laneOf s k).accepted (laneOf s k).discards)) ∧
  (∀ (s : State) (l b line seq : Nat), l < nLinks s → blockGood (laneOf s l).link b = true → blockType b = 0x3C →
    bits b 31 24 = 0 → bits b 23 8 = line → line ≤ 17279 → bits b 47 32 = seq → seqPasses (laneOf s l) seq = true →
    skipped (laneOf s l) seq = 0 →
    ∃ u, exec (.driverKeepReceive l b) s = .next u ∧ (laneOf u l).seq = some seq ∧
      (u.driver (l / 2)).rows = (s.driver (l / 2)).rows ∧
      (line = 0 → l % 2 = 0 → (laneOf s l).lock = true →
        (∀ cs, (s.driver (l / 2)).commands = some cs → (u.driver (l / 2)).commands = none ∧
          (u.driver (l / 2)).current = (cs.foldl driverCommand (s.driver (l / 2))).current ∧
          (u.driver (l / 2)).emit = (cs.foldl driverCommand (s.driver (l / 2))).emit) ∧
        ((s.driver (l / 2)).commands = none → (u.driver (l / 2)).feMiss = true))) ∧
  (∀ (s : State) (l head : Nat) (cmds : List Nat), l < nLinks s → blockGood (laneOf s l).link head = true →
    blockType head = 0x55 → bits head 47 46 = 0 → bits head 43 40 = cmds.length →
    (∀ c ∈ cmds, blockGood (laneOf s l).link c = true ∧ blockType c = 0x66) → (s.driver (l / 2)).commands = none →
    ∃ u, exec (.driverFrameEndReceive l head cmds) s = .next u ∧
      (u.driver (l / 2)).commands = some (cmds.map fun c => (bits c 15 8, bits c 47 16))) ∧
  (∀ (s : State) (l : Nat), l < nLinks s → (laneOf s l).asleep = false → (laneOf s l).lock = true →
    ∃ u, exec (.driverDownstreamLockLoss l) s = .next u ∧ (laneOf u l).lock = false) ∧
  (∀ (s : State) (l : Nat), l < nLinks s →
    ∃ u, exec (.driverDownstreamLockGain l) s = .next u ∧ (laneOf u l).lock = true ∧ (laneOf u l).asleep = false) ∧
  (∀ (s : State) (p k : Nat), p < nPorts s → k < 2 → (laneOf s (2 * p + k)).lock = false →
    ∃ u, exec (.driverLockLossTimeout p) s = .next u ∧ (laneOf u (2 * p + k)).step = 15 ∧
      (laneOf u (2 * p + k)).out.head? = some (trainUp 15 false 0)) ∧
  (∀ (s : State) (l margin : Nat), l < nLinks s → margin < 64 → (laneOf s l).step = 0 →
    ∃ u, exec (.driverStatusSend l margin) s = .next u ∧ (laneOf u l).discards = 0 ∧ (u.driver (l / 2)).feMiss = false ∧
      (laneOf u l).out.head? = some (statusBlock (laneOf s l).link (s.driver (l / 2)).lower.lock
        (s.driver (l / 2)).upper.lock false (s.driver (l / 2)).feMiss (s.driver (l / 2)).emit margin
        (laneOf s l).accepted (laneOf s l).discards)) ∧
  (∀ (s : State) (l value : Nat), l < nLinks s → value < 2 ^ 32 → (laneOf s l).step = 0 →
    ∃ u, exec (.driverTelemSend l value) s = .next u ∧
      (1 ≤ (s.driver (l / 2)).telem → (s.driver (l / 2)).telem ≤ 8 →
        ((s.driver (l / 2)).upSleep = false → (laneOf u l).out.head? =
          some (telemBlock (laneOf s l).link (s.driver (l / 2)).telem value)) ∧
        ((s.driver (l / 2)).upSleep = true → (laneOf u l).upAsleep = true ∧ (laneOf u l).out.take 2 =
          [sleepBlock (laneOf s l).link, telemBlock (laneOf s l).link (s.driver (l / 2)).telem value])) ∧
      (8 < (s.driver (l / 2)).telem → u.dev.drivers = s.dev.drivers)) ∧
  (∀ (s : State) (l b : Nat), l < nLinks s →
    (trainDownGood b = true → 1 ≤ bits b 11 8 → bits b 11 8 ≤ 6 →
      ∃ u, exec (.driverTrainReceive l b) s = .next u ∧
        (laneOf u l).step = (if bits b 11 8 = 6 then 0 else bits b 11 8) ∧ (bits b 11 8 = 6 → (laneOf u l).seq = none)) ∧
    (trainDownGood b = false → capGood b = true →
      ∃ u, exec (.driverTrainReceive l b) s = .next u ∧ (laneOf u l).link = bits b 15 8 ∧
        (u.driver (l / 2)).wide = hasBit b 17)) ∧
  (∀ (s : State) (l margin : Nat), l < nLinks s → margin < 64 → (laneOf s l).step ≠ 0 →
    ∃ u, exec (.driverTrainSend l margin) s = .next u ∧
      (((laneOf s l).step = 3 → (laneOf s l).cap = true ∨ ((laneOf s l).trains + 1) % 4 ≠ 0) →
        (laneOf u l).out.head? = some (trainUp (laneOf s l).step (laneOf s l).lock margin)) ∧
      ((laneOf s l).step = 3 → (laneOf s l).cap = false → ((laneOf s l).trains + 1) % 4 = 0 →
        (laneOf u l).out.take 3 = (capUpBlocks (l / 2)).reverse ++ [trainUp 3 (laneOf s l).lock margin])) ∧
  (∀ (s : State) (l errors : Nat) (c : Instr), l < nLinks s →
    (c = .driverPatternEnd l errors ∧ (laneOf s l).step = 5) ∨
      (c = .patternTestResultSend l errors ∧ s.reg (0x4100 + l) 1 = 9 ∧ s.reg (0x4100 + l) 0x0C = 3) →
    ∃ u, exec c s = .next u ∧ (laneOf u l).out.head? = some (resultBlock errors))

/-- The lens is driven frame by frame or phase by phase, its bias starts, is measured and faults, and zones reach
targets. Cites 09 Bias levels: R477, R480, R481; 09 Monostable drive: R482, R486; 09 Bistable drive: R487, R488,
R489; 09 Targets and transitions: R497, R498, R499; 09 The bistable journal: R502, R507; 09 Temperature bands: R512;
09 Faults: R514. -/
def Obligations.LensDriveCommands : Prop :=
  (∀ s : State, hasLens s = true → s.dev.lens.bistable = false → s.dev.lens.bias = 1 → s.dev.lens.onHold = false →
    ∃ u, exec .driveFrameBoundary s = .next u ∧ u.reg 0x4400 6 = s.dev.lens.nextBand.getD s.dev.lens.band ∧
      u.dev.lens.inverted = (s.dev.lens.inverted == turnedAt s.dev.lens 48) ∧
      u.dev.lens.flips = [] ∧ u.dev.lens.reached = s.dev.lens.reached ∧
      ∀ z t, amGet s.dev.lens.transitions z = some t → (amGet u.dev.lens.transitions z).map (·.overdrive) =
        some (some (match t.overdrive with | none => overdriveFrames u | some k => k - 1))) ∧
  (∀ (s : State) (z : Nat) (t : Transition), hasLens s = true → z < 12288 →
    amGet s.dev.lens.transitions z = some t → t.overdrive = some 0 → zoneDead s z = false →
    ∃ u, exec (.zoneTargetReached z) s = .next u ∧ hasBit u.dev.lens.reached z = t.to2D ∧
      u.dev.lens.reports = s.dev.lens.reports ++ [(z, t.to2D)]) ∧
  (∀ (s : State) (z : Nat) (r : Nat × Bool), hasLens s = true → z < 12288 →
    (s.dev.lens.reports.find? fun r => r.1 == z) = some r → s.dev.bringup.inReset = false →
    ∃ u, exec (.zoneReportReceive z) s = .next u ∧ u.dev.lens.arrived = s.dev.lens.arrived ++ [r] ∧
      u.dev.lens.reports = s.dev.lens.reports.erase r) ∧
  (∀ (s : State) (v33 : Nat), hasLens s = true → s.dev.lens.bias < 2 → s.dev.lens.onHold = false →
    s.dev.lens.inReset = false → s.dev.lens.paused = false → v33 ≠ 0 →
    (s.dev.lens.bistable = true → s.dev.lens.phase = .starting) →
    ∃ u, exec (.biasSourceStart v33) s = .next u ∧ domainState u 38 = 2 ∧
      (s.dev.lens.pump = true → 2 ≤ u.reg 0x4403 2 ∧ u.reg 0x4403 2 ≤ 8 ∧
        (u.reg 0x4403 2 < 8 → 10 * v4Setting u ≤ 9 * v33 * u.reg 0x4403 2)) ∧
      (s.dev.lens.pump = false → u.reg 0x4403 2 = 0) ∧ (s.dev.lens.bistable = false → u.dev.lens.bias = 1) ∧
      (s.dev.lens.bistable = true → u.dev.lens.bias = 1 ∧
        u.dev.lens.phase = .pulsing ∧ u.dev.lens.commons = commonList s.dev.lens.mask ∧
        u.dev.lens.repeats = biRepeats u)) ∧
  (∀ (s : State) (v33 : Nat), hasLens s = true → s.dev.lens.bistable = true → s.dev.lens.phase ≠ .starting →
    ∃ u, exec (.biasSourceStart v33) s = .next u ∧ u.dev.lens = s.dev.lens) ∧
  (∀ (s : State) (c : Nat) (cs : List Nat), hasLens s = true → s.dev.lens.phase = .pulsing → s.dev.lens.commons = c :: cs →
    s.dev.lens.onHold = false → s.dev.lens.queued = false →
    ∃ u, exec .pulsePhaseEnd s = .next u ∧
      (1 < s.dev.lens.repeats → s.dev.bringup.inReset = false → u.dev.lens.repeats = s.dev.lens.repeats - 1 ∧ u.dev.lens.commons = c :: cs ∧
        u.dev.lens.phase = .pulsing) ∧
      (1 < s.dev.lens.repeats → s.dev.bringup.inReset = true → u.dev.lens.paused = true ∧ u.dev.lens.bias = 0) ∧
      (s.dev.lens.repeats ≤ 1 → cs ≠ [] → s.dev.bringup.inReset = false → u.dev.lens.commons = cs ∧
        u.dev.lens.phase = .pulsing ∧ u.dev.lens.repeats = biRepeats u) ∧
      (s.dev.lens.repeats ≤ 1 → cs = [] → u.dev.lens.phase = .writingEnd ∧ u.dev.lens.bias = 0 ∧
        ∃ r : StoreReq, r.target = .ring 1 ∧ r.use = .journalEnd ∧ r.bytes = natLE s.dev.lens.writing 4 ∧
          (r ∈ u.nv.queue ∨ u.nv.writing.map (·.req) = some r))) ∧
  (∀ (s : State) (v4 v0 v1 v2 v3 : Nat), hasLens s = true → v4 < 65536 →
    ∃ u, exec (.biasMeasure v4 v0 v1 v2 v3) s = .next u ∧ u.reg 0x4403 1 = v4 ∧
      (s.dev.lens.bias = 1 →
        (∀ k, k < 5 → nth u.dev.lens.outOfRange k =
          if outside3 (nth [v0, v1, v2, v3, v4] k) (nth (biasLevels s) k) then nth s.dev.lens.outOfRange k + 1 else 0) ∧
        ((∀ k, k < 5 → outside3 (nth [v0, v1, v2, v3, v4] k) (nth (biasLevels s) k) = true →
          nth s.dev.lens.outOfRange k < 9) → u.dev.lens.bias = 1) ∧
        ((∃ k, k < 5 ∧ outside3 (nth [v0, v1, v2, v3, v4] k) (nth (biasLevels s) k) = true ∧
            9 ≤ nth s.dev.lens.outOfRange k) →
          u.dev.lens.bias = 2 ∧ counted s u 0x4403 4 ∧ (canLog s → eventLogged 514 s u)))) ∧
  (∀ s : State, hasLens s = true → s.dev.lens.bias = 1 →
    ∃ u, exec .biasOvervoltageTrip s = .next u ∧ u.dev.lens.bias = 2 ∧ counted s u 0x4403 4 ∧ u.reg 0x4403 2 = 0 ∧
      (s.reg 0x4420 2 = 1 ∨ s.reg 0x4420 2 = 3 ∨ s.reg 0x4420 2 = 5 → u.reg 0x4420 2 = 4) ∧ (canLog s → eventLogged 514 s u)) ∧
  (∀ s : State, hasLens s = true →
    ∃ u, exec .lensBandChange s = .next u ∧ u.dev.lens.band = s.dev.lens.band ∧
      u.dev.lens.nextBand.getD u.dev.lens.band = 
        bandNext (s.dev.lens.nextBand.getD s.dev.lens.band) (lensTemperature s))

/-- The DC monitor integrates, inverts and stops the layer; faults, retries, restarts and hold-up act on the lens. Cites
09 The DC-balance monitor: R491, R492, R493; 09 Faults: R514, R905; 18 Drive-die hold-up: R882, R883, R885; 09 The
bistable journal: R506. -/
def Obligations.LensFaultCommands : Prop :=
  (∀ (s : State) (out : Nat) (v : Int), hasLens s = true → out < 536 → layerDriven s = true →
    ∃ u, exec (.dcMonitorSample out v) s = .next u ∧
      amGetD u.dev.lens.integrals out 0 = amGetD s.dev.lens.integrals out 0 + (2 * v - v4Setting s) ∧
      ∀ o, o ≠ out → amGetD u.dev.lens.integrals o 0 = amGetD s.dev.lens.integrals o 0) ∧
  (∀ (s : State) (out : Nat), hasLens s = true → out < 536 →
    2000 * s.reg 0x4402 1 < (amGetD s.dev.lens.integrals out 0).natAbs → s.dev.lens.bistable = false →
    ∃ u, exec (.forcedInversion out) s = .next u ∧ u.dev.lens.flips = nextTurn s :: s.dev.lens.flips ∧
      u.dev.lens.inverted = s.dev.lens.inverted ∧ counted s u 0x4402 2) ∧
  (∀ (s : State) (out : Nat), hasLens s = true → out < 536 →
    2000 * (4 * s.reg 0x4402 1) ≤ (amGetD s.dev.lens.integrals out 0).natAbs → s.dev.lens.bias ≠ 3 →
    ∃ u, exec (.dcStop out) s = .next u ∧ u.dev.lens.bias = 3 ∧ u.reg 0x4403 2 = 0 ∧ counted s u 0x4402 5 ∧
      (canLog s → eventLogged 493 s u)) ∧
  (∀ (s : State) (c : Instr), hasLens s = true →
    (c = .biasRetry ∧ s.dev.lens.bias = 2 ∧ s.dev.lens.retries < 3) ∨ (c = .layerRestart ∧ 2 ≤ s.dev.lens.bias) →
    ∃ u, exec c s = .next u ∧ u.dev.lens.bias = (if s.dev.lens.bistable then 0 else 1) ∧
      (c = .biasRetry → u.dev.lens.retries = s.dev.lens.retries + 1) ∧ (c = .layerRestart → u.dev.lens.retries = 0) ∧
      (s.dev.lens.redrive = false → u.dev.lens.target = wantedMap s) ∧
      (s.dev.lens.redrive = false → zonesDiffering s s.dev.lens.reached (wantedMap s) ≠ [] →
        u.reg 0x4420 1 = (s.reg 0x4420 1 + 1) % 2 ^ 32 ∧ u.reg 0x4420 2 = 1)) ∧
  (∀ s : State, hasLens s = true → s.dev.lens.bias = 2 → 3 ≤ s.dev.lens.retries →
    ∃ u, exec .biasRetry s = .next u ∧ u.dev.lens.bias = 2) ∧
  (∀ (s : State) (out : Nat), hasLens s = true → out < 536 → s.dev.lens.hiZ.contains out = false →
    ∃ u, exec (.outputFault out) s = .next u ∧ u.dev.lens.hiZ.contains out = true ∧ counted s u 0x4403 5 ∧
      hasBit (u.reg 0x6030 3) 2 = true ∧ (canLog s → eventLogged 514 s u)) ∧
  (∀ s : State, s.dev.lens.phase ≠ .pulsing →
    ∃ u, exec .holdupSwitch s = .next u ∧ u.dev.lens.onHold = true ∧ u.dev.bringup.v33Low = true ∧
      u.dev.lens.bias = 0 ∧ u.reg 0x4403 2 = 0) ∧
  (∀ (s : State) (mv : Nat), mv < 10000 → s.dev.bringup.v33Low = false → canLog s →
    ∃ u, exec (.vholdLowLog mv) s = .next u ∧ eventLogged 885 s u)

/-- Record writes take the other copy, page writes are verified, repeated or fail, and the drive die resets. Cites 13
The store: R705, R707; 01 Running without firmware: R60; 09 The bistable journal: R507; 13 Records: R715, R717; 13
Two copies: R718; 09 Outputs and zones: R475; 09 The DC-balance monitor: R493; 17 Resets: R859, R861, R862; 18
Drive-die hold-up: R883. -/
def Obligations.StoreCommands : Prop :=
  (∀ (s : State) (r : Nat) (payload : List Byte), r < 1024 → payload.length ≤ 52 → s.nv.queue = [] →
    s.nv.writing = none → s.dev.lens.onHold = false → recordType r ≠ 0 → (r = 12 → coresStopped s = false) →
    (s.dev.lens.paused = true → r < 144 ∨ 192 ≤ r) →
    ∃ u w, exec (.recordWrite r payload) s = .next u ∧ u.nv.writing = some w ∧
      (amGet s.nv.records r = none → s.nv.worn.contains r = false →
        w.page = r ∧ w.bytes = recordPage r (recordType r) 0 1 payload) ∧
      (∀ v, amGet s.nv.records r = some v → v.single = false →
        (v.inA = false → s.nv.worn.contains r = false →
          w.page = r ∧ w.bytes = recordPage r (recordType r) 0 ((v.seq + 1) % 2 ^ 32) payload) ∧
        (v.inA = true → s.nv.worn.contains (1024 + r) = false →
          w.page = 1024 + r ∧ w.bytes = recordPage (1024 + r) (recordType r) 1 ((v.seq + 1) % 2 ^ 32) payload))) ∧
  (∀ (s : State) (payload : List Byte), payload.length ≤ 52 → coresStopped s = true →
    ∃ u, exec (.recordWrite 12 payload) s = .next u ∧ storeAsked u (.record 12) payload ∧
      (s.nv.queue = [] → s.nv.writing = none → u.nv.writing = none)) ∧
  (∀ (s : State) (r : Nat) (payload : List Byte), r < 1024 → payload.length ≤ 52 → recordType r = 0 →
    ∃ u, exec (.recordWrite r payload) s = .next u ∧ u.nv = s.nv) ∧
  (∀ (s : State) (w : StoreWrite), s.nv.writing = some w →
    (w.attempts < 3 → ∃ u, exec (.storeWriteComplete false) s = .next u ∧
      u.nv.writing = some { w with attempts := w.attempts + 1 } ∧
      u.reg 0x5820 3 = (s.reg 0x5820 3 + 1) % 2 ^ 32) ∧
    (s.nv.queue = [] → s.dev.delayed = [] → w.req.use = .none → w.req.answers = [] →
      (∀ n, w.req.target = .record n → w.bytes ≠ emptyPage →
        ∃ u, exec (.storeWriteComplete true) s = .next u ∧ u.nv.writing = none ∧ pageBytes u.nv w.page = w.bytes ∧
          recordPayload u n = some (slice w.bytes 8 (fieldLE w.bytes 2 1)) ∧
          (amGet u.nv.records n).map (·.seq) = some (fieldLE w.bytes 4 4)) ∧
      (3 ≤ w.attempts →
        ∃ u, exec (.storeWriteComplete false) s = .next u ∧ u.nv.writing = none ∧ u.nv.worn.contains w.page = true ∧
          counted s u 0x5820 4 ∧ hasBit (u.reg 0x6030 3) 8 = true ∧ (canLog s → eventLogged 707 s u)))) ∧
  (∀ s : State, (s.nv.writing = none → ∃ u, exec .pageContentsRead s = .next u ∧
      u.nv.pageData = rawPage s (s.reg 0x5820 10)) ∧
    (s.nv.writing ≠ none → ∃ u, exec .pageContentsRead s = .next u ∧ u.nv.pageRead = some (s.reg 0x5820 10))) ∧
  (∀ (s : State) (c : Instr) (cause : Nat), s.dev.delayed = [] →
    (c = .driveDieReset ∧ cause = 4) ∨ (c = .driveDieSupplyRestore ∧ cause = 4 ∧ s.dev.bringup.v33Low = true) ∨
      (c = .driveDieResetCommand ∧ cause = 2 ∧ driveResetAllowed s = true) →
    ∃ u, exec c s = .next u ∧ u.reg 0x6010 2 = cause ∧ u.dev.lens.onHold = false ∧ u.dev.bringup.v33Low = false ∧
      (hasLens s = true → u.dev.lens.bias = 0 ∧ u.dev.lens.integrals = [] ∧
        u.dev.lens.bistable = (s.reg 0x4400 1 == 2) ∧ u.dev.lens.highIs3D = (s.reg 0x4400 2 == 1) ∧
        u.dev.lens.pump = (s.reg 0x4400 3 == 1)) ∧
      u.dev.timing = s.dev.timing ∧ u.dev.live = s.dev.live ∧ u.hbm = s.hbm ∧ u.bank = s.bank ∧ u.fuses = s.fuses)

/-- Sensors read, fail, are checked, repaired and retired; the octave steps by H; the thermal fault begins and ends.
Cites 14 Sensors: R729, R730, R733, R736, R737, R738, R739; 14 The octave: R742, R743, R744, R746, R747; 14 Thermal
fault: R749, R750, R753. -/
def Obligations.SensorAndOctaveCommands : Prop :=
  (∀ (s : State) (i : Nat) (raw : Int), i < 52 →
    ∃ u, exec (.sensorReading i raw) s = .next u ∧ (u.sensor i).reading = raw + sensorOffset s i ∧
      (u.sensor i).valid = true ∧
      (sensorState s i = 0 → raw + sensorOffset s i < -5500 ∨ 15000 < raw + sensorOffset s i →
        sensorState u i = 1 ∧ counted s u 0x5403 4 ∧ hasBit (u.reg 0x6030 3) 2 = true ∧ u.reg 0x5403 3 = 1 ∧
        (canLog s → eventLogged 733 s u))) ∧
  (∀ (s : State) (i : Nat), i < 52 → sensorState s i = 0 →
    ∃ u, exec (.sensorConversionTimeout i) s = .next u ∧ sensorState u i = 1 ∧ counted s u 0x5403 4 ∧
      hasBit (u.reg 0x6030 3) 2 = true ∧ (canLog s → eventLogged 733 s u)) ∧
  (∀ (s : State) (td : Int),
    ∃ u, exec (.tdCrossCheck td) s = .next u ∧ u.dev.thermal.td = td ∧
      ∀ i ∈ [27, 28, 35, 36], sensorState s i = 0 →
        (((s.sensor i).reading - td).natAbs ≤ 800 → sensorState u i = 0 ∧ (u.sensor i).crossFails = 0) ∧
        (800 < ((s.sensor i).reading - td).natAbs → 2 ≤ (s.sensor i).crossFails → sensorState u i = 1)) ∧
  (∀ (s : State) (i t0 : Nat), i < 52 → (s.sensor i).goodSince = some t0 → sensorState s i = 1 →
    t0 + 60 * 10 ^ 12 ≤ s.now → ∃ u, exec (.sensorRepair i) s = .next u ∧ sensorState u i = 0) ∧
  (∀ (s : State) (i : Nat) (c : Instr), i < 52 → serviceInForce s = true →
    (c = .retireSensor i ∧ sensorState s i = 1 → ∃ u, exec c s = .next u ∧ sensorState u i = 2) ∧
    (c = .restoreSensor i ∧ sensorState s i = 2 → ∃ u, exec c s = .next u ∧ sensorState u i = 1)) ∧
  (∀ (s : State) (theta w h : Int) (k : Nat), theta = toSigned 16 (s.reg 0x5410 3) → w = s.reg 0x5410 4 →
    h = (hottest s).1 → k = s.reg 0x5410 1 →
    ∃ u, exec .octaveEvaluate s = .next u ∧ u.reg 0x5410 2 = gUp theta w h ∧
      u.reg 0x5410 6 = s.reg 0x5410 5 % 4096 * (50 - 3 * u.reg 0x5410 1) / 50 ∧
      (k < gUp theta w h → u.reg 0x5410 1 = k + 1 ∧ counted s u 0x5410 8) ∧
      (gUp theta w h ≤ k → gUp theta w (h + 200) < k → anySensorFailed s = false → s.dev.thermal.fault = false →
        u.reg 0x5410 1 = k - 1 ∧ counted s u 0x5410 9) ∧
      (gUp theta w h ≤ k → k ≤ gUp theta w (h + 200) ∨ anySensorFailed s = true ∨ s.dev.thermal.fault = true →
        u.reg 0x5410 1 = k)) ∧
  (∀ s : State, s.dev.thermal.clockPending = true → clustersOff s = false →
    ∃ u, exec .octaveClockStepApply s = .next u ∧ u.reg 0x2110 4 = (3000 - 75 * s.reg 0x5410 1) / 2 ∧
      u.dev.thermal.clockPending = false) ∧
  (∀ (s : State) (j : Nat), s.dev.thermal.fault = false → 10500 ≤ (hottest s).1 → j < 52 → 3 ≤ (s.sensor j).hot →
    ∃ u, exec .thermalFaultEnter s = .next u ∧ u.dev.thermal.fault = true ∧ u.reg 0x5410 1 = 8 ∧ u.reg 0x5411 1 = 1 ∧
      counted s u 0x5411 2 ∧ u.reg 0x5411 3 = frameNo s ∧ (canLog s → eventLogged 750 s u)) ∧
  (∀ (s : State) (t0 : Nat), s.dev.thermal.coolSince = some t0 → s.dev.thermal.fault = true → t0 + 10 ^ 13 ≤ s.now →
    ∃ u, exec .thermalFaultEnd s = .next u ∧ u.dev.thermal.fault = false ∧ u.dev.od = s.dev.od)

/-- Domains report power-good or fail, the decoders' domain switches off idle, and the statistics rings are written.
Cites 14 Power domains: R754, R756, R757; 14 The octave: R746, R748; 13 Rings: R722. -/
def Obligations.DomainAndStatisticsCommands : Prop :=
  (∀ (s : State) (d : Nat), domainHere s d = true → domainState s d = 1 →
    (∃ u, exec (.domainPowerGood d) s = .next u ∧ domainState u d = 2 ∧
      (d < 25 → s.dev.thermal.clockPending = true → u.reg 0x2110 4 = clockMHz (s.reg 0x5410 1))) ∧
    (∃ u, exec (.domainWakeTimeout d) s = .next u ∧ domainState u d = 3 ∧ counted s u 0x5432 1 ∧
      hasBit (u.reg 0x6030 3) 2 = true ∧ (canLog s → eventLogged 757 s u) ∧
      (d < 25 → ∀ i, i / 4 = d → clusterHere s i = true → clusterFailed u i = true))) ∧
  (∀ s : State, clustersOff s = true → s.dev.jobs = [] → s.dev.copies = [] →
    (s.dev.protectedSlots.any fun p => p.2.state == 1) = false → (s.dev.clips.any fun e => e.2.state == 2) = false →
    domainState s 25 ≠ 3 → ∃ u, exec .decoderDomainIdleOff s = .next u ∧ domainState u 25 = 0) ∧
  (∀ s : State, ∃ u, exec .onHoursWrite s = .next u ∧ u.dev.thermal.onHours = s.dev.thermal.onHours + 1 ∧
    ∃ r : StoreReq, r.target = .ring 2 ∧ r.bytes = onHoursPayload u.dev.thermal ∧
      (r ∈ u.nv.queue ∨ (u.nv.writing.map (·.req)) = some r)) ∧
  (∀ s : State, s.dev.thermal.changed = true →
    ∃ u, exec .throttleWrite s = .next u ∧ u.dev.thermal.changed = false ∧
      ∃ r : StoreReq, r.target = .ring 3 ∧ r.bytes = throttlePayload u.dev.thermal ∧
        (r ∈ u.nv.queue ∨ (u.nv.writing.map (·.req)) = some r))

/-- The services of the object dictionary, as the mailbox gives them, and its doorbell. Cites 15 Abort codes: R770,
R771; 15 The Nymod control protocol: R780, R781, R782, R783, R784; 15 The PCIe mailbox: R789, R790, R791. -/
def Obligations.MailboxServices : Prop :=
  (∀ (s : State) (r : Request) (w : ObjRow), mailIdle s → objHere s r.index r.sub = some w →
    mayRead s .mailbox r.index r.sub = true → r.data.length ≤ 16384 → misused 1 r = false → pageWait s 1 r = false →
    valueSize s w r.index r.sub ≤ 16384 →
    ∃ u, exec (.readObject .mailbox r) s = .next u ∧
      mailAnswer u 1 { index := r.index, sub := r.sub, typ := w.typ, size := valueSize s w r.index r.sub
                       data := readBytes s w r.index r.sub } ∧
      (w.access = 4 → w.typ = 4 → u.reg r.index r.sub = 0)) ∧
  (∀ (s : State) (r : Request) (w : ObjRow), mailIdle s → objHere s r.index r.sub = some w →
    mayRead s .mailbox r.index r.sub = true → 11 ≤ w.typ → r.length ≤ 16384 → misused 3 r = false →
    pageWait s 3 r = false →
    ∃ u, exec (.readSeg .mailbox r) s = .next u ∧
      mailAnswer u 3 { index := r.index, sub := r.sub, typ := w.typ, size := valueSize s w r.index r.sub
                       data := slice (readBytes s w r.index r.sub) r.offset r.length }) ∧
  (∀ (s : State) (r : Request) (w : ObjRow), mailIdle s → objHere s r.index r.sub = some w → r.data.length ≤ 16384 →
    (mayWrite s .mailbox w r.index r.sub = false →
      exec (.writeObject .mailbox r) s = .next
        (mailAnswered 2 { index := r.index, sub := r.sub, typ := w.typ, abort := abDenied } (hostHeard s))) ∧
    (mayWrite s .mailbox w r.index r.sub = true → r.typ = w.typ → misused 2 r = false →
      (w.access = 0 ∨ w.access = 4 → exec (.writeObject .mailbox r) s = .next
        (mailAnswered 2 { index := r.index, sub := r.sub, typ := w.typ, size := valueSize (hostHeard s) w r.index r.sub }
          (hostHeard s))) ∧
      (w.access = 3 → r.sub ≠ 0 → lengthGood w r.data.length = true →
        ∃ u, exec (.writeObject .mailbox r) s = .next u ∧ u.dev.host.mailState = 2 ∧ u.reg r.index r.sub =
          s.reg r.index r.sub - (s.reg r.index r.sub &&& leNat r.data)) ∧
      (∀ x a, writeWhole .mailbox w r r.data [(2, .mailbox, r)] (hostHeard s) = (some a, x) → x.dev.delayed = [] →
        ∃ u n, exec (.writeObject .mailbox r) s = .next u ∧ u.dev.od = x.dev.od ∧ u.nv = x.nv ∧
          mailAnswer u 2 { index := r.index, sub := r.sub, typ := w.typ, abort := a, size := n }) ∧
      (∀ x, writeWhole .mailbox w r r.data [(2, .mailbox, r)] (hostHeard s) = (none, x) → x.dev.delayed = [] →
        ∃ u, exec (.writeObject .mailbox r) s = .next u ∧ u.dev.od = x.dev.od ∧ u.nv = x.nv ∧
          u.dev.host = x.dev.host))) ∧
  (∀ (s : State) (r : Request) (w : ObjRow), mailIdle s → objHere s r.index r.sub = some w → r.index = 0x1210 →
    r.sub = 2 → mayWrite s .mailbox w 0x1210 2 = true → r.typ = w.typ → misused 2 r = false → r.data.length = 2 →
    5 ≤ leNat r.data → leNat r.data ≤ 3600 →
    ∃ u, exec (.writeObject .mailbox r) s = .next u ∧ u.reg 0x1210 2 = leNat r.data ∧
      ∀ i j, key i j ≠ key 0x1210 2 → u.reg i j = s.reg i j) ∧
  (∀ (s : State) (r : Request) (w : ObjRow), mailIdle s → objHere s r.index r.sub = some w → r.data.length ≤ 16384 →
    (r.offset ≠ 0 → (∀ t, s.dev.host.mailTransfer = some t → t.key ≠ key r.index r.sub ∨ t.data.length ≠ r.offset) →
      exec (.writeSeg .mailbox r) s = .next
        (mailAnswered 4 { index := r.index, sub := r.sub, typ := w.typ, abort := abOrder } (hostHeard s))) ∧
    (∀ t, r.offset ≠ 0 → s.dev.host.mailTransfer = some t → t.key = key r.index r.sub → t.data.length = r.offset →
      t.total < t.data.length + r.data.length →
      exec (.writeSeg .mailbox r) s = .next (mailAnswered 4
        { index := r.index, sub := r.sub, typ := w.typ, abort := abTooLong }
        (modHost (fun h => { h with mailTransfer := none }) (hostHeard s)))) ∧
    (mayWrite s .mailbox w r.index r.sub = true → r.typ = w.typ → 11 ≤ w.typ → misused 4 r = false →
      (r.offset = 0 → r.data.length < r.total →
        ∃ u n, exec (.writeSeg .mailbox r) s = .next u ∧ u.dev.od = s.dev.od ∧ u.dev.live = s.dev.live ∧
          u.dev.host.mailTransfer = some { key := key r.index r.sub, typ := r.typ, total := r.total, data := r.data
                                           touched := s.now } ∧
          mailAnswer u 4 { index := r.index, sub := r.sub, typ := w.typ, size := n }) ∧
      (∀ t x a, r.offset ≠ 0 → s.dev.host.mailTransfer = some t → t.key = key r.index r.sub → t.data.length = r.offset →
        t.total = t.data.length + r.data.length →
        writeWhole .mailbox w r (t.data ++ r.data) [(4, .mailbox, r)]
          (modHost (fun h => { h with mailTransfer := none }) (hostHeard s)) = (some a, x) → x.dev.delayed = [] →
        ∃ u n, exec (.writeSeg .mailbox r) s = .next u ∧ u.dev.od = x.dev.od ∧ u.nv = x.nv ∧
          mailAnswer u 4 { index := r.index, sub := r.sub, typ := w.typ, abort := a, size := n }))) ∧
  (∀ (s : State) (r : Request), mailIdle s → romServes s = false → r.data.length ≤ 16384 →
    (∀ w, objHere s r.index r.sub = some w → misused 5 r = false →
      exec (.describe .mailbox r) s = .next (mailAnswered 5
        { index := r.index, sub := r.sub, typ := w.typ, size := valueSize s w r.index r.sub
          data := natLE w.typ 1 ++ natLE w.access 1 ++ natLE w.attr 1 ++ [0] ++ natLE w.size 4 ++
            natLE (readGate s r.index r.sub) 1 ++ natLE (writeGate s w r.index r.sub) 1 ++ [0, 0] } s)) ∧
    (∀ i k w, misused 6 r = false → objHere s i k = some w → (r.index < i ∨ (r.index = i ∧ r.sub < k)) →
      (∀ j m, (objHere s j m).isSome = true → (r.index < j ∨ (r.index = j ∧ r.sub < m)) →
        i < j ∨ (i = j ∧ k ≤ m)) →
      exec (.nextObject .mailbox r) s = .next
        (mailAnswered 6 { index := i, sub := k, typ := w.typ, size := valueSize s w i k } s)) ∧
    ((∀ j m, (objHere s j m).isSome = true → j < r.index ∨ (r.index = j ∧ m ≤ r.sub)) →
      ∃ u n, exec (.nextObject .mailbox r) s = .next u ∧
        mailAnswer u 6 { index := r.index, sub := r.sub, typ := n, abort := abNone }) ∧
    (misused 7 r = false → exec (.keepalive .mailbox r) s = .next (mailAnswered 7
      { index := r.index, sub := r.sub, typ := ((objHere s r.index r.sub).map (·.typ)).getD 0 } s))) ∧
  (∀ (s : State) (value : Nat), value < 2 ^ 32 →
    (s.dev.host.mailState = 1 →
      ∃ u, exec (.mailboxDoorbell value) s = .next u ∧ u.dev.host = s.dev.host ∧ counted s u 0x1241 5) ∧
    (s.dev.host.mailState ≠ 1 → served s .mailbox = false →
      ∃ u, exec (.mailboxDoorbell value) s = .next u ∧ u.dev.host.mailState = 1 ∧
        u.dev.host.mailTag = value % 65536) ∧
    (s.dev.host.mailState ≠ 1 → served s .mailbox = true → (mailRequest s).1 = 0 ∨ 7 < (mailRequest s).1 →
      ∃ u, exec (.mailboxDoorbell value) s = .next u ∧ u.dev.host.mailTag = value % 65536 ∧
        mailAnswer u (mailRequest s).1
          { index := (mailRequest s).2.index, sub := (mailRequest s).2.sub, abort := abService }) ∧
    (s.dev.host.mailState ≠ 1 → mailIdle s → (mailRequest s).1 = 1 →
      ∃ u v, exec (.mailboxDoorbell value) s = .next u ∧ u.dev.host.mailTag = value % 65536 ∧
        exec (.readObject .mailbox (mailRequest s).2)
          ((modHost (fun h => { h with mailState := 1, mailTag := value % 65536 }) s).bumpSeq 0x1220 1) = .next v ∧
        (v.dev.delayed = [] → u.dev.host = v.dev.host ∧ u.dev.od = v.dev.od))) ∧
  (∀ (s : State) (slot : Nat), slot ≤ 16 →
    ∃ u, exec (.segmentTransferTimeout slot) s = .next u ∧
      (slot = 16 → ∀ t, s.dev.host.mailTransfer = some t → u.dev.host.mailTransfer =
        if t.touched + 10 ^ 13 ≤ s.now then none else some t) ∧
      (slot < 16 → ∀ x t, amGet s.dev.ncp.sessions slot = some (some x) → x.transfer = some t →
        amGet u.dev.ncp.sessions slot = some (some
          { x with transfer := if t.touched + 10 ^ 13 ≤ s.now then none else some t })))

/-- HELLO, OPEN, REQUEST, CLOSE and malformed frames of NCP, and what ends its sessions. Cites 10 Network ports: R518;
15 The Nymod control protocol: R773, R774, R775, R776, R777, R778, R779, R780, R785, R786; 15 Malformed frames:
R787, R788. -/
def Obligations.NcpSessions : Prop :=
  (∀ (s : State) (f : NcpHead) (slot : Nat) (nc : List Byte), nc.length = 16 → served s (.ncp f) = true →
    f.src ∉ s.dev.ncp.ignored → f.session = 0 → f.seq = 0 → allZero f.tag = true →
    ((sessionKey s slot).isSome = true →
      ∃ u nd, exec (.ncpHello f slot nc) s = .next u ∧ nd.length = 16 ∧
        u.dev.ncp.challenges.getLast? = some { src := f.src, slot := slot, nc := nc, nd := nd } ∧
        u.dev.ncp.challenges.length ≤ 16 ∧
        frameLeaves s u f.port f.src (frameBody 2 0 0 f.txn (natLE slot 1 ++ [0, 0, 0] ++ nc ++ nd) ++
          List.replicate 32 0)) ∧
    (sessionKey s slot = none →
      ∃ u, exec (.ncpHello f slot nc) s = .next u ∧ u.dev.ncp.challenges = s.dev.ncp.challenges ∧
        u.dev.ncp.sent = s.dev.ncp.sent ∧ counted s u 0x1210 4)) ∧
  (∀ (s : State) (f : NcpHead) (slot : Nat) (nc nd k : List Byte), nc.length = 16 → nd.length = 16 →
    served s (.ncp f) = true → f.src ∉ s.dev.ncp.ignored → f.session = 0 → f.seq = 0 → sessionKey s slot = some k →
    s.dev.ncp.sessions.length ≤ 16 →
    ({ src := f.src, slot := slot, nc := nc, nd := nd } ∈ s.dev.ncp.challenges →
      f.tag = hmac k (frameBody 3 0 0 f.txn (natLE slot 1 ++ [0, 0, 0] ++ nc ++ nd)) →
      (∀ i, freePlace s = some i →
        ∃ u x, exec (.ncpOpen f slot nc nd) s = .next u ∧ amGet u.dev.ncp.sessions i = some (some x) ∧ x.number ≠ 0 ∧
          sessionAt s x.number = none ∧ x.slot = slot ∧ x.high = 0 ∧ x.sendSeq = 2 ∧
          x.key = hmac k ([0x4E, 0x43, 0x50, 0x31] ++ nc ++ nd) ∧
          frameLeaves s u f.port f.src (frameBody 4 x.number 1 f.txn (natLE (s.reg 0x1210 2) 2 ++ [0, 0]) ++
            hmac x.key (frameBody 4 x.number 1 f.txn (natLE (s.reg 0x1210 2) 2 ++ [0, 0])))) ∧
      (freePlace s = none →
        ∃ u, exec (.ncpOpen f slot nc nd) s = .next u ∧ u.dev.ncp = s.dev.ncp ∧ counted s u 0x1210 6)) ∧
    ({ src := f.src, slot := slot, nc := nc, nd := nd } ∉ s.dev.ncp.challenges ∨
        f.tag ≠ hmac k (frameBody 3 0 0 f.txn (natLE slot 1 ++ [0, 0, 0] ++ nc ++ nd)) →
      ∃ u, exec (.ncpOpen f slot nc nd) s = .next u ∧ u.dev.ncp.sessions = s.dev.ncp.sessions ∧
        u.dev.ncp.sent = s.dev.ncp.sent ∧ counted s u 0x1210 4)) ∧
  (∀ (s : State) (h : NcpHead) (r : Request) (c : Instr) (svc : Nat),
    (c, svc) ∈ [(.readObject (.ncp h) r, 1), (.writeObject (.ncp h) r, 2), (.readSeg (.ncp h) r, 3),
      (.writeSeg (.ncp h) r, 4), (.describe (.ncp h) r, 5), (.nextObject (.ncp h) r, 6), (.keepalive (.ncp h) r, 7)] →
    served s (.ncp h) = true → h.src ∉ s.dev.ncp.ignored → s.dev.delayed = [] →
    (sessionAt s h.session = none ∨ (∃ i x, sessionAt s h.session = some (i, x) ∧
        h.tag ≠ hmac x.key (frameBody 5 h.session h.seq h.txn (requestBytes svc r))) →
      ∃ u, exec c s = .next u ∧ u.dev.ncp.sessions = s.dev.ncp.sessions ∧ u.dev.ncp.sent = s.dev.ncp.sent ∧
        counted s u 0x1210 4) ∧
    (∀ i x, sessionAt s h.session = some (i, x) →
      h.tag = hmac x.key (frameBody 5 h.session h.seq h.txn (requestBytes svc r)) → sequenceGood x h.seq = true →
      (∀ p, (x.responses.find? fun e => e.1 == h.txn) = some p →
        ∃ u, exec c s = .next u ∧ counted s u 0x1210 8 ∧
          frameLeaves s u h.port h.src (frameBody 6 x.number x.sendSeq h.txn p.2 ++
            hmac x.key (frameBody 6 x.number x.sendSeq h.txn p.2))) ∧
      (svc = 7 → (x.responses.find? fun e => e.1 == h.txn) = none → owedNow s = [] → misused 7 r = false →
        ∃ u y, exec c s = .next u ∧ amGet u.dev.ncp.sessions i = some (some y) ∧
          y.sendSeq = (x.sendSeq + 1) % 2 ^ 32 ∧ y.touched = s.now ∧
          frameLeaves s u h.port h.src (frameBody 6 x.number x.sendSeq h.txn (answerBytes 7
              { index := r.index, sub := r.sub, typ := ((objHere s r.index r.sub).map (·.typ)).getD 0 }) ++
            hmac x.key (frameBody 6 x.number x.sendSeq h.txn (answerBytes 7
              { index := r.index, sub := r.sub, typ := ((objHere s r.index r.sub).map (·.typ)).getD 0 })))))) ∧
  (∀ (s : State) (h : NcpHead) (i : Nat) (x : Session), served s (.ncp h) = true → h.src ∉ s.dev.ncp.ignored →
    sessionAt s h.session = some (i, x) →
    (h.tag = hmac x.key (frameBody 7 h.session h.seq h.txn []) → sequenceGood x h.seq = true →
      ∃ u, exec (.ncpClose h) s = .next u ∧ amGet u.dev.ncp.sessions i = some none) ∧
    (h.tag ≠ hmac x.key (frameBody 7 h.session h.seq h.txn []) →
      ∃ u, exec (.ncpClose h) s = .next u ∧ u.dev.ncp.sessions = s.dev.ncp.sessions ∧ counted s u 0x1210 4)) ∧
  (∀ (s : State) (p src : Nat) (bs : List Byte), p < 2 → served s (.ncp (headOf p src bs)) = true →
    src ∉ s.dev.ncp.ignored →
    (bs.length < 48 ∨ 1280 < bs.length ∨ fieldLE bs 14 2 + 48 ≠ bs.length ∨ fieldLE bs 0 1 ≠ 1 ∨
        fieldLE bs 1 1 ∈ [0, 2, 4, 6] ∨ 7 < fieldLE bs 1 1 →
      ∃ u, exec (.ncpMalformedFrame p src bs) s = .next u ∧ u.dev.ncp = s.dev.ncp ∧ counted s u 0x1210 6) ∧
    (∀ i x, 48 ≤ bs.length → bs.length ≤ 1280 → fieldLE bs 14 2 + 48 = bs.length → fieldLE bs 0 1 = 1 →
      fieldLE bs 1 1 = 5 → sessionAt s (fieldLE bs 4 4) = some (i, x) →
      slice bs (bs.length - 32) 32 = hmac x.key (bs.take (bs.length - 32)) → sequenceGood x (fieldLE bs 8 4) = true →
      (fieldLE bs 16 1 = 0 ∨ 7 < fieldLE bs 16 1) →
      ∃ u, exec (.ncpMalformedFrame p src bs) s = .next u ∧ counted s u 0x1210 6 ∧
        frameLeaves s u p src (frameBody 6 x.number x.sendSeq (fieldLE bs 12 2) (answerBytes
            (fieldLE bs 16 1) { index := fieldLE bs 18 2, sub := fieldLE bs 20 1, abort := abService }) ++
          hmac x.key (frameBody 6 x.number x.sendSeq (fieldLE bs 12 2) (answerBytes (fieldLE bs 16 1)
            { index := fieldLE bs 18 2, sub := fieldLE bs 20 1, abort := abService })))) ) ∧
  (∀ s : State, ∃ u, exec .challengeExpiry s = .next u ∧ u.dev.ncp.challenges = s.dev.ncp.challenges.drop 1) ∧
  (∀ (s : State) (slot : Nat) (x : Session), slot < 16 → amGet s.dev.ncp.sessions slot = some (some x) →
    ∃ u, exec (.sessionIdleTimeout slot) s = .next u ∧ amGet u.dev.ncp.sessions slot =
      some (if x.touched + s.reg 0x1210 2 * 10 ^ 12 ≤ s.now then none else some x)) ∧
  (∀ (s : State) (src : Nat),
    ∃ u, exec (.sourceIgnoreEnd src) s = .next u ∧ ∀ a, a ∈ u.dev.ncp.ignored ↔ a ∈ s.dev.ncp.ignored ∧ a ≠ src) ∧
  (∀ s : State,
    ∃ u, exec .ncpAddressApply s = .next u ∧ u.dev.ncp.oldAddress = none ∧
      (s.dev.ncp.oldAddress ≠ none → ∀ i, (amGet u.dev.ncp.sessions i).join = none) ∧
      (s.dev.ncp.oldAddress = none → u.dev.ncp.sessions = s.dev.ncp.sessions))

/-- VERIFY and COMMIT of a configuration image, and the dictionary request of a mode switch. Cites 15 Upload and check:
R801, R802, R803; 15 Commit and the image pointer: R804; 15 Mode switches: R811, R812. -/
def Obligations.ImageAndModeCommands : Prop :=
  (∀ s : State, s.dev.images.committing = none →
    (imageFails s true s.dev.images.buffer = none →
      (∃ u, exec .imageVerify s = .next u ∧ u.reg 0x1400 3 = 2 ∧ u.reg 0x1400 4 = 0 ∧ u.nv = s.nv ∧
        u.dev.images = s.dev.images ∧ u.dev.live = s.dev.live) ∧
      (coresStopped s = false → ∃ u, exec .imageCommit s = .next u ∧ u.reg 0x1400 3 = 4 ∧ u.reg 0x1400 4 = 0 ∧
        u.dev.images.committing = some s.dev.images.buffer ∧
        storeAsked u (.page (3072 + 192 * commitArea s)) (padTo 64 (s.dev.images.buffer.take 64)))) ∧
    (∀ d c, imageFails s true s.dev.images.buffer = some d → c = .imageVerify ∨ (c = .imageCommit ∧ coresStopped s = false) →
      ∃ u, exec c s = .next u ∧ u.reg 0x1400 3 = 3 ∧ u.reg 0x1400 4 = d ∧ u.dev.images = s.dev.images ∧ u.nv = s.nv ∧
        u.dev.live = s.dev.live ∧ (canLog s → eventLogged 802 s u))) ∧
  (∀ s : State, s.dev.images.committing = none → fieldLE s.dev.images.buffer 0 4 ≠ 0x4D4F4C48 →
    ∃ u, exec .imageVerify s = .next u ∧ u.reg 0x1400 3 = 3 ∧ u.reg 0x1400 4 = 1) ∧
  (∀ s : State, s.dev.images.committing = none → headerImage s.dev.images.buffer = true →
    imageT s.dev.images.buffer ≠ s.dev.images.buffer.length →
    ∃ u, exec .imageVerify s = .next u ∧ u.reg 0x1400 3 = 3 ∧ u.reg 0x1400 4 = 2) ∧
  (∀ (s : State) (c : Instr), s.dev.images.committing ≠ none → c = .imageVerify ∨ c = .imageCommit → exec c s = .next s) ∧
  (∀ s : State, coresStopped s = true → exec .imageCommit s = .next s) ∧
  (∀ (s : State) (m n : Nat) (reload : Bool), s.reg 0x1410 1 % 16 = m → hasBit (s.reg 0x1410 1) 7 = reload →
    (overlayCount (switchImage s reload) < m →
      ∃ u, exec .modeSubmit s = .next u ∧ u.reg 0x1410 4 = 2 ∧ u.reg 0x1410 6 = 2 ∧ u.dev.host = s.dev.host) ∧
    (m ≤ overlayCount (switchImage s reload) → targetCount s (s.reg 0x1410 2) = .ok n →
      ((∃ x ∈ s.dev.host.items, x.isMode = true ∧ x.host = false) →
        ∃ u, exec .modeSubmit s = .next u ∧ u.reg 0x1410 4 = 2 ∧ u.reg 0x1410 6 = 0x0E ∧ u.dev.host = s.dev.host) ∧
      ((∀ x ∈ s.dev.host.items, x.isMode = true → x.host = true) →
        switchFails s { num := s.dev.host.nextNum, target := n, kind := .mode m reload } m reload = none →
        ∃ u, exec .modeSubmit s = .next u ∧ u.reg 0x1410 4 = 1 ∧ u.reg 0x1410 5 = n % 2 ^ 32 ∧
          u.dev.host.items = s.dev.host.items ++
            [{ num := s.dev.host.nextNum, target := n, kind := .mode m reload }])))

/-- Ceiling writes, key writes, life-cycle transitions and the end of an erasure. Cites 01 Running without firmware:
R60; 16 States: R819, R820, R821, R822, R823; 16 Keys and rights: R826, R828, R830; 16 Gates: R834; 16 Bounds on
faulty firmware: R838, R839; 06 Radiance governor: R335. -/
def Obligations.LifeCycleAndCeilingCommands : Prop :=
  (∀ (s : State) (c : Ceiling) (v : Nat) (i : Instr), i = .ceilingWrite c v ∨ (i = .hardwareCeilingWrite v ∧ c = .radiance) →
    (ceilingRange c v = false ∨ gateOf s = .blank ∨ gateOf s = .retired → exec i s = .next s) ∧
    (ceilingRange c v = true → coresStopped s = false → gateOf s = .maker →
      ∃ u, exec i s = .next u ∧ u.ceilings = s.ceilings ∧
        storeAsked u (.record 1) (ceilingsPayload ((intendedCeilings s 1).set v c)) ∧
        storeAsked u (.record 2) (ceilingsPayload ((intendedCeilings s 2).set v c))) ∧
    (ceilingRange c v = true → gateOf s = .openState ∨ gateOf s = .locked ∨ gateOf s = .returned →
      (s.ceilings.rec2.field c < v → exec i s = .next s) ∧
      (coresStopped s = false → v ≤ s.ceilings.rec2.field c → v ≤ (intendedCeilings s 2).field c →
        ∃ u, exec i s = .next u ∧ u.ceilings = s.ceilings ∧
          storeAsked u (.record 2) (ceilingsPayload ((intendedCeilings s 2).set v c))))) ∧
  (∀ (s : State) (o : Origin) (k : Nat) (p : List Byte) (w : ObjRow), k < 8 → objHere s 0x1101 (k + 1) = some w →
    (mayWrite s o w 0x1101 (k + 1) = false ∨ p.length ≠ 52 → exec (.keyWrite o k p) s = .next s) ∧
    (mayWrite s o w 0x1101 (k + 1) = true → p.length = 52 →
      (gateOf s = .openState ∨ gateOf s = .locked →
        keysHeld (fun j => if j = k then p else (intendedPayload s (4 + j)).getD []) = false →
        exec (.keyWrite o k p) s = .next s) ∧
      (keyAbort p = 0 → coresStopped s = false →
        (gateOf s = .openState ∨ gateOf s = .locked →
          keysHeld (fun j => if j = k then p else (intendedPayload s (4 + j)).getD []) = true) →
        ∃ u, exec (.keyWrite o k p) s = .next u ∧ storeAsked u (.record (4 + k)) p))) ∧
  (∀ (s : State) (o : Origin) (target : LifeCycle), s.dev.bringup.gate = none →
    (transitionAllowed s o target = true → coresStopped s = false →
      ∃ u rights, exec (.lifecycleTransition o (0x4C434600 + target.code)) s = .next u ∧ u.fuses.state = target ∧
        u.fuses.used = s.fuses.used + 1 ∧ gateOf u = s.fuses.state ∧
        storeAsked u (.record 3)
          (lifePayload target (s.fuses.used + 1) (target == .returned || target == .retired) rights) ∧
        (s.fuses.state = .blank → u.fuses.digestFused = true ∧ u.fuses.digest = s.reg 0x1104 1) ∧
        (target = .openState → s.fuses.state ≠ .locked →
          storeAsked u (.record 2) (ceilingsPayload (intendedCeilings s 1))) ∧
        (canLog s → eventLogged 820 s u)) ∧
    (transitionAllowed s o target = false →
      exec (.lifecycleTransition o (0x4C434600 + target.code)) s = .next s)) ∧
  (∀ (s : State) (o : Origin) (v : Nat), v < 2 ^ 32 → v / 256 ≠ 0x4C4346 ∨ 5 < v % 256 ∨ s.dev.bringup.gate ≠ none →
    exec (.lifecycleTransition o v) s = .next s) ∧
  (∀ (s : State) (o : Origin) (c : Ceiling) (k v : Nat) (p : List Byte) (i : Instr), coresStopped s = true → k < 8 →
    v < 2 ^ 32 → i ∈ [.ceilingWrite c v, .hardwareCeilingWrite v, .keyWrite o k p, .lifecycleTransition o v] →
    exec i s = .next s) ∧
  (∀ s : State,
    (erasurePending s = true → s.dev.bringup.erasureLeft = [] →
      ∃ u, exec .erasureComplete s = .next u ∧ storeAsked u (.record 2) (ceilingsPayload (intendedCeilings s 1)) ∧
        storeAsked u (.record 3) (lifePayload s.fuses.state s.fuses.used false 7)) ∧
    (erasurePending s = false ∨ s.dev.bringup.erasureLeft ≠ [] → exec .erasureComplete s = .next s))

/-- Firmware boot, the restart of the management domain, and the stop of its cores. Cites 01 Running without firmware:
R59, R60; 16 Firmware: R836; 17 The proxy image: R857, R858; 17 Resets: R859; 17 Running without firmware: R864,
R865; 16 States: R818. -/
def Obligations.ManagementCommands : Prop :=
  (∀ (s : State) (a b : Option Nat), (∀ x ∈ a, x < 256) → (∀ x ∈ b, x < 256) →
    s.dev.bringup.firmwareRuns = false ∨ s.reg 0x6020 3 = 2 →
    (romServes s = true ∨ ((∀ x ∈ a, x < s.fuses.minVersion) ∧ (∀ x ∈ b, x < s.fuses.minVersion)) →
      ∃ u, exec (.firmwareBoot a b) s = .next u ∧ u.dev.bringup.firmwareRuns = false ∧ u.reg 0x6012 1 = 0xFF) ∧
    (∀ slot v, romServes s = false → s.fuses.minVersion ≤ v →
      (slot = 0 ∧ a = some v ∧ ∀ x ∈ b, x ≤ v ∨ x < s.fuses.minVersion) ∨
        (slot = 1 ∧ b = some v ∧ ∀ x ∈ a, x < v ∨ x < s.fuses.minVersion) →
      ∃ u, exec (.firmwareBoot a b) s = .next u ∧ u.dev.bringup.firmwareRuns = true ∧
        u.dev.bringup.runningVersion = v ∧ u.reg 0x6012 1 = slot ∧ u.reg 0x6020 3 = 0 ∧
        u.dev.bringup.refreshedAt = s.now ∧ (canLog s → eventLogged 857 s u))) ∧
  (∀ s : State, ∃ u, exec .managementRestartCommand s = .next u ∧ (∀ i, (amGet u.dev.ncp.sessions i).join = none) ∧
    u.dev.ncp.challenges = [] ∧ u.dev.host.mailState = 0 ∧ u.dev.host.mailTransfer = none ∧ u.dev.delayed = [] ∧
    u.nv.queue.map (fun q => (q.target, q.bytes)) = s.nv.queue.map (fun q => (q.target, q.bytes)) ∧
    (∀ q ∈ u.nv.queue, q.answers = []) ∧ u.reg 0x6010 2 = 2 ∧ u.reg 0x6020 3 = 2 ∧
    u.reg 0x6010 3 = (s.reg 0x6010 3 + 1) % 2 ^ 32 ∧ u.dev.live = s.dev.live ∧ u.dev.shadow = s.dev.shadow ∧
    u.dev.host.items = s.dev.host.items ∧ u.dev.host.queues = s.dev.host.queues ∧
    u.dev.host.fences = s.dev.host.fences ∧ u.dev.host.windows = s.dev.host.windows ∧ u.hbm = s.hbm ∧ u.bank = s.bank) ∧
  (∀ s : State, (s.reg 0x6020 3 = 2 →
      ∃ u, exec .managementRestartComplete s = .next u ∧ u.reg 0x6020 3 = 0 ∧ u.dev.bringup.refreshedAt = s.now) ∧
    (s.reg 0x6020 3 ≠ 2 → exec .managementRestartComplete s = .next s)) ∧
  (∀ s : State, ∃ u, exec .managementCoresStop s = .next u ∧ u.reg 0x6020 3 = 1 ∧ u.dev.live = s.dev.live ∧
    u.dev.host = s.dev.host ∧ u.dev.players = s.dev.players ∧ u.nv = s.nv)

/-- Power-on, the steps of power-up, and the resets of the main die. Cites 09 The bistable journal: R507; 17 Power-up:
R843, R849, R851; 17 Resets: R859, R860; 13 Start-up: R726; 18 Supplies: R880; 10 The frame grid: R538; 12 Training:
R656; 16 Bounds on faulty firmware: R839; 13 The store: R709, R711. -/
def Obligations.BringupAndResetCommands : Prop :=
  (∀ s : State, ∃ u, exec .powerOn s = .next u ∧ u.fuses = s.fuses ∧ u.hbm = [] ∧ u.bank = [] ∧ u.nv.queue = [] ∧
    u.nv.writing = none ∧ (s.nv.writing = none → u.nv.pages = s.nv.pages) ∧ u.dev.bringup.selecting = true ∧
    u.dev.bringup.firmwareRuns = false ∧ u.dev.host.items = [] ∧ u.dev.ncp.sessions = [] ∧ u.dev.live = {} ∧
    ∀ i k, k < 256 → i < 0x4400 ∨ 0x5432 ≤ i → u.reg i k = State.reset.reg i k) ∧
  (∀ s : State, (s.dev.bringup.selecting = false → exec .storeSelectionComplete s = .next s) ∧
    (s.dev.bringup.selecting = true →
      ∃ u, exec .storeSelectionComplete s = .next u ∧ u.dev.bringup.selecting = false ∧ u.fuses = s.fuses)) ∧
  (∀ s : State, s.dev.bringup.inReset = false → s.dev.bringup.selecting = false →
    (s.dev.timing.started = false →
      ∃ u, exec .firstCalends s = .next u ∧ u.dev.timing.started = true ∧ u.dev.timing.count = 0 ∧
        u.dev.timing.line = 0 ∧ u.dev.timing.calendsAt = s.now ∧ u.reg 0x3801 1 = max 1 (baseHz s)) ∧
    (s.dev.memory.releasedAt = none →
      ∃ u, exec .hbmRelease s = .next u ∧ u.dev.memory.releasedAt = some s.now ∧ u.reg 0x5090 1 = 1 ∧
        u.reg 0x6011 1 = 2)) ∧
  (∀ s : State, (s.dev.timing.started = true ∨ s.dev.bringup.inReset = true ∨ s.dev.bringup.selecting = true →
      exec .firstCalends s = .next s) ∧
    (s.dev.memory.releasedAt ≠ none ∨ s.dev.bringup.inReset = true ∨ s.dev.bringup.selecting = true →
      exec .hbmRelease s = .next s)) ∧
  (∀ s : State, (s.dev.bringup.ready = true ∨ readyNow s = false → exec .lightFieldReady s = .next s) ∧
    (s.dev.bringup.ready = false → readyNow s = true →
      ∃ u, exec .lightFieldReady s = .next u ∧ u.dev.bringup.ready = true ∧
        u.reg 0x6011 3 = min 65535 ((s.now - s.dev.bringup.t0) / 10 ^ 9) ∧ u.reg 0x6011 1 = max 3 (s.reg 0x6011 1) ∧
        (canLog s → eventLogged 851 s u))) ∧
  (∀ (s : State) (c : Instr), c = .sysReset ∨ c = .railBad ∨ c = .mainDieResetCommand →
    ∃ u, exec c s = .next u ∧ u.reg 0x6010 3 = (s.reg 0x6010 3 + 1) % 2 ^ 32 ∧ u.hbm = [] ∧ u.bank = [] ∧
      u.dev.host.items = [] ∧ u.dev.ncp.sessions = [] ∧ u.fuses = s.fuses ∧ u.dev.drivers = s.dev.drivers ∧
      u.nv.pages = s.nv.pages ∧
      (c ≠ .mainDieResetCommand → u.dev.bringup.inReset = true ∧ u.reg 0x6010 2 = 1 ∧ u.ceilings = s.ceilings ∧
        { u.dev.lens with paused := s.dev.lens.paused } = s.dev.lens ∧
        (u.dev.lens.paused = true ↔ s.dev.lens.paused = true ∨ (hasLens s = true ∧ s.dev.lens.bistable = true ∧
          s.dev.lens.phase ≠ .idle ∧ s.dev.lens.phase ≠ .pulsing)) ∧ u.nv.queue = (s.nv.queue.take 64).map (fun q => { q with answers := [] })) ∧
      (c = .mainDieResetCommand → u.dev.bringup.inReset = false ∧ u.reg 0x6010 2 = 2 ∧
        u.dev.live.obj 0x3410 1 = 0 ∧ u.shad 0x3410 1 = 0 ∧
        (s.dev.bringup.selecting = false → u.ceilings.rec2 = ((recordPayload s 2).map ceilingsOf).getD {}))) ∧
  (∀ s : State, (s.dev.bringup.inReset = false → exec .sysResetRelease s = .next s) ∧
    (s.dev.bringup.inReset = true →
      ∃ u, exec .sysResetRelease s = .next u ∧ u.dev.bringup.inReset = false ∧ u.fuses = s.fuses ∧ u.hbm = s.hbm ∧
        (s.dev.bringup.selecting = false → u.ceilings.rec2 = ((recordPayload s 2).map ceilingsOf).getD {} ∧
          (s.dev.live.obj 0x3410 1 = 0 → u.dev.live.obj 0x3410 1 = 0))))

/-- STORE and ERASE of the proxy image, and the event read. Cites 17 The proxy image: R853, R856, R858; 17 Objects. -/
def Obligations.ProxyAndEventCommands : Prop :=
  (∀ s : State, proxyBusy s = false →
    (∀ bs, padTo 232000 s.dev.bringup.proxyBuffer = bs →
      (proxyImageGood bs = true → fieldLE bs 6 2 = (if s.com 0x3800 2 = 1 then 320 else 640) →
        ∃ u, exec .proxyStore s = .next u ∧ u.reg 0x6100 3 = 1 ∧ storeAsked u (.page 4096) emptyPage ∧
          ∀ i, i < 3625 → storeAsked u (.page (4096 + i)) ((bs.drop (64 * i)).take 64)) ∧
      (proxyImageGood bs = false ∨ fieldLE bs 6 2 ≠ (if s.com 0x3800 2 = 1 then 320 else 640) →
        ∃ u, exec .proxyStore s = .next u ∧ u.reg 0x6100 3 = 3 ∧ u.nv = s.nv)) ∧
    ((∃ i, i < 3625 ∧ (amGet s.nv.pages (4096 + i)).isSome = true) →
      ∃ u, exec .proxyErase s = .next u ∧ u.reg 0x6100 3 = 1 ∧
        ∀ i, i < 3625 → (amGet s.nv.pages (4096 + i)).isSome = true → storeAsked u (.page (4096 + i)) emptyPage) ∧
    ((∀ i, i < 3625 → amGet s.nv.pages (4096 + i) = none) →
      ∃ u, exec .proxyErase s = .next u ∧ u.reg 0x6100 3 = 0 ∧ u.nv = s.nv)) ∧
  (∀ (s : State) (c : Instr), proxyBusy s = true → c = .proxyStore ∨ c = .proxyErase → exec c s = .next s) ∧
  (∀ s : State, ∃ u, exec .eventRead s = .next u ∧ u.dev.events = s.dev.events.drop 1)
end

