-- ==== Sys2Proof/Laws/Bytes.lean ====
section
/-!
SUPPORT. Laws of little-endian bytes: a number is the number of its bytes, and a field of it is read from them.
-/
namespace Sys2Proof.Machine

@[simp] theorem length_natLE (n k : Nat) : (natLE n k).length = k := by
  induction k generalizing n with
  | zero => rfl
  | succ k ih => simp [natLE, ih]

theorem leNat_cons (b : Byte) (bs : List Byte) : leNat (b :: bs) = b.toNat + 256 * leNat bs := rfl

/-- The bytes of the number of some bytes. -/
theorem natLE_leNat (bs : List Byte) : natLE (leNat bs) bs.length = bs := by
  induction bs with
  | nil => rfl
  | cons b bs ih =>
    have hb : b.toNat < 256 := b.isLt
    rw [List.length_cons, natLE, leNat_cons, show (b.toNat + 256 * leNat bs) / 256 = leNat bs by omega, ih]
    congr 1
    apply BitVec.eq_of_toNat_eq
    rw [BitVec.toNat_ofNat]
    omega

theorem leNat_lt (bs : List Byte) : leNat bs < 256 ^ bs.length := by
  induction bs with
  | nil => exact Nat.one_pos
  | cons b bs ih =>
    have hb : b.toNat < 256 := b.isLt
    rw [leNat_cons, List.length_cons, Nat.pow_succ]
    omega

theorem leNat_append (a b : List Byte) : leNat (a ++ b) = leNat a + 256 ^ a.length * leNat b := by
  induction a with
  | nil => simp [leNat]
  | cons x a ih =>
    rw [List.cons_append, leNat_cons, leNat_cons, ih, List.length_cons, Nat.pow_succ]
    rw [Nat.mul_add, Nat.mul_comm (256 ^ a.length) 256, Nat.mul_assoc, Nat.add_assoc]

theorem leNat_div (bs : List Byte) (k : Nat) (h : k ≤ bs.length) : leNat bs / 256 ^ k = leNat (bs.drop k) := by
  have e := leNat_append (bs.take k) (bs.drop k)
  rw [List.take_append_drop, List.length_take, Nat.min_eq_left h] at e
  have hl := leNat_lt (bs.take k)
  rw [List.length_take, Nat.min_eq_left h] at hl
  rw [e, Nat.add_comm, Nat.mul_add_div (Nat.pow_pos (by decide)), Nat.div_eq_of_lt hl, Nat.add_zero]

theorem leNat_mod (bs : List Byte) (k : Nat) (h : k ≤ bs.length) : leNat bs % 256 ^ k = leNat (bs.take k) := by
  have e := leNat_append (bs.take k) (bs.drop k)
  rw [List.take_append_drop, List.length_take, Nat.min_eq_left h] at e
  have hl := leNat_lt (bs.take k)
  rw [List.length_take, Nat.min_eq_left h] at hl
  rw [e, Nat.add_mul_mod_self_left, Nat.mod_eq_of_lt hl]

/-- Bytes `k` and `k + 1` of a number. -/
theorem leNat_field2 (bs : List Byte) (k : Nat) (h : k + 2 ≤ bs.length) :
    (leNat bs >>> (8 * k)) % 65536 = leNat ((bs.drop k).take 2) := by
  rw [Nat.shiftRight_eq_div_pow, show 2 ^ (8 * k) = 256 ^ k by rw [Nat.pow_mul], leNat_div bs k (by omega),
    ← leNat_mod _ 2 (by rw [List.length_drop]; omega), show (256 : Nat) ^ 2 = 65536 from rfl]

theorem leNat_natLE (n k : Nat) : leNat (natLE n k) = n % 256 ^ k := by
  induction k generalizing n with
  | zero => simp [natLE, leNat, Nat.mod_one]
  | succ k ih =>
    rw [natLE, leNat_cons, ih, BitVec.toNat_ofNat, Nat.pow_succ 256, Nat.mul_comm (256 ^ k), Nat.mod_mul]

/-- Check values fit 32 bits. -/
theorem crc32c_lt (fold : Nat) (bs : List Byte) : crc32c fold bs < 2 ^ 32 := by
  have shift : ∀ n r, r < 2 ^ 32 → crcShift 0 n r < 2 ^ 32 := by
    intro n
    induction n with
    | zero => exact fun r h => h
    | succ n ih =>
      intro r h
      refine ih _ ?_
      have hs : r >>> 1 < 2 ^ 32 := by rw [Nat.shiftRight_eq_div_pow]; omega
      rw [if_pos (by decide)]
      split
      · exact Nat.xor_lt_two_pow hs (by decide)
      · exact hs
  have feed : ∀ (bs : List Byte) r, r < 2 ^ 32 → crcFeed 0 r bs < 2 ^ 32 := by
    intro bs
    induction bs with
    | nil => exact fun r h => h
    | cons b bs ih =>
      intro r h
      refine ih _ (shift 8 _ ?_)
      rw [if_pos (by decide)]
      exact Nat.xor_lt_two_pow h (Nat.lt_trans b.isLt (by decide))
  refine Nat.xor_lt_two_pow (feed bs _ ?_) (by decide)
  show 0xFFFFFFFF ^^^ (fold % 2 ^ 32) < 2 ^ 32
  exact Nat.xor_lt_two_pow (by decide) (Nat.mod_lt _ (by decide))

/-- A value written with its CRC passes. -/
theorem crcPasses_withCrc (index sub : Nat) (bs : List Byte) : crcPasses index sub (withCrc index sub bs) = true := by
  have hl : (withCrc index sub bs).length - 4 = bs.length := by
    rw [withCrc, List.length_append, length_natLE]; omega
  unfold crcPasses
  rw [hl, beq_iff_eq, fieldLE, slice, withCrc, List.drop_left, List.take_left, List.take_of_length_le (by simp),
    leNat_natLE, show (256 : Nat) ^ 4 = 2 ^ 32 from rfl, Nat.mod_eq_of_lt (crc32c_lt _ _)]

end Sys2Proof.Machine
end

