-- ==== Sys2Proof/Laws/Tables.lean ====
section
/-!
SUPPORT. Laws of sparse tables and of canonical memory: a read after a write, and the canonical form kept by every
write (the byte-level laws every later claim about memory rests on).
-/
namespace Sys2Proof.Machine

/-! ### Tables -/

/-- What a table reads after an entry is put. -/
theorem amGet_amPut {α : Type} (m : AMap α) (k : Nat) (v : α) (i : Nat) :
    amGet (amPut m k v) i = if k = i then some v else amGet m i := by
  induction m with
  | nil => simp [amPut, amGet]
  | cons e m ih =>
    obtain ⟨j, w⟩ := e
    simp only [amPut]
    split
    · subst_vars; simp only [amGet]; split <;> simp_all
    · split
      · simp [amGet]
      · simp only [amGet, ih]
        split
        · subst_vars; simp [Ne.symm (by assumption : ¬_)]
        · rfl

@[simp] theorem amGet_amPut_same {α : Type} (m : AMap α) (k : Nat) (v : α) : amGet (amPut m k v) k = some v := by
  simp [amGet_amPut]

theorem amGet_amPut_other {α : Type} (m : AMap α) {k i : Nat} (v : α) (h : k ≠ i) :
    amGet (amPut m k v) i = amGet m i := by simp [amGet_amPut, h]

@[simp] theorem amGetD_amPut_same {α : Type} (m : AMap α) (k : Nat) (v d : α) : amGetD (amPut m k v) k d = v := by
  simp [amGetD]

theorem amGetD_amPut {α : Type} (m : AMap α) (k : Nat) (v d : α) (i : Nat) :
    amGetD (amPut m k v) i d = if k = i then v else amGetD m i d := by
  simp only [amGetD, amGet_amPut]; split <;> rfl

@[simp] theorem amGetD_amMod_same {α : Type} (m : AMap α) (k : Nat) (d : α) (f : α → α) :
    amGetD (amMod m k d f) k d = f (amGetD m k d) := by simp [amMod]

theorem amGetD_amMod {α : Type} (m : AMap α) (k : Nat) (d : α) (f : α → α) (i : Nat) :
    amGetD (amMod m k d f) i d = if k = i then f (amGetD m k d) else amGetD m i d := by
  simp [amMod, amGetD_amPut]

/-! ### Order of keys -/

theorem amSorted_mono {α : Type} {lo hi : Nat} (h : lo ≤ hi) {m : AMap α} (w : amSorted hi m = true) :
    amSorted lo m = true := by
  cases m with
  | nil => rfl
  | cons e m => simp only [amSorted, Bool.and_eq_true, decide_eq_true_eq] at *; exact ⟨by omega, w.2⟩

/-- A key below the lower bound of a sorted table is not listed. -/
theorem amGet_of_lt {α : Type} {m : AMap α} {lo k : Nat} (w : amSorted lo m = true) (h : k < lo) :
    amGet m k = none := by
  induction m generalizing lo with
  | nil => rfl
  | cons e m ih =>
    obtain ⟨j, v⟩ := e
    simp only [amSorted, Bool.and_eq_true, decide_eq_true_eq] at w
    simp only [amGet]
    rw [if_neg (by omega)]
    exact ih w.2 (by omega)

theorem amSorted_amPut {α : Type} {m : AMap α} {lo k : Nat} {v : α} (w : amSorted lo m = true) (h : lo ≤ k) :
    amSorted lo (amPut m k v) = true := by
  induction m generalizing lo with
  | nil => simp [amPut, amSorted, h]
  | cons e m ih =>
    obtain ⟨j, u⟩ := e
    simp only [amSorted, Bool.and_eq_true, decide_eq_true_eq] at w
    simp only [amPut]
    split
    · subst_vars; simp [amSorted, h, w.2]
    · split
      · simp only [amSorted, Bool.and_eq_true, decide_eq_true_eq]
        exact ⟨h, by omega, w.2⟩
      · simp only [amSorted, Bool.and_eq_true, decide_eq_true_eq]
        exact ⟨w.1, ih w.2 (by omega)⟩

theorem amSorted_amErase {α : Type} {m : AMap α} {lo k : Nat} (w : amSorted lo m = true) :
    amSorted lo (amErase m k) = true := by
  induction m generalizing lo with
  | nil => rfl
  | cons e m ih =>
    obtain ⟨j, u⟩ := e
    have w' := w
    simp only [amSorted, Bool.and_eq_true, decide_eq_true_eq] at w'
    simp only [amErase]
    split
    · exact amSorted_mono (by omega) w'.2
    · split
      · exact w
      · simp only [amSorted, Bool.and_eq_true, decide_eq_true_eq]
        exact ⟨w'.1, ih w'.2⟩

/-- What a sorted table reads after an entry is taken out. -/
theorem amGet_amErase {α : Type} {m : AMap α} {lo : Nat} (w : amSorted lo m = true) (k i : Nat) :
    amGet (amErase m k) i = if k = i then none else amGet m i := by
  induction m generalizing lo with
  | nil => simp [amErase, amGet]
  | cons e m ih =>
    obtain ⟨j, u⟩ := e
    have w' := w
    simp only [amSorted, Bool.and_eq_true, decide_eq_true_eq] at w'
    simp only [amErase]
    split
    · subst_vars
      by_cases h : j = i
      · subst h; simp [amGet_of_lt w'.2 (Nat.lt_succ_self _)]
      · simp [h, amGet]
    · rename_i hjk
      split
      · by_cases h : k = i
        · subst h; simp only [amGet, hjk, if_false, if_true]
          exact amGet_of_lt w'.2 (by omega)
        · simp [h]
      · simp only [amGet, ih w'.2]
        split
        · subst_vars; simp [Ne.symm hjk]
        · rfl

/-! ### Canonical memory -/

theorem mem_amErase {α : Type} {m : AMap α} {k : Nat} {e : Nat × α} (h : e ∈ amErase m k) : e ∈ m := by
  induction m with
  | nil => simp [amErase] at h
  | cons c m ih =>
    obtain ⟨j, u⟩ := c
    simp only [amErase] at h
    split at h
    · exact List.mem_cons_of_mem _ h
    · split at h
      · exact h
      · rcases List.mem_cons.mp h with h | h
        · exact h ▸ List.mem_cons_self
        · exact List.mem_cons_of_mem _ (ih h)

theorem mem_amPut {α : Type} {m : AMap α} {k : Nat} {v : α} {e : Nat × α} (h : e ∈ amPut m k v) :
    e = (k, v) ∨ e ∈ m := by
  induction m with
  | nil => simpa [amPut] using h
  | cons c m ih =>
    obtain ⟨j, u⟩ := c
    simp only [amPut] at h
    split at h
    · rcases List.mem_cons.mp h with h | h
      · exact .inl h
      · exact .inr (List.mem_cons_of_mem _ h)
    · split at h
      · rcases List.mem_cons.mp h with h | h
        · exact .inl h
        · exact .inr h
      · rcases List.mem_cons.mp h with h | h
        · exact .inr (h ▸ List.mem_cons_self)
        · rcases ih h with h | h
          · exact .inl h
          · exact .inr (List.mem_cons_of_mem _ h)

/-- One byte written keeps the canonical form. -/
theorem memoryWf_cellPut {m : List Host.Cell} (w : memoryWf m = true) (a : Nat) (b : Byte) :
    memoryWf (cellPut m a b) = true := by
  simp only [memoryWf, Bool.and_eq_true, List.all_eq_true, bne_iff_ne] at *
  simp only [cellPut]
  split
  · exact ⟨amSorted_amErase w.1, fun c h => w.2 c (mem_amErase h)⟩
  · refine ⟨amSorted_amPut w.1 (Nat.zero_le _), fun c h => ?_⟩
    rcases mem_amPut h with rfl | h
    · assumption
    · exact w.2 c h

/-- Bytes written one after another keep the canonical form. -/
theorem memoryWf_cellsPut {m : List Host.Cell} (w : memoryWf m = true) (a : Nat) (bs : List Byte) :
    memoryWf (cellsPut m a bs) = true := by
  induction bs generalizing m a with
  | nil => exact w
  | cons b bs ih => exact ih (memoryWf_cellPut w a b) (a + 1)

/-- What memory reads after one byte is written. -/
theorem cellGet_cellPut {m : List Host.Cell} (w : memoryWf m = true) (a : Nat) (b : Byte) (i : Nat) :
    cellGet (cellPut m a b) i = if a = i then b else cellGet m i := by
  simp only [memoryWf, Bool.and_eq_true] at w
  simp only [cellPut]
  split
  · subst_vars; simp only [cellGet, amGetD, amGet_amErase w.1]; split <;> rfl
  · simp only [cellGet, amGetD_amPut]

/-- Bytes outside a written range read as before. -/
theorem cellGet_cellsPut_outside {m : List Host.Cell} (w : memoryWf m = true) (a : Nat) (bs : List Byte) (i : Nat)
    (h : i < a ∨ a + bs.length ≤ i) : cellGet (cellsPut m a bs) i = cellGet m i := by
  induction bs generalizing m a with
  | nil => rfl
  | cons b bs ih =>
    simp only [List.length_cons] at h
    simp only [cellsPut]
    rw [ih (memoryWf_cellPut w a b) (a + 1) (by omega), cellGet_cellPut w, if_neg (by omega)]

/-- A byte of a written range reads as written. -/
theorem cellGet_cellsPut_inside {m : List Host.Cell} (w : memoryWf m = true) (a : Nat) (bs : List Byte) (i : Nat)
    (h : i < bs.length) : cellGet (cellsPut m a bs) (a + i) = bs[i] := by
  induction bs generalizing m a i with
  | nil => simp at h
  | cons b bs ih =>
    simp only [cellsPut]
    cases i with
    | zero =>
      rw [cellGet_cellsPut_outside (memoryWf_cellPut w a b) _ _ _ (by omega), cellGet_cellPut w]
      simp
    | succ i =>
      have := ih (memoryWf_cellPut w a b) (a + 1) i (by simpa using h)
      rw [show a + (i + 1) = a + 1 + i by omega]
      simpa using this

end Sys2Proof.Machine
end

