-- ==== Sys2Proof/Laws/State.lean ====
section
/-!
SUPPORT. One law for each field of the state under each update, so that no proof unfolds a record update, and what the
register operations leave in the object dictionary.
-/
namespace Sys2Proof.Machine

/-! ### Registers of the dictionary -/

theorem reg_def (s : State) (i j : Nat) : s.reg i j = (amGet s.dev.od (key i j)).getD (objDefault i j) := rfl

/-- What a dictionary object reads after a write of one. -/
theorem reg_setReg (s : State) (i j v i' j' : Nat) :
    (s.setReg i j v).reg i' j' = if key i j = key i' j' then v else s.reg i' j' := by
  simp only [State.reg, State.setReg, State.modDev, amGet_amPut]
  split <;> rfl

@[simp] theorem reg_setReg_same (s : State) (i j v : Nat) : (s.setReg i j v).reg i j = v := by simp [reg_setReg]

/-- What a shadow object reads after a write of one. -/
theorem shad_setShad (s : State) (i j v i' j' : Nat) :
    (s.setShad i j v).shad i' j' = if key i j = key i' j' then v else s.shad i' j' := by
  simp only [State.shad, State.setShad, State.modDev, amGet_amPut]
  split <;> rfl

@[simp] theorem shad_setShad_same (s : State) (i j v : Nat) : (s.setShad i j v).shad i j = v := by
  simp [shad_setShad]

/-- Two objects of subindexes below 256 have one key only when they are one object. -/
theorem key_inj {i j i' j' : Nat} (h : j < 256) (h' : j' < 256) (e : key i j = key i' j') : i = i' ∧ j = j' := by
  simp only [key] at e; omega

/-- A counter after one more event (R21). -/
theorem reg_bump (s : State) (i j n i' j' : Nat) :
    (s.bump i j n).reg i' j' = if key i j = key i' j' then min (s.reg i j + n) 0xFFFFFFFF else s.reg i' j' :=
  reg_setReg ..

/-- A sequence counter after one more event (R21). -/
theorem reg_bumpSeq (s : State) (i j n i' j' : Nat) :
    (s.bumpSeq i j n).reg i' j' = if key i j = key i' j' then (s.reg i j + n) % 2 ^ 32 else s.reg i' j' :=
  reg_setReg ..

/-- FAULT_N after one more condition (R873). -/
theorem reg_latch (s : State) (b i' j' : Nat) :
    (latch b s).reg i' j' = if key 0x6030 3 = key i' j' then setBit (s.reg 0x6030 3) b else s.reg i' j' :=
  reg_setReg ..

/-! ### Parts of the block under each update -/

@[simp] theorem modDev_pending (f : Dev → Dev) (s : State) : (State.modDev f s).pending = s.pending := rfl
@[simp] theorem modDev_fuses (f : Dev → Dev) (s : State) : (State.modDev f s).fuses = s.fuses := rfl
@[simp] theorem modDev_ceilings (f : Dev → Dev) (s : State) : (State.modDev f s).ceilings = s.ceilings := rfl
@[simp] theorem modDev_now (f : Dev → Dev) (s : State) : (State.modDev f s).now = s.now := rfl
@[simp] theorem modDev_hbm (f : Dev → Dev) (s : State) : (State.modDev f s).hbm = s.hbm := rfl
@[simp] theorem modDev_bank (f : Dev → Dev) (s : State) : (State.modDev f s).bank = s.bank := rfl
@[simp] theorem modDev_nv (f : Dev → Dev) (s : State) : (State.modDev f s).nv = s.nv := rfl

@[simp] theorem setReg_pending (i j v : Nat) (s : State) : (State.setReg i j v s).pending = s.pending := rfl
@[simp] theorem setReg_fuses (i j v : Nat) (s : State) : (State.setReg i j v s).fuses = s.fuses := rfl
@[simp] theorem setReg_ceilings (i j v : Nat) (s : State) : (State.setReg i j v s).ceilings = s.ceilings := rfl
@[simp] theorem setReg_now (i j v : Nat) (s : State) : (State.setReg i j v s).now = s.now := rfl
@[simp] theorem setReg_hbm (i j v : Nat) (s : State) : (State.setReg i j v s).hbm = s.hbm := rfl
@[simp] theorem setReg_bank (i j v : Nat) (s : State) : (State.setReg i j v s).bank = s.bank := rfl
@[simp] theorem setReg_nv (i j v : Nat) (s : State) : (State.setReg i j v s).nv = s.nv := rfl

@[simp] theorem setShad_pending (i j v : Nat) (s : State) : (State.setShad i j v s).pending = s.pending := rfl
@[simp] theorem setShad_fuses (i j v : Nat) (s : State) : (State.setShad i j v s).fuses = s.fuses := rfl
@[simp] theorem setShad_ceilings (i j v : Nat) (s : State) : (State.setShad i j v s).ceilings = s.ceilings := rfl
@[simp] theorem setShad_now (i j v : Nat) (s : State) : (State.setShad i j v s).now = s.now := rfl
@[simp] theorem setShad_hbm (i j v : Nat) (s : State) : (State.setShad i j v s).hbm = s.hbm := rfl
@[simp] theorem setShad_bank (i j v : Nat) (s : State) : (State.setShad i j v s).bank = s.bank := rfl
@[simp] theorem setShad_nv (i j v : Nat) (s : State) : (State.setShad i j v s).nv = s.nv := rfl

@[simp] theorem latch_pending (b : Nat) (s : State) : (latch b s).pending = s.pending := rfl
@[simp] theorem latch_fuses (b : Nat) (s : State) : (latch b s).fuses = s.fuses := rfl
@[simp] theorem latch_ceilings (b : Nat) (s : State) : (latch b s).ceilings = s.ceilings := rfl
@[simp] theorem latch_now (b : Nat) (s : State) : (latch b s).now = s.now := rfl
@[simp] theorem latch_hbm (b : Nat) (s : State) : (latch b s).hbm = s.hbm := rfl
@[simp] theorem latch_bank (b : Nat) (s : State) : (latch b s).bank = s.bank := rfl
@[simp] theorem latch_nv (b : Nat) (s : State) : (latch b s).nv = s.nv := rfl

@[simp] theorem modDev_dev (f : Dev → Dev) (s : State) : (State.modDev f s).dev = f s.dev := rfl
@[simp] theorem setReg_dev (i j v : Nat) (s : State) :
    (State.setReg i j v s).dev = { s.dev with od := amPut s.dev.od (key i j) v } := rfl
@[simp] theorem setShad_dev (i j v : Nat) (s : State) :
    (State.setShad i j v s).dev = { s.dev with shadow := amPut s.dev.shadow (key i j) v } := rfl

@[simp] theorem bump_pending (s : State) (i j n : Nat) : (s.bump i j n).pending = s.pending := rfl
@[simp] theorem bump_fuses (s : State) (i j n : Nat) : (s.bump i j n).fuses = s.fuses := rfl
@[simp] theorem bump_ceilings (s : State) (i j n : Nat) : (s.bump i j n).ceilings = s.ceilings := rfl
@[simp] theorem bump_now (s : State) (i j n : Nat) : (s.bump i j n).now = s.now := rfl
@[simp] theorem bump_hbm (s : State) (i j n : Nat) : (s.bump i j n).hbm = s.hbm := rfl
@[simp] theorem bump_bank (s : State) (i j n : Nat) : (s.bump i j n).bank = s.bank := rfl
@[simp] theorem bump_nv (s : State) (i j n : Nat) : (s.bump i j n).nv = s.nv := rfl
@[simp] theorem bump_dev (s : State) (i j n : Nat) :
    (s.bump i j n).dev = { s.dev with od := (s.bump i j n).dev.od } := rfl

@[simp] theorem bumpSeq_pending (s : State) (i j n : Nat) : (s.bumpSeq i j n).pending = s.pending := rfl
@[simp] theorem bumpSeq_fuses (s : State) (i j n : Nat) : (s.bumpSeq i j n).fuses = s.fuses := rfl
@[simp] theorem bumpSeq_ceilings (s : State) (i j n : Nat) : (s.bumpSeq i j n).ceilings = s.ceilings := rfl
@[simp] theorem bumpSeq_now (s : State) (i j n : Nat) : (s.bumpSeq i j n).now = s.now := rfl
@[simp] theorem bumpSeq_hbm (s : State) (i j n : Nat) : (s.bumpSeq i j n).hbm = s.hbm := rfl
@[simp] theorem bumpSeq_bank (s : State) (i j n : Nat) : (s.bumpSeq i j n).bank = s.bank := rfl
@[simp] theorem bumpSeq_nv (s : State) (i j n : Nat) : (s.bumpSeq i j n).nv = s.nv := rfl
@[simp] theorem bumpSeq_dev (s : State) (i j n : Nat) :
    (s.bumpSeq i j n).dev = { s.dev with od := (s.bumpSeq i j n).dev.od } := rfl

@[simp] theorem modTiming_pending (f : Timing → Timing) (s : State) : (modTiming f s).pending = s.pending := rfl
@[simp] theorem modTiming_fuses (f : Timing → Timing) (s : State) : (modTiming f s).fuses = s.fuses := rfl
@[simp] theorem modTiming_ceilings (f : Timing → Timing) (s : State) : (modTiming f s).ceilings = s.ceilings := rfl
@[simp] theorem modTiming_now (f : Timing → Timing) (s : State) : (modTiming f s).now = s.now := rfl
@[simp] theorem modTiming_hbm (f : Timing → Timing) (s : State) : (modTiming f s).hbm = s.hbm := rfl
@[simp] theorem modTiming_bank (f : Timing → Timing) (s : State) : (modTiming f s).bank = s.bank := rfl
@[simp] theorem modTiming_nv (f : Timing → Timing) (s : State) : (modTiming f s).nv = s.nv := rfl
@[simp] theorem modTiming_reg (f : Timing → Timing) (s : State) (x y : Nat) : (modTiming f s).reg x y = s.reg x y := rfl
@[simp] theorem modTiming_dev (f : Timing → Timing) (s : State) :
    (modTiming f s).dev = { s.dev with timing := f s.dev.timing } := rfl

@[simp] theorem modSynth_pending (f : Synth → Synth) (s : State) : (modSynth f s).pending = s.pending := rfl
@[simp] theorem modSynth_fuses (f : Synth → Synth) (s : State) : (modSynth f s).fuses = s.fuses := rfl
@[simp] theorem modSynth_ceilings (f : Synth → Synth) (s : State) : (modSynth f s).ceilings = s.ceilings := rfl
@[simp] theorem modSynth_now (f : Synth → Synth) (s : State) : (modSynth f s).now = s.now := rfl
@[simp] theorem modSynth_hbm (f : Synth → Synth) (s : State) : (modSynth f s).hbm = s.hbm := rfl
@[simp] theorem modSynth_bank (f : Synth → Synth) (s : State) : (modSynth f s).bank = s.bank := rfl
@[simp] theorem modSynth_nv (f : Synth → Synth) (s : State) : (modSynth f s).nv = s.nv := rfl
@[simp] theorem modSynth_reg (f : Synth → Synth) (s : State) (x y : Nat) : (modSynth f s).reg x y = s.reg x y := rfl
@[simp] theorem modSynth_dev (f : Synth → Synth) (s : State) :
    (modSynth f s).dev = { s.dev with synth := f s.dev.synth } := rfl

@[simp] theorem modGov_pending (f : Governor → Governor) (s : State) : (modGov f s).pending = s.pending := rfl
@[simp] theorem modGov_fuses (f : Governor → Governor) (s : State) : (modGov f s).fuses = s.fuses := rfl
@[simp] theorem modGov_ceilings (f : Governor → Governor) (s : State) : (modGov f s).ceilings = s.ceilings := rfl
@[simp] theorem modGov_now (f : Governor → Governor) (s : State) : (modGov f s).now = s.now := rfl
@[simp] theorem modGov_hbm (f : Governor → Governor) (s : State) : (modGov f s).hbm = s.hbm := rfl
@[simp] theorem modGov_bank (f : Governor → Governor) (s : State) : (modGov f s).bank = s.bank := rfl
@[simp] theorem modGov_nv (f : Governor → Governor) (s : State) : (modGov f s).nv = s.nv := rfl
@[simp] theorem modGov_reg (f : Governor → Governor) (s : State) (x y : Nat) : (modGov f s).reg x y = s.reg x y := rfl
@[simp] theorem modGov_dev (f : Governor → Governor) (s : State) :
    (modGov f s).dev = { s.dev with gov := f s.dev.gov } := rfl

@[simp] theorem modFreeze_pending (f : Freeze → Freeze) (s : State) : (modFreeze f s).pending = s.pending := rfl
@[simp] theorem modFreeze_fuses (f : Freeze → Freeze) (s : State) : (modFreeze f s).fuses = s.fuses := rfl
@[simp] theorem modFreeze_ceilings (f : Freeze → Freeze) (s : State) : (modFreeze f s).ceilings = s.ceilings := rfl
@[simp] theorem modFreeze_now (f : Freeze → Freeze) (s : State) : (modFreeze f s).now = s.now := rfl
@[simp] theorem modFreeze_hbm (f : Freeze → Freeze) (s : State) : (modFreeze f s).hbm = s.hbm := rfl
@[simp] theorem modFreeze_bank (f : Freeze → Freeze) (s : State) : (modFreeze f s).bank = s.bank := rfl
@[simp] theorem modFreeze_nv (f : Freeze → Freeze) (s : State) : (modFreeze f s).nv = s.nv := rfl
@[simp] theorem modFreeze_reg (f : Freeze → Freeze) (s : State) (x y : Nat) : (modFreeze f s).reg x y = s.reg x y := rfl
@[simp] theorem modFreeze_dev (f : Freeze → Freeze) (s : State) :
    (modFreeze f s).dev = { s.dev with freeze := f s.dev.freeze } := rfl

@[simp] theorem modLens_pending (f : Lens → Lens) (s : State) : (modLens f s).pending = s.pending := rfl
@[simp] theorem modLens_fuses (f : Lens → Lens) (s : State) : (modLens f s).fuses = s.fuses := rfl
@[simp] theorem modLens_ceilings (f : Lens → Lens) (s : State) : (modLens f s).ceilings = s.ceilings := rfl
@[simp] theorem modLens_now (f : Lens → Lens) (s : State) : (modLens f s).now = s.now := rfl
@[simp] theorem modLens_hbm (f : Lens → Lens) (s : State) : (modLens f s).hbm = s.hbm := rfl
@[simp] theorem modLens_bank (f : Lens → Lens) (s : State) : (modLens f s).bank = s.bank := rfl
@[simp] theorem modLens_nv (f : Lens → Lens) (s : State) : (modLens f s).nv = s.nv := rfl
@[simp] theorem modLens_reg (f : Lens → Lens) (s : State) (x y : Nat) : (modLens f s).reg x y = s.reg x y := rfl
@[simp] theorem modLens_dev (f : Lens → Lens) (s : State) :
    (modLens f s).dev = { s.dev with lens := f s.dev.lens } := rfl

@[simp] theorem modSafety_pending (f : Safety → Safety) (s : State) : (modSafety f s).pending = s.pending := rfl
@[simp] theorem modSafety_fuses (f : Safety → Safety) (s : State) : (modSafety f s).fuses = s.fuses := rfl
@[simp] theorem modSafety_ceilings (f : Safety → Safety) (s : State) : (modSafety f s).ceilings = s.ceilings := rfl
@[simp] theorem modSafety_now (f : Safety → Safety) (s : State) : (modSafety f s).now = s.now := rfl
@[simp] theorem modSafety_hbm (f : Safety → Safety) (s : State) : (modSafety f s).hbm = s.hbm := rfl
@[simp] theorem modSafety_bank (f : Safety → Safety) (s : State) : (modSafety f s).bank = s.bank := rfl
@[simp] theorem modSafety_nv (f : Safety → Safety) (s : State) : (modSafety f s).nv = s.nv := rfl
@[simp] theorem modSafety_reg (f : Safety → Safety) (s : State) (x y : Nat) : (modSafety f s).reg x y = s.reg x y := rfl
@[simp] theorem modSafety_dev (f : Safety → Safety) (s : State) :
    (modSafety f s).dev = { s.dev with safety := f s.dev.safety } := rfl

@[simp] theorem modHost_pending (f : HostIf → HostIf) (s : State) : (modHost f s).pending = s.pending := rfl
@[simp] theorem modHost_fuses (f : HostIf → HostIf) (s : State) : (modHost f s).fuses = s.fuses := rfl
@[simp] theorem modHost_ceilings (f : HostIf → HostIf) (s : State) : (modHost f s).ceilings = s.ceilings := rfl
@[simp] theorem modHost_now (f : HostIf → HostIf) (s : State) : (modHost f s).now = s.now := rfl
@[simp] theorem modHost_hbm (f : HostIf → HostIf) (s : State) : (modHost f s).hbm = s.hbm := rfl
@[simp] theorem modHost_bank (f : HostIf → HostIf) (s : State) : (modHost f s).bank = s.bank := rfl
@[simp] theorem modHost_nv (f : HostIf → HostIf) (s : State) : (modHost f s).nv = s.nv := rfl
@[simp] theorem modHost_reg (f : HostIf → HostIf) (s : State) (x y : Nat) : (modHost f s).reg x y = s.reg x y := rfl
@[simp] theorem modHost_dev (f : HostIf → HostIf) (s : State) :
    (modHost f s).dev = { s.dev with host := f s.dev.host } := rfl

@[simp] theorem modNcp_pending (f : Ncp → Ncp) (s : State) : (modNcp f s).pending = s.pending := rfl
@[simp] theorem modNcp_fuses (f : Ncp → Ncp) (s : State) : (modNcp f s).fuses = s.fuses := rfl
@[simp] theorem modNcp_ceilings (f : Ncp → Ncp) (s : State) : (modNcp f s).ceilings = s.ceilings := rfl
@[simp] theorem modNcp_now (f : Ncp → Ncp) (s : State) : (modNcp f s).now = s.now := rfl
@[simp] theorem modNcp_hbm (f : Ncp → Ncp) (s : State) : (modNcp f s).hbm = s.hbm := rfl
@[simp] theorem modNcp_bank (f : Ncp → Ncp) (s : State) : (modNcp f s).bank = s.bank := rfl
@[simp] theorem modNcp_nv (f : Ncp → Ncp) (s : State) : (modNcp f s).nv = s.nv := rfl
@[simp] theorem modNcp_reg (f : Ncp → Ncp) (s : State) (x y : Nat) : (modNcp f s).reg x y = s.reg x y := rfl
@[simp] theorem modNcp_dev (f : Ncp → Ncp) (s : State) :
    (modNcp f s).dev = { s.dev with ncp := f s.dev.ncp } := rfl

@[simp] theorem modMemory_pending (f : Memory → Memory) (s : State) : (modMemory f s).pending = s.pending := rfl
@[simp] theorem modMemory_fuses (f : Memory → Memory) (s : State) : (modMemory f s).fuses = s.fuses := rfl
@[simp] theorem modMemory_ceilings (f : Memory → Memory) (s : State) : (modMemory f s).ceilings = s.ceilings := rfl
@[simp] theorem modMemory_now (f : Memory → Memory) (s : State) : (modMemory f s).now = s.now := rfl
@[simp] theorem modMemory_hbm (f : Memory → Memory) (s : State) : (modMemory f s).hbm = s.hbm := rfl
@[simp] theorem modMemory_bank (f : Memory → Memory) (s : State) : (modMemory f s).bank = s.bank := rfl
@[simp] theorem modMemory_nv (f : Memory → Memory) (s : State) : (modMemory f s).nv = s.nv := rfl
@[simp] theorem modMemory_reg (f : Memory → Memory) (s : State) (x y : Nat) : (modMemory f s).reg x y = s.reg x y := rfl
@[simp] theorem modMemory_dev (f : Memory → Memory) (s : State) :
    (modMemory f s).dev = { s.dev with memory := f s.dev.memory } := rfl

@[simp] theorem modThermal_pending (f : Thermal → Thermal) (s : State) : (modThermal f s).pending = s.pending := rfl
@[simp] theorem modThermal_fuses (f : Thermal → Thermal) (s : State) : (modThermal f s).fuses = s.fuses := rfl
@[simp] theorem modThermal_ceilings (f : Thermal → Thermal) (s : State) : (modThermal f s).ceilings = s.ceilings := rfl
@[simp] theorem modThermal_now (f : Thermal → Thermal) (s : State) : (modThermal f s).now = s.now := rfl
@[simp] theorem modThermal_hbm (f : Thermal → Thermal) (s : State) : (modThermal f s).hbm = s.hbm := rfl
@[simp] theorem modThermal_bank (f : Thermal → Thermal) (s : State) : (modThermal f s).bank = s.bank := rfl
@[simp] theorem modThermal_nv (f : Thermal → Thermal) (s : State) : (modThermal f s).nv = s.nv := rfl
@[simp] theorem modThermal_reg (f : Thermal → Thermal) (s : State) (x y : Nat) : (modThermal f s).reg x y = s.reg x y := rfl
@[simp] theorem modThermal_dev (f : Thermal → Thermal) (s : State) :
    (modThermal f s).dev = { s.dev with thermal := f s.dev.thermal } := rfl

@[simp] theorem modImages_pending (f : Images → Images) (s : State) : (modImages f s).pending = s.pending := rfl
@[simp] theorem modImages_fuses (f : Images → Images) (s : State) : (modImages f s).fuses = s.fuses := rfl
@[simp] theorem modImages_ceilings (f : Images → Images) (s : State) : (modImages f s).ceilings = s.ceilings := rfl
@[simp] theorem modImages_now (f : Images → Images) (s : State) : (modImages f s).now = s.now := rfl
@[simp] theorem modImages_hbm (f : Images → Images) (s : State) : (modImages f s).hbm = s.hbm := rfl
@[simp] theorem modImages_bank (f : Images → Images) (s : State) : (modImages f s).bank = s.bank := rfl
@[simp] theorem modImages_nv (f : Images → Images) (s : State) : (modImages f s).nv = s.nv := rfl
@[simp] theorem modImages_reg (f : Images → Images) (s : State) (x y : Nat) : (modImages f s).reg x y = s.reg x y := rfl
@[simp] theorem modImages_dev (f : Images → Images) (s : State) :
    (modImages f s).dev = { s.dev with images := f s.dev.images } := rfl

@[simp] theorem modBringup_pending (f : Bringup → Bringup) (s : State) : (modBringup f s).pending = s.pending := rfl
@[simp] theorem modBringup_fuses (f : Bringup → Bringup) (s : State) : (modBringup f s).fuses = s.fuses := rfl
@[simp] theorem modBringup_ceilings (f : Bringup → Bringup) (s : State) : (modBringup f s).ceilings = s.ceilings := rfl
@[simp] theorem modBringup_now (f : Bringup → Bringup) (s : State) : (modBringup f s).now = s.now := rfl
@[simp] theorem modBringup_hbm (f : Bringup → Bringup) (s : State) : (modBringup f s).hbm = s.hbm := rfl
@[simp] theorem modBringup_bank (f : Bringup → Bringup) (s : State) : (modBringup f s).bank = s.bank := rfl
@[simp] theorem modBringup_nv (f : Bringup → Bringup) (s : State) : (modBringup f s).nv = s.nv := rfl
@[simp] theorem modBringup_reg (f : Bringup → Bringup) (s : State) (x y : Nat) : (modBringup f s).reg x y = s.reg x y := rfl
@[simp] theorem modBringup_dev (f : Bringup → Bringup) (s : State) :
    (modBringup f s).dev = { s.dev with bringup := f s.dev.bringup } := rfl

@[simp] theorem modNv_pending (f : NvStore → NvStore) (s : State) : (modNv f s).pending = s.pending := rfl
@[simp] theorem modNv_fuses (f : NvStore → NvStore) (s : State) : (modNv f s).fuses = s.fuses := rfl
@[simp] theorem modNv_ceilings (f : NvStore → NvStore) (s : State) : (modNv f s).ceilings = s.ceilings := rfl
@[simp] theorem modNv_now (f : NvStore → NvStore) (s : State) : (modNv f s).now = s.now := rfl
@[simp] theorem modNv_hbm (f : NvStore → NvStore) (s : State) : (modNv f s).hbm = s.hbm := rfl
@[simp] theorem modNv_bank (f : NvStore → NvStore) (s : State) : (modNv f s).bank = s.bank := rfl
@[simp] theorem modNv_dev (f : NvStore → NvStore) (s : State) : (modNv f s).dev = s.dev := rfl
@[simp] theorem modNv_nv (f : NvStore → NvStore) (s : State) : (modNv f s).nv = f s.nv := rfl

@[simp] theorem modLink_pending (l : Nat) (f : Link → Link) (s : State) : (modLink l f s).pending = s.pending := rfl
@[simp] theorem modLink_fuses (l : Nat) (f : Link → Link) (s : State) : (modLink l f s).fuses = s.fuses := rfl
@[simp] theorem modLink_ceilings (l : Nat) (f : Link → Link) (s : State) : (modLink l f s).ceilings = s.ceilings := rfl
@[simp] theorem modLink_now (l : Nat) (f : Link → Link) (s : State) : (modLink l f s).now = s.now := rfl
@[simp] theorem modLink_hbm (l : Nat) (f : Link → Link) (s : State) : (modLink l f s).hbm = s.hbm := rfl
@[simp] theorem modLink_bank (l : Nat) (f : Link → Link) (s : State) : (modLink l f s).bank = s.bank := rfl
@[simp] theorem modLink_nv (l : Nat) (f : Link → Link) (s : State) : (modLink l f s).nv = s.nv := rfl
@[simp] theorem modLink_reg (l : Nat) (f : Link → Link) (s : State) (x y : Nat) : (modLink l f s).reg x y = s.reg x y := rfl
@[simp] theorem modLink_dev (l : Nat) (f : Link → Link) (s : State) :
    (modLink l f s).dev = { s.dev with links := amMod s.dev.links l {} f } := rfl
/-- What `State.link` reads after `modLink`. -/
theorem link_modLink (l : Nat) (f : Link → Link) (s : State) (x : Nat) :
    (modLink l f s).link x = if l = x then f (s.link l) else s.link x := amGetD_amMod ..

@[simp] theorem link_modLink_same (l : Nat) (f : Link → Link) (s : State) :
    (modLink l f s).link l = f (s.link l) := by simp [link_modLink]

@[simp] theorem modPort_pending (p : Nat) (f : Port → Port) (s : State) : (modPort p f s).pending = s.pending := rfl
@[simp] theorem modPort_fuses (p : Nat) (f : Port → Port) (s : State) : (modPort p f s).fuses = s.fuses := rfl
@[simp] theorem modPort_ceilings (p : Nat) (f : Port → Port) (s : State) : (modPort p f s).ceilings = s.ceilings := rfl
@[simp] theorem modPort_now (p : Nat) (f : Port → Port) (s : State) : (modPort p f s).now = s.now := rfl
@[simp] theorem modPort_hbm (p : Nat) (f : Port → Port) (s : State) : (modPort p f s).hbm = s.hbm := rfl
@[simp] theorem modPort_bank (p : Nat) (f : Port → Port) (s : State) : (modPort p f s).bank = s.bank := rfl
@[simp] theorem modPort_nv (p : Nat) (f : Port → Port) (s : State) : (modPort p f s).nv = s.nv := rfl
@[simp] theorem modPort_reg (p : Nat) (f : Port → Port) (s : State) (x y : Nat) : (modPort p f s).reg x y = s.reg x y := rfl
@[simp] theorem modPort_dev (p : Nat) (f : Port → Port) (s : State) :
    (modPort p f s).dev = { s.dev with ports := amMod s.dev.ports p {} f } := rfl
/-- What `State.port` reads after `modPort`. -/
theorem port_modPort (p : Nat) (f : Port → Port) (s : State) (x : Nat) :
    (modPort p f s).port x = if p = x then f (s.port p) else s.port x := amGetD_amMod ..

@[simp] theorem port_modPort_same (p : Nat) (f : Port → Port) (s : State) :
    (modPort p f s).port p = f (s.port p) := by simp [port_modPort]

@[simp] theorem modDriver_pending (p : Nat) (f : Driver → Driver) (s : State) : (modDriver p f s).pending = s.pending := rfl
@[simp] theorem modDriver_fuses (p : Nat) (f : Driver → Driver) (s : State) : (modDriver p f s).fuses = s.fuses := rfl
@[simp] theorem modDriver_ceilings (p : Nat) (f : Driver → Driver) (s : State) : (modDriver p f s).ceilings = s.ceilings := rfl
@[simp] theorem modDriver_now (p : Nat) (f : Driver → Driver) (s : State) : (modDriver p f s).now = s.now := rfl
@[simp] theorem modDriver_hbm (p : Nat) (f : Driver → Driver) (s : State) : (modDriver p f s).hbm = s.hbm := rfl
@[simp] theorem modDriver_bank (p : Nat) (f : Driver → Driver) (s : State) : (modDriver p f s).bank = s.bank := rfl
@[simp] theorem modDriver_nv (p : Nat) (f : Driver → Driver) (s : State) : (modDriver p f s).nv = s.nv := rfl
@[simp] theorem modDriver_reg (p : Nat) (f : Driver → Driver) (s : State) (x y : Nat) : (modDriver p f s).reg x y = s.reg x y := rfl
@[simp] theorem modDriver_dev (p : Nat) (f : Driver → Driver) (s : State) :
    (modDriver p f s).dev = { s.dev with drivers := amMod s.dev.drivers p {} f } := rfl
/-- What `State.driver` reads after `modDriver`. -/
theorem driver_modDriver (p : Nat) (f : Driver → Driver) (s : State) (x : Nat) :
    (modDriver p f s).driver x = if p = x then f (s.driver p) else s.driver x := amGetD_amMod ..

@[simp] theorem driver_modDriver_same (p : Nat) (f : Driver → Driver) (s : State) :
    (modDriver p f s).driver p = f (s.driver p) := by simp [driver_modDriver]

@[simp] theorem modRegion_pending (r : Nat) (f : Region → Region) (s : State) : (modRegion r f s).pending = s.pending := rfl
@[simp] theorem modRegion_fuses (r : Nat) (f : Region → Region) (s : State) : (modRegion r f s).fuses = s.fuses := rfl
@[simp] theorem modRegion_ceilings (r : Nat) (f : Region → Region) (s : State) : (modRegion r f s).ceilings = s.ceilings := rfl
@[simp] theorem modRegion_now (r : Nat) (f : Region → Region) (s : State) : (modRegion r f s).now = s.now := rfl
@[simp] theorem modRegion_hbm (r : Nat) (f : Region → Region) (s : State) : (modRegion r f s).hbm = s.hbm := rfl
@[simp] theorem modRegion_bank (r : Nat) (f : Region → Region) (s : State) : (modRegion r f s).bank = s.bank := rfl
@[simp] theorem modRegion_nv (r : Nat) (f : Region → Region) (s : State) : (modRegion r f s).nv = s.nv := rfl
@[simp] theorem modRegion_reg (r : Nat) (f : Region → Region) (s : State) (x y : Nat) : (modRegion r f s).reg x y = s.reg x y := rfl
@[simp] theorem modRegion_dev (r : Nat) (f : Region → Region) (s : State) :
    (modRegion r f s).dev = { s.dev with regions := amMod s.dev.regions r {} f } := rfl
/-- What `State.region` reads after `modRegion`. -/
theorem region_modRegion (r : Nat) (f : Region → Region) (s : State) (x : Nat) :
    (modRegion r f s).region x = if r = x then f (s.region r) else s.region x := amGetD_amMod ..

@[simp] theorem region_modRegion_same (r : Nat) (f : Region → Region) (s : State) :
    (modRegion r f s).region r = f (s.region r) := by simp [region_modRegion]

@[simp] theorem modClip_pending (e : Nat) (f : ClipEntry → ClipEntry) (s : State) : (modClip e f s).pending = s.pending := rfl
@[simp] theorem modClip_fuses (e : Nat) (f : ClipEntry → ClipEntry) (s : State) : (modClip e f s).fuses = s.fuses := rfl
@[simp] theorem modClip_ceilings (e : Nat) (f : ClipEntry → ClipEntry) (s : State) : (modClip e f s).ceilings = s.ceilings := rfl
@[simp] theorem modClip_now (e : Nat) (f : ClipEntry → ClipEntry) (s : State) : (modClip e f s).now = s.now := rfl
@[simp] theorem modClip_hbm (e : Nat) (f : ClipEntry → ClipEntry) (s : State) : (modClip e f s).hbm = s.hbm := rfl
@[simp] theorem modClip_bank (e : Nat) (f : ClipEntry → ClipEntry) (s : State) : (modClip e f s).bank = s.bank := rfl
@[simp] theorem modClip_nv (e : Nat) (f : ClipEntry → ClipEntry) (s : State) : (modClip e f s).nv = s.nv := rfl
@[simp] theorem modClip_reg (e : Nat) (f : ClipEntry → ClipEntry) (s : State) (x y : Nat) : (modClip e f s).reg x y = s.reg x y := rfl
@[simp] theorem modClip_dev (e : Nat) (f : ClipEntry → ClipEntry) (s : State) :
    (modClip e f s).dev = { s.dev with clips := amMod s.dev.clips e {} f } := rfl
/-- What `State.clip` reads after `modClip`. -/
theorem clip_modClip (e : Nat) (f : ClipEntry → ClipEntry) (s : State) (x : Nat) :
    (modClip e f s).clip x = if e = x then f (s.clip e) else s.clip x := amGetD_amMod ..

@[simp] theorem clip_modClip_same (e : Nat) (f : ClipEntry → ClipEntry) (s : State) :
    (modClip e f s).clip e = f (s.clip e) := by simp [clip_modClip]

@[simp] theorem modPlayer_pending (p : Nat) (f : Player → Player) (s : State) : (modPlayer p f s).pending = s.pending := rfl
@[simp] theorem modPlayer_fuses (p : Nat) (f : Player → Player) (s : State) : (modPlayer p f s).fuses = s.fuses := rfl
@[simp] theorem modPlayer_ceilings (p : Nat) (f : Player → Player) (s : State) : (modPlayer p f s).ceilings = s.ceilings := rfl
@[simp] theorem modPlayer_now (p : Nat) (f : Player → Player) (s : State) : (modPlayer p f s).now = s.now := rfl
@[simp] theorem modPlayer_hbm (p : Nat) (f : Player → Player) (s : State) : (modPlayer p f s).hbm = s.hbm := rfl
@[simp] theorem modPlayer_bank (p : Nat) (f : Player → Player) (s : State) : (modPlayer p f s).bank = s.bank := rfl
@[simp] theorem modPlayer_nv (p : Nat) (f : Player → Player) (s : State) : (modPlayer p f s).nv = s.nv := rfl
@[simp] theorem modPlayer_reg (p : Nat) (f : Player → Player) (s : State) (x y : Nat) : (modPlayer p f s).reg x y = s.reg x y := rfl
@[simp] theorem modPlayer_dev (p : Nat) (f : Player → Player) (s : State) :
    (modPlayer p f s).dev = { s.dev with players := amMod s.dev.players p {} f } := rfl
/-- What `State.player` reads after `modPlayer`. -/
theorem player_modPlayer (p : Nat) (f : Player → Player) (s : State) (x : Nat) :
    (modPlayer p f s).player x = if p = x then f (s.player p) else s.player x := amGetD_amMod ..

@[simp] theorem player_modPlayer_same (p : Nat) (f : Player → Player) (s : State) :
    (modPlayer p f s).player p = f (s.player p) := by simp [player_modPlayer]

@[simp] theorem modSource_pending (c : Nat) (f : Source → Source) (s : State) : (modSource c f s).pending = s.pending := rfl
@[simp] theorem modSource_fuses (c : Nat) (f : Source → Source) (s : State) : (modSource c f s).fuses = s.fuses := rfl
@[simp] theorem modSource_ceilings (c : Nat) (f : Source → Source) (s : State) : (modSource c f s).ceilings = s.ceilings := rfl
@[simp] theorem modSource_now (c : Nat) (f : Source → Source) (s : State) : (modSource c f s).now = s.now := rfl
@[simp] theorem modSource_hbm (c : Nat) (f : Source → Source) (s : State) : (modSource c f s).hbm = s.hbm := rfl
@[simp] theorem modSource_bank (c : Nat) (f : Source → Source) (s : State) : (modSource c f s).bank = s.bank := rfl
@[simp] theorem modSource_nv (c : Nat) (f : Source → Source) (s : State) : (modSource c f s).nv = s.nv := rfl
@[simp] theorem modSource_reg (c : Nat) (f : Source → Source) (s : State) (x y : Nat) : (modSource c f s).reg x y = s.reg x y := rfl
@[simp] theorem modSource_dev (c : Nat) (f : Source → Source) (s : State) :
    (modSource c f s).dev = { s.dev with sources := amMod s.dev.sources c {} f } := rfl
/-- What `State.source` reads after `modSource`. -/
theorem source_modSource (c : Nat) (f : Source → Source) (s : State) (x : Nat) :
    (modSource c f s).source x = if c = x then f (s.source c) else s.source x := amGetD_amMod ..

@[simp] theorem source_modSource_same (c : Nat) (f : Source → Source) (s : State) :
    (modSource c f s).source c = f (s.source c) := by simp [source_modSource]

@[simp] theorem modEth_pending (p : Nat) (f : EthPort → EthPort) (s : State) : (modEth p f s).pending = s.pending := rfl
@[simp] theorem modEth_fuses (p : Nat) (f : EthPort → EthPort) (s : State) : (modEth p f s).fuses = s.fuses := rfl
@[simp] theorem modEth_ceilings (p : Nat) (f : EthPort → EthPort) (s : State) : (modEth p f s).ceilings = s.ceilings := rfl
@[simp] theorem modEth_now (p : Nat) (f : EthPort → EthPort) (s : State) : (modEth p f s).now = s.now := rfl
@[simp] theorem modEth_hbm (p : Nat) (f : EthPort → EthPort) (s : State) : (modEth p f s).hbm = s.hbm := rfl
@[simp] theorem modEth_bank (p : Nat) (f : EthPort → EthPort) (s : State) : (modEth p f s).bank = s.bank := rfl
@[simp] theorem modEth_nv (p : Nat) (f : EthPort → EthPort) (s : State) : (modEth p f s).nv = s.nv := rfl
@[simp] theorem modEth_reg (p : Nat) (f : EthPort → EthPort) (s : State) (x y : Nat) : (modEth p f s).reg x y = s.reg x y := rfl
@[simp] theorem modEth_dev (p : Nat) (f : EthPort → EthPort) (s : State) :
    (modEth p f s).dev = { s.dev with eth := amMod s.dev.eth p {} f } := rfl
/-- What `State.eth` reads after `modEth`. -/
theorem eth_modEth (p : Nat) (f : EthPort → EthPort) (s : State) (x : Nat) :
    (modEth p f s).eth x = if p = x then f (s.eth p) else s.eth x := amGetD_amMod ..

@[simp] theorem eth_modEth_same (p : Nat) (f : EthPort → EthPort) (s : State) :
    (modEth p f s).eth p = f (s.eth p) := by simp [eth_modEth]

@[simp] theorem modTile_pending (t : Nat) (f : TilePort → TilePort) (s : State) : (modTile t f s).pending = s.pending := rfl
@[simp] theorem modTile_fuses (t : Nat) (f : TilePort → TilePort) (s : State) : (modTile t f s).fuses = s.fuses := rfl
@[simp] theorem modTile_ceilings (t : Nat) (f : TilePort → TilePort) (s : State) : (modTile t f s).ceilings = s.ceilings := rfl
@[simp] theorem modTile_now (t : Nat) (f : TilePort → TilePort) (s : State) : (modTile t f s).now = s.now := rfl
@[simp] theorem modTile_hbm (t : Nat) (f : TilePort → TilePort) (s : State) : (modTile t f s).hbm = s.hbm := rfl
@[simp] theorem modTile_bank (t : Nat) (f : TilePort → TilePort) (s : State) : (modTile t f s).bank = s.bank := rfl
@[simp] theorem modTile_nv (t : Nat) (f : TilePort → TilePort) (s : State) : (modTile t f s).nv = s.nv := rfl
@[simp] theorem modTile_reg (t : Nat) (f : TilePort → TilePort) (s : State) (x y : Nat) : (modTile t f s).reg x y = s.reg x y := rfl
@[simp] theorem modTile_dev (t : Nat) (f : TilePort → TilePort) (s : State) :
    (modTile t f s).dev = { s.dev with tiles := amMod s.dev.tiles t {} f } := rfl
/-- What `State.tile` reads after `modTile`. -/
theorem tile_modTile (t : Nat) (f : TilePort → TilePort) (s : State) (x : Nat) :
    (modTile t f s).tile x = if t = x then f (s.tile t) else s.tile x := amGetD_amMod ..

@[simp] theorem tile_modTile_same (t : Nat) (f : TilePort → TilePort) (s : State) :
    (modTile t f s).tile t = f (s.tile t) := by simp [tile_modTile]

@[simp] theorem modPc_pending (i : Nat) (f : Pc → Pc) (s : State) : (modPc i f s).pending = s.pending := rfl
@[simp] theorem modPc_fuses (i : Nat) (f : Pc → Pc) (s : State) : (modPc i f s).fuses = s.fuses := rfl
@[simp] theorem modPc_ceilings (i : Nat) (f : Pc → Pc) (s : State) : (modPc i f s).ceilings = s.ceilings := rfl
@[simp] theorem modPc_now (i : Nat) (f : Pc → Pc) (s : State) : (modPc i f s).now = s.now := rfl
@[simp] theorem modPc_hbm (i : Nat) (f : Pc → Pc) (s : State) : (modPc i f s).hbm = s.hbm := rfl
@[simp] theorem modPc_bank (i : Nat) (f : Pc → Pc) (s : State) : (modPc i f s).bank = s.bank := rfl
@[simp] theorem modPc_nv (i : Nat) (f : Pc → Pc) (s : State) : (modPc i f s).nv = s.nv := rfl
@[simp] theorem modPc_reg (i : Nat) (f : Pc → Pc) (s : State) (x y : Nat) : (modPc i f s).reg x y = s.reg x y := rfl

@[simp] theorem modUnit_pending (u : Nat) (f : CheckUnit → CheckUnit) (s : State) : (modUnit u f s).pending = s.pending := rfl
@[simp] theorem modUnit_fuses (u : Nat) (f : CheckUnit → CheckUnit) (s : State) : (modUnit u f s).fuses = s.fuses := rfl
@[simp] theorem modUnit_ceilings (u : Nat) (f : CheckUnit → CheckUnit) (s : State) : (modUnit u f s).ceilings = s.ceilings := rfl
@[simp] theorem modUnit_now (u : Nat) (f : CheckUnit → CheckUnit) (s : State) : (modUnit u f s).now = s.now := rfl
@[simp] theorem modUnit_hbm (u : Nat) (f : CheckUnit → CheckUnit) (s : State) : (modUnit u f s).hbm = s.hbm := rfl
@[simp] theorem modUnit_bank (u : Nat) (f : CheckUnit → CheckUnit) (s : State) : (modUnit u f s).bank = s.bank := rfl
@[simp] theorem modUnit_nv (u : Nat) (f : CheckUnit → CheckUnit) (s : State) : (modUnit u f s).nv = s.nv := rfl
@[simp] theorem modUnit_reg (u : Nat) (f : CheckUnit → CheckUnit) (s : State) (x y : Nat) : (modUnit u f s).reg x y = s.reg x y := rfl
@[simp] theorem modUnit_dev (u : Nat) (f : CheckUnit → CheckUnit) (s : State) :
    (modUnit u f s).dev = { s.dev with units := amMod s.dev.units u {} f } := rfl
/-- What `State.unit` reads after `modUnit`. -/
theorem unit_modUnit (u : Nat) (f : CheckUnit → CheckUnit) (s : State) (x : Nat) :
    (modUnit u f s).unit x = if u = x then f (s.unit u) else s.unit x := amGetD_amMod ..

@[simp] theorem unit_modUnit_same (u : Nat) (f : CheckUnit → CheckUnit) (s : State) :
    (modUnit u f s).unit u = f (s.unit u) := by simp [unit_modUnit]

@[simp] theorem modSensor_pending (i : Nat) (f : Sensor → Sensor) (s : State) : (modSensor i f s).pending = s.pending := rfl
@[simp] theorem modSensor_fuses (i : Nat) (f : Sensor → Sensor) (s : State) : (modSensor i f s).fuses = s.fuses := rfl
@[simp] theorem modSensor_ceilings (i : Nat) (f : Sensor → Sensor) (s : State) : (modSensor i f s).ceilings = s.ceilings := rfl
@[simp] theorem modSensor_now (i : Nat) (f : Sensor → Sensor) (s : State) : (modSensor i f s).now = s.now := rfl
@[simp] theorem modSensor_hbm (i : Nat) (f : Sensor → Sensor) (s : State) : (modSensor i f s).hbm = s.hbm := rfl
@[simp] theorem modSensor_bank (i : Nat) (f : Sensor → Sensor) (s : State) : (modSensor i f s).bank = s.bank := rfl
@[simp] theorem modSensor_nv (i : Nat) (f : Sensor → Sensor) (s : State) : (modSensor i f s).nv = s.nv := rfl
@[simp] theorem modSensor_reg (i : Nat) (f : Sensor → Sensor) (s : State) (x y : Nat) : (modSensor i f s).reg x y = s.reg x y := rfl

@[simp] theorem modQueue_pending (q : Nat) (f : Queue → Queue) (s : State) : (modQueue q f s).pending = s.pending := rfl
@[simp] theorem modQueue_fuses (q : Nat) (f : Queue → Queue) (s : State) : (modQueue q f s).fuses = s.fuses := rfl
@[simp] theorem modQueue_ceilings (q : Nat) (f : Queue → Queue) (s : State) : (modQueue q f s).ceilings = s.ceilings := rfl
@[simp] theorem modQueue_now (q : Nat) (f : Queue → Queue) (s : State) : (modQueue q f s).now = s.now := rfl
@[simp] theorem modQueue_hbm (q : Nat) (f : Queue → Queue) (s : State) : (modQueue q f s).hbm = s.hbm := rfl
@[simp] theorem modQueue_bank (q : Nat) (f : Queue → Queue) (s : State) : (modQueue q f s).bank = s.bank := rfl
@[simp] theorem modQueue_nv (q : Nat) (f : Queue → Queue) (s : State) : (modQueue q f s).nv = s.nv := rfl
@[simp] theorem modQueue_reg (q : Nat) (f : Queue → Queue) (s : State) (x y : Nat) : (modQueue q f s).reg x y = s.reg x y := rfl

/-! ### Loops -/

/-- What every round of a loop leaves as it is, the loop leaves as it is. -/
theorem each_keeps {α β : Type} (g : State → β) (f : α → State → State) (h : ∀ x t, g (f x t) = g t) (xs : List α)
    (s : State) : g (s.each xs f) = g s := by
  unfold State.each
  induction xs generalizing s with
  | nil => rfl
  | cons x xs ih => simp only [List.foldl_cons, ih, h]

/-- What holds at the start of a loop and is kept by every round holds at its end. -/
theorem each_invariant {α : Type} (P : State → Prop) (f : α → State → State) (h : ∀ x t, P t → P (f x t)) (xs : List α)
    (s : State) (hs : P s) : P (s.each xs f) := by
  unfold State.each
  induction xs generalizing s with
  | nil => exact hs
  | cons x xs ih => exact ih _ (h x s hs)

theorem iff_keeps {β : Type} (g : State → β) (c : Bool) (f : State → State) (s : State) (h : g (f s) = g s) :
    g (s.iff c f) = g s := by cases c <;> simp [State.iff, h]

end Sys2Proof.Machine
end

