-- ==== Sys2Proof/Laws/Scopes.lean ====
section
/-!
SUPPORT. Laws of the scopes and of the outcomes of a command: what `run` answers, what each scope leaves alone, and the
fields each scope takes from the meaning.
-/
namespace Sys2Proof.Machine

/-- Everything `run` can answer with a next state. -/
theorem run_eq_next {i : Instr} {t u : State} : run i t = .next u ↔ i.wellFormed = true ∧ u = t := by
  unfold run
  cases i.wellFormed <;> simp [eq_comm]

theorem run_next {i : Instr} (t : State) (w : i.wellFormed = true) : run i t = .next t := run_eq_next.mpr ⟨w, rfl⟩

/-- A command whose operands name nothing is turned away. -/
theorem run_illFormed {i : Instr} (t : State) (w : i.wellFormed = false) : run i t = .refused .illFormed := by
  simp [run, w]

/-- A command on a unit the part has takes its effect. -/
theorem runOn_next {i : Instr} {here : Bool} (s t : State) (w : i.wellFormed = true) (h : here = true) :
    runOn i here s t = .next t := by simp [runOn, run, w, h]

/-- A command about a unit the part does not have changes nothing (R8, R9). -/
theorem runOn_absent {i : Instr} (s t : State) (w : i.wellFormed = true) : runOn i false s t = .next s := by
  simp [runOn, run, w]

/-- Every command leaves the queue of waiting commands and the timebase to the step. -/
theorem step_cons {s : State} {c : Instr} {rest : List Instr} (h : s.pending = c :: rest) :
    step s = exec c { s with pending := rest } := by simp [step, h]

theorem step_nil {s : State} (h : s.pending = []) : step s = .next { s with now := s.now + Config.tickPs } := by
  simp [step, h]

/-- A part outside `ps` is the old one. -/
theorem within_same {ps : List DevPart} {p : DevPart} (h : p ∉ ps) (new old : Dev) :
    p.same old (new.within ps old) := by
  cases p <;> simp [DevPart.same, Dev.within, h]

theorem partsOf_same {ps : List DevPart} {p : DevPart} (h : p ∉ ps) (f : State → State) (s : State) :
    p.same s.dev (partsOf ps f s) := within_same h ..

@[simp] theorem onDev_dev (ps : List DevPart) (f : State → State) (s : State) :
    (onDev ps f s).dev = partsOf ps f s := rfl
@[simp] theorem onDev_pending (ps : List DevPart) (f : State → State) (s : State) : (onDev ps f s).pending = s.pending := rfl
@[simp] theorem onDev_fuses (ps : List DevPart) (f : State → State) (s : State) : (onDev ps f s).fuses = s.fuses := rfl
@[simp] theorem onDev_ceilings (ps : List DevPart) (f : State → State) (s : State) : (onDev ps f s).ceilings = s.ceilings := rfl
@[simp] theorem onDev_now (ps : List DevPart) (f : State → State) (s : State) : (onDev ps f s).now = s.now := rfl
@[simp] theorem onDev_hbm (ps : List DevPart) (f : State → State) (s : State) : (onDev ps f s).hbm = s.hbm := rfl
@[simp] theorem onDev_bank (ps : List DevPart) (f : State → State) (s : State) : (onDev ps f s).bank = s.bank := rfl
@[simp] theorem onDev_nv (ps : List DevPart) (f : State → State) (s : State) : (onDev ps f s).nv = s.nv := rfl

@[simp] theorem onMem_dev (ps : List DevPart) (f : State → State) (s : State) :
    (onMem ps f s).dev = partsOf ps f s := rfl
@[simp] theorem onMem_pending (ps : List DevPart) (f : State → State) (s : State) : (onMem ps f s).pending = s.pending := rfl
@[simp] theorem onMem_fuses (ps : List DevPart) (f : State → State) (s : State) : (onMem ps f s).fuses = s.fuses := rfl
@[simp] theorem onMem_ceilings (ps : List DevPart) (f : State → State) (s : State) : (onMem ps f s).ceilings = s.ceilings := rfl
@[simp] theorem onMem_now (ps : List DevPart) (f : State → State) (s : State) : (onMem ps f s).now = s.now := rfl
@[simp] theorem onMem_hbm (ps : List DevPart) (f : State → State) (s : State) : (onMem ps f s).hbm = (f s).hbm := rfl
@[simp] theorem onMem_bank (ps : List DevPart) (f : State → State) (s : State) : (onMem ps f s).bank = s.bank := rfl
@[simp] theorem onMem_nv (ps : List DevPart) (f : State → State) (s : State) : (onMem ps f s).nv = s.nv := rfl

@[simp] theorem onBank_dev (ps : List DevPart) (f : State → State) (s : State) :
    (onBank ps f s).dev = partsOf ps f s := rfl
@[simp] theorem onBank_pending (ps : List DevPart) (f : State → State) (s : State) : (onBank ps f s).pending = s.pending := rfl
@[simp] theorem onBank_fuses (ps : List DevPart) (f : State → State) (s : State) : (onBank ps f s).fuses = s.fuses := rfl
@[simp] theorem onBank_ceilings (ps : List DevPart) (f : State → State) (s : State) : (onBank ps f s).ceilings = s.ceilings := rfl
@[simp] theorem onBank_now (ps : List DevPart) (f : State → State) (s : State) : (onBank ps f s).now = s.now := rfl
@[simp] theorem onBank_hbm (ps : List DevPart) (f : State → State) (s : State) : (onBank ps f s).hbm = s.hbm := rfl
@[simp] theorem onBank_bank (ps : List DevPart) (f : State → State) (s : State) : (onBank ps f s).bank = (f s).bank := rfl
@[simp] theorem onBank_nv (ps : List DevPart) (f : State → State) (s : State) : (onBank ps f s).nv = s.nv := rfl

@[simp] theorem onNv_dev (ps : List DevPart) (f : State → State) (s : State) :
    (onNv ps f s).dev = partsOf ps f s := rfl
@[simp] theorem onNv_pending (ps : List DevPart) (f : State → State) (s : State) : (onNv ps f s).pending = s.pending := rfl
@[simp] theorem onNv_fuses (ps : List DevPart) (f : State → State) (s : State) : (onNv ps f s).fuses = s.fuses := rfl
@[simp] theorem onNv_ceilings (ps : List DevPart) (f : State → State) (s : State) : (onNv ps f s).ceilings = s.ceilings := rfl
@[simp] theorem onNv_now (ps : List DevPart) (f : State → State) (s : State) : (onNv ps f s).now = s.now := rfl
@[simp] theorem onNv_hbm (ps : List DevPart) (f : State → State) (s : State) : (onNv ps f s).hbm = s.hbm := rfl
@[simp] theorem onNv_bank (ps : List DevPart) (f : State → State) (s : State) : (onNv ps f s).bank = s.bank := rfl
@[simp] theorem onNv_nv (ps : List DevPart) (f : State → State) (s : State) : (onNv ps f s).nv = (f s).nv := rfl

@[simp] theorem onBankNv_dev (ps : List DevPart) (f : State → State) (s : State) :
    (onBankNv ps f s).dev = partsOf ps f s := rfl
@[simp] theorem onBankNv_pending (ps : List DevPart) (f : State → State) (s : State) : (onBankNv ps f s).pending = s.pending := rfl
@[simp] theorem onBankNv_fuses (ps : List DevPart) (f : State → State) (s : State) : (onBankNv ps f s).fuses = s.fuses := rfl
@[simp] theorem onBankNv_ceilings (ps : List DevPart) (f : State → State) (s : State) : (onBankNv ps f s).ceilings = s.ceilings := rfl
@[simp] theorem onBankNv_now (ps : List DevPart) (f : State → State) (s : State) : (onBankNv ps f s).now = s.now := rfl
@[simp] theorem onBankNv_hbm (ps : List DevPart) (f : State → State) (s : State) : (onBankNv ps f s).hbm = s.hbm := rfl
@[simp] theorem onBankNv_bank (ps : List DevPart) (f : State → State) (s : State) : (onBankNv ps f s).bank = (f s).bank := rfl
@[simp] theorem onBankNv_nv (ps : List DevPart) (f : State → State) (s : State) : (onBankNv ps f s).nv = (f s).nv := rfl

@[simp] theorem onMemNv_dev (ps : List DevPart) (f : State → State) (s : State) :
    (onMemNv ps f s).dev = partsOf ps f s := rfl
@[simp] theorem onMemNv_pending (ps : List DevPart) (f : State → State) (s : State) : (onMemNv ps f s).pending = s.pending := rfl
@[simp] theorem onMemNv_fuses (ps : List DevPart) (f : State → State) (s : State) : (onMemNv ps f s).fuses = s.fuses := rfl
@[simp] theorem onMemNv_ceilings (ps : List DevPart) (f : State → State) (s : State) : (onMemNv ps f s).ceilings = s.ceilings := rfl
@[simp] theorem onMemNv_now (ps : List DevPart) (f : State → State) (s : State) : (onMemNv ps f s).now = s.now := rfl
@[simp] theorem onMemNv_hbm (ps : List DevPart) (f : State → State) (s : State) : (onMemNv ps f s).hbm = (f s).hbm := rfl
@[simp] theorem onMemNv_bank (ps : List DevPart) (f : State → State) (s : State) : (onMemNv ps f s).bank = s.bank := rfl
@[simp] theorem onMemNv_nv (ps : List DevPart) (f : State → State) (s : State) : (onMemNv ps f s).nv = (f s).nv := rfl

@[simp] theorem onCeil_dev (ps : List DevPart) (f : State → State) (s : State) :
    (onCeil ps f s).dev = partsOf ps f s := rfl
@[simp] theorem onCeil_pending (ps : List DevPart) (f : State → State) (s : State) : (onCeil ps f s).pending = s.pending := rfl
@[simp] theorem onCeil_fuses (ps : List DevPart) (f : State → State) (s : State) : (onCeil ps f s).fuses = s.fuses := rfl
@[simp] theorem onCeil_ceilings (ps : List DevPart) (f : State → State) (s : State) : (onCeil ps f s).ceilings = (f s).ceilings := rfl
@[simp] theorem onCeil_now (ps : List DevPart) (f : State → State) (s : State) : (onCeil ps f s).now = s.now := rfl
@[simp] theorem onCeil_hbm (ps : List DevPart) (f : State → State) (s : State) : (onCeil ps f s).hbm = s.hbm := rfl
@[simp] theorem onCeil_bank (ps : List DevPart) (f : State → State) (s : State) : (onCeil ps f s).bank = s.bank := rfl
@[simp] theorem onCeil_nv (ps : List DevPart) (f : State → State) (s : State) : (onCeil ps f s).nv = (f s).nv := rfl

@[simp] theorem onAll_dev (f : State → State) (s : State) : (onAll f s).dev = (f s).dev := rfl
@[simp] theorem onAll_pending (f : State → State) (s : State) : (onAll f s).pending = s.pending := rfl
@[simp] theorem onAll_fuses (f : State → State) (s : State) : (onAll f s).fuses = s.fuses := rfl
@[simp] theorem onAll_ceilings (f : State → State) (s : State) : (onAll f s).ceilings = (f s).ceilings := rfl
@[simp] theorem onAll_now (f : State → State) (s : State) : (onAll f s).now = s.now := rfl
@[simp] theorem onAll_hbm (f : State → State) (s : State) : (onAll f s).hbm = (f s).hbm := rfl
@[simp] theorem onAll_bank (f : State → State) (s : State) : (onAll f s).bank = (f s).bank := rfl
@[simp] theorem onAll_nv (f : State → State) (s : State) : (onAll f s).nv = (f s).nv := rfl

@[simp] theorem onFuses_dev (f : State → State) (s : State) : (onFuses f s).dev = (f s).dev := rfl
@[simp] theorem onFuses_pending (f : State → State) (s : State) : (onFuses f s).pending = s.pending := rfl
@[simp] theorem onFuses_fuses (f : State → State) (s : State) : (onFuses f s).fuses = (f s).fuses := rfl
@[simp] theorem onFuses_ceilings (f : State → State) (s : State) : (onFuses f s).ceilings = (f s).ceilings := rfl
@[simp] theorem onFuses_now (f : State → State) (s : State) : (onFuses f s).now = s.now := rfl
@[simp] theorem onFuses_hbm (f : State → State) (s : State) : (onFuses f s).hbm = (f s).hbm := rfl
@[simp] theorem onFuses_bank (f : State → State) (s : State) : (onFuses f s).bank = (f s).bank := rfl
@[simp] theorem onFuses_nv (f : State → State) (s : State) : (onFuses f s).nv = (f s).nv := rfl

@[simp] theorem partsOf_od {ps : List DevPart} (h : .od ∈ ps) (f : State → State) (s : State) :
    (partsOf ps f s).od = (f s).dev.od := by simp [partsOf, Dev.within, h]
@[simp] theorem partsOf_shadow {ps : List DevPart} (h : .shadow ∈ ps) (f : State → State) (s : State) :
    (partsOf ps f s).shadow = (f s).dev.shadow := by simp [partsOf, Dev.within, h]
@[simp] theorem partsOf_live {ps : List DevPart} (h : .live ∈ ps) (f : State → State) (s : State) :
    (partsOf ps f s).live = (f s).dev.live := by simp [partsOf, Dev.within, h]
@[simp] theorem partsOf_captured {ps : List DevPart} (h : .captured ∈ ps) (f : State → State) (s : State) :
    (partsOf ps f s).captured = (f s).dev.captured := by simp [partsOf, Dev.within, h]
@[simp] theorem partsOf_commitPending {ps : List DevPart} (h : .commitPending ∈ ps) (f : State → State) (s : State) :
    (partsOf ps f s).commitPending = (f s).dev.commitPending := by simp [partsOf, Dev.within, h]
@[simp] theorem partsOf_commitCaptured {ps : List DevPart} (h : .commitCaptured ∈ ps) (f : State → State) (s : State) :
    (partsOf ps f s).commitCaptured = (f s).dev.commitCaptured := by simp [partsOf, Dev.within, h]
@[simp] theorem partsOf_timing {ps : List DevPart} (h : .timing ∈ ps) (f : State → State) (s : State) :
    (partsOf ps f s).timing = (f s).dev.timing := by simp [partsOf, Dev.within, h]
@[simp] theorem partsOf_synth {ps : List DevPart} (h : .synth ∈ ps) (f : State → State) (s : State) :
    (partsOf ps f s).synth = (f s).dev.synth := by simp [partsOf, Dev.within, h]
@[simp] theorem partsOf_gov {ps : List DevPart} (h : .gov ∈ ps) (f : State → State) (s : State) :
    (partsOf ps f s).gov = (f s).dev.gov := by simp [partsOf, Dev.within, h]
@[simp] theorem partsOf_bandUpdates {ps : List DevPart} (h : .bandUpdates ∈ ps) (f : State → State) (s : State) :
    (partsOf ps f s).bandUpdates = (f s).dev.bandUpdates := by simp [partsOf, Dev.within, h]
@[simp] theorem partsOf_regions {ps : List DevPart} (h : .regions ∈ ps) (f : State → State) (s : State) :
    (partsOf ps f s).regions = (f s).dev.regions := by simp [partsOf, Dev.within, h]
@[simp] theorem partsOf_jobs {ps : List DevPart} (h : .jobs ∈ ps) (f : State → State) (s : State) :
    (partsOf ps f s).jobs = (f s).dev.jobs := by simp [partsOf, Dev.within, h]
@[simp] theorem partsOf_waiting {ps : List DevPart} (h : .waiting ∈ ps) (f : State → State) (s : State) :
    (partsOf ps f s).waiting = (f s).dev.waiting := by simp [partsOf, Dev.within, h]
@[simp] theorem partsOf_copies {ps : List DevPart} (h : .copies ∈ ps) (f : State → State) (s : State) :
    (partsOf ps f s).copies = (f s).dev.copies := by simp [partsOf, Dev.within, h]
@[simp] theorem partsOf_changed {ps : List DevPart} (h : .changed ∈ ps) (f : State → State) (s : State) :
    (partsOf ps f s).changed = (f s).dev.changed := by simp [partsOf, Dev.within, h]
@[simp] theorem partsOf_clipReady {ps : List DevPart} (h : .clipReady ∈ ps) (f : State → State) (s : State) :
    (partsOf ps f s).clipReady = (f s).dev.clipReady := by simp [partsOf, Dev.within, h]
@[simp] theorem partsOf_late {ps : List DevPart} (h : .late ∈ ps) (f : State → State) (s : State) :
    (partsOf ps f s).late = (f s).dev.late := by simp [partsOf, Dev.within, h]
@[simp] theorem partsOf_holdSlots {ps : List DevPart} (h : .holdSlots ∈ ps) (f : State → State) (s : State) :
    (partsOf ps f s).holdSlots = (f s).dev.holdSlots := by simp [partsOf, Dev.within, h]
@[simp] theorem partsOf_clips {ps : List DevPart} (h : .clips ∈ ps) (f : State → State) (s : State) :
    (partsOf ps f s).clips = (f s).dev.clips := by simp [partsOf, Dev.within, h]
@[simp] theorem partsOf_players {ps : List DevPart} (h : .players ∈ ps) (f : State → State) (s : State) :
    (partsOf ps f s).players = (f s).dev.players := by simp [partsOf, Dev.within, h]
@[simp] theorem partsOf_protectedDefs {ps : List DevPart} (h : .protectedDefs ∈ ps) (f : State → State) (s : State) :
    (partsOf ps f s).protectedDefs = (f s).dev.protectedDefs := by simp [partsOf, Dev.within, h]
@[simp] theorem partsOf_protectedSlots {ps : List DevPart} (h : .protectedSlots ∈ ps) (f : State → State) (s : State) :
    (partsOf ps f s).protectedSlots = (f s).dev.protectedSlots := by simp [partsOf, Dev.within, h]
@[simp] theorem partsOf_protectedLogged {ps : List DevPart} (h : .protectedLogged ∈ ps) (f : State → State) (s : State) :
    (partsOf ps f s).protectedLogged = (f s).dev.protectedLogged := by simp [partsOf, Dev.within, h]
@[simp] theorem partsOf_freeze {ps : List DevPart} (h : .freeze ∈ ps) (f : State → State) (s : State) :
    (partsOf ps f s).freeze = (f s).dev.freeze := by simp [partsOf, Dev.within, h]
@[simp] theorem partsOf_links {ps : List DevPart} (h : .links ∈ ps) (f : State → State) (s : State) :
    (partsOf ps f s).links = (f s).dev.links := by simp [partsOf, Dev.within, h]
@[simp] theorem partsOf_ports {ps : List DevPart} (h : .ports ∈ ps) (f : State → State) (s : State) :
    (partsOf ps f s).ports = (f s).dev.ports := by simp [partsOf, Dev.within, h]
@[simp] theorem partsOf_drivers {ps : List DevPart} (h : .drivers ∈ ps) (f : State → State) (s : State) :
    (partsOf ps f s).drivers = (f s).dev.drivers := by simp [partsOf, Dev.within, h]
@[simp] theorem partsOf_lens {ps : List DevPart} (h : .lens ∈ ps) (f : State → State) (s : State) :
    (partsOf ps f s).lens = (f s).dev.lens := by simp [partsOf, Dev.within, h]
@[simp] theorem partsOf_clock {ps : List DevPart} (h : .clock ∈ ps) (f : State → State) (s : State) :
    (partsOf ps f s).clock = (f s).dev.clock := by simp [partsOf, Dev.within, h]
@[simp] theorem partsOf_sources {ps : List DevPart} (h : .sources ∈ ps) (f : State → State) (s : State) :
    (partsOf ps f s).sources = (f s).dev.sources := by simp [partsOf, Dev.within, h]
@[simp] theorem partsOf_eth {ps : List DevPart} (h : .eth ∈ ps) (f : State → State) (s : State) :
    (partsOf ps f s).eth = (f s).dev.eth := by simp [partsOf, Dev.within, h]
@[simp] theorem partsOf_tiles {ps : List DevPart} (h : .tiles ∈ ps) (f : State → State) (s : State) :
    (partsOf ps f s).tiles = (f s).dev.tiles := by simp [partsOf, Dev.within, h]
@[simp] theorem partsOf_safety {ps : List DevPart} (h : .safety ∈ ps) (f : State → State) (s : State) :
    (partsOf ps f s).safety = (f s).dev.safety := by simp [partsOf, Dev.within, h]
@[simp] theorem partsOf_timeIn {ps : List DevPart} (h : .timeIn ∈ ps) (f : State → State) (s : State) :
    (partsOf ps f s).timeIn = (f s).dev.timeIn := by simp [partsOf, Dev.within, h]
@[simp] theorem partsOf_timeOut {ps : List DevPart} (h : .timeOut ∈ ps) (f : State → State) (s : State) :
    (partsOf ps f s).timeOut = (f s).dev.timeOut := by simp [partsOf, Dev.within, h]
@[simp] theorem partsOf_host {ps : List DevPart} (h : .host ∈ ps) (f : State → State) (s : State) :
    (partsOf ps f s).host = (f s).dev.host := by simp [partsOf, Dev.within, h]
@[simp] theorem partsOf_ncp {ps : List DevPart} (h : .ncp ∈ ps) (f : State → State) (s : State) :
    (partsOf ps f s).ncp = (f s).dev.ncp := by simp [partsOf, Dev.within, h]
@[simp] theorem partsOf_memory {ps : List DevPart} (h : .memory ∈ ps) (f : State → State) (s : State) :
    (partsOf ps f s).memory = (f s).dev.memory := by simp [partsOf, Dev.within, h]
@[simp] theorem partsOf_units {ps : List DevPart} (h : .units ∈ ps) (f : State → State) (s : State) :
    (partsOf ps f s).units = (f s).dev.units := by simp [partsOf, Dev.within, h]
@[simp] theorem partsOf_thermal {ps : List DevPart} (h : .thermal ∈ ps) (f : State → State) (s : State) :
    (partsOf ps f s).thermal = (f s).dev.thermal := by simp [partsOf, Dev.within, h]
@[simp] theorem partsOf_images {ps : List DevPart} (h : .images ∈ ps) (f : State → State) (s : State) :
    (partsOf ps f s).images = (f s).dev.images := by simp [partsOf, Dev.within, h]
@[simp] theorem partsOf_bringup {ps : List DevPart} (h : .bringup ∈ ps) (f : State → State) (s : State) :
    (partsOf ps f s).bringup = (f s).dev.bringup := by simp [partsOf, Dev.within, h]
@[simp] theorem partsOf_events {ps : List DevPart} (h : .events ∈ ps) (f : State → State) (s : State) :
    (partsOf ps f s).events = (f s).dev.events := by simp [partsOf, Dev.within, h]
@[simp] theorem partsOf_eventBuffer {ps : List DevPart} (h : .eventBuffer ∈ ps) (f : State → State) (s : State) :
    (partsOf ps f s).eventBuffer = (f s).dev.eventBuffer := by simp [partsOf, Dev.within, h]
@[simp] theorem partsOf_delayed {ps : List DevPart} (h : .delayed ∈ ps) (f : State → State) (s : State) :
    (partsOf ps f s).delayed = (f s).dev.delayed := by simp [partsOf, Dev.within, h]
@[simp] theorem partsOf_drawn {ps : List DevPart} (h : .drawn ∈ ps) (f : State → State) (s : State) :
    (partsOf ps f s).drawn = (f s).dev.drawn := by simp [partsOf, Dev.within, h]

/-! ### Registers through a scope -/

@[simp] theorem onDev_reg {ps : List DevPart} (h : .od ∈ ps) (f : State → State) (s : State) (i j : Nat) :
    (onDev ps f s).reg i j = (f s).reg i j := by simp [State.reg, h]

theorem onDev_reg_same {ps : List DevPart} (h : .od ∉ ps) (f : State → State) (s : State) (i j : Nat) :
    (onDev ps f s).reg i j = s.reg i j := by
  simp only [State.reg, onDev_dev, show (partsOf ps f s).od = s.dev.od from partsOf_same h f s]

@[simp] theorem onMem_reg {ps : List DevPart} (h : .od ∈ ps) (f : State → State) (s : State) (i j : Nat) :
    (onMem ps f s).reg i j = (f s).reg i j := by simp [State.reg, h]

theorem onMem_reg_same {ps : List DevPart} (h : .od ∉ ps) (f : State → State) (s : State) (i j : Nat) :
    (onMem ps f s).reg i j = s.reg i j := by
  simp only [State.reg, onMem_dev, show (partsOf ps f s).od = s.dev.od from partsOf_same h f s]

@[simp] theorem onBank_reg {ps : List DevPart} (h : .od ∈ ps) (f : State → State) (s : State) (i j : Nat) :
    (onBank ps f s).reg i j = (f s).reg i j := by simp [State.reg, h]

theorem onBank_reg_same {ps : List DevPart} (h : .od ∉ ps) (f : State → State) (s : State) (i j : Nat) :
    (onBank ps f s).reg i j = s.reg i j := by
  simp only [State.reg, onBank_dev, show (partsOf ps f s).od = s.dev.od from partsOf_same h f s]

@[simp] theorem onNv_reg {ps : List DevPart} (h : .od ∈ ps) (f : State → State) (s : State) (i j : Nat) :
    (onNv ps f s).reg i j = (f s).reg i j := by simp [State.reg, h]

theorem onNv_reg_same {ps : List DevPart} (h : .od ∉ ps) (f : State → State) (s : State) (i j : Nat) :
    (onNv ps f s).reg i j = s.reg i j := by
  simp only [State.reg, onNv_dev, show (partsOf ps f s).od = s.dev.od from partsOf_same h f s]

@[simp] theorem onBankNv_reg {ps : List DevPart} (h : .od ∈ ps) (f : State → State) (s : State) (i j : Nat) :
    (onBankNv ps f s).reg i j = (f s).reg i j := by simp [State.reg, h]

theorem onBankNv_reg_same {ps : List DevPart} (h : .od ∉ ps) (f : State → State) (s : State) (i j : Nat) :
    (onBankNv ps f s).reg i j = s.reg i j := by
  simp only [State.reg, onBankNv_dev, show (partsOf ps f s).od = s.dev.od from partsOf_same h f s]

@[simp] theorem onMemNv_reg {ps : List DevPart} (h : .od ∈ ps) (f : State → State) (s : State) (i j : Nat) :
    (onMemNv ps f s).reg i j = (f s).reg i j := by simp [State.reg, h]

theorem onMemNv_reg_same {ps : List DevPart} (h : .od ∉ ps) (f : State → State) (s : State) (i j : Nat) :
    (onMemNv ps f s).reg i j = s.reg i j := by
  simp only [State.reg, onMemNv_dev, show (partsOf ps f s).od = s.dev.od from partsOf_same h f s]

@[simp] theorem onCeil_reg {ps : List DevPart} (h : .od ∈ ps) (f : State → State) (s : State) (i j : Nat) :
    (onCeil ps f s).reg i j = (f s).reg i j := by simp [State.reg, h]

theorem onCeil_reg_same {ps : List DevPart} (h : .od ∉ ps) (f : State → State) (s : State) (i j : Nat) :
    (onCeil ps f s).reg i j = s.reg i j := by
  simp only [State.reg, onCeil_dev, show (partsOf ps f s).od = s.dev.od from partsOf_same h f s]

@[simp] theorem onAll_reg (f : State → State) (s : State) (i j : Nat) : (onAll f s).reg i j = (f s).reg i j := rfl

@[simp] theorem onFuses_reg (f : State → State) (s : State) (i j : Nat) : (onFuses f s).reg i j = (f s).reg i j := rfl


end Sys2Proof.Machine
end

