-- ==== Sys2Proof/Laws/Exec.lean ====
section
/-!
SUPPORT. What each command answers: with operands in range, on a part that has the unit, the next state its scope and
its meaning give.
-/
namespace Sys2Proof.Machine

theorem exec_lineStart (left : ScanCheck) (right : ScanCheck) (s : State) :
    exec (.lineStart left right) s = .next (onMemNv [.od, .live, .captured, .commitPending, .commitCaptured,
      .timing, .synth, .gov, .bandUpdates, .regions, .jobs, .waiting, .copies, .changed, .clipReady, .late, .lost,
      .due, .holdSlots, .clips, .players, .protectedLogged, .freeze, .links, .ports, .lens, .eth, .tiles, .safety,
      .timeOut, .host, .ncp, .memory, .bringup, .events, .eventBuffer, .eventMessages, .drawn] (lineStart left
      right) s) :=
  run_next (i := (.lineStart left right)) _ rfl

theorem exec_linkUnderrun (l : Nat) (sent : Nat) (s : State) (w1 : l < 256) (here : l < nLinks s) :
    exec (.linkUnderrun l sent) s = .next (onDev [.od, .timing, .links] (underrun l sent) s) :=
  runOn_next (i := (.linkUnderrun l sent)) s _ (decide_eq_true w1) (decide_eq_true here)

theorem exec_eve (s : State) :
    exec .eve s = .next (onMem [.od, .shadow, .captured, .commitPending, .commitCaptured, .timing, .jobs,
      .waiting, .copies, .clipReady, .late, .lost, .due, .holdSlots, .clips, .players, .freeze, .lens, .tiles,
      .safety, .timeOut, .host, .ncp, .memory, .images, .events, .eventBuffer, .eventMessages] eve s) :=
  run_next (i := .eve) _ rfl

theorem exec_calends (s : State) :
    exec .calends s = .next (onMemNv [.od, .live, .captured, .commitCaptured, .timing, .synth, .gov, .bandUpdates,
      .regions, .jobs, .waiting, .copies, .changed, .clipReady, .late, .lost, .due, .holdSlots, .clips, .players,
      .protectedLogged, .freeze, .ports, .lens, .tiles, .safety, .timeOut, .host, .memory, .bringup, .events,
      .eventBuffer, .eventMessages, .drawn] calends s) :=
  run_next (i := .calends) _ rfl

theorem exec_patchRequest (sc : Nat) (s : State) (w1 : sc < 100) (here : clusterHere s sc = true) :
    exec (.patchRequest sc) s = .next (onDev [.synth] (patchRequest sc) s) :=
  runOn_next (i := (.patchRequest sc)) s _ (decide_eq_true w1) here

theorem exec_patchComplete (strip : Nat) (patch : Nat) (s : State) (w1 : strip < 720) (w2 : patch < 32) :
    exec (.patchComplete strip patch) s = .next (onMem [.od, .synth, .gov, .protectedLogged, .freeze, .memory,
      .events, .eventBuffer, .eventMessages] (patchComplete strip patch) s) :=
  run_next (i := (.patchComplete strip patch)) _ (by show (_ && _) = true; simp [w1, w2])

theorem exec_windowFetch (strip : Nat) (patch : Nat) (layer : Nat) (block : Nat) (first : CopyRead) (bad1 : Bool)
    (s : State) (w1 : strip < 720) (w2 : patch < 32) (w3 : layer < 32) (w4 : block < 32768) :
    exec (.windowFetch strip patch layer block first bad1) s = .next (onMem [.od, .synth, .memory, .events,
      .eventBuffer, .eventMessages] (windowFetch strip patch layer block first bad1) s) :=
  run_next (i := (.windowFetch strip patch layer block first bad1)) _ (by show (_ && _) = true; simp [w1, w2, w3, w4])

theorem exec_clusterFault (sc : Nat) (s : State) (w1 : sc < 100) (here : clusterHere s sc = true) :
    exec (.clusterFault sc) s = .next (onDev [.od, .synth, .events, .eventBuffer, .eventMessages] (clusterFault
      sc) s) :=
  runOn_next (i := (.clusterFault sc)) s _ (decide_eq_true w1) here

theorem exec_windowStoreEccError (sc : Nat) (double : Bool) (again : Bool) (s : State) (w1 : sc < 100) (here :
    clusterHere s sc = true) :
    exec (.windowStoreEccError sc double again) s = .next (onMem [.od, .synth, .memory, .events, .eventBuffer,
      .eventMessages, .drawn] (windowEcc sc double again) s) :=
  runOn_next (i := (.windowStoreEccError sc double again)) s _ (decide_eq_true w1) here

theorem exec_clusterHeartbeatTimeout (sc : Nat) (s : State) (w1 : sc < 100) (here : clusterHere s sc = true) :
    exec (.clusterHeartbeatTimeout sc) s = .next (onDev [.od, .synth, .events, .eventBuffer, .eventMessages]
      (clusterFault sc) s) :=
  runOn_next (i := (.clusterHeartbeatTimeout sc)) s _ (decide_eq_true w1) here

theorem exec_patchWatchdogExpiry (strip : Nat) (patch : Nat) (s : State) (w1 : strip < 720) (w2 : patch < 32) :
    exec (.patchWatchdogExpiry strip patch) s = .next (onDev [.od, .synth, .events, .eventBuffer, .eventMessages]
      (watchdogExpiry strip patch) s) :=
  run_next (i := (.patchWatchdogExpiry strip patch)) _ (by show (_ && _) = true; simp [w1, w2])

theorem exec_redoQuarterComplete (sc : Nat) (s : State) (w1 : sc < 100) (here : clusterHere s sc = true) :
    exec (.redoQuarterComplete sc) s = .next (onMem [.od, .synth, .gov, .protectedLogged, .freeze, .memory,
      .events, .eventBuffer, .eventMessages] (quarterComplete sc) s) :=
  runOn_next (i := (.redoQuarterComplete sc)) s _ (decide_eq_true w1) here

theorem exec_spareFault (sc : Nat) (s : State) (w1 : sc < 100) (here : clusterHere s sc = true) :
    exec (.spareFault sc) s = .next (onDev [.od, .synth, .events, .eventBuffer, .eventMessages] (clusterFault sc)
      s) :=
  runOn_next (i := (.spareFault sc)) s _ (decide_eq_true w1) here

theorem exec_overlayEngineFault (e : Nat) (s : State) (w1 : e < 8) :
    exec (.overlayEngineFault e) s = .next (onDev [.od, .events, .eventBuffer, .eventMessages] (engineFault e) s)
      :=
  run_next (i := (.overlayEngineFault e)) _ (decide_eq_true w1)

theorem exec_colourResidueFail (strip : Nat) (patch : Nat) (second : Bool) (s : State) (w1 : strip < 720) (w2 :
    patch < 32) :
    exec (.colourResidueFail strip patch second) s = .next (onDev [.od, .synth] (residueFail strip patch second)
      s) :=
  run_next (i := (.colourResidueFail strip patch second)) _ (by show (_ && _) = true; simp [w1, w2])

theorem exec_gainMapReadFault (off : Nat) (len : Nat) (s : State) :
    exec (.gainMapReadFault off len) s = .next (onDev [.od, .gov, .memory, .events, .eventBuffer, .eventMessages]
      (gainFault off len) s) :=
  run_next (i := (.gainMapReadFault off len)) _ rfl

theorem exec_ceilingScaleRecompute (s : State) :
    exec .ceilingScaleRecompute s = .next (onDev [.od, .gov] ceilingRecompute s) :=
  run_next (i := .ceilingScaleRecompute) _ rfl

theorem exec_freezeCacheStripRead (strip : Nat) (bad0 : Bool) (bad1 : Bool) (s : State) (w1 : strip < 720) :
    exec (.freezeCacheStripRead strip bad0 bad1) s = .next (onDev [.od, .synth, .freeze, .memory, .events,
      .eventBuffer, .eventMessages] (freezeStripRead strip bad0 bad1) s) :=
  run_next (i := (.freezeCacheStripRead strip bad0 bad1)) _ (decide_eq_true w1)

theorem exec_chunkDecode (de : Nat) (ord : Nat) (s : State) (w1 : de < 32) :
    exec (.chunkDecode de ord) s = .next (onMem [.od, .jobs, .waiting, .lastChunk, .copies, .lost, .due,
      .holdSlots, .players, .host, .memory, .events, .eventBuffer, .eventMessages] (chunkDecode de ord) s) :=
  run_next (i := (.chunkDecode de ord)) _ (decide_eq_true w1)

theorem exec_indexRecordResume (de : Nat) (s : State) (w1 : de < 32) :
    exec (.indexRecordResume de) s = .next (onMem [.od, .jobs, .waiting, .lastChunk, .copies, .lost, .due,
      .holdSlots, .players, .host, .memory, .events, .eventBuffer, .eventMessages] (indexResume de) s) :=
  run_next (i := (.indexRecordResume de)) _ (decide_eq_true w1)

theorem exec_decoderFault (de : Nat) (s : State) (w1 : de < 32) :
    exec (.decoderFault de) s = .next (onMem [.od, .jobs, .waiting, .lastChunk, .copies, .lost, .due, .holdSlots,
      .players, .host, .memory, .events, .eventBuffer, .eventMessages, .drawn] (decoderFault de) s) :=
  run_next (i := (.decoderFault de)) _ (decide_eq_true w1)

theorem exec_internalMarkerComplete (src : Nat) (s : State) (w1 : src < 64) :
    exec (.internalMarkerComplete src) s = .next (onMem [.od, .bandUpdates, .jobs, .waiting, .copies, .clipReady,
      .host, .memory] (markerComplete src) s) :=
  run_next (i := (.internalMarkerComplete src)) _ (decide_eq_true w1)

theorem exec_copyComplete (layer : Nat) (s : State) (w1 : layer < 32) :
    exec (.copyComplete layer) s = .next (onMem [.od, .copies, .memory] (copyComplete layer) s) :=
  run_next (i := (.copyComplete layer)) _ (decide_eq_true w1)

theorem exec_clipRegister (s : State) :
    exec .clipRegister s = .next (onDev [.od, .clips, .memory] (fun t => (clipRegister t).2) s) :=
  run_next (i := .clipRegister) _ rfl

theorem exec_clipVerify (s : State) :
    exec .clipVerify s = .next (onDev [.clips] (fun t => (clipVerify t).2) s) :=
  run_next (i := .clipVerify) _ rfl

theorem exec_clipUnregister (s : State) :
    exec .clipUnregister s = .next (onDev [.clips] (fun t => (clipUnregister t).2) s) :=
  run_next (i := .clipUnregister) _ rfl

theorem exec_clipVerificationComplete (entry : Nat) (s : State) (w1 : entry < 4096) :
    exec (.clipVerificationComplete entry) s = .next (onDev [.od, .clips, .tiles, .memory, .drawn] (clipVerified
      entry) s) :=
  run_next (i := (.clipVerificationComplete entry)) _ (decide_eq_true w1)

theorem exec_viewTableSubmit (s : State) :
    exec .viewTableSubmit s = .next (onDev [.od, .host] (fun t => (viewSubmit t).2) s) :=
  run_next (i := .viewTableSubmit) _ rfl

theorem exec_commitRequest (s : State) :
    exec .commitRequest s = .next (onDev [.od, .commitPending] (fun t => (commitRequest t).2) s) :=
  run_next (i := .commitRequest) _ rfl

theorem exec_shadowWrite (index : Nat) (sub : Nat) (value : Nat) (s : State) (w1 : index < 65536) (w2 : sub < 256)
    :
    exec (.shadowWrite index sub value) s = .next (onDev [.shadow, .commitPending] (shadowWriteValue index sub
      value) s) :=
  run_next (i := (.shadowWrite index sub value)) _ (by show (_ && _) = true; simp [w1, w2])

theorem exec_protectedLoad (s : State) :
    exec .protectedLoad s = .next (onDev [.protectedDefs, .protectedSlots] (fun t => (protectedLoad t).2) s) :=
  run_next (i := .protectedLoad) _ rfl

theorem exec_protectedLoadComplete (slot : Nat) (s : State) (w1 : slot < 20) :
    exec (.protectedLoadComplete slot) s = .next (onMem [.od, .protectedDefs, .protectedSlots, .tiles, .memory,
      .drawn] (loadComplete slot) s) :=
  run_next (i := (.protectedLoadComplete slot)) _ (decide_eq_true w1)

theorem exec_protectedErase (s : State) :
    exec .protectedErase s = .next (onDev [.protectedDefs, .protectedSlots] (fun t => (protectedErase t).2) s) :=
  run_next (i := .protectedErase) _ rfl

theorem exec_protectedSlotRead (slot : Nat) (block : Nat) (bad0 : Bool) (bad1 : Bool) (s : State) (w1 : slot < 20)
    (w2 : block < 2048) :
    exec (.protectedSlotRead slot block bad0 bad1) s = .next (onMem [.od, .synth, .protectedLogged, .memory,
      .events, .eventBuffer, .eventMessages] (protectedRead slot block bad0 bad1) s) :=
  run_next (i := (.protectedSlotRead slot block bad0 bad1)) _ (by show (_ && _) = true; simp [w1, w2])

theorem exec_regionLearn (r : Nat) (s : State) (w1 : r < 16) :
    exec (.regionLearn r) s = .next (onDev [.shadow] (regionLearn r) s) :=
  run_next (i := (.regionLearn r)) _ (decide_eq_true w1)

theorem exec_safeShowNAssert (s : State) :
    exec .safeShowNAssert s = .next (onDev [.tiles, .safety] pinAssert s) :=
  run_next (i := .safeShowNAssert) _ rfl

theorem exec_safeShowNRelease (s : State) :
    exec .safeShowNRelease s = .next (onDev [.safety] pinRelease s) :=
  run_next (i := .safeShowNRelease) _ rfl

theorem exec_safetyRelease (s : State) :
    exec .safetyRelease s = .next (onDev [.safety] (fun t => (safetyRelease t).2) s) :=
  run_next (i := .safetyRelease) _ rfl

theorem exec_safetyReleaseCancel (s : State) :
    exec .safetyReleaseCancel s = .next (onDev [.safety] cancelRelease s) :=
  run_next (i := .safetyReleaseCancel) _ rfl

theorem exec_gainMapBaseWrite (value : Nat) (s : State) :
    exec (.gainMapBaseWrite value) s = .next (onDev [.od] (fun t => (gainBaseWrite value t).2) s) :=
  run_next (i := (.gainMapBaseWrite value)) _ rfl

theorem exec_gainMapCheck (s : State) :
    exec .gainMapCheck s = .next (onDev [.od, .live, .captured] gainCheck s) :=
  run_next (i := .gainMapCheck) _ rfl

theorem exec_gainMapCheckComplete (s : State) :
    exec .gainMapCheckComplete s = .next (onDev [.od, .memory] gainCheckEnd s) :=
  run_next (i := .gainMapCheckComplete) _ rfl

theorem exec_bandSubmit (s : State) :
    exec .bandSubmit s = .next (onDev [.od, .bandUpdates] (fun t => (bandSubmit t).2) s) :=
  run_next (i := .bandSubmit) _ rfl

theorem exec_bandCopyComplete (band : Nat) (s : State) (w1 : band < 720) :
    exec (.bandCopyComplete band) s = .next (onMem [.od, .bandUpdates, .memory, .events, .eventBuffer,
      .eventMessages] (bandCopied band) s) :=
  run_next (i := (.bandCopyComplete band)) _ (decide_eq_true w1)

theorem exec_hardwareCeilingWrite (value : Nat) (s : State) :
    exec (.hardwareCeilingWrite value) s = .next (onNv [.od] (answered fun t => (ceilingWrite .radiance value []
      t).2) s) :=
  run_next (i := (.hardwareCeilingWrite value)) _ rfl

theorem exec_agingRefresh (s : State) :
    exec .agingRefresh s = .next (onDev [.shadow] agingRefresh s) :=
  run_next (i := .agingRefresh) _ rfl

theorem exec_rasterSubmit (s : State) :
    exec .rasterSubmit s = .next (onDev [.od, .host] (fun t => (rasterSubmit t).2) s) :=
  run_next (i := .rasterSubmit) _ rfl

theorem exec_hostSilenceTimeout (s : State) :
    exec .hostSilenceTimeout s = .next (onDev [.timing] hostSilent s) :=
  run_next (i := .hostSilenceTimeout) _ rfl

theorem exec_laneSleepEnter (l : Nat) (s : State) (w1 : l < 256) (here : l < nLinks s) :
    exec (.laneSleepEnter l) s = .next (onDev [.od, .links, .drivers] (laneSleep l) s) :=
  runOn_next (i := (.laneSleepEnter l)) s _ (decide_eq_true w1) (decide_eq_true here)

theorem exec_laneWake (l : Nat) (s : State) (w1 : l < 256) (here : l < nLinks s) :
    exec (.laneWake l) s = .next (onDev [.od] (laneWake l) s) :=
  runOn_next (i := (.laneWake l)) s _ (decide_eq_true w1) (decide_eq_true here)

theorem exec_statusReceive (l : Nat) (block : Nat) (s : State) (w1 : l < 256) (here : l < nLinks s) :
    exec (.statusReceive l block) s = .next (onDev [.od, .links, .ports, .events, .eventBuffer, .eventMessages]
      (statusReceive l block) s) :=
  runOn_next (i := (.statusReceive l block)) s _ (decide_eq_true w1) (decide_eq_true here)

theorem exec_trainReceive (l : Nat) (block : Nat) (s : State) (w1 : l < 256) (here : l < nLinks s) :
    exec (.trainReceive l block) s = .next (onDev [.od, .links, .ports, .events, .eventBuffer, .eventMessages]
      (trainReceive l block) s) :=
  runOn_next (i := (.trainReceive l block)) s _ (decide_eq_true w1) (decide_eq_true here)

theorem exec_trainReqReceive (l : Nat) (s : State) (w1 : l < 256) (here : l < nLinks s) :
    exec (.trainReqReceive l) s = .next (onDev [.od, .links, .ports, .events, .eventBuffer, .eventMessages]
      (trainReqReceive l) s) :=
  runOn_next (i := (.trainReqReceive l)) s _ (decide_eq_true w1) (decide_eq_true here)

theorem exec_capUpReceive (l : Nat) (block : Nat) (s : State) (w1 : l < 256) (here : l < nLinks s) :
    exec (.capUpReceive l block) s = .next (onDev [.od, .links, .ports, .events, .eventBuffer, .eventMessages]
      (capUpReceive l block) s) :=
  runOn_next (i := (.capUpReceive l block)) s _ (decide_eq_true w1) (decide_eq_true here)

theorem exec_testResultReceive (l : Nat) (block : Nat) (s : State) (w1 : l < 256) (here : l < nLinks s) :
    exec (.testResultReceive l block) s = .next (onDev [.od, .links, .ports, .events, .eventBuffer,
      .eventMessages] (resultReceive l block) s) :=
  runOn_next (i := (.testResultReceive l block)) s _ (decide_eq_true w1) (decide_eq_true here)

theorem exec_telemReceive (l : Nat) (block : Nat) (s : State) (w1 : l < 256) (here : l < nLinks s) :
    exec (.telemReceive l block) s = .next (onDev [.od, .links, .ports, .events, .eventBuffer, .eventMessages]
      (telemReceive l block) s) :=
  runOn_next (i := (.telemReceive l block)) s _ (decide_eq_true w1) (decide_eq_true here)

theorem exec_upstreamSleepReceive (l : Nat) (block : Nat) (s : State) (w1 : l < 256) (here : l < nLinks s) :
    exec (.upstreamSleepReceive l block) s = .next (onDev [.od, .links, .ports, .events, .eventBuffer,
      .eventMessages] (sleepReceive l block) s) :=
  runOn_next (i := (.upstreamSleepReceive l block)) s _ (decide_eq_true w1) (decide_eq_true here)

theorem exec_upstreamViolation (l : Nat) (s : State) (w1 : l < 256) (here : l < nLinks s) :
    exec (.upstreamViolation l) s = .next (onDev [.od, .links, .ports, .events, .eventBuffer, .eventMessages]
      (violationReceive l) s) :=
  runOn_next (i := (.upstreamViolation l)) s _ (decide_eq_true w1) (decide_eq_true here)

theorem exec_upstreamLockGain (l : Nat) (s : State) (w1 : l < 256) (here : l < nLinks s) :
    exec (.upstreamLockGain l) s = .next (onDev [.od, .links] (upLockGain l) s) :=
  runOn_next (i := (.upstreamLockGain l)) s _ (decide_eq_true w1) (decide_eq_true here)

theorem exec_upstreamLockLoss (l : Nat) (s : State) (w1 : l < 256) (here : l < nLinks s) :
    exec (.upstreamLockLoss l) s = .next (onDev [.od, .links] (upLockLoss l) s) :=
  runOn_next (i := (.upstreamLockLoss l)) s _ (decide_eq_true w1) (decide_eq_true here)

theorem exec_upstreamLaneLost (l : Nat) (s : State) (w1 : l < 256) (here : l < nLinks s) :
    exec (.upstreamLaneLost l) s = .next (onDev [.links] (upLaneLost l) s) :=
  runOn_next (i := (.upstreamLaneLost l)) s _ (decide_eq_true w1) (decide_eq_true here)

theorem exec_portBlindTimeout (p : Nat) (s : State) (w1 : p < 128) (here : p < nPorts s) :
    exec (.portBlindTimeout p) s = .next (onDev [.od, .events, .eventBuffer, .eventMessages] (portBlind p) s) :=
  runOn_next (i := (.portBlindTimeout p)) s _ (decide_eq_true w1) (decide_eq_true here)

theorem exec_linkTransmitFault (l : Nat) (s : State) (w1 : l < 256) (here : l < nLinks s) :
    exec (.linkTransmitFault l) s = .next (onDev [.od, .links, .ports, .events, .eventBuffer, .eventMessages]
      (linkFail l 1) s) :=
  runOn_next (i := (.linkTransmitFault l)) s _ (decide_eq_true w1) (decide_eq_true here)

theorem exec_trainingTimerExpiry (l : Nat) (s : State) (w1 : l < 256) (here : l < nLinks s) :
    exec (.trainingTimerExpiry l) s = .next (onDev [.od, .links] (trainTimer l) s) :=
  runOn_next (i := (.trainingTimerExpiry l)) s _ (decide_eq_true w1) (decide_eq_true here)

theorem exec_presetSweepStep (l : Nat) (s : State) (w1 : l < 256) (here : l < nLinks s) :
    exec (.presetSweepStep l) s = .next (onDev [.links] (presetStep l) s) :=
  runOn_next (i := (.presetSweepStep l)) s _ (decide_eq_true w1) (decide_eq_true here)

theorem exec_linkAbsentRetry (l : Nat) (s : State) (w1 : l < 256) (here : l < nLinks s) :
    exec (.linkAbsentRetry l) s = .next (onDev [.od, .links] (absentRetry l) s) :=
  runOn_next (i := (.linkAbsentRetry l)) s _ (decide_eq_true w1) (decide_eq_true here)

theorem exec_portTakedownRetrain (p : Nat) (s : State) (w1 : p < 128) (here : p < nPorts s) :
    exec (.portTakedownRetrain p) s = .next (onDev [.od, .links, .ports] (takedownRetrain p) s) :=
  runOn_next (i := (.portTakedownRetrain p)) s _ (decide_eq_true w1) (decide_eq_true here)

theorem exec_linkSpeedRaise (l : Nat) (s : State) (w1 : l < 256) (here : l < nLinks s) :
    exec (.linkSpeedRaise l) s = .next (onDev [.od, .links, .ports] (speedRaise l) s) :=
  runOn_next (i := (.linkSpeedRaise l)) s _ (decide_eq_true w1) (decide_eq_true here)

theorem exec_testLoopNear (l : Nat) (s : State) (w1 : l < 256) (here : l < nLinks s) :
    exec (.testLoopNear l) s = .next (onDev [.od, .links, .ports] (testLoop l 1) s) :=
  runOn_next (i := (.testLoopNear l)) s _ (decide_eq_true w1) (decide_eq_true here)

theorem exec_testLoopFar (l : Nat) (s : State) (w1 : l < 256) (here : l < nLinks s) :
    exec (.testLoopFar l) s = .next (onDev [.od, .links, .ports] (testLoop l 2) s) :=
  runOn_next (i := (.testLoopFar l)) s _ (decide_eq_true w1) (decide_eq_true here)

theorem exec_testLoopPattern (l : Nat) (s : State) (w1 : l < 256) (here : l < nLinks s) :
    exec (.testLoopPattern l) s = .next (onDev [.od, .links, .ports] (testLoop l 3) s) :=
  runOn_next (i := (.testLoopPattern l)) s _ (decide_eq_true w1) (decide_eq_true here)

theorem exec_testLoopOff (l : Nat) (s : State) (w1 : l < 256) (here : l < nLinks s) :
    exec (.testLoopOff l) s = .next (onDev [.od, .links] (testOff l) s) :=
  runOn_next (i := (.testLoopOff l)) s _ (decide_eq_true w1) (decide_eq_true here)

theorem exec_driverPowerUp (p : Nat) (s : State) (w1 : p < 128) (here : p < nPorts s) :
    exec (.driverPowerUp p) s = .next (onDev [.drivers] (driverPowerUp p) s) :=
  runOn_next (i := (.driverPowerUp p)) s _ (decide_eq_true w1) (decide_eq_true here)

theorem exec_driverSolReceive (l : Nat) (sol : Nat) (data : List Nat) (s : State) (w1 : l < 256) (here : l <
    nLinks s) :
    exec (.driverSolReceive l sol data) s = .next (onDev [.drivers, .drawn] (solReceive l sol data) s) :=
  runOn_next (i := (.driverSolReceive l sol data)) s _ (decide_eq_true w1) (decide_eq_true here)

theorem exec_driverKeepReceive (l : Nat) (block : Nat) (s : State) (w1 : l < 256) (here : l < nLinks s) :
    exec (.driverKeepReceive l block) s = .next (onDev [.drivers, .drawn] (keepReceive l block) s) :=
  runOn_next (i := (.driverKeepReceive l block)) s _ (decide_eq_true w1) (decide_eq_true here)

theorem exec_driverFrameEndReceive (l : Nat) (head : Nat) (cmds : List Nat) (s : State) (w1 : l < 256) (here : l <
    nLinks s) :
    exec (.driverFrameEndReceive l head cmds) s = .next (onDev [.drivers] (frameEndReceive l head cmds) s) :=
  runOn_next (i := (.driverFrameEndReceive l head cmds)) s _ (decide_eq_true w1) (decide_eq_true here)

theorem exec_driverDownstreamLockLoss (l : Nat) (s : State) (w1 : l < 256) (here : l < nLinks s) :
    exec (.driverDownstreamLockLoss l) s = .next (onDev [.drivers, .drawn] (downLockLoss l) s) :=
  runOn_next (i := (.driverDownstreamLockLoss l)) s _ (decide_eq_true w1) (decide_eq_true here)

theorem exec_driverStatusSend (l : Nat) (margin : Nat) (s : State) (w1 : l < 256) (w2 : margin < 64) (here : l <
    nLinks s) :
    exec (.driverStatusSend l margin) s = .next (onDev [.drivers] (driverStatus l margin) s) :=
  runOn_next (i := (.driverStatusSend l margin)) s _ (by show (_ && _) = true; simp [w1, w2]) (decide_eq_true here)

theorem exec_driverTelemSend (l : Nat) (value : Nat) (s : State) (w1 : l < 256) (w2 : value < 4294967296) (here :
    l < nLinks s) :
    exec (.driverTelemSend l value) s = .next (onDev [.drivers] (driverTelem l value) s) :=
  runOn_next (i := (.driverTelemSend l value)) s _ (by show (_ && _) = true; simp [w1, w2]) (decide_eq_true here)

theorem exec_driverTrainReceive (l : Nat) (block : Nat) (s : State) (w1 : l < 256) (here : l < nLinks s) :
    exec (.driverTrainReceive l block) s = .next (onDev [.drivers] (driverTrain l block) s) :=
  runOn_next (i := (.driverTrainReceive l block)) s _ (decide_eq_true w1) (decide_eq_true here)

theorem exec_driverPatternEnd (l : Nat) (errors : Nat) (s : State) (w1 : l < 256) (here : l < nLinks s) :
    exec (.driverPatternEnd l errors) s = .next (onDev [.drivers] (patternEnd l errors) s) :=
  runOn_next (i := (.driverPatternEnd l errors)) s _ (decide_eq_true w1) (decide_eq_true here)

theorem exec_driveFrameBoundary (s : State) (here : hasLens s = true) :
    exec .driveFrameBoundary s = .next (onDev [.od, .lens] driveFrame s) :=
  runOn_next (i := .driveFrameBoundary) s _ rfl here

theorem exec_zoneTargetReached (z : Nat) (s : State) (w1 : z < 12288) (here : hasLens s = true) :
    exec (.zoneTargetReached z) s = .next (onDev [.od, .lens] (zoneReached z) s) :=
  runOn_next (i := (.zoneTargetReached z)) s _ (decide_eq_true w1) here

theorem exec_zoneReportReceive (z : Nat) (s : State) (w1 : z < 12288) (here : hasLens s = true) :
    exec (.zoneReportReceive z) s = .next (onDev [.lens] (zoneReport z) s) :=
  runOn_next (i := (.zoneReportReceive z)) s _ (decide_eq_true w1) here

theorem exec_pulsePhaseEnd (s : State) (here : hasLens s = true) :
    exec .pulsePhaseEnd s = .next (onNv [.od, .lens] pulseEnd s) :=
  runOn_next (i := .pulsePhaseEnd) s _ rfl here

theorem exec_biasSourceStart (v33 : Nat) (s : State) (here : hasLens s = true) :
    exec (.biasSourceStart v33) s = .next (onDev [.od, .lens] (biasStart v33) s) :=
  runOn_next (i := (.biasSourceStart v33)) s _ rfl here

theorem exec_biasMeasure (v4 : Nat) (v0 : Nat) (v1 : Nat) (v2 : Nat) (v3 : Nat) (s : State) (here : hasLens s =
    true) :
    exec (.biasMeasure v4 v0 v1 v2 v3) s = .next (onDev [.od, .lens, .events, .eventBuffer, .eventMessages]
      (biasMeasure v4 v0 v1 v2 v3) s) :=
  runOn_next (i := (.biasMeasure v4 v0 v1 v2 v3)) s _ rfl here

theorem exec_biasOvervoltageTrip (s : State) (here : hasLens s = true) :
    exec .biasOvervoltageTrip s = .next (onDev [.od, .lens, .events, .eventBuffer, .eventMessages] overVoltage s)
      :=
  runOn_next (i := .biasOvervoltageTrip) s _ rfl here

theorem exec_biasRetry (s : State) (here : hasLens s = true) :
    exec .biasRetry s = .next (onNv [.od, .lens] biasRetry s) :=
  runOn_next (i := .biasRetry) s _ rfl here

theorem exec_dcMonitorSample (out : Nat) (vout : Int) (s : State) (w1 : out < 536) (here : hasLens s = true) :
    exec (.dcMonitorSample out vout) s = .next (onDev [.od, .lens] (dcSample out vout) s) :=
  runOn_next (i := (.dcMonitorSample out vout)) s _ (decide_eq_true w1) here

theorem exec_forcedInversion (out : Nat) (s : State) (w1 : out < 536) (here : hasLens s = true) :
    exec (.forcedInversion out) s = .next (onDev [.od, .lens] (forcedInversion out) s) :=
  runOn_next (i := (.forcedInversion out)) s _ (decide_eq_true w1) here

theorem exec_dcStop (out : Nat) (s : State) (w1 : out < 536) (here : hasLens s = true) :
    exec (.dcStop out) s = .next (onDev [.od, .lens, .events, .eventBuffer, .eventMessages] (dcStop out) s) :=
  runOn_next (i := (.dcStop out)) s _ (decide_eq_true w1) here

theorem exec_layerRestart (s : State) (here : hasLens s = true) :
    exec .layerRestart s = .next (onNv [.od, .lens] layerRestart s) :=
  runOn_next (i := .layerRestart) s _ rfl here

theorem exec_outputFault (out : Nat) (s : State) (w1 : out < 536) (here : hasLens s = true) :
    exec (.outputFault out) s = .next (onDev [.od, .lens, .events, .eventBuffer, .eventMessages] (outputFault out)
      s) :=
  runOn_next (i := (.outputFault out)) s _ (decide_eq_true w1) here

theorem exec_lensBandChange (s : State) (here : hasLens s = true) :
    exec .lensBandChange s = .next (onDev [.lens] lensBandChange s) :=
  runOn_next (i := .lensBandChange) s _ rfl here

theorem exec_driveDieReset (s : State) :
    exec .driveDieReset s = .next (onFuses (fun t => drain (driveReset (t.setReg 0x6010 2 4))) s) :=
  run_next (i := .driveDieReset) _ rfl

theorem exec_holdupSwitch (s : State) :
    exec .holdupSwitch s = .next (onDev [.od, .lens, .bringup] holdupSwitch s) :=
  run_next (i := .holdupSwitch) _ rfl

theorem exec_driveDieSupplyRestore (s : State) :
    exec .driveDieSupplyRestore s = .next (onFuses (fun t => drain (supplyRestore t)) s) :=
  run_next (i := .driveDieSupplyRestore) _ rfl

theorem exec_vholdLowLog (mv : Nat) (s : State) :
    exec (.vholdLowLog mv) s = .next (onDev [.od, .events, .eventBuffer, .eventMessages] (vholdLow mv) s) :=
  run_next (i := (.vholdLowLog mv)) _ rfl

theorem exec_epLinkUp (p : Nat) (tenG : Bool) (s : State) (w1 : p < 2) :
    exec (.epLinkUp p tenG) s = .next (onDev [.od] (ethUp p tenG) s) :=
  run_next (i := (.epLinkUp p tenG)) _ (decide_eq_true w1)

theorem exec_epLinkDown (p : Nat) (s : State) (w1 : p < 2) :
    exec (.epLinkDown p) s = .next (onDev [.od, .timing, .clock, .sources, .eth, .events, .eventBuffer,
      .eventMessages] (ethDown p) s) :=
  run_next (i := (.epLinkDown p)) _ (decide_eq_true w1)

theorem exec_epRateAlternate (p : Nat) (s : State) (w1 : p < 2) :
    exec (.epRateAlternate p) s = .next (onDev [.eth] (ethAlternate p) s) :=
  run_next (i := (.epRateAlternate p)) _ (decide_eq_true w1)

theorem exec_ethernetFrameReceive (p : Nat) (proto : EthProto) (vlan : Option Nat) (s : State) (w1 : p < 2) :
    exec (.ethernetFrameReceive p proto vlan) s = .next (onDev [.od] (frameReceive p proto vlan) s) :=
  run_next (i := (.ethernetFrameReceive p proto vlan)) _ (decide_eq_true w1)

theorem exec_ethernetTransmit (p : Nat) (bytes : Nat) (s : State) (w1 : p < 2) :
    exec (.ethernetTransmit p bytes) s = .next (onDev [.od, .eth, .ncp] (frameSend p bytes) s) :=
  run_next (i := (.ethernetTransmit p bytes)) _ (decide_eq_true w1)

theorem exec_ptpMessageReceive (p : Nat) (msg : PtpMsg) (s : State) (w1 : p < 2) :
    exec (.ptpMessageReceive p msg) s = .next (onDev [.od, .timing, .clock, .sources, .eth, .events, .eventBuffer,
      .eventMessages, .drawn] (ptpReceive p msg) s) :=
  run_next (i := (.ptpMessageReceive p msg)) _ (decide_eq_true w1)

theorem exec_ptpLockoutEnd (p : Nat) (s : State) (w1 : p < 2) :
    exec (.ptpLockoutEnd p) s = .next (onDev [.eth] (modEth p fun e => { e with lockout := false }) s) :=
  run_next (i := (.ptpLockoutEnd p)) _ (decide_eq_true w1)

theorem exec_transmitStampEnqueue (p : Nat) (msgtype : Nat) (domain : Nat) (seqId : Nat) (s : State) (w1 : p < 2)
    (w2 : msgtype < 16) (w3 : domain < 256) (w4 : seqId < 65536) :
    exec (.transmitStampEnqueue p msgtype domain seqId) s = .next (onDev [.od, .eth] (stampEnqueue p msgtype
      domain seqId) s) :=
  run_next (i := (.transmitStampEnqueue p msgtype domain seqId)) _ (by show (_ && _) = true; simp [w1, w2, w3, w4])

theorem exec_transmitStampRead (p : Nat) (s : State) (w1 : p < 2) :
    exec (.transmitStampRead p) s = .next (onDev [.od, .eth] (stampRead p) s) :=
  run_next (i := (.transmitStampRead p)) _ (decide_eq_true w1)

theorem exec_syncTimeout (src : Nat) (s : State) (w1 : src < 2) :
    exec (.syncTimeout src) s = .next (onDev [.od, .timing, .clock, .sources, .events, .eventBuffer,
      .eventMessages] (sourceLost src) s) :=
  run_next (i := (.syncTimeout src)) _ (decide_eq_true w1)

theorem exec_sourceInvalid (src : Nat) (s : State) (w1 : src < 2) :
    exec (.sourceInvalid src) s = .next (onDev [.od, .timing, .clock, .sources, .events, .eventBuffer,
      .eventMessages] (leaveSlave src) s) :=
  run_next (i := (.sourceInvalid src)) _ (decide_eq_true w1)

theorem exec_sourceStandbyRestore (src : Nat) (s : State) (w1 : src < 2) :
    exec (.sourceStandbyRestore src) s = .next (onDev [.sources] (standbyRestore src) s) :=
  run_next (i := (.sourceStandbyRestore src)) _ (decide_eq_true w1)

theorem exec_relock (s : State) :
    exec .relock s = .next (onDev [.od, .timing, .timeOut] (fun t => (relock t).2) s) :=
  run_next (i := .relock) _ rfl

theorem exec_frameEpochWrite (sub : Nat) (value : Nat) (s : State) (w1 : 1 ≤ sub) (w2 : sub ≤ 3) :
    exec (.frameEpochWrite sub value) s = .next (onDev [.od] (fun t => (epochWrite sub value t).2) s) :=
  run_next (i := (.frameEpochWrite sub value)) _ (by show (_ && _) = true; simp [w1, w2])

theorem exec_tilePortHello (t : Nat) (block : Nat) (s : State) (w1 : t < 8) (here : t < nTiles s) :
    exec (.tilePortHello t block) s = .next (onDev [.od, .tiles, .events, .eventBuffer, .eventMessages]
      (helloReceive t block) s) :=
  runOn_next (i := (.tilePortHello t block)) s _ (decide_eq_true w1) (decide_eq_true here)

theorem exec_helloSend (t : Nat) (s : State) (w1 : t < 8) (here : t < nTiles s) :
    exec (.helloSend t) s = .next (onDev [.tiles] (helloSend t) s) :=
  runOn_next (i := (.helloSend t)) s _ (decide_eq_true w1) (decide_eq_true here)

theorem exec_markerReceive (t : Nat) (block : Nat) (stamp : Nat) (s : State) (w1 : t < 8) (here : t < nTiles s) :
    exec (.markerReceive t block stamp) s = .next (onDev [.od, .tiles, .events, .eventBuffer, .eventMessages]
      (markerReceive t block stamp) s) :=
  runOn_next (i := (.markerReceive t block stamp)) s _ (decide_eq_true w1) (decide_eq_true here)

theorem exec_markerFollowSend (t : Nat) (s : State) (w1 : t < 8) (here : t < nTiles s) :
    exec (.markerFollowSend t) s = .next (onDev [.tiles] (followSend t) s) :=
  runOn_next (i := (.markerFollowSend t)) s _ (decide_eq_true w1) (decide_eq_true here)

theorem exec_markerFollowReceive (t : Nat) (block : Nat) (s : State) (w1 : t < 8) (here : t < nTiles s) :
    exec (.markerFollowReceive t block) s = .next (onDev [.od, .tiles, .events, .eventBuffer, .eventMessages]
      (followReceive t block) s) :=
  runOn_next (i := (.markerFollowReceive t block)) s _ (decide_eq_true w1) (decide_eq_true here)

theorem exec_eveBlockReceive (t : Nat) (block : Nat) (s : State) (w1 : t < 8) (here : t < nTiles s) :
    exec (.eveBlockReceive t block) s = .next (onDev [.od, .timing, .tiles, .events, .eventBuffer, .eventMessages]
      (eveReceive t block) s) :=
  runOn_next (i := (.eveBlockReceive t block)) s _ (decide_eq_true w1) (decide_eq_true here)

theorem exec_safetyReceive (t : Nat) (block : Nat) (s : State) (w1 : t < 8) (here : t < nTiles s) :
    exec (.safetyReceive t block) s = .next (onDev [.od, .tiles, .safety, .events, .eventBuffer, .eventMessages]
      (safetyReceive t block) s) :=
  runOn_next (i := (.safetyReceive t block)) s _ (decide_eq_true w1) (decide_eq_true here)

theorem exec_tilePortViolation (t : Nat) (s : State) (w1 : t < 8) (here : t < nTiles s) :
    exec (.tilePortViolation t) s = .next (onDev [.od, .tiles, .events, .eventBuffer, .eventMessages]
      (tileViolation t) s) :=
  runOn_next (i := (.tilePortViolation t)) s _ (decide_eq_true w1) (decide_eq_true here)

theorem exec_tilePortLockTimeout (t : Nat) (s : State) (w1 : t < 8) (here : t < nTiles s) :
    exec (.tilePortLockTimeout t) s = .next (onDev [.od, .tiles] (tileTimeout t) s) :=
  runOn_next (i := (.tilePortLockTimeout t)) s _ (decide_eq_true w1) (decide_eq_true here)

theorem exec_safetyRepeat (s : State) :
    exec .safetyRepeat s = .next (onDev [.tiles] (fun t => if originates t then sendOwn t else t) s) :=
  run_next (i := .safetyRepeat) _ rfl

theorem exec_safetyOriginCommand (value : Nat) (s : State) (w1 : value < 256) :
    exec (.safetyOriginCommand value) s = .next (onDev [.od, .tiles, .safety] (fun t => (originCommand value t).2)
      s) :=
  run_next (i := (.safetyOriginCommand value)) _ (decide_eq_true w1)

theorem exec_safetyOriginExpiry (origin : Nat) (s : State) (w1 : origin < 4096) :
    exec (.safetyOriginExpiry origin) s = .next (onDev [.safety] (originExpiry origin) s) :=
  run_next (i := (.safetyOriginExpiry origin)) _ (decide_eq_true w1)

theorem exec_timeOutPulse (j : Nat) (edge : Bool) (s : State) (w1 : j < 4) :
    exec (.timeOutPulse j edge) s = .next (onDev [.timeOut] (pulseEdge j edge) s) :=
  run_next (i := (.timeOutPulse j edge)) _ (decide_eq_true w1)

theorem exec_timeInEdge (j : Nat) (rising : Bool) (width : Nat) (s : State) (w1 : j < 4) :
    exec (.timeInEdge j rising width) s = .next (onDev [.od, .timeIn] (edgeIn j rising width) s) :=
  run_next (i := (.timeInEdge j rising width)) _ (decide_eq_true w1)

theorem exec_captureEntryRead (j : Nat) (s : State) (w1 : j < 4) :
    exec (.captureEntryRead j) s = .next (onDev [.od, .timeIn] (captureRead j) s) :=
  run_next (i := (.captureEntryRead j)) _ (decide_eq_true w1)

theorem exec_perst (s : State) :
    exec .perst s = .next (onDev [.od, .host] perst s) :=
  run_next (i := .perst) _ rfl

theorem exec_flr (s : State) :
    exec .flr s = .next (onDev [.od, .host] functionReset s) :=
  run_next (i := .flr) _ rfl

theorem exec_bar2Write (off : Nat) (data : List Byte) (s : State) (w1 : 0 < data.length) (w2 : data.length ≤ 4096)
    :
    exec (.bar2Write off data) s = .next (onMem [.od, .memory] (bar2Write off data) s) :=
  run_next (i := (.bar2Write off data)) _ (by show (_ && _) = true; simp [w1, w2])

theorem exec_bar2Read (off : Nat) (len : Nat) (s : State) (w1 : len ≤ 4096) :
    exec (.bar2Read off len) s = .next (onMem [.od, .host, .memory] (bar2Read off len) s) :=
  run_next (i := (.bar2Read off len)) _ (decide_eq_true w1)

theorem exec_wcmRequest (s : State) :
    exec .wcmRequest s = .next (onDev [.host] (modHost fun h => { h with markers := h.markers ++ [.wcm] }) s) :=
  run_next (i := .wcmRequest) _ rfl

theorem exec_writeCompleteMarkerDone (s : State) :
    exec .writeCompleteMarkerDone s = .next (onDev [.od, .timing, .host, .events, .eventBuffer, .eventMessages]
      markerDone s) :=
  run_next (i := .writeCompleteMarkerDone) _ rfl

theorem exec_dmaWindowWrite (n : Nat) (field : Nat) (value : Nat) (s : State) (w1 : n < 32) (w2 : field < 3) :
    exec (.dmaWindowWrite n field value) s = .next (onDev [.od, .host, .events, .eventBuffer, .eventMessages]
      (windowWrite n field value) s) :=
  run_next (i := (.dmaWindowWrite n field value)) _ (by show (_ && _) = true; simp [w1, w2])

theorem exec_bar0RegisterWrite (off : Nat) (data : List Byte) (s : State) (w1 : off < 67108864) (w2 : 0 <
    data.length) :
    exec (.bar0RegisterWrite off data) s = .next (onFuses (bar0Write off data) s) :=
  run_next (i := (.bar0RegisterWrite off data)) _ (by show (_ && _) = true; simp [w1, w2])

theorem exec_queueCreate (s : State) :
    exec .queueCreate s = .next (onDev [.host] queueCreate s) :=
  run_next (i := .queueCreate) _ rfl

theorem exec_queueDelete (s : State) :
    exec .queueDelete s = .next (onDev [.od, .timing, .host, .events, .eventBuffer, .eventMessages] queueDelete s)
      :=
  run_next (i := .queueDelete) _ rfl

theorem exec_submissionDoorbell (q : Nat) (count : Nat) (gen : Nat) (s : State) (w1 : q < 1048576) (w2 : count <
    4294967296) (w3 : gen < 256) :
    exec (.submissionDoorbell q count gen) s = .next (onDev [.timing, .host] (doorbellArrive q count gen) s) :=
  run_next (i := (.submissionDoorbell q count gen)) _ (by show (_ && _) = true; simp [w1, w2, w3])

theorem exec_completionDoorbell (q : Nat) (count : Nat) (gen : Nat) (s : State) (w1 : q < 1048576) (w2 : count <
    4294967296) (w3 : gen < 256) :
    exec (.completionDoorbell q count gen) s = .next (onDev [.timing, .host] (doorbellArrive q count gen) s) :=
  run_next (i := (.completionDoorbell q count gen)) _ (by show (_ && _) = true; simp [w1, w2, w3])

theorem exec_hostViolation (v : Violation) (s : State) :
    exec (.hostViolation v) s = .next (onDev [.od, .host, .events, .eventBuffer, .eventMessages]
      (violation v) s) :=
  run_next (i := (.hostViolation v)) _ rfl

theorem exec_update (q : Nat) (e : Entry) (u : UpdateOps) (s : State) (w1 : q < 1048576) :
    exec (.update q e u) s = .next (onMem [.od, .timing, .jobs, .copies, .holdSlots, .host, .memory, .events,
      .eventBuffer, .eventMessages, .drawn] (processEntry q e (updateEntry · == (e, u)) (updateVerdict q e u)) s)
      :=
  run_next (i := (.update q e u)) _ (decide_eq_true w1)

theorem exec_play (q : Nat) (e : Entry) (u : PlayOps) (s : State) (w1 : q < 1048576) :
    exec (.play q e u) s = .next (onMem [.od, .timing, .jobs, .waiting, .copies, .clipReady, .lost, .due,
      .holdSlots, .players, .host, .memory, .events, .eventBuffer, .eventMessages, .drawn] (processEntry q e
      (playEntry · == (e, u)) (playVerdict q e u)) s) :=
  run_next (i := (.play q e u)) _ (decide_eq_true w1)

theorem exec_stop (q : Nat) (e : Entry) (player : Nat) (s : State) (w1 : q < 1048576) :
    exec (.stop q e player) s = .next (onMem [.od, .timing, .jobs, .waiting, .copies, .clipReady, .lost, .due,
      .holdSlots, .clips, .players, .timeOut, .host, .memory, .events, .eventBuffer, .eventMessages, .drawn]
      (processEntry q e (stopEntry · == (e, player)) (stopVerdict q e player)) s) :=
  run_next (i := (.stop q e player)) _ (decide_eq_true w1)

theorem exec_pulse (q : Nat) (e : Entry) (pin : Nat) (offset : Int) (width : Nat) (s : State) (w1 : q < 1048576) :
    exec (.pulse q e pin offset width) s = .next (onDev [.od, .timing, .timeOut, .host, .memory, .events,
      .eventBuffer, .eventMessages, .drawn] (processEntry q e (pulseEntry · == (e, pin, offset, width))
      (pulseVerdict q e pin offset width)) s) :=
  run_next (i := (.pulse q e pin offset width)) _ (decide_eq_true w1)

theorem exec_modeCue (q : Nat) (e : Entry) (m : Nat) (s : State) (w1 : q < 1048576) :
    exec (.modeCue q e m) s = .next (onDev [.od, .timing, .host, .memory, .events, .eventBuffer, .eventMessages,
      .drawn] (processEntry q e (modeEntry · == (e, m)) (modeVerdict q e m)) s) :=
  run_next (i := (.modeCue q e m)) _ (decide_eq_true w1)

theorem exec_zones (q : Nat) (e : Entry) (map : Nat) (crc : Nat) (s : State) (w1 : q < 1048576) :
    exec (.zones q e map crc) s = .next (onDev [.od, .timing, .host, .memory, .events, .eventBuffer,
      .eventMessages, .drawn] (processEntry q e (zonesEntry · == (e, map, crc)) (zonesVerdict q e map crc)) s) :=
  run_next (i := (.zones q e map crc)) _ (decide_eq_true w1)

theorem exec_visible (q : Nat) (e : Entry) (mask : Nat) (values : Nat) (s : State) (w1 : q < 1048576) :
    exec (.visible q e mask values) s = .next (onDev [.od, .timing, .host, .memory, .events, .eventBuffer,
      .eventMessages, .drawn] (processEntry q e (visibleEntry · == (e, mask, values)) (visibleVerdict q e mask
      values)) s) :=
  run_next (i := (.visible q e mask values)) _ (decide_eq_true w1)

theorem exec_cancel (q : Nat) (e : Entry) (queue : Nat) (ctag : Nat) (s : State) (w1 : q < 1048576) :
    exec (.cancel q e queue ctag) s = .next (onMem [.od, .timing, .jobs, .waiting, .copies, .clipReady, .lost,
      .due, .holdSlots, .clips, .players, .timeOut, .host, .memory, .events, .eventBuffer, .eventMessages, .drawn]
      (processEntry q e (cancelEntry · == (e, queue, ctag)) (cancelVerdict q e queue ctag)) s) :=
  run_next (i := (.cancel q e queue ctag)) _ (decide_eq_true w1)

theorem exec_signal (q : Nat) (e : Entry) (fence : Nat) (value : Nat) (s : State) (w1 : q < 1048576) :
    exec (.signal q e fence value) s = .next (onDev [.od, .timing, .host, .memory, .events, .eventBuffer,
      .eventMessages, .drawn] (processEntry q e (signalEntry · == (e, fence, value)) (signalVerdict q e fence
      value)) s) :=
  run_next (i := (.signal q e fence value)) _ (decide_eq_true w1)

theorem exec_completionPost (ring : Nat) (c : Completion) (s : State) (w1 : ring < 1048576) :
    exec (.completionPost ring c) s = .next (onDev [.od, .host] (postCompletion ring c) s) :=
  run_next (i := (.completionPost ring c)) _ (decide_eq_true w1)

theorem exec_mailboxDoorbell (value : Nat) (s : State) (w1 : value < 4294967296) :
    exec (.mailboxDoorbell value) s = .next (onFuses (mailDoorbell value) s) :=
  run_next (i := (.mailboxDoorbell value)) _ (decide_eq_true w1)

theorem exec_hbmTrainingComplete (failed : List Nat) (s : State) :
    exec (.hbmTrainingComplete failed) s = .next (onDev [.od, .host, .memory, .events, .eventBuffer,
      .eventMessages] (trainingComplete failed) s) :=
  run_next (i := (.hbmTrainingComplete failed)) _ rfl

theorem exec_readDelayCheck (lane : Nat) (lowBad : Bool) (highBad : Bool) (s : State) (w1 : lane < 512) (here :
    lane < 4 * nPcs s) :
    exec (.readDelayCheck lane lowBad highBad) s = .next (onDev [.od, .events, .eventBuffer, .eventMessages]
      (readDelayCheck lane lowBad highBad) s) :=
  runOn_next (i := (.readDelayCheck lane lowBad highBad)) s _ (decide_eq_true w1) (decide_eq_true here)

theorem exec_refreshDue (pc : Nat) (busy : Bool) (s : State) (w1 : pc < 128) (here : pc < nPcs s) :
    exec (.refreshDue pc busy) s = .next (onDev [.od, .memory] (refreshDue pc busy) s) :=
  runOn_next (i := (.refreshDue pc busy)) s _ (decide_eq_true w1) (decide_eq_true here)

theorem exec_stackTemperatureRead (stack : Nat) (temp : Option Int) (s : State) (w1 : stack < 4) (here : stack <
    nStacks s) :
    exec (.stackTemperatureRead stack temp) s = .next (onDev [.od, .memory, .events, .eventBuffer, .eventMessages]
      (stackTemperature stack temp) s) :=
  runOn_next (i := (.stackTemperatureRead stack temp)) s _ (decide_eq_true w1) (decide_eq_true here)

theorem exec_selfRefreshEntry (pc : Nat) (s : State) (w1 : pc < 128) (here : pc < nPcs s) :
    exec (.selfRefreshEntry pc) s = .next (onDev [.od, .memory] (selfRefreshEntry pc) s) :=
  runOn_next (i := (.selfRefreshEntry pc)) s _ (decide_eq_true w1) (decide_eq_true here)

theorem exec_selfRefreshExitDone (pc : Nat) (s : State) (w1 : pc < 128) (here : pc < nPcs s) :
    exec (.selfRefreshExitDone pc) s = .next (onDev [.od, .memory] (selfRefreshExitDone pc) s) :=
  runOn_next (i := (.selfRefreshExitDone pc)) s _ (decide_eq_true w1) (decide_eq_true here)

theorem exec_hbmReadError (pc : Nat) (addr : Nat) (s : State) (w1 : pc < 128) (here : pc < nPcs s) :
    exec (.hbmReadError pc addr) s = .next (onMem [.od, .memory, .events, .eventBuffer, .eventMessages] (readError
      pc addr) s) :=
  runOn_next (i := (.hbmReadError pc addr)) s _ (decide_eq_true w1) (decide_eq_true here)

theorem exec_mirrorReadComplete (pc : Nat) (addr : Nat) (good : Bool) (s : State) (w1 : pc < 128) (here : pc <
    nPcs s) :
    exec (.mirrorReadComplete pc addr good) s = .next (onMem [.od, .memory, .events, .eventBuffer, .eventMessages]
      (mirrorReadComplete pc addr good) s) :=
  runOn_next (i := (.mirrorReadComplete pc addr good)) s _ (decide_eq_true w1) (decide_eq_true here)

theorem exec_patrolScrubStep (single : Bool) (uncorrectable : Bool) (s : State) :
    exec (.patrolScrubStep single uncorrectable) s = .next (onMem [.od, .memory, .events, .eventBuffer,
      .eventMessages] (patrolScrub single uncorrectable) s) :=
  run_next (i := (.patrolScrubStep single uncorrectable)) _ rfl

theorem exec_atomicAdd (addr : Nat) (wide : Bool) (value : Nat) (s : State) :
    exec (.atomicAdd addr wide value) s = .next (onBank [.od, .memory, .events, .eventBuffer, .eventMessages]
      (atomic addr wide (· + value)) s) :=
  run_next (i := (.atomicAdd addr wide value)) _ rfl

theorem exec_atomicSwap (addr : Nat) (wide : Bool) (value : Nat) (s : State) :
    exec (.atomicSwap addr wide value) s = .next (onBank [.od, .memory, .events, .eventBuffer, .eventMessages]
      (atomic addr wide fun _ => value) s) :=
  run_next (i := (.atomicSwap addr wide value)) _ rfl

theorem exec_bankUncorrectableWord (addr : Nat) (s : State) (w1 : addr < 134217728) :
    exec (.bankUncorrectableWord addr) s = .next (onDev [.od, .synth, .events, .eventBuffer, .eventMessages,
      .drawn] (bankWordBad addr) s) :=
  run_next (i := (.bankUncorrectableWord addr)) _ (decide_eq_true w1)

theorem exec_backgroundRowTestStart (s : State) :
    exec .backgroundRowTestStart s = .next (onDev [.memory] rowTestStart s) :=
  run_next (i := .backgroundRowTestStart) _ rfl

theorem exec_rowTestComplete (failed : Bool) (s : State) :
    exec (.rowTestComplete failed) s = .next (onBankNv [.od, .memory] (rowTestComplete failed) s) :=
  run_next (i := (.rowTestComplete failed)) _ rfl

theorem exec_rowTestAbandon (s : State) :
    exec .rowTestAbandon s = .next (onBank [.od, .memory] rowTestAbandon s) :=
  run_next (i := .rowTestAbandon) _ rfl

theorem exec_start (u : Nat) (s : State) (w1 : u < 24) :
    exec (.start u) s = .next (onDev [.od] (cuStart u) s) :=
  run_next (i := (.start u)) _ (decide_eq_true w1)

theorem exec_feed (u : Nat) (s : State) (w1 : u < 24) :
    exec (.feed u) s = .next (onDev [.od, .memory] (cuFeed 48 u) s) :=
  run_next (i := (.feed u)) _ (decide_eq_true w1)

theorem exec_feedComplete (u : Nat) (bad : Option Nat) (s : State) (w1 : u < 24) :
    exec (.feedComplete u bad) s = .next (onDev [.od, .drawn] (cuFeedEnd u bad) s) :=
  run_next (i := (.feedComplete u bad)) _ (decide_eq_true w1)

theorem exec_finish (u : Nat) (s : State) (w1 : u < 24) :
    exec (.finish u) s = .next (onDev [.od] (cuFinish u) s) :=
  run_next (i := (.finish u)) _ (decide_eq_true w1)

theorem exec_abort (u : Nat) (fed : Nat) (s : State) (w1 : u < 24) :
    exec (.abort u fed) s = .next (onDev [.od, .drawn] (cuAbort u fed) s) :=
  run_next (i := (.abort u fed)) _ (decide_eq_true w1)

theorem exec_checkUnitParityFail (u : Nat) (s : State) (w1 : u < 24) :
    exec (.checkUnitParityFail u) s = .next (onDev [.od, .events, .eventBuffer, .eventMessages] (cuParity u) s) :=
  run_next (i := (.checkUnitParityFail u)) _ (decide_eq_true w1)

theorem exec_storeWriteComplete (ok : Bool) (s : State) :
    exec (.storeWriteComplete ok) s = .next (onFuses (storeWriteComplete ok) s) :=
  run_next (i := (.storeWriteComplete ok)) _ rfl

theorem exec_recordWrite (rec : Nat) (payload : List Byte) (s : State) (w1 : rec < 1024) (w2 : payload.length ≤
    52) :
    exec (.recordWrite rec payload) s = .next (onNv [.od] (recordWrite rec payload) s) :=
  run_next (i := (.recordWrite rec payload)) _ (by show (_ && _) = true; simp [w1, w2])

theorem exec_ringWrite (ring : Nat) (payload : List Byte) (s : State) (w1 : ring < 16) (w2 : payload.length ≤ 52)
    :
    exec (.ringWrite ring payload) s = .next (onNv [.od] (writeRing ring payload .none) s) :=
  run_next (i := (.ringWrite ring payload)) _ (by show (_ && _) = true; simp [w1, w2])

theorem exec_pageContentsRead (s : State) :
    exec .pageContentsRead s = .next (onNv [] pageContents s) :=
  run_next (i := .pageContentsRead) _ rfl

theorem exec_sensorReading (sensor : Nat) (raw : Int) (s : State) (w1 : sensor < 52) :
    exec (.sensorReading sensor raw) s = .next (onNv [.od, .thermal, .events, .eventBuffer, .eventMessages]
      (sensorReading sensor raw) s) :=
  run_next (i := (.sensorReading sensor raw)) _ (decide_eq_true w1)

theorem exec_sensorConversionTimeout (sensor : Nat) (s : State) (w1 : sensor < 52) :
    exec (.sensorConversionTimeout sensor) s = .next (onNv [.od, .thermal, .events, .eventBuffer, .eventMessages]
      (sensorTimeout sensor) s) :=
  run_next (i := (.sensorConversionTimeout sensor)) _ (decide_eq_true w1)

theorem exec_tdCrossCheck (td : Int) (s : State) :
    exec (.tdCrossCheck td) s = .next (onNv [.od, .thermal, .events, .eventBuffer, .eventMessages] (crossCheck td)
      s) :=
  run_next (i := (.tdCrossCheck td)) _ rfl

theorem exec_sensorRepair (sensor : Nat) (s : State) (w1 : sensor < 52) :
    exec (.sensorRepair sensor) s = .next (onNv [.od] (sensorRepair sensor) s) :=
  run_next (i := (.sensorRepair sensor)) _ (decide_eq_true w1)

theorem exec_retireSensor (sensor : Nat) (s : State) (w1 : sensor < 256) :
    exec (.retireSensor sensor) s = .next (onNv [.od] (retireSensor sensor) s) :=
  run_next (i := (.retireSensor sensor)) _ (decide_eq_true w1)

theorem exec_restoreSensor (sensor : Nat) (s : State) (w1 : sensor < 256) :
    exec (.restoreSensor sensor) s = .next (onNv [.od] (restoreSensor sensor) s) :=
  run_next (i := (.restoreSensor sensor)) _ (decide_eq_true w1)

theorem exec_octaveEvaluate (s : State) :
    exec .octaveEvaluate s = .next (onDev [.od, .thermal] octaveEvaluate s) :=
  run_next (i := .octaveEvaluate) _ rfl

theorem exec_octaveClockStepApply (s : State) :
    exec .octaveClockStepApply s = .next (onDev [.od, .thermal] clockStep s) :=
  run_next (i := .octaveClockStepApply) _ rfl

theorem exec_thermalFaultEnter (s : State) :
    exec .thermalFaultEnter s = .next (onDev [.od, .thermal, .events, .eventBuffer, .eventMessages] thermalEnter
      s) :=
  run_next (i := .thermalFaultEnter) _ rfl

theorem exec_thermalFaultEnd (s : State) :
    exec .thermalFaultEnd s = .next (onDev [.thermal] thermalEnd s) :=
  run_next (i := .thermalFaultEnd) _ rfl

theorem exec_domainPowerGood (pd : Nat) (s : State) (w1 : pd < 40) (here : domainHere s pd = true) :
    exec (.domainPowerGood pd) s = .next (onDev [.od, .thermal] (powerGood pd) s) :=
  runOn_next (i := (.domainPowerGood pd)) s _ (decide_eq_true w1) here

theorem exec_domainWakeTimeout (pd : Nat) (s : State) (w1 : pd < 40) (here : domainHere s pd = true) :
    exec (.domainWakeTimeout pd) s = .next (onDev [.od, .events, .eventBuffer, .eventMessages] (domainTimeout pd)
      s) :=
  runOn_next (i := (.domainWakeTimeout pd)) s _ (decide_eq_true w1) here

theorem exec_decoderDomainIdleOff (s : State) :
    exec .decoderDomainIdleOff s = .next (onDev [.od] decoderIdleOff s) :=
  run_next (i := .decoderDomainIdleOff) _ rfl

theorem exec_onHoursWrite (s : State) :
    exec .onHoursWrite s = .next (onNv [.od, .thermal] onHoursWrite s) :=
  run_next (i := .onHoursWrite) _ rfl

theorem exec_throttleWrite (s : State) :
    exec .throttleWrite s = .next (onNv [.od, .thermal] throttleWrite s) :=
  run_next (i := .throttleWrite) _ rfl

theorem exec_ncpHello (f : NcpHead) (slot : Nat) (nc : List Byte) (s : State) (w1 : nc.length = 16) :
    exec (.ncpHello f slot nc) s = .next (onDev [.od, .eth, .ncp, .events, .eventBuffer, .eventMessages] (hello f
      slot nc) s) :=
  run_next (i := (.ncpHello f slot nc)) _ (decide_eq_true w1)

theorem exec_ncpOpen (f : NcpHead) (slot : Nat) (nc : List Byte) (nd : List Byte) (s : State) (w1 : nc.length =
    16) (w2 : nd.length = 16) :
    exec (.ncpOpen f slot nc nd) s = .next (onDev [.od, .eth, .ncp, .events, .eventBuffer, .eventMessages]
      (openSession f slot nc nd) s) :=
  run_next (i := (.ncpOpen f slot nc nd)) _ (by show (_ && _) = true; simp [w1, w2])

theorem exec_ncpClose (f : NcpHead) (s : State) :
    exec (.ncpClose f) s = .next (onDev [.od, .ncp, .events, .eventBuffer, .eventMessages] (closeFrame f) s) :=
  run_next (i := (.ncpClose f)) _ rfl

theorem exec_ncpMalformedFrame (p : Nat) (src : Nat) (bytes : List Byte) (s : State) (w1 : p < 2) :
    exec (.ncpMalformedFrame p src bytes) s = .next (onDev [.od, .eth, .host, .ncp, .events, .eventBuffer,
      .eventMessages] (malformedFrame p src bytes) s) :=
  run_next (i := (.ncpMalformedFrame p src bytes)) _ (decide_eq_true w1)

theorem exec_challengeExpiry (s : State) :
    exec .challengeExpiry s = .next (onDev [.ncp] challengeExpire s) :=
  run_next (i := .challengeExpiry) _ rfl

theorem exec_sessionIdleTimeout (slot : Nat) (s : State) (w1 : slot < 16) :
    exec (.sessionIdleTimeout slot) s = .next (onDev [.od, .ncp] (sessionIdle slot) s) :=
  run_next (i := (.sessionIdleTimeout slot)) _ (decide_eq_true w1)

theorem exec_sourceIgnoreEnd (src : Nat) (s : State) :
    exec (.sourceIgnoreEnd src) s = .next (onDev [.ncp] (sourceHeard src) s) :=
  run_next (i := (.sourceIgnoreEnd src)) _ rfl

theorem exec_ncpAddressApply (s : State) :
    exec .ncpAddressApply s = .next (onDev [.od, .ncp] addressApply s) :=
  run_next (i := .ncpAddressApply) _ rfl

theorem exec_readObject (o : Origin) (r : Request) (s : State) :
    exec (.readObject o r) s = .next (onDev servedParts (arrive 1 o r) s) :=
  run_next (i := (.readObject o r)) _ rfl

theorem exec_writeObject (o : Origin) (r : Request) (s : State) :
    exec (.writeObject o r) s = .next (onFuses (serve 2 o r) s) :=
  run_next (i := (.writeObject o r)) _ rfl

theorem exec_readSeg (o : Origin) (r : Request) (s : State) :
    exec (.readSeg o r) s = .next (onDev servedParts (arrive 3 o r) s) :=
  run_next (i := (.readSeg o r)) _ rfl

theorem exec_writeSeg (o : Origin) (r : Request) (s : State) :
    exec (.writeSeg o r) s = .next (onFuses (serve 4 o r) s) :=
  run_next (i := (.writeSeg o r)) _ rfl

theorem exec_segmentTransferTimeout (slot : Nat) (s : State) (w1 : slot < 17) :
    exec (.segmentTransferTimeout slot) s = .next (onDev [.od, .host, .ncp] (transferTimeout slot) s) :=
  run_next (i := (.segmentTransferTimeout slot)) _ (decide_eq_true w1)

theorem exec_describe (o : Origin) (r : Request) (s : State) :
    exec (.describe o r) s = .next (onDev servedParts (arrive 5 o r) s) :=
  run_next (i := (.describe o r)) _ rfl

theorem exec_nextObject (o : Origin) (r : Request) (s : State) :
    exec (.nextObject o r) s = .next (onDev servedParts (arrive 6 o r) s) :=
  run_next (i := (.nextObject o r)) _ rfl

theorem exec_keepalive (o : Origin) (r : Request) (s : State) :
    exec (.keepalive o r) s = .next (onDev servedParts (arrive 7 o r) s) :=
  run_next (i := (.keepalive o r)) _ rfl

theorem exec_imageVerify (s : State) :
    exec .imageVerify s = .next (onDev [.od, .events, .eventBuffer, .eventMessages] (fun t => (imageVerify t).2)
      s) :=
  run_next (i := .imageVerify) _ rfl

theorem exec_imageCommit (s : State) :
    exec .imageCommit s = .next (onNv [.od, .images, .events, .eventBuffer, .eventMessages] (fun t => if
      coresStopped t then t else (imageCommit t).2) s) :=
  run_next (i := .imageCommit) _ rfl

theorem exec_modeSubmit (s : State) :
    exec .modeSubmit s = .next (onDev [.od, .host] (fun t => (modeSubmit t).2) s) :=
  run_next (i := .modeSubmit) _ rfl

theorem exec_lifecycleTransition (o : Origin) (value : Nat) (s : State) (w1 : value < 4294967296) :
    exec (.lifecycleTransition o value) s = .next (onFuses (answered fun t => (transition o value [] t).2) s) :=
  run_next (i := (.lifecycleTransition o value)) _ (decide_eq_true w1)

theorem exec_erasureComplete (s : State) :
    exec .erasureComplete s = .next (onNv [.od] erasureComplete s) :=
  run_next (i := .erasureComplete) _ rfl

theorem exec_keyWrite (o : Origin) (slot : Nat) (payload : List Byte) (s : State) (w1 : slot < 8) :
    exec (.keyWrite o slot payload) s = .next (onNv [.od] (answered (keyRequest o slot payload)) s) :=
  run_next (i := (.keyWrite o slot payload)) _ (decide_eq_true w1)

theorem exec_raiseMinimumVersion (v : Nat) (s : State) (w1 : v < 256) :
    exec (.raiseMinimumVersion v) s = .next (onFuses (answered fun t => (raiseMinimum v t).2) s) :=
  run_next (i := (.raiseMinimumVersion v)) _ (decide_eq_true w1)

theorem exec_ceilingWrite (which : Ceiling) (value : Nat) (s : State) :
    exec (.ceilingWrite which value) s = .next (onNv [.od] (answered fun t => (ceilingWrite which value [] t).2)
      s) :=
  run_next (i := (.ceilingWrite which value)) _ rfl

theorem exec_powerOn (s : State) :
    exec .powerOn s = .next (onAll powerOn s) :=
  run_next (i := .powerOn) _ rfl

theorem exec_firstCalends (s : State) :
    exec .firstCalends s = .next (onMemNv [.od, .timing, .synth, .jobs, .waiting, .copies, .clipReady, .late,
      .lost, .due, .holdSlots, .players, .protectedLogged, .links, .lens, .tiles, .host, .memory, .events,
      .eventBuffer, .eventMessages, .drawn] firstCalends s) :=
  run_next (i := .firstCalends) _ rfl

theorem exec_hbmRelease (s : State) :
    exec .hbmRelease s = .next (onDev [.od, .memory] hbmRelease s) :=
  run_next (i := .hbmRelease) _ rfl

theorem exec_firmwareBoot (slot0 : Option Nat) (slot1 : Option Nat) (s : State) :
    exec (.firmwareBoot slot0 slot1) s = .next (onNv [.od, .bringup, .events, .eventBuffer, .eventMessages]
      (firmwareBoot slot0 slot1) s) :=
  run_next (i := (.firmwareBoot slot0 slot1)) _ rfl

theorem exec_lightFieldReady (s : State) :
    exec .lightFieldReady s = .next (onDev [.od, .bringup, .events, .eventBuffer, .eventMessages] lightFieldReady
      s) :=
  run_next (i := .lightFieldReady) _ rfl

theorem exec_sysReset (s : State) :
    exec .sysReset s = .next (onAll (mainReset 1) s) :=
  run_next (i := .sysReset) _ rfl

theorem exec_railBad (s : State) :
    exec .railBad s = .next (onAll (mainReset 1) s) :=
  run_next (i := .railBad) _ rfl

theorem exec_managementRestartCommand (s : State) :
    exec .managementRestartCommand s = .next (onNv [.od, .timing, .clock, .sources, .host, .ncp, .events,
      .eventBuffer, .eventMessages, .delayed] (managementRestart 2) s) :=
  run_next (i := .managementRestartCommand) _ rfl

theorem exec_mainDieResetCommand (s : State) :
    exec .mainDieResetCommand s = .next (onAll mainDieReset s) :=
  run_next (i := .mainDieResetCommand) _ rfl

theorem exec_driveDieResetCommand (s : State) :
    exec .driveDieResetCommand s = .next (onFuses (fun t => drain (driveDieReset t)) s) :=
  run_next (i := .driveDieResetCommand) _ rfl

theorem exec_watchdogRefresh (s : State) :
    exec .watchdogRefresh s = .next (onDev [.bringup] watchdogRefresh s) :=
  run_next (i := .watchdogRefresh) _ rfl

theorem exec_watchdogExpiry (s : State) :
    exec .watchdogExpiry s = .next (onNv [.od, .timing, .clock, .sources, .host, .ncp, .events, .eventBuffer,
      .eventMessages, .delayed] watchdogFired s) :=
  run_next (i := .watchdogExpiry) _ rfl

theorem exec_managementRestartComplete (s : State) :
    exec .managementRestartComplete s = .next (onNv [.od, .bringup] managementRestarted s) :=
  run_next (i := .managementRestartComplete) _ rfl

theorem exec_eventRead (s : State) :
    exec .eventRead s = .next (onDev [.events] eventTaken s) :=
  run_next (i := .eventRead) _ rfl

theorem exec_proxyStore (s : State) :
    exec .proxyStore s = .next (onNv [.od] (fun t => (proxyStore [] t).2) s) :=
  run_next (i := .proxyStore) _ rfl

theorem exec_proxyErase (s : State) :
    exec .proxyErase s = .next (onNv [.od] (fun t => (proxyErase [] t).2) s) :=
  run_next (i := .proxyErase) _ rfl

theorem exec_refclockLoss (quadrant : Nat) (s : State) (w1 : quadrant < 4) :
    exec (.refclockLoss quadrant) s = .next (onDev [.od, .links, .ports, .events, .eventBuffer, .eventMessages]
      (refclockLoss quadrant) s) :=
  run_next (i := (.refclockLoss quadrant)) _ (decide_eq_true w1)

theorem exec_driverDownstreamLockGain (l : Nat) (s : State) (w1 : l < 256) (here : l < nLinks s) :
    exec (.driverDownstreamLockGain l) s = .next (onDev [.drivers] (downLockGain l) s) :=
  runOn_next (i := (.driverDownstreamLockGain l)) s _ (decide_eq_true w1) (decide_eq_true here)

theorem exec_driverLockLossTimeout (p : Nat) (s : State) (w1 : p < 128) (here : p < nPorts s) :
    exec (.driverLockLossTimeout p) s = .next (onDev [.drivers] (lockLossTimeout p) s) :=
  runOn_next (i := (.driverLockLossTimeout p)) s _ (decide_eq_true w1) (decide_eq_true here)

theorem exec_driverTrainSend (l : Nat) (margin : Nat) (s : State) (w1 : l < 256) (w2 : margin < 64) (here : l <
    nLinks s) :
    exec (.driverTrainSend l margin) s = .next (onDev [.drivers] (driverTrainSend l margin) s) :=
  runOn_next (i := (.driverTrainSend l margin)) s _ (by show (_ && _) = true; simp [w1, w2]) (decide_eq_true here)

theorem exec_patternTestResultSend (l : Nat) (errors : Nat) (s : State) (w1 : l < 256) (here : l < nLinks s) :
    exec (.patternTestResultSend l errors) s = .next (onDev [.drivers] (patternResult l errors) s) :=
  runOn_next (i := (.patternTestResultSend l errors)) s _ (decide_eq_true w1) (decide_eq_true here)

theorem exec_sysResetRelease (s : State) :
    exec .sysResetRelease s = .next (onCeil [.od, .shadow, .live, .links, .lens, .thermal, .images, .bringup,
      .events, .eventBuffer, .eventMessages] mainResume s) :=
  run_next (i := .sysResetRelease) _ rfl

theorem exec_hbmCommandParityError (pc : Nat) (s : State) (w1 : pc < 128) (here : pc < nPcs s) :
    exec (.hbmCommandParityError pc) s = .next (onDev [.od, .memory, .events, .eventBuffer, .eventMessages]
      (commandParity pc) s) :=
  runOn_next (i := (.hbmCommandParityError pc)) s _ (decide_eq_true w1) (decide_eq_true here)

theorem exec_stackControlFailure (stack : Nat) (s : State) (w1 : stack < 4) (here : stack < nStacks s) :
    exec (.stackControlFailure stack) s = .next (onDev [.od, .events, .eventBuffer, .eventMessages]
      (stackControlFailure stack) s) :=
  runOn_next (i := (.stackControlFailure stack)) s _ (decide_eq_true w1) (decide_eq_true here)

theorem exec_tilePortLockGain (t : Nat) (lane : Nat) (s : State) (w1 : t < 8) (w2 : lane < 4) (here : t < nTiles
    s) :
    exec (.tilePortLockGain t lane) s = .next (onDev [.od, .tiles] (laneLock t lane) s) :=
  runOn_next (i := (.tilePortLockGain t lane)) s _ (by show (_ && _) = true; simp [w1, w2]) (decide_eq_true here)

theorem exec_tilePortLockLoss (t : Nat) (lane : Nat) (s : State) (w1 : t < 8) (w2 : lane < 4) (here : t < nTiles
    s) :
    exec (.tilePortLockLoss t lane) s = .next (onDev [.od] (laneUnlock t lane) s) :=
  runOn_next (i := (.tilePortLockLoss t lane)) s _ (by show (_ && _) = true; simp [w1, w2]) (decide_eq_true here)

theorem exec_tilePortTakeDownEnd (t : Nat) (s : State) (w1 : t < 8) (here : t < nTiles s) :
    exec (.tilePortTakeDownEnd t) s = .next (onDev [.od, .tiles] (tileTakeDownEnd t) s) :=
  runOn_next (i := (.tilePortTakeDownEnd t)) s _ (decide_eq_true w1) (decide_eq_true here)

theorem exec_tileSerdesDomainOff (s : State) :
    exec .tileSerdesDomainOff s = .next (onDev [.od] tileSerdesOff s) :=
  run_next (i := .tileSerdesDomainOff) _ rfl

theorem exec_pcieLinkTrained (speed : Nat) (width : Nat) (s : State) (w1 : 1 ≤ speed) (w2 : speed ≤ 7) (w3 : [1,
    2, 4, 8, 16].contains width = true) :
    exec (.pcieLinkTrained speed width) s = .next (onDev [.od, .host] (linkTrained speed width) s) :=
  run_next (i := (.pcieLinkTrained speed width)) _ (by show (_ && _) = true; rw [w3]; simp [w1, w2])

theorem exec_pcieLinkDown (s : State) :
    exec .pcieLinkDown s = .next (onDev [.od, .host] linkDown s) :=
  run_next (i := .pcieLinkDown) _ rfl

theorem exec_storeSelectionComplete (s : State) :
    exec .storeSelectionComplete s = .next (onCeil [.od, .shadow, .live, .links, .lens, .thermal, .images,
      .bringup, .events, .eventBuffer, .eventMessages] selectionComplete s) :=
  run_next (i := .storeSelectionComplete) _ rfl

theorem exec_managementCoresStop (s : State) :
    exec .managementCoresStop s = .next (onDev [.od, .timing, .clock, .sources, .events, .eventBuffer,
      .eventMessages] coresStop s) :=
  run_next (i := .managementCoresStop) _ rfl

end Sys2Proof.Machine
end

