-- ==== Sys2Proof/Laws/Plan.lean ====
section
/-!
SUPPORT. Laws of the planner's budgets: the two conditions of R625 hold of frames in which no plane is visited, so the
budgets of an item over such frames can be settled without a search over pairs of strips.
-/
namespace Sys2Proof.Laws
open Sys2Proof.Machine

/-- An invariant of a fold over 0 to n − 1. -/
theorem range_foldl {α : Type} (I : Nat → α → Prop) (f : α → Nat → α) :
    ∀ n a, I 0 a → (∀ k a, k < n → I k a → I (k + 1) (f a k)) → I n ((List.range n).foldl f a) := by
  intro n
  induction n with
  | zero => intro a h _; exact h
  | succ n ih =>
    intro a h step
    rw [List.range_succ, List.foldl_append]
    exact step n _ (Nat.lt_succ_self n) (ih a h fun k a hk => step k a (Nat.lt_succ_of_lt hk))

theorem getD_replicate_of_lt {α : Type} {n k : Nat} (x d : α) (h : k < n) : (List.replicate n x).getD k d = x := by
  simp [List.getD_eq_getElem?_getD, h]
theorem getD_replicate_of_ge {α : Type} {n k : Nat} (x d : α) (h : n ≤ k) : (List.replicate n x).getD k d = d := by
  simp [List.getD_eq_getElem?_getD, Nat.not_lt.mpr h]

theorem scanLine_now {i : Nat} (h : i < 720) : scanLine (1440 + i) = 24 * i := by
  unfold scanLine; omega

theorem scanLine_before {i d : Nat} (hi : i < 720) (hd : d < 720) :
    scanLine (1440 + i - d - 8) ≤ 24 * i - 24 * d - 192 := by
  unfold scanLine; omega

theorem lineAt_even (l : Int) : lineAt 120 120 120 l = 7200000000000 * l := by
  unfold lineAt; split
  · omega
  · split <;> omega

/-- A list whose elements are all one load, at any place. -/
theorem big_replicate_le (k n P T R : Nat) : ((List.replicate n (P, T, R)).getD k (0, 0, 0)).2.1 ≤ T := by
  by_cases h : k < n
  · rw [getD_replicate_of_lt _ _ h]
  · rw [getD_replicate_of_ge _ _ (by omega)]; exact Nat.zero_le _

/-- The load of 32 patches that visit no plane meets R625 at 120 Hz with every cluster. -/
theorem r625_idle (s : State) (hn : modelClusters s = 96) (on : Nat → Bool) (P T R : Nat) (hP : P = 1353600000)
    (hT : T = 42300000) (hR : R = 20700000) : r625 s 120 120 120 (List.replicate 2160 (P, T, R)) on = true := by
  unfold r625
  rw [hn]
  dsimp only
  apply List.all_eq_true.mpr
  intro i hi
  have hi := List.mem_range.mp hi
  have at' : ∀ d, d < 720 → (List.replicate 2160 (P, T, R)).getD (1440 + i - d) (0, 0, 0) = (P, T, R) := fun d hd =>
    getD_replicate_of_lt _ _ (by omega)
  have big := fun k => big_replicate_le k 2160 P T R
  generalize List.replicate 2160 (P, T, R) = L at at' big ⊢
  have w : (List.range 720).foldl (fun (a : Nat) (d : Nat) =>
      a + (L.getD (1440 + i - d) (0, 0, 0)).1) 0 = 720 * P := by
    refine range_foldl (fun d a => a = d * P) _ 720 0 (Nat.zero_mul P).symm fun k a hk h => ?_
    rw [at' k hk, h, Nat.add_mul, Nat.one_mul]
  refine Bool.and_eq_true_iff.mpr ⟨Bool.or_eq_true_iff.mpr (.inr (Bool.and_eq_true_iff.mpr ⟨?_, rfl⟩)),
    Bool.or_eq_true_iff.mpr (.inr ?_)⟩
  · refine (range_foldl (fun d (a : Bool × Nat × Nat) => a.1 = true ∧ a.2.1 = d * P ∧ a.2.2 ≤ T) _ 720 _
      ⟨rfl, (Nat.zero_mul P).symm, Nat.zero_le T⟩ ?_).1
    intro d a hd h
    have h1 := scanLine_before hi hd
    have e1 : ((d * P : Nat) : Int) = d * 1353600000 := by rw [hP, Int.natCast_mul]; rfl
    have hb : (List.range 9).foldl (fun (m : Nat) (e : Nat) =>
        max m (L.getD (1440 + i - d - e) (0, 0, 0)).2.1) a.2.2 ≤ T :=
      range_foldl (fun _ m => m ≤ T) _ 9 _ h.2.2 fun k m _ hm => Nat.max_le.mpr ⟨hm, big _⟩
    refine ⟨?_, ?_, hb⟩
    · refine Bool.and_eq_true_iff.mpr ⟨h.1, decide_eq_true ?_⟩
      rw [at' d hd, show L.getD (1440 + i) (0, 0, 0) = (P, T, R) from at' 0 (by omega),
        h.2.1, scanLine_now hi, lineAt_even, lineAt_even]
      push_cast at e1 ⊢
      omega
    · dsimp only
      rw [at' d hd, h.2.1, Nat.add_mul, Nat.one_mul]
  · refine decide_eq_true ?_
    rw [w]
    omega

/-- A state in which no plane is visited, at 120 Hz over the whole width. -/
def idleState (c : Committed) : Bool := (visitedPlanes c).isEmpty && patchesPerStrip c == 32 && planHz c == 120

/-- The players reserve no step and no footprint at count `n`. -/
def noPlayers (s : State) (n : Nat) : Bool := reserve s n clipSteps == 0 && reserve s n clipFoot == 0

/-- The loads of strips that show no plane. -/
theorem planeLoads_nil {c : Committed} (h : patchesPerStrip c = 32) :
    planeLoads c [] = List.replicate 720 (List.replicate 32 { steps := 46080, quarter := 11520, foot := 0 }) := by
  have hmap : ∀ (m : Nat) (x : List PatchLoad), (List.range m).map (fun _ => x) = List.replicate m x := by
    intro m x; rw [List.map_const', List.length_range]
  unfold planeLoads
  rw [h]
  simp only [List.isEmpty_nil, if_true]
  exact hmap 720 _

/-- The loads of a frame in which no plane is visited. -/
theorem frameLoads_idle {s : State} {n : Nat} {c : Committed} (h : noPlayers s n = true) (hc : idleState c = true) :
    frameLoads s n c =
      List.replicate 720 (List.replicate 32 { steps := 46080, quarter := 11520, foot := 0 }) := by
  simp only [noPlayers, idleState, Bool.and_eq_true, beq_iff_eq, List.isEmpty_iff] at h hc
  unfold frameLoads freePlanes
  rw [hc.1.1, h.1, h.2]
  dsimp only
  rw [List.filter_nil, List.map_nil, planeLoads_nil hc.1.2, Nat.zero_min]
  split
  · rfl
  · rw [List.zipWith_replicate, Nat.min_self, List.zipWith_replicate, Nat.min_self]
    rfl

/-- Count `n` and the two before it are idle, and every budget of count `n` but R625 is met. -/
def idleFrame (s : State) (n : Nat) : Bool :=
  (plans s n).all (fun c => stepsFit s n c && densityFits c && footFits s n c && compositionFits s c && guestFits s n c &&
    idleState c) &&
    noPlayers s n && noPlayers s (n - 1) && noPlayers s (n - 2) && idleState (stateAt s (n - 1)) &&
    idleState (stateAt s (n - 2))

/-- No budget fails in idle frames, over decode windows that fit. -/
theorem budgetFail_idle (base s : State) (frames windows : List Nat) (hn : modelClusters s = 96)
    (h : frames.all (idleFrame s) = true) (hw : windows.all (decodeFits s) = true) :
    budgetFail base s frames windows = none := by
  have h := List.all_eq_true.mp h
  simp only [idleFrame, Bool.and_eq_true, List.all_eq_true] at h
  have all : ∀ p : Nat → Committed → Bool, (∀ n ∈ frames, ∀ c ∈ plans s n, p n c = true) →
      (frames.all fun n => (plans s n).all (p n)) = true :=
    fun p hp => List.all_eq_true.mpr fun n hn' => List.all_eq_true.mpr (hp n hn')
  have hz : ∀ c, idleState c = true → planHz c = 120 := fun c hc => by
    simp only [idleState, Bool.and_eq_true, beq_iff_eq] at hc; exact hc.2
  have hp : ∀ n ∈ frames, ∀ c ∈ plans s n, patchFits base s n c = true := by
    intro n hn' c hc
    obtain ⟨⟨⟨⟨⟨hf, p0⟩, p1⟩, p2⟩, i1⟩, i2⟩ := h n hn'
    have i0 := (hf c hc).2
    simp only [patchFits, hz _ i0, hz _ i1, hz _ i2, frameLoads_idle p0 i0, frameLoads_idle p1 i1, frameLoads_idle p2 i2,
      List.replicate_append_replicate, List.map_replicate]
    rw [show stripTimes (List.replicate 32 { steps := 46080, quarter := 11520, foot := 0 }) =
      (1353600000, 42300000, 20700000) by decide +kernel, r625_idle s hn _ _ _ _ rfl rfl rfl]
    decide +kernel
  unfold budgetFail
  simp only [all (stepsFit s) fun n m c k => ((h n m).1.1.1.1.1 c k).1.1.1.1.1,
    all (fun _ c => densityFits c) fun n m c k => ((h n m).1.1.1.1.1 c k).1.1.1.1.2,
    all (footFits s) fun n m c k => ((h n m).1.1.1.1.1 c k).1.1.1.2,
    all (fun _ c => compositionFits s c) fun n m c k => ((h n m).1.1.1.1.1 c k).1.1.2,
    all (guestFits s) fun n m c k => ((h n m).1.1.1.1.1 c k).1.2, hw, all (patchFits base s) hp]
  rfl

end Sys2Proof.Laws
end

