-- ==== Sys2Proof/Laws/Planner.lean ====
section
/-!
SUPPORT. When the planner admits an entry with an explicit target: each test of R620 that passes, and the verdict then.
-/
namespace Sys2Proof.Laws
open Sys2Proof.Machine

/-- The count of a verdict. -/
def verdictCount : Verdict → Option Nat
  | .ok (n, _) => some n
  | .error _ => none

theorem ok_of_verdictCount {v : Verdict} {n : Nat} (h : verdictCount v = some n) : ∃ g, v = .ok (n, g) := by
  match v, h with
  | .ok (m, g), h => exact ⟨g, by cases h; rfl⟩

/-- An explicit target that is valid and passes every test is chosen. -/
theorem chooseTarget_explicit {s : State} {e : Entry} {once : Option Refuse} {at' : Nat → Option Refuse} {n : Nat}
    (hf : bit e.flags 0 = 0) (ht : testTarget s e.target = .ok n) (ha : at' n = none) :
    chooseTarget s e once at' = .ok n := by
  simp [chooseTarget, hf, ht, ha]

theorem pulseVerdict_explicit {q : Nat} {e : Entry} {pin width n : Nat} {offset : Int} {c : Queue} {s : State}
    (hh : (!headerFits e 0x23 [2] c.typ || decide (4 ≤ pin) || decide (offset < -1000000) || decide (1000000000 < offset) ||
      decide (width < 8) || decide (1000000000 < width)) = false)
    (hf : bit e.flags 0 = 0) (ht : testTarget s e.target = .ok n) (hp : (planAt s n).obj (0x48C0 + pin) 1 = 3)
    (hl : fullFail s = none) (hb : budgets s (itemFor c q e s n (.pulse pin offset width)) none = none) :
    verdictCount (pulseVerdict q e pin offset width c s) = some n := by
  unfold pulseVerdict
  rw [hh, if_neg Bool.false_ne_true]
  dsimp only
  rw [chooseTarget_explicit hf ht (by rw [if_neg (fun h => h hp), hl, hb]; rfl)]
  rfl

theorem visibleVerdict_explicit {q : Nat} {e : Entry} {mask values n : Nat} {c : Queue} {s : State}
    (hh : (!headerFits e 0x26 [2] c.typ || decide (2 ^ 32 ≤ mask) || decide (2 ^ 32 ≤ values)) = false)
    (hf : bit e.flags 0 = 0) (ht : testTarget s e.target = .ok n) (hl : fullFail s = none)
    (hb : budgets s (itemFor c q e s n (.visible mask values)) none = none) :
    verdictCount (visibleVerdict q e mask values c s) = some n := by
  unfold visibleVerdict
  rw [hh, if_neg Bool.false_ne_true]
  dsimp only
  rw [chooseTarget_explicit hf ht (by rw [hl, hb]; rfl)]
  rfl

/-- No budget of an item fails. -/
theorem budgetsAt_of_budgets {s : State} {i : Item} {last : Option Nat} (h : budgets s i last = none) :
    budgetsAt s (withItem i s) i.target last = none := Option.map_eq_none_iff.mp h

theorem plannerFull_of_fullFail {s : State} (h : fullFail s = none) : plannerFull s = false := by
  unfold fullFail at h; revert h; cases plannerFull s <;> simp

theorem itemFails_none {s : State} {i : Item} (hr : rasterMoves s i = false) (ha : anyBound s = false)
    (hf : fullFail s = none) (hb : budgets s i none = none) : itemFails s i = none := by
  simp [itemFails, hr, ha, plannerFull_of_fullFail hf, budgetsAt_of_budgets hb]

theorem switchFails_none {s : State} {i : Item} {m : Nat} {reload : Bool}
    (hm : m ≤ overlayCount (switchImage s reload))
    (ho : objsRefused s (planAt s i.target) (applyItem s (planAt s i.target) i) = none)
    (hr : rasterMoves s i = false) (ha : anyBound s = false) (hf : fullFail s = none)
    (hx : (s.dev.host.items.any fun x => x.isMode && x.target == i.target) = false)
    (hb : budgets s i none = none) : switchFails s i m reload = none := by
  unfold switchFails
  dsimp only
  rw [if_neg (by omega), ho]
  dsimp only
  rw [hr, plannerFull_of_fullFail hf, hx, itemFails_none hr ha hf hb]
  rfl

theorem modeVerdict_explicit {q : Nat} {e : Entry} {m n : Nat} {c : Queue} {s : State}
    (hh : (!headerFits e 0x24 [2] c.typ || decide (16 ≤ m) || decide (overlayCount (switchImage s false) < m)) = false)
    (hf : bit e.flags 0 = 0) (ht : testTarget s e.target = .ok n)
    (hs : switchFails s (itemFor c q e s n (.mode m false)) m false = none) :
    verdictCount (modeVerdict q e m c s) = some n := by
  unfold modeVerdict
  rw [hh, if_neg Bool.false_ne_true]
  rw [chooseTarget_explicit hf ht (by rw [hs]; rfl)]
  rfl

theorem zonesVerdict_explicit {q : Nat} {e : Entry} {map crc' z n : Nat} {c : Queue} {s : State}
    (hh : headerFits e 0x25 [2] c.typ = true) (hz : zoneMap s map crc' = some z)
    (hf : bit e.flags 0 = 0) (ht : testTarget s e.target = .ok n) (hl : fullFail s = none) (hn : hasLens s = true)
    (ho : objsRefused s (planAt s n) (applyItem s (planAt s n) (itemFor c q e s n (.zones z))) = none)
    (hb : budgets s (itemFor c q e s n (.zones z)) none = none) :
    verdictCount (zonesVerdict q e map crc' c s) = some n := by
  unfold zonesVerdict
  rw [if_pos hh, hz]
  dsimp only
  rw [chooseTarget_explicit hf ht (by rw [if_pos hn, ho, hl, hb]; rfl)]
  rfl

theorem mapM_some {α : Type} {f : Nat → Option α} {b : α} (l : List Nat) (h : ∀ i ∈ l, f i = some b) :
    l.mapM f = some (List.replicate l.length b) := by
  induction l with
  | nil => rfl
  | cons x l ih =>
    rw [List.mapM_cons, h x (List.mem_cons_self ..), ih fun i hi => h i (List.mem_cons_of_mem _ hi)]
    rfl

/-- Bytes that all read 0. -/
theorem hbmRead_zeros {s : State} {off len : Nat}
    (h : (List.range len).all (fun i => hbmByte s (off + i) == some 0) = true) :
    hbmRead s off len = some (List.replicate len 0) := by
  have h := List.all_eq_true.mp h
  rw [hbmRead, mapM_some (List.range len) fun i hi => eq_of_beq (h i hi), List.length_range]

theorem leNat_zeros (n : Nat) : leNat (List.replicate n 0) = 0 := by
  induction n with
  | zero => rfl
  | succ n ih => rw [List.replicate_succ, leNat, ih]; rfl

/-- The map of no zone. -/
theorem zoneMap_zeros {s : State} {off : Nat}
    (h : (List.range 1536).all (fun i => hbmByte s (off + i) == some 0) = true) :
    zoneMap s off (crc32c 0x44100001 (List.replicate 1536 0)) = some 0 := by
  unfold zoneMap
  rw [hbmRead_zeros h]
  dsimp only
  rw [if_pos rfl, leNat_zeros]

theorem stopVerdict_explicit {q : Nat} {e : Entry} {player n : Nat} {c : Queue} {s : State}
    (hh : (!headerFits e 0x22 [2] c.typ || decide (64 ≤ player)) = false)
    (hf : bit e.flags 0 = 0) (ht : testTarget s e.target = .ok n) (hl : fullFail s = none)
    (hb : budgets s (itemFor c q e s n (.stop player)) none = none) :
    verdictCount (stopVerdict q e player c s) = some n := by
  unfold stopVerdict
  rw [hh, if_neg Bool.false_ne_true]
  rw [chooseTarget_explicit hf ht (by rw [hl, hb]; rfl)]
  rfl

theorem playVerdict_explicit {q : Nat} {e : Entry} {u : PlayOps} {n : Nat} {c : Queue} {s : State}
    (hh : (!headerFits e 0x21 [2] c.typ || decide (64 ≤ u.player) || u.step == 0 || decide (256 ≤ u.step) ||
      decide (4096 ≤ u.clip) || decide (65536 ≤ u.loops) || decide (2 ≤ u.endAction) || !mapForm u.map || !mapFits s u) = false)
    (hf : bit e.flags 0 = 0) (ht : testTarget s e.target = .ok n) (hp : playFails s (bindingOf s u n) = none)
    (hb : budgets (withBinding s.dev.host.nextNum (bindingOf s u n) s) (itemFor c q e s n (.play u.player))
      ((bindingOf s u n).endAt.map (· + 1)) = none) :
    verdictCount (playVerdict q e u c s) = some n := by
  unfold playVerdict
  rw [hh, if_neg Bool.false_ne_true]
  dsimp only
  rw [chooseTarget_explicit hf ht (by
    unfold playAt
    dsimp only
    rw [hp, show (itemFor c q e s n (.play u.player)).num = s.dev.host.nextNum from rfl, hb]; rfl)]
  rfl

theorem updateVerdict_explicit {q : Nat} {e : Entry} {u : UpdateOps} {n : Nat} {c : Queue} {s : State} {a : Admitted}
    (hh : (!headerFits e 1 [1] c.typ || u.staging % 8 != 0 || !fenceOperands e u) = false)
    (hf : bit e.flags 0 = 0) (ht : testTarget s e.target = .ok n) (hc : updateChunks s c u (some n) = .ok a)
    (hu : updateFails s (updateItem c q e u s n a) a = none)
    (hb : budgets s (updateItem c q e u s n a) (replacedAt s a.layer n) = none) :
    verdictCount (updateVerdict q e u c s) = some n := by
  unfold updateVerdict
  rw [hh, if_neg Bool.false_ne_true]
  dsimp only
  rw [chooseTarget_explicit hf ht (by unfold updateAt; rw [hc]; dsimp only; rw [hu, hb]; rfl)]
  dsimp only
  rw [hc]
  rfl

end Sys2Proof.Laws
end

