-- ==== Sys2Proof/Laws/Shared.lean ====
section
/-!
SUPPORT. What the shared operations do, said once: the event log, loops over units, memory ranges.
-/
namespace Sys2Proof.Machine

/-! ### The event log (R869) -/

/-- Writing an event changes the log and its messages, the sequence counter 0x6000:01 and the lost-event counter
0x6000:04, nothing else. -/
theorem logEvent_eq (rule cls index sub data : Nat) (s : State) :
    ∃ od ev buf n, logEvent rule cls index sub data s =
      { s with dev := { s.dev with od := od, events := ev, eventBuffer := buf, eventMessages := n } } := by
  simp only [logEvent, State.iff]
  split
  · split <;> exact ⟨_, _, _, _, rfl⟩
  · split <;> exact ⟨_, _, _, _, rfl⟩

@[simp] theorem logEvent_hbm (r c i j d : Nat) (s : State) : (logEvent r c i j d s).hbm = s.hbm := by
  obtain ⟨_, _, _, _, h⟩ := logEvent_eq r c i j d s; rw [h]
@[simp] theorem logEvent_bank (r c i j d : Nat) (s : State) : (logEvent r c i j d s).bank = s.bank := by
  obtain ⟨_, _, _, _, h⟩ := logEvent_eq r c i j d s; rw [h]
@[simp] theorem logEvent_nv (r c i j d : Nat) (s : State) : (logEvent r c i j d s).nv = s.nv := by
  obtain ⟨_, _, _, _, h⟩ := logEvent_eq r c i j d s; rw [h]
@[simp] theorem logEvent_now (r c i j d : Nat) (s : State) : (logEvent r c i j d s).now = s.now := by
  obtain ⟨_, _, _, _, h⟩ := logEvent_eq r c i j d s; rw [h]
@[simp] theorem logEvent_fuses (r c i j d : Nat) (s : State) : (logEvent r c i j d s).fuses = s.fuses := by
  obtain ⟨_, _, _, _, h⟩ := logEvent_eq r c i j d s; rw [h]
@[simp] theorem logEvent_ceilings (r c i j d : Nat) (s : State) : (logEvent r c i j d s).ceilings = s.ceilings := by
  obtain ⟨_, _, _, _, h⟩ := logEvent_eq r c i j d s; rw [h]
@[simp] theorem logEvent_pending (r c i j d : Nat) (s : State) : (logEvent r c i j d s).pending = s.pending := by
  obtain ⟨_, _, _, _, h⟩ := logEvent_eq r c i j d s; rw [h]

/-- A change of the device that leaves the dictionary alone leaves every register alone. -/
theorem reg_modDev_of_od (f : Dev → Dev) (s : State) (h : (f s.dev).od = s.dev.od) (x y : Nat) :
    (s.modDev f).reg x y = s.reg x y := by simp only [State.reg, modDev_dev, h]

/-- Registers outside the log's own counters are left alone by an event. -/
theorem reg_logEvent (r c i j d : Nat) (s : State) (x y : Nat) (h1 : key x y ≠ key 0x6000 1)
    (h4 : key x y ≠ key 0x6000 4) : (logEvent r c i j d s).reg x y = s.reg x y := by
  simp only [logEvent, State.iff]
  split
  · refine Eq.trans (reg_modDev_of_od _ _ rfl x y) ?_
    split
    · rw [reg_bump, if_neg (Ne.symm h4), reg_bumpSeq, if_neg (Ne.symm h1)]
    · rw [reg_bumpSeq, if_neg (Ne.symm h1)]
  · split
    · rw [reg_bump, if_neg (Ne.symm h4)]
    · refine Eq.trans (reg_modDev_of_od _ _ rfl x y) ?_
      rw [reg_bumpSeq, if_neg (Ne.symm h1)]

/-- Registers of an index other than 0x6000 are left alone by an event. -/
theorem reg_logEvent_index (r c i j d : Nat) (s : State) {x y : Nat} (hx : x ≠ 0x6000) (hy : y < 256) :
    (logEvent r c i j d s).reg x y = s.reg x y :=
  reg_logEvent r c i j d s x y (fun h => hx (key_inj hy (by decide) h).1) (fun h => hx (key_inj hy (by decide) h).1)

/-- An event that finds room is in the log, with the next sequence number. -/
theorem logEvent_logged (r c i j d : Nat) (s : State) (room : canLog s) : eventLogged r s (logEvent r c i j d s) := by
  refine ⟨{ rule := r, cls := c, index := i, sub := j, frame := frameNo s, time := time80 (localTime s).toNat,
            data := d % 2 ^ 64, seq := (s.reg 0x6000 1 + 1) % 2 ^ 32 }, rfl, rfl, ?_⟩
  simp only [logEvent]
  split
  · left; simp [State.modDev]
  · rename_i ht
    have hb : s.dev.eventBuffer.length < 4096 := room.resolve_left ht
    rw [if_neg (by omega)]
    right; simp [State.modDev, State.bumpSeq, State.setReg]

/-! ### HBM -/

/-- Bytes written to HBM keep the canonical form. -/
theorem memoryWf_hbmPut {m : List Host.Cell} (w : memoryWf m = true) (s : State) (off : Nat) (b : Byte) :
    memoryWf (hbmPut s m off b) = true := by
  unfold hbmPut
  split
  · exact w
  · rename_i p _
    suffices h : ∀ (xs : List Nat) (m : List Host.Cell), memoryWf m = true →
        memoryWf (xs.foldl (fun m i => cellPut m (i * pcSize + p.addr) b) m) = true from h _ m w
    intro xs
    induction xs with
    | nil => exact fun _ h => h
    | cons x xs ih => exact fun m h => ih _ (memoryWf_cellPut h _ _)

theorem memoryWf_hbmPuts {m : List Host.Cell} (w : memoryWf m = true) (s : State) (off : Nat) (bs : List Byte) :
    memoryWf (hbmPuts s m off bs) = true := by
  induction bs generalizing m off with
  | nil => exact w
  | cons b bs ih => exact ih (memoryWf_hbmPut w s off b) (off + 1)

@[simp] theorem hbmWrite_hbm (off : Nat) (bs : List Byte) (s : State) : (hbmWrite off bs s).hbm = hbmPuts s s.hbm off bs := by
  unfold hbmWrite; dsimp only; split <;> rfl

theorem memoryWf_hbmWrite {s : State} (w : memoryWf s.hbm = true) (off : Nat) (bs : List Byte) :
    memoryWf (hbmWrite off bs s).hbm = true := by rw [hbmWrite_hbm]; exact memoryWf_hbmPuts w s off bs

/-! ### Banks -/

theorem memoryWf_bankPut {s : State} (w : memoryWf s.bank = true) (a : Nat) (b : Byte) :
    memoryWf (bankPut a b s).bank = true := by
  unfold bankPut
  split
  · split
    · exact w
    · exact memoryWf_cellPut w a b
  · exact memoryWf_cellPut w a b

/-- Bytes written to bank space keep the canonical form. -/
theorem memoryWf_bankWrite {s : State} (w : memoryWf s.bank = true) (a : Nat) (bs : List Byte) :
    memoryWf (bankWrite a bs s).bank = true := by
  induction bs generalizing s a with
  | nil => exact w
  | cons b bs ih => exact ih (memoryWf_bankPut w a b) (a + 1)

/-- A row copied back keeps the canonical form. -/
theorem memoryWf_rowRestore {s : State} (w : memoryWf s.bank = true) (t : RowTest) :
    memoryWf (rowRestore t s).bank = true := by
  have h : ∀ (xs : List Nat) (m : List Host.Cell), memoryWf m = true →
      memoryWf (xs.foldl (fun m k => cellPut m (rowByte t.bank t.row k) (t.saved.getD k 0)) m) = true := by
    intro xs
    induction xs with
    | nil => exact fun _ h => h
    | cons x xs ih => exact fun m h => ih _ (memoryWf_cellPut h _ _)
  have k := h (List.range 256) s.bank w
  simp only [rowRestore]
  generalize (List.range 256).foldl _ s.bank = m at k ⊢
  split <;> exact k

end Sys2Proof.Machine
end

