-- ==== Sys2Proof/Laws/Queue.lean ====
section
/-!
SUPPORT. What answering an entry does: posting a completion, accepting or refusing an entry, and processing the next
entry of a queue (R594, R599, R613 to R617).
-/
namespace Sys2Proof.Machine

theorem queue_modQueue (s : State) (r q : Nat) (f : Queue → Queue) :
    (modQueue r f s).queue q = if r = q then f (s.queue r) else s.queue q := amGetD_amMod ..

@[simp] theorem queue_setReg (s : State) (i j v q : Nat) : (s.setReg i j v).queue q = s.queue q := rfl
@[simp] theorem queue_bump (s : State) (i j n q : Nat) : (s.bump i j n).queue q = s.queue q := rfl

/-- The planner's items, the admission numbers and the fences are as before. -/
def samePlan (s t : State) : Prop :=
  t.dev.host.items = s.dev.host.items ∧ t.dev.host.nextNum = s.dev.host.nextNum ∧ t.dev.host.fences = s.dev.host.fences

theorem samePlan.trans {s t u : State} (h : samePlan s t) (k : samePlan t u) : samePlan s u :=
  ⟨k.1.trans h.1, k.2.1.trans h.2.1, k.2.2.trans h.2.2⟩

theorem samePlan_bump (s : State) (i j n : Nat) : samePlan s (s.bump i j n) := ⟨rfl, rfl, rfl⟩
theorem samePlan_modQueue (s : State) (r : Nat) (f : Queue → Queue) : samePlan s (modQueue r f s) := ⟨rfl, rfl, rfl⟩
theorem samePlan_ringPut (r : Nat) (c : Completion) (s : State) : samePlan s (ringPut r c s) := by
  have hw : samePlan s (ringWrite r c s) := by
    simp only [ringWrite]; split <;> exact ⟨rfl, rfl, rfl⟩
  have hm (t : State) : samePlan t (ringMessage r t) := by
    unfold ringMessage; split <;> exact ⟨rfl, rfl, rfl⟩
  exact (hw.trans (hm _)).trans (samePlan_modQueue _ _ _)

theorem samePlan_postCompletion (r : Nat) (c : Completion) (s : State) : samePlan s (postCompletion r c s) := by
  simp only [postCompletion]
  split
  · exact ⟨rfl, rfl, rfl⟩
  · split
    · exact samePlan_ringPut ..
    · split <;> exact ⟨rfl, rfl, rfl⟩

/-- A queue that is no completion ring is left alone. -/
theorem queue_postCompletion (r : Nat) (c : Completion) (s : State) (q : Nat) (h : (s.queue q).typ ≠ 4) :
    (postCompletion r c s).queue q = s.queue q := by
  simp only [postCompletion]
  split
  · rfl
  · rename_i h4
    have hrq : r ≠ q := fun e => h4 (fun h4 => h (e ▸ h4))
    split
    · rw [ringPut, queue_modQueue, if_neg hrq]
      unfold ringMessage ringWrite
      dsimp only
      split <;> split <;> rfl
    · split <;> rfl

/-- Objects of indexes other than 0x1241 are left alone. -/
theorem reg_postCompletion (r : Nat) (c : Completion) (s : State) (i j : Nat) (h1 : key 0x1241 7 ≠ key i j)
    (h2 : key 0x1241 9 ≠ key i j) : (postCompletion r c s).reg i j = s.reg i j := by
  have hb (n : Nat) (t : State) (hn : key 0x1241 n ≠ key i j) : (t.bump 0x1241 n).reg i j = t.reg i j := by
    rw [reg_bump, if_neg hn]
  have hw : (ringWrite r c s).reg i j = s.reg i j := by
    simp only [ringWrite]; split
    · rfl
    · exact hb 9 s h2
  have hm (t : State) : (ringMessage r t).reg i j = t.reg i j := by
    unfold ringMessage; split <;> rfl
  simp only [postCompletion]
  split
  · exact hb 7 s h1
  · split
    · exact (hm _).trans hw
    · split
      · rfl
      · exact hb 7 s h1

/-! ### The requests that meet HBM -/

/-- The host interface and the registers below 0x5000 are as before. -/
def hostSame (s t : State) : Prop := t.dev.host = s.dev.host ∧ ∀ x y, x < 0x5000 → y < 256 → t.reg x y = s.reg x y

theorem hostSame.refl (s : State) : hostSame s s := ⟨rfl, fun _ _ _ _ => rfl⟩
theorem hostSame.trans {s t u : State} (h : hostSame s t) (k : hostSame t u) : hostSame s u :=
  ⟨k.1.trans h.1, fun x y hx hy => (k.2 x y hx hy).trans (h.2 x y hx hy)⟩
theorem hostSame_modPc (i : Nat) (f : Pc → Pc) (s : State) : hostSame s (modPc i f s) := ⟨rfl, fun _ _ _ _ => rfl⟩
theorem hostSame_setReg (i : Nat) {j : Nat} (v : Nat) (s : State) (hj : j < 256) : hostSame s (s.setReg (0x5000 + i) j v) :=
  ⟨rfl, fun x y hx hy => by
    rw [reg_setReg, if_neg]
    intro h
    have := key_inj hj hy h
    omega⟩
theorem hostSame_pcTouch (i : Nat) (s : State) : hostSame s (pcTouch i s) := by
  unfold pcTouch
  split
  · exact (hostSame_setReg i 1 s (by decide)).trans (hostSame_setReg i _ _ (by decide))
  · exact hostSame_setReg i 4 s (by decide)
  · exact .refl s
theorem hostSame_pcRequest (src i a : Nat) (s : State) : hostSame s (pcRequest src i a s) := by
  unfold pcRequest
  dsimp only
  have h := hostSame_modPc i (fun p => { p with usedAt := s.now }) s
  split
  · exact h.trans (hostSame_modPc ..)
  · exact (h.trans (hostSame_pcTouch i _)).trans (hostSame_modPc ..)
  · exact (h.trans (hostSame_pcTouch i _)).trans (hostSame_modPc ..)
  · exact h.trans (hostSame_modPc ..)
  · exact h

/-- A request to HBM changes pseudo-channels alone: the host interface is as before (R655, R668). -/
theorem hostSame_hbmAsk (src : Nat) (write : Bool) (off len : Nat) (s : State) :
    hostSame s (hbmAsk src write off len s) := by
  refine each_invariant (hostSame s) _ (fun u t h => ?_) _ _ (.refl s)
  dsimp only
  split
  · exact h
  · exact each_invariant (hostSame s) _ (fun i t h => h.trans (hostSame_pcRequest ..)) _ _ h

/-! ### The admission engine -/

/-- What the engine leaves when it takes doorbells: the plan, the planner's statistics, every queue's type, and the
entries that each submission queue has had taken and accepted (R601, R602). -/
def engineKeeps (s t : State) : Prop :=
  samePlan s t ∧ (∀ j < 256, t.reg 0x1242 j = s.reg 0x1242 j) ∧
  ∀ q, (t.queue q).typ = (s.queue q).typ ∧
    ((s.queue q).typ ≠ 4 → (t.queue q).head = (s.queue q).head ∧ (t.queue q).accepted = (s.queue q).accepted)

theorem engineKeeps.refl (s : State) : engineKeeps s s :=
  ⟨⟨rfl, rfl, rfl⟩, fun _ _ => rfl, fun _ => ⟨rfl, fun _ => ⟨rfl, rfl⟩⟩⟩

theorem engineKeeps.trans {s t u : State} (h : engineKeeps s t) (k : engineKeeps t u) : engineKeeps s u :=
  ⟨h.1.trans k.1, fun j hj => (k.2.1 j hj).trans (h.2.1 j hj), fun q =>
    ⟨(k.2.2 q).1.trans (h.2.2 q).1, fun hq =>
      have a := (h.2.2 q).2 hq
      have b := (k.2.2 q).2 ((h.2.2 q).1 ▸ hq)
      ⟨b.1.trans a.1, b.2.trans a.2⟩⟩⟩

/-- Nothing of the queues, the plan or the registers of 0x1242 changes. -/
theorem engineKeeps_of {s t : State} (h : samePlan s t) (r : ∀ j < 256, t.reg 0x1242 j = s.reg 0x1242 j)
    (q : ∀ q, t.queue q = s.queue q) : engineKeeps s t := ⟨h, r, fun x => by rw [q]; exact ⟨rfl, fun _ => ⟨rfl, rfl⟩⟩⟩

/-- A change of the host interface outside the queues and the plan. -/
theorem engineKeeps_modHost (f : HostIf → HostIf) (s : State) (hq : (f s.dev.host).queues = s.dev.host.queues)
    (hp : samePlan s (modHost f s)) : engineKeeps s (modHost f s) :=
  engineKeeps_of hp (fun _ _ => rfl) fun q => by simp only [State.queue, modHost_dev, hq]

theorem engineKeeps_setReg {i j : Nat} (v : Nat) (s : State) (hj : j < 256) (h : i ≠ 0x1242) :
    engineKeeps s (s.setReg i j v) :=
  engineKeeps_of ⟨rfl, rfl, rfl⟩ (fun _ hy => by rw [reg_setReg, if_neg fun e => h (key_inj hj hy e).1]) fun _ => rfl

/-- A counter outside 0x1242 is none of the planner's. -/
theorem engineKeeps_bump (i j n : Nat) (s : State) (hj : j < 256) (h : i ≠ 0x1242) : engineKeeps s (s.bump i j n) :=
  engineKeeps_setReg _ s hj h

theorem engineKeeps_modQueue (r : Nat) (f : Queue → Queue) (s : State) (ht : (f (s.queue r)).typ = (s.queue r).typ)
    (h : (s.queue r).typ ≠ 4 → (f (s.queue r)).head = (s.queue r).head ∧
      (f (s.queue r)).accepted = (s.queue r).accepted) : engineKeeps s (modQueue r f s) := by
  refine ⟨samePlan_modQueue .., fun _ _ => rfl, fun q => ?_⟩
  rw [queue_modQueue]
  split
  · rename_i e; cases e; exact ⟨ht, h⟩
  · exact ⟨rfl, fun _ => ⟨rfl, rfl⟩⟩

theorem engineKeeps_logEvent (r c i j d : Nat) (s : State) : engineKeeps s (logEvent r c i j d s) := by
  have hp : samePlan s (logEvent r c i j d s) ∧ ∀ q, (logEvent r c i j d s).queue q = s.queue q := by
    obtain ⟨_, _, _, _, h⟩ := logEvent_eq r c i j d s
    rw [h]; exact ⟨⟨rfl, rfl, rfl⟩, fun _ => rfl⟩
  exact engineKeeps_of hp.1 (fun j' hj => reg_logEvent_index r c i j d s (by decide) hj) hp.2

theorem engineKeeps_iff (c : Bool) (f : State → State) (s : State) (h : engineKeeps s (f s)) :
    engineKeeps s (s.iff c f) := by cases c; exacts [.refl s, h]

theorem engineKeeps_haltQueue (q rule cls : Nat) (s : State) : engineKeeps s (haltQueue q rule cls s) := by
  unfold haltQueue
  split
  · exact ((engineKeeps_modQueue q _ s rfl fun _ => ⟨rfl, rfl⟩).trans
      (engineKeeps_bump 0x1241 6 1 _ (by decide) (by decide))).trans (engineKeeps_logEvent ..)
  · exact .refl s

theorem engineKeeps_hostViolation (q : Option Nat) (s : State) : engineKeeps s (hostViolation q s) := by
  have hb := engineKeeps_bump 0x1241 5 1 s (by decide) (by decide)
  unfold hostViolation
  cases q with
  | none => exact hb
  | some q =>
    dsimp only
    have hm := hb.trans (engineKeeps_modQueue q (fun c =>
      { c with violations := min (c.violations + 1) 0xFFFFFFFF
               recent := (s.bump 0x1241 5 1).now :: within1s (s.bump 0x1241 5 1).now ((s.bump 0x1241 5 1).queue q).recent })
      _ rfl fun _ => ⟨rfl, rfl⟩)
    split
    · exact ((hm.trans (engineKeeps_modQueue q _ _ rfl fun _ => ⟨rfl, rfl⟩)).trans
        (engineKeeps_bump 0x1241 6 1 _ (by decide) (by decide))).trans (engineKeeps_logEvent ..)
    · exact hm

theorem engineKeeps_touchContext (q : Nat) (s : State) : engineKeeps s (touchContext q s) := by
  unfold touchContext
  dsimp only
  have h1 := engineKeeps_iff (!s.dev.host.cache.contains q) (·.bump 0x1241 2) s
    (engineKeeps_bump 0x1241 2 1 s (by decide) (by decide))
  generalize State.iff (!s.dev.host.cache.contains q) (·.bump 0x1241 2) s = u at h1 ⊢
  generalize (!s.dev.host.cache.contains q && contextLost u q) = b
  have h2 := engineKeeps_iff b (haltQueue q 596 2) u (engineKeeps_haltQueue ..)
  generalize State.iff b (haltQueue q 596 2) u = v at h2 ⊢
  exact (h1.trans h2).trans (engineKeeps_modHost _ _ rfl ⟨rfl, rfl, rfl⟩)

theorem engineKeeps_doorbellSeen (q : Nat) (s : State) : engineKeeps s (doorbellSeen q s) := by
  unfold doorbellSeen hostHeard
  refine engineKeeps.trans ?_ (engineKeeps_touchContext q _)
  exact (engineKeeps_setReg (i := 0x1241) (j := 3) _ s (by decide) (by decide)).trans
    (engineKeeps_of ⟨rfl, rfl, rfl⟩ (fun _ _ => rfl) fun _ => rfl)

theorem engineKeeps_submitDoorbell (q count gen : Nat) (s : State) : engineKeeps s (submitDoorbell q count gen s) := by
  unfold submitDoorbell
  dsimp only
  refine (engineKeeps_doorbellSeen q s).trans ?_
  generalize doorbellSeen q s = t
  split
  · exact engineKeeps_bump 0x1241 4 1 t (by decide) (by decide)
  · split
    · exact .refl t
    · split
      · exact engineKeeps_hostViolation ..
      · exact engineKeeps_modQueue q _ t rfl fun _ => ⟨rfl, rfl⟩

theorem engineKeeps_ringPut (r : Nat) (c : Completion) (s : State) (h4 : (s.queue r).typ = 4) :
    engineKeeps s (ringPut r c s) := by
  have hw : ∀ q, (ringMessage r (ringWrite r c s)).queue q = s.queue q := by
    intro q; unfold ringMessage ringWrite; dsimp only; split <;> split <;> rfl
  have hr : ∀ j < 256, (ringMessage r (ringWrite r c s)).reg 0x1242 j = s.reg 0x1242 j := by
    intro j hj
    have k (u : State) : (ringMessage r u).reg 0x1242 j = u.reg 0x1242 j := by
      unfold ringMessage; split <;> rfl
    rw [k]; unfold ringWrite; dsimp only; split
    · rfl
    · rw [reg_bump, if_neg fun e => absurd (key_inj (by decide) hj e).1 (by decide)]
  refine ⟨samePlan_ringPut .., hr, fun q => ?_⟩
  unfold ringPut
  rw [queue_modQueue]
  split
  · rename_i e; subst e
    rw [hw]; exact ⟨rfl, fun h => absurd h4 h⟩
  · rw [hw]; exact ⟨rfl, fun _ => ⟨rfl, rfl⟩⟩

theorem engineKeeps_drainOverflow (r n : Nat) (s : State) (h4 : (s.queue r).typ = 4) :
    engineKeeps s (drainOverflow r n s) := by
  induction n generalizing s with
  | zero => exact .refl s
  | succ n ih =>
    unfold drainOverflow
    split
    · exact .refl s
    · rename_i e _
      split
      · have h := (engineKeeps_modHost (fun h => { h with overflow := h.overflow.erase e }) s rfl ⟨rfl, rfl, rfl⟩).trans
          (engineKeeps_ringPut r e.2 _ h4)
        exact h.trans (ih _ ((h.2.2 r).1.trans h4))
      · exact .refl s

theorem engineKeeps_headDoorbell (q count gen : Nat) (s : State) (h4 : (s.queue q).typ = 4) :
    engineKeeps s (headDoorbell q count gen s) := by
  unfold headDoorbell
  dsimp only
  have hs := engineKeeps_doorbellSeen q s
  have h4' := (hs.2.2 q).1.trans h4
  refine hs.trans ?_
  generalize doorbellSeen q s = t at h4' ⊢
  split
  · exact engineKeeps_bump 0x1241 4 1 t (by decide) (by decide)
  · split
    · exact .refl t
    · split
      · exact engineKeeps_hostViolation ..
      · have hm := engineKeeps_modQueue q (fun c => { c with head := count, messaged := false }) t rfl
          fun h => absurd h4' h
        exact hm.trans (engineKeeps_drainOverflow _ _ _ ((hm.2.2 q).1.trans h4'))

/-- The engine takes doorbells without touching the plan or the entries already taken (R601, R602). -/
theorem engineKeeps_engineRun (n : Nat) (s : State) : engineKeeps s (engineRun n s) := by
  induction n generalizing s with
  | zero => exact .refl s
  | succ n ih =>
    unfold engineRun
    split
    · exact .refl s
    · split
      · exact .refl s
      · rename_i q count gen rest _
        dsimp only
        refine (engineKeeps_modHost (fun h => { h with doorbells := rest }) s rfl ⟨rfl, rfl, rfl⟩).trans ?_
        split
        · rename_i h4; exact (engineKeeps_headDoorbell _ _ _ _ h4).trans (ih _)
        · refine engineKeeps.trans ?_ (ih _)
          refine (engineKeeps_submitDoorbell q count gen _).trans ?_
          generalize submitDoorbell q count gen _ = u
          exact engineKeeps_iff _ (modHost fun h => { h with serving := some q }) u
            (engineKeeps_modHost _ _ rfl ⟨rfl, rfl, rfl⟩)

theorem engineKeeps_engineNext (q : Nat) (s : State) : engineKeeps s (engineNext q s) := by
  unfold engineNext
  split
  · exact (engineKeeps_of (t := modHost (fun h => { h with serving := none }) s) ⟨rfl, rfl, rfl⟩ (fun _ _ => rfl)
      fun _ => rfl).trans (engineKeeps_engineRun ..)
  · exact .refl s

/-! ### Processing an entry -/

/-- Processing an entry that waits takes it from its queue and does what its verdict says; then the engine goes on. -/
theorem processEntry_eq {s : State} {q : Nat} {e : Entry} {m : List Byte → Bool} {f : Queue → State → Verdict}
    (h : entryWaits s q) (hm : slotHolds s q m = true) :
    processEntry q e m f s = engineNext q (match f (s.queue q) (entryPopped s q) with
      | .error r => refuseEntry (s.queue q) q e r (entryPopped s q)
      | .ok (n, g) => g (acceptEntry (s.queue q) q e n (entryPopped s q))) := by
  unfold processEntry
  dsimp only
  rw [if_neg (fun hh => hh.elim (fun k => k h.1) fun hh => hh.elim h.2.1 fun hh => hh.elim h.2.2.1 fun hh =>
    hh.elim h.2.2.2 fun k => by rw [hm] at k; cases k)]
  rfl

@[simp] theorem queue_drawFree (s : State) (q : Nat) : (drawFree s).queue q = s.queue q := rfl

/-- The queue of an entry that has been taken. -/
theorem queue_entryPopped (s : State) (q : Nat) :
    (entryPopped s q).queue q = { s.queue q with head := ((s.queue q).head + 1) % 2 ^ 32 } := by
  unfold entryPopped noteAnswer
  dsimp only
  rw [queue_setReg, queue_drawFree, queue_modQueue, if_pos rfl]
  simp only [State.queue, (hostSame_hbmAsk _ _ _ _ s).1]

theorem samePlan_entryPopped (s : State) (q : Nat) : samePlan s (entryPopped s q) := by
  have h := (hostSame_hbmAsk 46 false ((s.queue q).ring + 64 * ((s.queue q).head % 2 ^ (s.queue q).sizeLog2)) 64 s).1
  refine samePlan.trans (t := hbmAsk 46 false ((s.queue q).ring + 64 * ((s.queue q).head % 2 ^ (s.queue q).sizeLog2)) 64 s)
    ?_ ?_
  · unfold samePlan; rw [h]; exact ⟨rfl, rfl, rfl⟩
  · unfold entryPopped
    dsimp only
    generalize hbmAsk 46 false _ 64 s = t
    exact ⟨rfl, rfl, rfl⟩

theorem reg_entryPopped (s : State) (q i j : Nat) (hi : i < 0x5000) (hj : j < 256) (h : key 0x1242 4 ≠ key i j) :
    (entryPopped s q).reg i j = s.reg i j := by
  unfold entryPopped noteAnswer
  dsimp only
  rw [reg_setReg, if_neg h]
  exact (hostSame_hbmAsk 46 false _ 64 s).2 i j hi hj

/-- What an accepted entry leaves: the acceptance counted, the entry taken, the planner's items as before. -/
theorem acceptEntry_spec {s : State} {q : Nat} (e : Entry) (n : Nat) (h : entryWaits s q) :
    samePlan s (acceptEntry (s.queue q) q e n (entryPopped s q)) ∧
    ((acceptEntry (s.queue q) q e n (entryPopped s q)).queue q).head = ((s.queue q).head + 1) % 2 ^ 32 ∧
    ((acceptEntry (s.queue q) q e n (entryPopped s q)).queue q).accepted = ((s.queue q).accepted + 1) % 2 ^ 32 ∧
    counted s (acceptEntry (s.queue q) q e n (entryPopped s q)) 0x1242 1 := by
  unfold acceptEntry
  dsimp only
  have hq : (modQueue q (fun c => { c with accepted := (c.accepted + 1) % 2 ^ 32 }) ((entryPopped s q).bump 0x1242 1)).queue q
      = { s.queue q with head := ((s.queue q).head + 1) % 2 ^ 32, accepted := ((s.queue q).accepted + 1) % 2 ^ 32 } := by
    rw [queue_modQueue, if_pos rfl, queue_bump, queue_entryPopped]
  refine ⟨?_, ?_, ?_, ?_⟩
  · exact ((samePlan_entryPopped s q).trans ((samePlan_bump _ _ _ _).trans (samePlan_modQueue _ _ _))).trans
      (samePlan_postCompletion _ _ _)
  · rw [queue_postCompletion _ _ _ _ (by rw [hq]; exact h.2.2.1), hq]
  · rw [queue_postCompletion _ _ _ _ (by rw [hq]; exact h.2.2.1), hq]
  · unfold counted
    rw [reg_postCompletion _ _ _ _ _ (by decide) (by decide),
      show ∀ (f : Queue → Queue) (t : State), (modQueue q f t).reg 0x1242 1 = t.reg 0x1242 1 from fun _ _ => rfl,
      reg_bump, if_pos rfl, reg_entryPopped _ _ _ _ (by decide) (by decide) (by decide)]

/-- An entry whose verdict admits an item is admitted, whatever doorbells the engine takes after it. -/
theorem admitted_of_accept {s t : State} {q : Nat} {e : Entry} {n : Nat} {i : Item} (h : entryWaits s q)
    (hq : i.host = true ∧ i.queue = q ∧ i.tag = e.tag ∧ i.target = n)
    (hi : t.dev.host.items = (admitItem i (acceptEntry (s.queue q) q e n (entryPopped s q))).dev.host.items)
    (hn : t.dev.host.nextNum = (admitItem i (acceptEntry (s.queue q) q e n (entryPopped s q))).dev.host.nextNum)
    (hu : t.queue q = (acceptEntry (s.queue q) q e n (entryPopped s q)).queue q)
    (hr : t.reg 0x1242 1 = (acceptEntry (s.queue q) q e n (entryPopped s q)).reg 0x1242 1) (ht : (t.queue q).typ ≠ 4) :
    admitted s (engineNext q t) q e n i.kind := by
  obtain ⟨⟨ei, en, -⟩, h1, h2, h3⟩ := acceptEntry_spec e n h
  obtain ⟨⟨ki, kn, -⟩, kr, kq⟩ := engineKeeps_engineNext q t
  refine ⟨⟨{ i with num := s.dev.host.nextNum }, ?_, rfl, hq.1, hq.2.1, hq.2.2.1, hq.2.2.2, rfl⟩, ?_, ?_, ?_, ?_⟩
  · rw [ki, hi]; simp only [admitItem, modHost, modDev_dev, ei, en]
  · rw [kn, hn]; simp only [admitItem, modHost, modDev_dev, en]
  · rw [((kq q).2 ht).1, hu, h1]
  · rw [((kq q).2 ht).2, hu, h2]
  · unfold counted; rw [kr 1 (by decide), hr, h3]

end Sys2Proof.Machine
end

