-- ==== Sys2Proof/Laws/Reads.lean ====
section
/-!
SUPPORT. What a read of HBM depends on, and that the requests which meet the pseudo-channels leave it alone.
-/
namespace Sys2Proof.Machine

/-- Two states answer every read of HBM alike: the same bytes, part, committed state, uncorrectable accesses and failed
pseudo-channels. -/
def readsSame (s t : State) : Prop :=
  t.hbm = s.hbm ∧ t.fuses = s.fuses ∧ t.dev.live = s.dev.live ∧ t.dev.memory.bad = s.dev.memory.bad ∧
    ∀ i, pcFailed t i = pcFailed s i

theorem readsSame.refl (s : State) : readsSame s s := ⟨rfl, rfl, rfl, rfl, fun _ => rfl⟩
theorem readsSame.trans {s t u : State} (h : readsSame s t) (k : readsSame t u) : readsSame s u :=
  ⟨k.1.trans h.1, k.2.1.trans h.2.1, k.2.2.1.trans h.2.2.1, k.2.2.2.1.trans h.2.2.2.1,
    fun i => (k.2.2.2.2 i).trans (h.2.2.2.2 i)⟩

/-- The address map follows the part and the committed tile size alone. -/
theorem place_congr {s t : State} (h : readsSame s t) (off : Nat) : place t off = place s off := by
  have hs : isSmall t = isSmall s := by unfold isSmall; rw [h.2.1]
  have hp : ∀ o, pcsOf t o = pcsOf s o := fun o => by unfold pcsOf nPcs; rw [hs]
  have hr : ∀ o, primariesOf t o = primariesOf s o := fun o => by unfold primariesOf; rw [hp]
  have ho : ∀ o, ownerSize t o = ownerSize s o := fun o => by unfold ownerSize; rw [hs]
  have hg : ∀ os x, placeGuest t os x = placeGuest s os x := fun os => by
    induction os with
    | nil => exact fun _ => rfl
    | cons o os ih => intro x; unfold placeGuest; simp only [hp, ho, ih]
  have ht : halfTile t = halfTile s := by unfold halfTile State.com; rw [h.2.2.1]
  have hm : cachesMirrored t = cachesMirrored s := by unfold cachesMirrored; rw [hs, ht]
  have hc : cacheSize t = cacheSize s := by unfold cacheSize; rw [hs, ht]
  have hb : cacheBase1 t = cacheBase1 s := by unfold cacheBase1; rw [hc]
  have hl : librarySize t = librarySize s := by unfold librarySize; rw [hs]
  unfold place
  simp only [hp, hr]
  rw [hg, hs, hm, hc, hb, hl]

theorem copyGood_congr {s t : State} (h : readsSame s t) (a : Nat) : copyGood t a = copyGood s a := by
  funext i; simp only [copyGood, h.2.2.2.1, h.2.2.2.2]

theorem hbmByte_congr {s t : State} (h : readsSame s t) (off : Nat) : hbmByte t off = hbmByte s off := by
  simp only [hbmByte, place_congr h, h.1, copyGood_congr h]

theorem hbmRead_congr {s t : State} (h : readsSame s t) (off len : Nat) : hbmRead t off len = hbmRead s off len := by
  simp only [hbmRead, hbmByte_congr h]

theorem copyBytes_congr {s t : State} (h : readsSame s t) (off len k : Nat) :
    copyBytes t off len k = copyBytes s off len k := by
  have hb (i a n : Nat) : bytesBad t i a n = bytesBad s i a n := by unfold bytesBad; rw [h.2.2.2.1]
  unfold copyBytes
  simp only [place_congr h, h.1, h.2.2.2.2, hb]

theorem unitBytes_congr {s t : State} (h : readsSame s t) (off len : Nat) : unitBytes t off len = unitBytes s off len := by
  simp only [unitBytes, copyBytes_congr h]

theorem blockCopy_congr {s t : State} (h : readsSame s t) (n layer slot lease b k : Nat) :
    blockCopy t n layer slot lease b k = blockCopy s n layer slot lease b k := by
  simp only [blockCopy, copyBytes_congr h, unitBytes_congr h]

theorem stagingBytes_congr {s t : State} (h : readsSame s t) (staging : Nat) :
    stagingBytes t staging = stagingBytes s staging := by
  funext off len
  simp only [stagingBytes, hbmRead_congr h]

theorem jobOffsets_congr {s t : State} (h : readsSame s t) (j : Job) : jobOffsets t j = jobOffsets s j := by
  simp only [jobOffsets, stagingBytes_congr h]

theorem shownBefore_congr {s t : State} (h : readsSame s t) (shown : Committed) (layer n : Nat) :
    shownBefore t shown layer n = shownBefore s shown layer n := by
  simp only [shownBefore, storedBlock, blockCopy_congr h]

/-- A register other than a pseudo-channel's state. -/
theorem readsSame_setReg {i j : Nat} (v : Nat) (s : State) (hj : j < 256) (h : j = 1 → ∀ k, i ≠ 0x5000 + k) :
    readsSame s (s.setReg i j v) := by
  refine ⟨rfl, rfl, rfl, rfl, fun k => ?_⟩
  simp only [pcFailed, reg_setReg]
  rw [if_neg]
  intro e
  have := key_inj hj (by decide) e
  exact h this.2 k this.1

theorem readsSame_modPc (i : Nat) (f : Pc → Pc) (s : State) : readsSame s (modPc i f s) := ⟨rfl, rfl, rfl, rfl, fun _ => rfl⟩

theorem readsSame_pcTouch (i : Nat) (s : State) : readsSame s (pcTouch i s) := by
  have other (v : Nat) (t : State) (hv : v ≠ 5) (ht : t.reg (0x5000 + i) 1 ≠ 5) :
      readsSame t (t.setReg (0x5000 + i) 1 v) := by
    refine ⟨rfl, rfl, rfl, rfl, fun k => ?_⟩
    simp only [pcFailed, reg_setReg]
    split
    · next e =>
      have := (key_inj (by decide) (by decide) e).1
      rw [← this]
      simp [hv, ht]
    · rfl
  unfold pcTouch
  split
  · next e => exact (other 1 s (by decide) (by omega)).trans (readsSame_setReg _ _ (by decide) (by simp))
  · next e => exact other 4 s (by decide) (by omega)
  · exact .refl s

theorem readsSame_pcRequest (src i a : Nat) (s : State) : readsSame s (pcRequest src i a s) := by
  unfold pcRequest
  dsimp only
  have h := readsSame_modPc i (fun p => { p with usedAt := s.now }) s
  split
  · exact h.trans (readsSame_modPc ..)
  · exact (h.trans (readsSame_pcTouch i _)).trans (readsSame_modPc ..)
  · exact (h.trans (readsSame_pcTouch i _)).trans (readsSame_modPc ..)
  · exact h.trans (readsSame_modPc ..)
  · exact h

/-- Requests that meet HBM change no byte, no place and no failed pseudo-channel: later reads answer alike. -/
theorem readsSame_hbmAsk (src : Nat) (write : Bool) (off len : Nat) (s : State) :
    readsSame s (hbmAsk src write off len s) := by
  refine each_invariant (readsSame s) _ (fun u t h => ?_) _ _ (.refl s)
  dsimp only
  split
  · exact h
  · exact each_invariant (readsSame s) _ (fun i t h => h.trans (readsSame_pcRequest ..)) _ _ h

@[simp] theorem hbmRead_hbmAsk (src : Nat) (write : Bool) (off len off' len' : Nat) (s : State) :
    hbmRead (hbmAsk src write off len s) off' len' = hbmRead s off' len' := hbmRead_congr (readsSame_hbmAsk ..) ..
@[simp] theorem stagingBytes_hbmAsk (src : Nat) (write : Bool) (off len staging : Nat) (s : State) :
    stagingBytes (hbmAsk src write off len s) staging = stagingBytes s staging := stagingBytes_congr (readsSame_hbmAsk ..) _
@[simp] theorem pcFailed_hbmAsk (src : Nat) (write : Bool) (off len i : Nat) (s : State) :
    pcFailed (hbmAsk src write off len s) i = pcFailed s i := (readsSame_hbmAsk src write off len s).2.2.2.2 i

/-- Requests that meet HBM change pseudo-channels alone: their rows and requests in `memory`, and their objects. -/
theorem hbmAsk_dev (src : Nat) (write : Bool) (off len : Nat) (s : State) :
    ∃ od pcs, hbmAsk src write off len s =
      { s with dev := { s.dev with od := od, memory := { s.dev.memory with pcs := pcs } } } := by
  let P (t : State) : Prop := ∃ od pcs, t =
    { s with dev := { s.dev with od := od, memory := { s.dev.memory with pcs := pcs } } }
  have one (i a : Nat) (t : State) (h : P t) : P (pcRequest src i a t) := by
    obtain ⟨od, pcs, rfl⟩ := h
    unfold pcRequest pcTouch
    dsimp only
    repeat' split
    all_goals exact ⟨_, _, rfl⟩
  refine each_invariant P _ (fun u t h => ?_) _ _ ⟨s.dev.od, s.dev.memory.pcs, rfl⟩
  dsimp only
  split
  · exact h
  · exact each_invariant P _ (fun i t h => one i _ t h) _ _ h

end Sys2Proof.Machine
end

