-- ==== Sys2Proof/Tests/Slice0.lean ====
section
/-!
SUPPORT. The model's own tests: ill-formed commands that the checks refuse, worked results of the manual, and for each
statement with hypotheses a state and operands that meet them.
-/
namespace Sys2Proof.Tests
open Sys2Proof.Machine

-- One theorem is checked at a time: each takes little, and all at once would take a thread each.
set_option Elab.async false

/-- The state after reset with another device. -/
def withDev (f : Dev → Dev) : State := { State.reset with dev := f State.reset.dev }

/-- The state after reset with other registers: index, subindex, value. -/
def withRegs (rs : List (Nat × Nat × Nat)) : State := rs.foldl (fun s r => s.setReg r.1 r.2.1 r.2.2) State.reset


/-- The budgets of an item whose frames are idle. -/
theorem budgets_idle {s : State} {i : Item} {last : Option Nat} (frames : List Nat)
    (hf : testFrames (withItem i s) i.target last = frames) (hn : modelClusters (withItem i s) = 96)
    (h : frames.all (Laws.idleFrame (withItem i s)) = true)
    (hw : (frames ++ last.toList).all (decodeFits (withItem i s)) = true) : budgets s i last = none := by
  show (budgetFail s _ (testFrames _ i.target last) (testWindows _ i.target last)).map _ = none
  unfold testWindows
  rw [hf, Laws.budgetFail_idle _ _ _ _ hn h hw]
  rfl

/-- An Etsan chunk (R64 to R75). -/
def chunkBytes (typ seq layer lease : Nat) (payload : List Byte) : List Byte :=
  let head := natLE 0x4E535445 4 ++ natLE typ 1 ++ natLE 1 1 ++ natLE 0 2 ++ natLE payload.length 4 ++ natLE seq 4 ++
    natLE layer 1 ++ natLE 0 1 ++ natLE lease 2 ++ natLE 0 8
  head ++ natLE (crc32c seq (head ++ payload)) 4 ++ payload

/-- The 64 bytes of an entry of the given opcode, tag and target, its operands from byte 16 on (R603). -/
def entryBytes (opcode tag target : Nat) (ops : List Byte) : List Byte :=
  natLE opcode 1 ++ natLE 0 3 ++ natLE tag 4 ++ natLE target 4 ++ natLE 0 4 ++ ops ++ List.replicate (48 - ops.length) 0

/-- The UPDATE entry of the worked example of section 11, as its bytes are printed there. -/
theorem test_entry_worked_example :
    updateEntry ([0x01, 0x00, 0x00, 0x00, 0x42, 0x00, 0x00, 0x00, 0x41, 0x2C, 0x01, 0x00, 0x00, 0x00, 0x00, 0x00, 0x00, 0x00,
      0x00, 0x40, 0x02, 0x00, 0x00, 0x00, 0x40, 0x42, 0x0F, 0x02] ++ List.replicate 36 0) =
      ({ opcode := 1, flags := 0, tag := 0x42, target := 76865, clean := true },
        { staging := 0x240000000, length := 0x20F4240, fence := 0, timeout := 0, members := 0, wait := 0, group := 0 }) := by
  decide +kernel

/-- A commit with nothing against it. -/
theorem commitFails_none {s : State} {n : Nat} (frames : List Nat)
    (ho : objsRefused s (planAt (s.modDev fun d => { d with commitPending := none }) n)
      (planAt (s.modDev fun d => { d with commitPending := some n }) n) = none)
    (ht : testFrames (s.modDev fun d => { d with commitPending := some n }) n none = frames)
    (hm : modelClusters (s.modDev fun d => { d with commitPending := some n }) = 96)
    (hf : frames.all (Laws.idleFrame (s.modDev fun d => { d with commitPending := some n })) = true)
    (hw : frames.all (decodeFits (s.modDev fun d => { d with commitPending := some n })) = true) :
    commitFails n s = none := by
  unfold commitFails
  dsimp only
  rw [ho, Option.none_or]
  unfold budgetsAt testWindows
  rw [ht, Option.toList_none, List.append_nil]
  exact Laws.budgetFail_idle _ _ _ _ hm hf hw

/-- The earliest frame. -/
theorem target_zero {s : State} {t n : Nat} (h : t = 0) (e : earliestRequest s = n) : targetCount s t = .ok n := by
  rw [targetCount, if_pos h, e]


/-! ### Ill-formed commands: one for each check of `Instr.wellFormed` -/

def illFormed0 : List Instr :=
    [.linkUnderrun 256 0, .patchRequest 100, .patchComplete 720 0, .patchComplete 0 32,
     .windowFetch 720 0 0 0 ⟨false, false⟩ false, .windowFetch 0 32 0 0 ⟨false, false⟩ false,
     .windowFetch 0 0 32 0 ⟨false, false⟩ false, .windowFetch 0 0 0 32768 ⟨false, false⟩ false,
     .clusterFault 100, .windowStoreEccError 100 false false,
     .clusterHeartbeatTimeout 100, .patchWatchdogExpiry 720 0, .patchWatchdogExpiry 0 32,
     .redoQuarterComplete 100, .spareFault 100, .overlayEngineFault 8, .colourResidueFail 720 0 false,
     .colourResidueFail 0 32 false, .freezeCacheStripRead 720 false false, .chunkDecode 32 0,
     .indexRecordResume 32, .decoderFault 32, .internalMarkerComplete 64, .copyComplete 32,
     .clipVerificationComplete 4096, .shadowWrite 65536 0 0, .shadowWrite 0 256 0, .protectedLoadComplete 20,
     .protectedSlotRead 20 0 false false, .protectedSlotRead 0 2048 false false, .regionLearn 16,
     .bandCopyComplete 720, .laneSleepEnter 256, .laneWake 256, .statusReceive 256 0, .trainReceive 256 0,
     .trainReqReceive 256, .capUpReceive 256 0, .testResultReceive 256 0, .telemReceive 256 0,
     .upstreamSleepReceive 256 0, .upstreamViolation 256, .upstreamLockGain 256, .upstreamLockLoss 256,
     .upstreamLaneLost 256]

theorem test_ill_formed_0 : illFormed0.all (fun i => !i.wellFormed) = true := by decide +kernel

def illFormed1 : List Instr :=
    [.portBlindTimeout 128, .linkTransmitFault 256, .trainingTimerExpiry 256, .presetSweepStep 256,
     .linkAbsentRetry 256, .portTakedownRetrain 128, .linkSpeedRaise 256, .testLoopNear 256, .testLoopFar 256,
     .testLoopPattern 256, .testLoopOff 256, .driverPowerUp 128, .driverSolReceive 256 0 [],
     .driverKeepReceive 256 0, .driverFrameEndReceive 256 0 [], .driverDownstreamLockLoss 256,
     .driverStatusSend 256 0, .driverStatusSend 0 64, .driverTelemSend 256 0, .driverTelemSend 0 4294967296,
     .driverTrainReceive 256 0, .driverPatternEnd 256 0, .zoneTargetReached 12288, .zoneReportReceive 12288,
     .dcMonitorSample 536 0, .forcedInversion 536, .dcStop 536, .outputFault 536, .epLinkUp 2 false,
     .epLinkDown 2, .epRateAlternate 2, .ethernetFrameReceive 2 .ptp none, .ethernetTransmit 2 0,
     .ptpMessageReceive 2 ⟨.sync, 20, 0, 0, 0, false, 0, false, 0⟩, .ptpLockoutEnd 2, .transmitStampEnqueue 2 0 0 0,
     .transmitStampEnqueue 0 16 0 0, .transmitStampEnqueue 0 0 256 0, .transmitStampEnqueue 0 0 0 65536,
     .transmitStampRead 2, .syncTimeout 2, .sourceInvalid 2, .sourceStandbyRestore 2, .frameEpochWrite 0 0,
     .frameEpochWrite 4 0]

theorem test_ill_formed_1 : illFormed1.all (fun i => !i.wellFormed) = true := by decide +kernel

def illFormed2 : List Instr :=
    [.tilePortHello 8 0, .helloSend 8, .markerReceive 8 0 0, .markerFollowSend 8, .markerFollowReceive 8 0,
     .eveBlockReceive 8 0, .safetyReceive 8 0, .tilePortViolation 8, .tilePortLockTimeout 8,
     .safetyOriginCommand 256, .safetyOriginExpiry 4096, .timeOutPulse 4 false, .timeInEdge 4 false 0,
     .captureEntryRead 4, .bar2Write 0 [], .bar2Write 0 (List.replicate 4097 0), .bar2Read 0 4097,
     .dmaWindowWrite 32 0 0, .dmaWindowWrite 0 3 0, .bar0RegisterWrite 67108864 [0], .bar0RegisterWrite 0 [],
     .submissionDoorbell 1048576 0 0, .submissionDoorbell 0 4294967296 0, .submissionDoorbell 0 0 256,
     .completionDoorbell 1048576 0 0, .completionDoorbell 0 4294967296 0, .completionDoorbell 0 0 256,
     .update 1048576 ⟨0, 0, 0, 0, true⟩ ⟨0, 0, 0, 0, 0, 0, 0⟩,
     .play 1048576 ⟨0, 0, 0, 0, true⟩ ⟨0, 0, 0, 0, 0, []⟩, .stop 1048576 ⟨0, 0, 0, 0, true⟩ 0,
     .pulse 1048576 ⟨0, 0, 0, 0, true⟩ 0 0 0, .modeCue 1048576 ⟨0, 0, 0, 0, true⟩ 0,
     .zones 1048576 ⟨0, 0, 0, 0, true⟩ 0 0, .visible 1048576 ⟨0, 0, 0, 0, true⟩ 0 0,
     .cancel 1048576 ⟨0, 0, 0, 0, true⟩ 0 0, .signal 1048576 ⟨0, 0, 0, 0, true⟩ 0 0,
     .completionPost 1048576 ⟨0, 0, 0, 0, 0, 0, 0⟩, .mailboxDoorbell 4294967296,
     .readDelayCheck 512 false false, .refreshDue 128 false, .stackTemperatureRead 4 none,
     .selfRefreshEntry 128, .selfRefreshExitDone 128, .hbmReadError 128 0, .mirrorReadComplete 128 0 false]

theorem test_ill_formed_2 : illFormed2.all (fun i => !i.wellFormed) = true := by decide +kernel

def illFormed3 : List Instr :=
    [.bankUncorrectableWord 134217728, .start 24, .feed 24, .feedComplete 24 none, .finish 24, .abort 24 0,
     .checkUnitParityFail 24, .recordWrite 1024 [], .recordWrite 0 (List.replicate 53 0), .ringWrite 16 [],
     .ringWrite 0 (List.replicate 53 0), .sensorReading 52 0, .sensorConversionTimeout 52, .sensorRepair 52,
     .retireSensor 256, .restoreSensor 256, .domainPowerGood 40, .domainWakeTimeout 40,
     .ncpHello ⟨0, 0, 0, 0, 0, []⟩ 0 (List.replicate 15 0),
     .ncpOpen ⟨0, 0, 0, 0, 0, []⟩ 0 (List.replicate 15 0) (List.replicate 16 0),
     .ncpOpen ⟨0, 0, 0, 0, 0, []⟩ 0 (List.replicate 16 0) (List.replicate 15 0), .ncpMalformedFrame 2 0 [],
     .sessionIdleTimeout 16, .segmentTransferTimeout 17, .lifecycleTransition .mailbox 4294967296,
     .keyWrite .mailbox 8 [], .raiseMinimumVersion 256, .refclockLoss 4, .driverDownstreamLockGain 256,
     .driverLockLossTimeout 128, .driverTrainSend 256 0, .driverTrainSend 0 64, .patternTestResultSend 256 0,
     .hbmCommandParityError 128, .stackControlFailure 4, .tilePortLockGain 8 0, .tilePortLockGain 0 4,
     .tilePortLockLoss 8 0, .tilePortLockLoss 0 4, .tilePortTakeDownEnd 8, .pcieLinkTrained 0 1,
     .pcieLinkTrained 8 1, .pcieLinkTrained 1 3]

theorem test_ill_formed_3 : illFormed3.all (fun i => !i.wellFormed) = true := by decide +kernel


/-! ### StepRunsTheFrontCommand -/

theorem test_step_idle_witness : State.reset.pending = [] := rfl

/-- A step takes the command away and leaves the others waiting. -/
theorem test_step : step { State.reset with pending := [.eventRead, .challengeExpiry] } =
    .next { State.reset with pending := [.challengeExpiry] } := rfl

/-! ### EveryStepKeepsMemoryCanonical -/

theorem test_memory_kept_witness :
    let s : State := { State.reset with hbm := [(5, 1)], pending := [.bar2Write 0x2000_0000_00 [1, 0, 2]] }
    Memory.wf s ∧ ∃ t, step s = .next t := by
  refine ⟨by decide +kernel, _, rfl⟩

/-! ### CommandsKeepToTheirReach -/

theorem test_reach_witness : exec .eventRead State.reset = .next State.reset ∧
    (reach .eventRead).parts = some [.events] ∧ (reach .powerOn).fuses = false := ⟨rfl, rfl, rfl⟩

/-! ### PortRegisterFrames -/

theorem test_port_frame_witness :
    (portIndexes (.laneWake 3)).isSome = true ∧ 3 < nLinks State.reset ∧
    ∃ t, exec (.laneWake 3) State.reset = .next t := ⟨rfl, by decide +kernel, _, exec_laneWake 3 _ (by decide) (by decide +kernel)⟩

/-! ### UnitRegisterFrames -/

theorem test_unit_frame_witness :
    (unitIndexes .octaveEvaluate).isSome = true ∧ ∃ t, exec .octaveEvaluate State.reset = .next t :=
  ⟨rfl, _, exec_octaveEvaluate _⟩

/-! ### FrameWorkRegisterFrames -/

theorem test_frame_frame_witness :
    (frameIndexes .commitRequest).isSome = true ∧ ∃ t, exec .commitRequest State.reset = .next t :=
  ⟨rfl, _, exec_commitRequest _⟩

/-! ### EveryCommandCompletesOnPresentUnits -/

theorem test_complete_witness :
    (Instr.laneWake 256).wellFormed = false ∧ (Instr.laneWake 255).wellFormed = true ∧
    unitAbsent State.reset (.laneWake 255) = false ∧
    unitAbsent { State.reset with fuses := { part := .rkz9620 } } (.laneWake 255) = true := by decide +kernel

/-! ### AtomicOperations -/

theorem test_atomics_witness :
    (memoryWf State.reset.bank = true ∧ State.reset.dev.memory.rowTest = none ∧ atomicGood 0x7000008 true = true ∧
      atomicGood 0x7FFFFFC false = true) ∧
    (atomicGood 0x6FFFFFC false = false ∧ atomicGood 0x7000004 true = false ∧ canLog State.reset) := by
  simp only [canLog]; decide

/-- An ADD of 1 to a 32-bit word at its end wraps to 0. -/
theorem test_atomic_add_wraps :
    (match exec (.atomicAdd 0x7000000 false 1) { State.reset with bank := cellsPut [] 0x7000000 (natLE 0xFFFFFFFF 8) } with
      | .next t => (t.dev.memory.atomic, bankNat t 0x7000000 8)
      | _ => (none, 1)) = (some 0xFFFFFFFF, 0) := by decide

/-! ### ResetsOfTheFunction -/

theorem test_function_reset_witness : Instr.perst = .perst ∨ Instr.perst = .flr := by decide

/-! ### QueueCreateFreesPointers -/

/-- The host asks for completion ring 7 of 16 entries at 0x1000, inside window 0. -/
def creating : State :=
  withDev fun d =>
    { d with host :=
        { d.host with windows := [(0, { base := 0, limit := 0xFFFF, enable := true })]
                      admin := 7 + 4 * 2 ^ 32 + 4 * 2 ^ 36 + 0x1000 * 2 ^ 64 } }

theorem test_queue_create_witness : createError creating = 0 := by decide

/-! ### SignalMovesItsFence -/

/-- A SIGNAL of this value waits on fence queue 5; fence 65,535 stands at 7. -/
def signalling (value : Nat) : State :=
  hbmWrite 0 (entryBytes 0x31 9 0 (natLE 65535 2 ++ natLE 0 6 ++ natLE value 8)) (withDev fun d =>
    { d with host := { d.host with queues := [(5, { typ := 3, state := 1, tail := 1, cq := 6 })], fences := [(65535, 7)], serving := some 5 } })

def theSignal : Entry := { opcode := 0x31, flags := 0, tag := 9, target := 0, clean := true }

theorem test_signal_witness :
    entrySpelt (signalling 6) 5 signalEntry (theSignal, 65535, 6) ∧
    entrySpelt (signalling 7) 5 signalEntry (theSignal, 65535, 7) ∧
    entrySpelt (signalling 8) 5 signalEntry (theSignal, 65535, 8) ∧
    headerFits theSignal 0x31 [3] ((signalling 8).queue 5).typ = true ∧
    theSignal.target = 0 ∧ bit theSignal.flags 0 = 0 ∧ fenceValue (signalling 7) 65535 = 7 := by
  simp only [entrySpelt, entryWaits]; decide +kernel

/-! ### QueueCommands -/

/-- Update queue 3 of 16 entries and its ring 6, at counts that wrap; a marker of the host, and three doorbells. -/
def ringing : State :=
  withDev fun d =>
    { d with host :=
        { d.host with queues := [(3, { typ := 1, state := 1, gen := 2, sizeLog2 := 4, head := 0xFFFFFFFE, tail := 0xFFFFFFFF, cq := 6 }),
                                 (6, { typ := 4, state := 1, gen := 1, sizeLog2 := 4, head := 4, tail := 9 })]
                      cache := [3]
                      markers := [.doorbell 3 2 2, .doorbell 6 9 1, .wcm, .doorbell 3 2 1], admin := 3 } }

theorem test_queues_witness :
    ringing.dev.host.markers = .doorbell 3 2 2 :: [.doorbell 6 9 1, .wcm, .doorbell 3 2 1] ∧
    (2 + 2 ^ 32 - (ringing.queue 3).head) % 2 ^ 32 ≤ 2 ^ (ringing.queue 3).sizeLog2 ∧
    later 32 (ringing.queue 3).tail 2 = true ∧ (ringing.queue 3).state ≠ 2 ∧ ringing.dev.host.overflow = [] ∧
    later 32 (ringing.queue 6).tail 9 = false ∧ earlier 32 (ringing.queue 6).head 9 = false ∧
    (ringing.queue 7).typ = 0 ∧ deleteError ringing = 0 ∧ ringing.dev.host.serving = none ∧ ringing.dev.host.doorbells = [] ∧
    ringing.dev.host.cache.contains 3 = true := by decide +kernel

/-! ### CompletionsLandInTheirSlots -/

/-- Ring 6 of 16 entries lies at 0x1000, inside window 2, at the last slot of its second pass. -/
def posting : State :=
  withDev fun d =>
    { d with host :=
        { d.host with queues := [(6, { typ := 4, state := 1, sizeLog2 := 4, head := 31, tail := 31, ring := 0x1000 })]
                      windows := [(2, { base := 0, limit := 0x1FFF, enable := true })] } }

theorem test_post_witness :
    (posting.queue 6).typ = 4 ∧ ringUsed (posting.queue 6) < 2 ^ (posting.queue 6).sizeLog2 ∧
    (posting.dev.host.overflow.any fun e => e.1 == 6) = false ∧
    inWindow posting 0 ((posting.queue 6).ring + 16 * ((posting.queue 6).tail % 2 ^ (posting.queue 6).sizeLog2)) 16 = true ∧
    memoryWf posting.dev.host.memory = true := by decide

/-- R615 worked: the second pass over the ring has PHASE 0. -/
theorem test_post_phase : ((posting.queue 6).tail >>> (posting.queue 6).sizeLog2 &&& 1) ^^^ 1 = 0 ∧
    ((15 >>> 4 &&& 1) ^^^ 1) = 1 := by decide

/-! ### CapturedStateTakesEffectAtCalends -/

/-- Frame 7 is at its last line; a state with lease 3 on layer 1 has been captured. -/
def eveOver : State :=
  withDev fun d =>
    { d with captured := some { layers := [(1, { lease := 3 })] }
             timing := { d.timing with started := true, eveDone := true, count := 7, line := 18000 } }

/-- Frame 7 is at its eve, which lies 192 lines and the margins ahead of the vigil. -/
def eveToCome : State := withDev fun d => { d with timing := { d.timing with started := true, count := 7, line := 17100 } }

theorem test_frames_witness :
    (eveToCome.dev.timing.started = true ∧ eveToCome.dev.timing.eveDone = false ∧
      eveLine eveToCome < eveToCome.dev.timing.line) ∧
    (eveOver.dev.captured = some { layers := [(1, { lease := 3 })] } ∧ eveOver.dev.timing.started = true ∧
      eveOver.dev.timing.eveDone = true ∧ totalLines eveOver ≤ eveOver.dev.timing.line) := by decide +kernel

/-! ### LineCommands -/

/-- Frames run; link 5 sends three colour values of a line. -/
def sending : State :=
  withDev fun d =>
    { d with timing := { d.timing with started := true }
             links := amPut d.links 5 { tx := .sol 8 10 1 [1, 2, 3, 4, 5, 6, 7, 8, 9] } }

theorem test_lines_witness :
    sending.dev.timing.started = true ∧ sending.dev.timing.line ≤ 17280 ∧
    sending.dev.timing.line ≤ eveLine sending ∧ 5 < nLinks sending ∧
    (sending.link 5).tx = .sol 8 10 1 [1, 2, 3, 4, 5, 6, 7, 8, 9] ∧ sending.dev.timing.underran.contains 2 = false := by
  decide +kernel

/-- R365 worked: after one value, the line sends that value to its end. -/
theorem test_underrun : ((underrun 5 1 sending).link 5).tx = .sol 8 10 1 [1, 2, 3, 1, 2, 3, 1, 2, 3] := by decide

/-! ### PinnedClipsAreKept -/

/-- Player 3's cue for clip 4,095 is admitted. -/
def pinning : State :=
  (withDev fun d => { d with players := [(7, { id := 3, state := 1, clip := 4095 })] }).setReg 0x2021 1 4095

theorem test_pinned_witness : ∃ p ∈ pinning.dev.players, p.2.state ≠ 0 ∧ p.2.clip = clipSelected pinning := by decide

/-! ### CommitsFollowTheEve -/

/-- Frame 7, before its eve or after it. -/
def inFrame (eve : Bool) : State :=
  withDev fun d => { d with timing := { d.timing with started := true, eveDone := eve, count := 7 } }

theorem test_commit_frame_witness :
    ((inFrame false).reg 0x3000 2 = 0 ∧ (inFrame false).dev.timing.jump = none ∧ (inFrame false).dev.timing.hold = 1 ∧
      (inFrame false).dev.timing.holdNext = 1 ∧ (inFrame false).dev.commitPending = none) ∧
    commitFails 8 (inFrame false) = none ∧ commitFails 9 (inFrame true) = none :=
  ⟨by decide +kernel,
    commitFails_none [8, 9] (by decide +kernel) (by decide +kernel) (by decide +kernel) (by decide +kernel) (by decide +kernel),
    commitFails_none [9, 10] (by decide +kernel) (by decide +kernel) (by decide +kernel) (by decide +kernel) (by decide +kernel)⟩

/-! ### FusesOnlyAdvance -/

theorem test_fuses_witness :
    let s : State := { State.reset with pending := [.raiseMinimumVersion 0], fuses := { used := 64, state := .retired } }
    s.fuses.used ≤ 64 ∧ s.fuses.state = .retired ∧ ∃ t, step s = .next t :=
  ⟨by decide, rfl, _, exec_raiseMinimumVersion 0 _ (by decide)⟩

/-! ### RingWritesTakeTheNextSlot -/

/-- Ring 1's latest slot is its last, and its first page is worn. -/
def ringAtEnd : State :=
  { State.reset with nv := { rings := [(1, { seq := 0xFFFFFFFF, slot := 63, payload := [] })], worn := [2112] } }

theorem test_ring_witness :
    ringAtEnd.nv.queue = [] ∧ ringAtEnd.nv.writing = none ∧ ringAtEnd.dev.lens.onHold = false ∧
    1 < (ringBase 1).2 ∧ ringAtEnd.nv.worn.contains ((ringBase 1).1 + 1) = false := by decide +kernel

/-- R724 worked: the wrap skips the worn page, and the sequence wraps too. -/
theorem test_ring_wraps :
    (writeRing 1 [] .none ringAtEnd).nv.writing.map (fun w => (w.page, fieldLE w.bytes 4 4)) = some (2113, 0) ∧
    (writeRing 3 [] .none ringAtEnd).nv.writing.map (fun w => (w.page, fieldLE w.bytes 4 4)) = some (2208, 1) := by
  decide +kernel

/-! ### MinimumVersionRises -/

/-- Firmware of version 9 runs in MAKER; the fused minimum is 4. -/
def raising : State :=
  let s := withDev fun d => { d with bringup := { d.bringup with firmwareRuns := true, runningVersion := 9 } }
  { s with fuses := { s.fuses with state := .maker, minVersion := 4 } }

/-- The write of a new minimum. -/
def raise (v : Byte) : Request :=
  { reserved := 0, index := 0x1104, sub := 4, typ := 2, length := 1, offset := 0, total := 0, data := [v] }

theorem test_minimum_witness :
    mailIdle raising ∧ (objHere raising 0x1104 4).map (fun w => (w.typ, mayWrite raising .mailbox w 0x1104 4)) =
      some (2, true) ∧ misused 2 (raise 9) = false ∧ raising.fuses.minVersion ≤ 9 ∧ coresStopped raising = false ∧
    (serve 2 .mailbox (raise 9) raising).fuses.minVersion = 9 ∧
    (serve 2 .mailbox (raise 10) raising).fuses.minVersion = 4 := by
  unfold mailIdle; decide +kernel

/-! ### WatchdogRestartsManagement -/

/-- Firmware has run without a refresh for 10 s, the default timeout. -/
def unrefreshed (now : Nat) : State :=
  { withDev (fun d => { d with bringup := { d.bringup with firmwareRuns := true, refreshedAt := 5 } }) with now := now }

theorem test_watchdog_witness :
    let s := unrefreshed (10 ^ 13 + 5)
    s.reg 0x6020 3 = 0 ∧ s.dev.bringup.firmwareRuns = true ∧ s.dev.bringup.refreshedAt + s.reg 0x6020 1 * 10 ^ 12 ≤ s.now ∧
    hasBit ((watchdogFired s).reg 0x6030 3) 5 = true ∧
    (unrefreshed 10).now < (unrefreshed 10).dev.bringup.refreshedAt + (unrefreshed 10).reg 0x6020 1 * 10 ^ 12 := by
  decide +kernel

/-! ### SafetyInputCommands -/

/-- A release pends for calends 7, before its eve; the pin is low. -/
def safetyPending : State := withDev fun d => { d with safety := { release := some 7, pinLow := true } }

/-- The safety state is shown, and its inputs have been quiet for 1 s. -/
def safetyQuiet : State :=
  modSafety (fun y => { y with highAt := some 1000000000000, quietAt := some 5 })
    { withRegs [(0x3190, 2, 2)] with now := 2000000000000 }

theorem test_safety_inputs_witness :
    (safetyPending.dev.safety.release = some 7 ∧ beforeEveOf safetyPending 7 = true ∧
      safetyPending.dev.safety.pinLow = true) ∧
    (safetyQuiet.dev.safety.release = none ∧ safetyQuiet.reg 0x3190 2 ≠ 0 ∧ safetyQuiet.dev.safety.pinLow = false ∧
      safetyQuiet.dev.safety.origins = [] ∧ secondAgo safetyQuiet safetyQuiet.dev.safety.highAt = true ∧
      secondAgo safetyQuiet safetyQuiet.dev.safety.quietAt = true) := by decide

/-! ### TimePinCommands -/

/-- The committed state gives TIME_OUT`j` mode `m`. -/
def pinModed (m : Nat) : State :=
  (withDev fun d => { d with live := { d.live with objs := [(key 0x48C3 1, m)] } }).setReg 0x4821 1 2

theorem test_time_out_witness :
    pinMode (pinModed 1) 3 = 1 ∧ frameLock (pinModed 1) ≠ 0 ∧ pinMode (pinModed 2) 3 = 2 ∧
      framePulse (pinModed 1) 3 = true ∧ scheduledPulse (pinModed 2) 3 = some 0 ∧ pinMode (pinModed 1) 0 ≠ 2 ∧
      frameLock ((pinModed 1).setReg 0x4821 1 0) = 0 := by decide

theorem test_time_in_witness :
    let s := withRegs [(0x48D3, 1, 3), (0x48D3, 2, 40)]
    hasBit (s.reg 0x48D3 1) 1 = true ∧ s.reg 0x48D3 2 ≤ 40 ∧ (s.pinIn 3).lastAt = none ∧
      (s.pinIn 3).queue.length < 16 := by decide

/-! ### CheckUnitCommands -/

/-- CU23 feeds three bytes of its data piece. -/
def feeding : State :=
  modUnit 23 (fun _ => { data := [1, 2, 3] }) (withRegs [(0x5817, 5, 2), (0x5817, 7, 3), (0x5817, 0x0A, 1)])

theorem test_check_unit_witness :
    cuRunning State.reset 0 = false ∧ cuRangeGood (withRegs [(0x5800, 5, 2)]) 0 = true ∧
    cuRunning (withRegs [(0x5800, 5, 2)]) 0 = false ∧ cuRunning feeding 23 = true ∧ cuLength feeding 23 = 3 ∧
    (∀ i, i < 3 → (cuByte feeding 23 i).isSome = true ∧ (none : Option Nat) ≠ some i) ∧ canLog State.reset := by
  simp only [canLog]; decide

/-- The check value of the nine ASCII digits under CRC-32C (R692 to R694). -/
theorem test_crc32c_check : crc 0 0 [0x31, 0x32, 0x33, 0x34, 0x35, 0x36, 0x37, 0x38, 0x39] = 0xE3069283 := by decide +kernel

/-! ### HostLinkCommands -/

/-- Window 16 covers the whole of HBM, window 0 is locked. -/
def windowed : State :=
  withDev fun d =>
    { d with host := { d.host with windows := [(0, { lock := true }), (16, { base := 0, limit := 0xFFFFFFFFF, enable := true })] } }

theorem test_host_link_witness :
    [1, 2, 4, 8, 16].contains 16 = true ∧ 0x0F00 % 4096 + [(5 : Byte)].length ≤ 4096 ∧
    0x0F00 + 1 ≤ bar2Size windowed ∧ inWindow windowed 16 (bar2Offset windowed 0x0F00) 1 = true ∧
    onManagement windowed (bar2Offset windowed 0x0F00) = false ∧
    (place windowed (bar2Offset windowed 0x0F00)).isSome = true ∧ memoryWf windowed.hbm = true ∧
    (place windowed (bar2Offset windowed 0x0F00)).map (·.copies) = some [0, 32] ∧
    pcFailed windowed 32 = false ∧ (windowed.window 31).lock = false ∧ (windowed.window 0).lock = true := by
  decide +kernel

/-! ### AdmittedCues -/

/-- An entry of these bytes waits on cue queue 4; frame lock is LOCKED, pin 0 is in CUE mode, and an item of tag 8 is
admitted. -/
def cueing (bs : List Byte) : State :=
  hbmWrite 0 bs ((withDev fun d =>
    { d with live := { d.live with objs := [(key 0x48C0 1, 3)] }
             host := { d.host with queues := [(4, { typ := 2, state := 1, tail := 1, cq := 6 })]
                                   items := [{ num := 0, host := true, queue := 4, tag := 8, target := 40,
                                               kind := .visible 1 1 }], nextNum := 1, serving := some 4 } }).setReg 0x4821 1 2)

def cueEntry (opcode : Nat) : Entry := { opcode := opcode, flags := 0, tag := 9, target := 20, clean := true }

/-- What the witness of a cue shows of its state: the entry is spelt, its target fits, and its frames are idle. -/
structure CueReady (s : State) (opcode : Nat) (k : ItemKind) : Prop where
  target : testTarget (entryPopped s 4) 20 = .ok 20
  full : fullFail (entryPopped s 4) = none
  fits : headerFits (cueEntry opcode) opcode [2] (s.queue 4).typ = true
  budgets : budgets (entryPopped s 4) (itemFor (s.queue 4) 4 (cueEntry opcode) (entryPopped s 4) 20 k) none = none

theorem cueReady {s : State} {opcode : Nat} {k : ItemKind} (ht : testTarget (entryPopped s 4) 20 = .ok 20)
    (hf : fullFail (entryPopped s 4) = none) (hh : headerFits (cueEntry opcode) opcode [2] (s.queue 4).typ = true)
    (h1 : testFrames (withItem (itemFor (s.queue 4) 4 (cueEntry opcode) (entryPopped s 4) 20 k) (entryPopped s 4)) 20 none =
      [20, 21, 40, 41])
    (h2 : modelClusters (withItem (itemFor (s.queue 4) 4 (cueEntry opcode) (entryPopped s 4) 20 k) (entryPopped s 4)) = 96)
    (h3 : [20, 21, 40, 41].all (Laws.idleFrame
      (withItem (itemFor (s.queue 4) 4 (cueEntry opcode) (entryPopped s 4) 20 k) (entryPopped s 4))) = true)
    (h4 : [20, 21, 40, 41].all (decodeFits
      (withItem (itemFor (s.queue 4) 4 (cueEntry opcode) (entryPopped s 4) 20 k) (entryPopped s 4))) = true) :
    CueReady s opcode k :=
  ⟨ht, hf, hh, budgets_idle [20, 21, 40, 41] h1 h2 h3 (by simpa using h4)⟩

def pulsing : State := cueing (entryBytes 0x23 9 20 (natLE 0 4 ++ natLE 5 4 ++ natLE 8 4))
def moding : State := cueing (entryBytes 0x24 9 20 (natLE 0 1))
def showing : State := cueing (entryBytes 0x26 9 20 (natLE 3 4 ++ natLE 1 4))
/-- The check value of a map of 1,536 zeros. -/
abbrev zoneCrc : Nat := 1370579870
def zoning : State := cueing (entryBytes 0x25 9 20 (natLE 0x6C0000000 8 ++ natLE zoneCrc 4))
def cancelling : State := cueing (entryBytes 0x2F 9 0 (natLE 4 4 ++ natLE 8 4))

theorem pulse_ready : CueReady pulsing 0x23 (.pulse 0 5 8) :=
  cueReady (by with_unfolding_all rfl) (by decide +kernel) (by decide +kernel) (by decide +kernel) (by decide +kernel)
    (by decide +kernel) (by decide +kernel)
theorem mode_ready : CueReady moding 0x24 (.mode 0 false) :=
  cueReady (by with_unfolding_all rfl) (by decide +kernel) (by decide +kernel) (by decide +kernel) (by decide +kernel)
    (by decide +kernel) (by decide +kernel)
theorem visible_ready : CueReady showing 0x26 (.visible 3 1) :=
  cueReady (by with_unfolding_all rfl) (by decide +kernel) (by decide +kernel) (by decide +kernel) (by decide +kernel)
    (by decide +kernel) (by decide +kernel)
theorem zones_ready : CueReady zoning 0x25 (.zones 0) :=
  cueReady (by with_unfolding_all rfl) (by decide +kernel) (by decide +kernel) (by decide +kernel) (by decide +kernel)
    (by decide +kernel) (by decide +kernel)

theorem test_cues_spelt :
    entrySpelt pulsing 4 pulseEntry (cueEntry 0x23, 0, 5, 8) ∧ entrySpelt moding 4 modeEntry (cueEntry 0x24, 0) ∧
    entrySpelt showing 4 visibleEntry (cueEntry 0x26, 3, 1) ∧
    entrySpelt zoning 4 zonesEntry (cueEntry 0x25, 0x6C0000000, zoneCrc) ∧
    entrySpelt cancelling 4 cancelEntry ({ cueEntry 0x2F with target := 0 }, 4, 8) := by
  simp only [entrySpelt, entryWaits]; decide +kernel

theorem test_pulse_witness : ∃ g,
    pulseVerdict 4 (cueEntry 0x23) 0 5 8 (pulsing.queue 4) (entryPopped pulsing 4) = .ok (20, g) :=
  Laws.ok_of_verdictCount (Laws.pulseVerdict_explicit (by decide +kernel) (by decide) pulse_ready.target
    (by decide +kernel) pulse_ready.full pulse_ready.budgets)

theorem test_mode_witness : ∃ g,
    modeVerdict 4 (cueEntry 0x24) 0 (moding.queue 4) (entryPopped moding 4) = .ok (20, g) :=
  Laws.ok_of_verdictCount (Laws.modeVerdict_explicit (by decide +kernel) (by decide) mode_ready.target
    (Laws.switchFails_none (by decide +kernel) (by decide +kernel) (by decide +kernel) (by decide +kernel)
      mode_ready.full (by decide +kernel) mode_ready.budgets))

theorem test_visible_witness : ∃ g,
    visibleVerdict 4 (cueEntry 0x26) 3 1 (showing.queue 4) (entryPopped showing 4) = .ok (20, g) :=
  Laws.ok_of_verdictCount (Laws.visibleVerdict_explicit (by decide +kernel) (by decide) visible_ready.target
    visible_ready.full visible_ready.budgets)

theorem all_zero :
    (List.range 1536).all (fun i => hbmByte (entryPopped zoning 4) (0x6C0000000 + i) == some 0) = true := by
  decide +kernel

theorem zeros_append (m n r : Nat) :
    crcFeed 0 r (List.replicate (m + n) 0) = crcFeed 0 (crcFeed 0 r (List.replicate m 0)) (List.replicate n 0) := by
  induction m generalizing r with
  | zero => simp [crcFeed]
  | succ m ih => rw [Nat.succ_add, List.replicate_succ, List.replicate_succ, crcFeed, crcFeed, ih]

theorem zeros_step {m n r r' x : Nat} (e : m = 64 + n) (h : crcFeed 0 r (List.replicate 64 0) = r')
    (g : crcFeed 0 r' (List.replicate n 0) = x) : crcFeed 0 r (List.replicate m 0) = x := by
  rw [e, zeros_append, h, g]

theorem zoneFeed : crcFeed 0 3153068030 (List.replicate 1536 0) = 2924387425 :=
    zeros_step (n := 1472) (r' := 3028892683) (by decide) (by decide +kernel) <|
    zeros_step (n := 1408) (r' := 4191620308) (by decide) (by decide +kernel) <|
    zeros_step (n := 1344) (r' := 2512302124) (by decide) (by decide +kernel) <|
    zeros_step (n := 1280) (r' := 4193229194) (by decide) (by decide +kernel) <|
    zeros_step (n := 1216) (r' := 4154914769) (by decide) (by decide +kernel) <|
    zeros_step (n := 1152) (r' := 554479943) (by decide) (by decide +kernel) <|
    zeros_step (n := 1088) (r' := 4226417441) (by decide) (by decide +kernel) <|
    zeros_step (n := 1024) (r' := 1193247915) (by decide) (by decide +kernel) <|
    zeros_step (n := 960) (r' := 2136881250) (by decide) (by decide +kernel) <|
    zeros_step (n := 896) (r' := 909034915) (by decide) (by decide +kernel) <|
    zeros_step (n := 832) (r' := 1076484537) (by decide) (by decide +kernel) <|
    zeros_step (n := 768) (r' := 2379474948) (by decide) (by decide +kernel) <|
    zeros_step (n := 704) (r' := 733928612) (by decide) (by decide +kernel) <|
    zeros_step (n := 640) (r' := 2106151380) (by decide) (by decide +kernel) <|
    zeros_step (n := 576) (r' := 4239647323) (by decide) (by decide +kernel) <|
    zeros_step (n := 512) (r' := 2892718156) (by decide) (by decide +kernel) <|
    zeros_step (n := 448) (r' := 602565463) (by decide) (by decide +kernel) <|
    zeros_step (n := 384) (r' := 190294498) (by decide) (by decide +kernel) <|
    zeros_step (n := 320) (r' := 1472438197) (by decide) (by decide +kernel) <|
    zeros_step (n := 256) (r' := 346170256) (by decide) (by decide +kernel) <|
    zeros_step (n := 192) (r' := 2907105239) (by decide) (by decide +kernel) <|
    zeros_step (n := 128) (r' := 355279511) (by decide) (by decide +kernel) <|
    zeros_step (n := 64) (r' := 2374106693) (by decide) (by decide +kernel) <|
    by decide +kernel

theorem zoneCrc_eq : crc32c 0x44100001 (List.replicate 1536 0) = zoneCrc := by
  have h : crcInit 0 0x44100001 = 3153068030 := by decide
  rw [crc32c, crc, h, zoneFeed]
  decide

theorem zeroMap : zoneMap (entryPopped zoning 4) 0x6C0000000 zoneCrc = some 0 :=
  zoneCrc_eq ▸ Laws.zoneMap_zeros all_zero

theorem test_zones_witness : zoneMap (entryPopped zoning 4) 0x6C0000000 zoneCrc = some 0 ∧ ∃ g,
    zonesVerdict 4 (cueEntry 0x25) 0x6C0000000 zoneCrc (zoning.queue 4) (entryPopped zoning 4) = .ok (20, g) := by
  refine ⟨zeroMap, Laws.ok_of_verdictCount (Laws.zonesVerdict_explicit (by decide +kernel) zeroMap (by decide)
    zones_ready.target zones_ready.full (by decide +kernel) ?_ zones_ready.budgets)⟩
  decide +kernel

theorem test_cancel_witness :
    headerFits { cueEntry 0x2F with target := 0 } 0x2F [1, 2] (cancelling.queue 4).typ = true ∧
    (itemTagged cancelling 4 8).map (·.target) = some 40 ∧ frontier cancelling < 40 := by
  decide +kernel

/-! ### AdmittedUpdatesAndPlays -/

/-- An update of overlay layer 16 under lease 9: 64 by 64 texels shown on 32 by 64 hogels, no occupied block. -/
def emptyOverlay : List Byte :=
  chunkBytes 5 0 16 9 (natLE 64 2 ++ natLE 64 2 ++ natLE 0 4 ++ natLE 32 2 ++ natLE 64 2 ++ List.replicate 20 0) ++
    chunkBytes 4 1 16 9 (List.replicate 8 0)

/-- Update queue 3 and cue queue 4 have an entry of these bytes each; clip 1 is READY with clip layer 0; frame lock is
LOCKED. -/
def updatingWith (bs : List Byte) : State :=
  hbmWrite 0 bs (hbmWrite 0x6C0000000 emptyOverlay
    ((withDev fun d =>
      { d with clips := [(1, { addr := 0x100000, length := 4096, state := 3, frames := 1, mask := 1 })]
               live := { d.live with layers := [(3, { lease := 5 })] }
               host := { d.host with queues := [(3, { typ := 1, state := 1, tail := 1, cq := 6 }),
                                                (4, { typ := 2, state := 1, tail := 1, cq := 6 })], serving := some 3 } }).setReg 0x4821 1 2))

def updating : State :=
  updatingWith (entryBytes 1 9 20 (natLE 0x6C0000000 8 ++ natLE 104 4))

/-- The same with the engine on the cue queue. -/
def playing : State :=
  modHost (fun h => { h with serving := some 4 })
    (updatingWith (entryBytes 0x21 9 20 ([63, 1, 1, 0, 2, 0, 0, 0, 3] ++ List.replicate 31 0xFF)))
def stopping : State := modHost (fun h => { h with serving := some 4 }) (updatingWith (entryBytes 0x22 9 20 [63]))

def updateOps : UpdateOps :=
  { staging := 0x6C0000000, length := 104, fence := 0, timeout := 0, members := 0, wait := 0, group := 0 }
def playOps : PlayOps :=
  { player := 63, step := 1, clip := 1, loops := 2, endAction := 0, map := 3 :: List.replicate 31 0xFF }
def at20 (opcode : Nat) : Entry := { opcode := opcode, flags := 0, tag := 9, target := 20, clean := true }
def updateTaken : State := entryPopped updating 3
def playTaken : State := entryPopped playing 4
def stopTaken : State := entryPopped stopping 4
def updateContent : Admitted := { layer := 16, lease := 9, seq := 0, content := { overlay := true, dw := 32, dh := 64 }, next := 104 }
abbrev anUpdate : Item := updateItem (updating.queue 3) 3 (at20 1) updateOps updateTaken 20 updateContent

theorem test_update_target : testTarget updateTaken 20 = .ok 20 ∧ testTarget playTaken 20 = .ok 20 ∧
    testTarget stopTaken 20 = .ok 20 :=
  ⟨by with_unfolding_all rfl, by with_unfolding_all rfl, by with_unfolding_all rfl⟩

/-- What chunks give. -/
def chunksGive : Except Nat Admitted → Option Admitted
  | .ok a => some a
  | .error _ => none

theorem ok_of_chunksGive {x : Except Nat Admitted} {a : Admitted} (h : chunksGive x = some a) : x = .ok a := by
  cases x <;> simp_all [chunksGive]

theorem test_update_chunks : updateChunks updateTaken (updating.queue 3) updateOps (some 20) = .ok updateContent :=
  ok_of_chunksGive (by decide +kernel)

theorem test_update_witness : entrySpelt updating 3 updateEntry (at20 1, updateOps) ∧ ∃ g,
    updateVerdict 3 (at20 1) updateOps (updating.queue 3) updateTaken = .ok (20, g) := by
  refine ⟨by simp only [entrySpelt, entryWaits]; decide +kernel, ?_⟩
  have hb : budgets updateTaken anUpdate ((nextUpdate updateTaken updateContent.layer 20).map (·.1)) = none :=
    budgets_idle [20, 21] (by decide +kernel) (by decide +kernel) (by decide +kernel) (by decide +kernel)
  exact Laws.ok_of_verdictCount (Laws.updateVerdict_explicit (by decide +kernel) (by decide) test_update_target.1
    test_update_chunks (by decide +kernel) hb)

theorem test_play_witness : entrySpelt playing 4 playEntry (at20 0x21, playOps) ∧ nextCount playing < 20 ∧ ∃ g,
    playVerdict 4 (at20 0x21) playOps (playing.queue 4) playTaken = .ok (20, g) := by
  refine ⟨by simp only [entrySpelt, entryWaits]; decide +kernel, by decide, ?_⟩
  exact Laws.ok_of_verdictCount (Laws.playVerdict_explicit (by decide +kernel) (by decide) test_update_target.2.1
    (by decide +kernel) (budgets_idle [20, 21, 22] (by decide +kernel) (by decide +kernel) (by decide +kernel) (by decide +kernel)))

theorem test_stop_witness : entrySpelt stopping 4 stopEntry (at20 0x22, 63) ∧ (∀ p ∈ stopping.dev.players, p.2.id ≠ 63) ∧ ∃ g,
    stopVerdict 4 (at20 0x22) 63 (stopping.queue 4) stopTaken = .ok (20, g) := by
  refine ⟨by simp only [entrySpelt, entryWaits]; decide +kernel, by decide, ?_⟩
  exact Laws.ok_of_verdictCount (Laws.stopVerdict_explicit (by decide +kernel) (by decide) test_update_target.2.2
    (by decide +kernel) (budgets_idle [20, 21] (by decide +kernel) (by decide +kernel) (by decide +kernel) (by decide +kernel)))

/-! ### RefusedEntriesChangeNothing -/

/-- A queue of any type with an entry that waits: of this opcode and these operands, its target in the past, with frame
lock not LOCKED. -/
def refusing (typ opcode target : Nat) (ops : List Byte) : State :=
  hbmWrite 0 (entryBytes opcode 9 target ops) (withDev fun d =>
    { d with host := { d.host with queues := [(9, { typ := typ, state := 1, tail := 1, cq := 6 })], serving := some 9 } })

def lateEntry (opcode : Nat) : Entry := { opcode := opcode, flags := 0, tag := 9, target := 3, clean := true }

/-- The reason a verdict gives. -/
def verdictReason : Verdict → Option Nat
  | .ok _ => none
  | .error (r, _) => some r

/-- An entry is spelt, and its verdict in a state of the kind above gives reason `r`. -/
def refusedFor {α : Type} [BEq α] (s : State) (read : List Byte → α) (x : α) (v : Queue → State → Verdict) (r : Nat) : Prop :=
  entrySpelt s 9 read x ∧ verdictReason (v (s.queue 9) (entryPopped s 9)) = some r

theorem test_refused_cues :
    refusedFor (refusing 2 0x22 3 [63]) stopEntry (lateEntry 0x22, 63) (stopVerdict 9 (lateEntry 0x22) 63) 6 ∧
    refusedFor (refusing 2 0x23 3 [3, 0, 0, 0, 0, 0, 0, 0, 8]) pulseEntry (lateEntry 0x23, 3, 0, 8)
      (pulseVerdict 9 (lateEntry 0x23) 3 0 8) 6 ∧
    refusedFor (refusing 2 0x26 3 [1, 0, 0, 0, 1]) visibleEntry (lateEntry 0x26, 1, 1)
      (visibleVerdict 9 (lateEntry 0x26) 1 1) 6 ∧
    refusedFor (refusing 2 0x24 3 [16]) modeEntry (lateEntry 0x24, 16) (modeVerdict 9 (lateEntry 0x24) 16) 2 ∧
    refusedFor (refusing 2 0x26 3 []) zonesEntry (lateEntry 0x26, 0, 0) (zonesVerdict 9 (lateEntry 0x26) 0 0) 2 := by
  simp only [refusedFor, entrySpelt, entryWaits]; decide +kernel

theorem test_refused_others :
    refusedFor (refusing 2 0x21 3 [64, 1]) playEntry (lateEntry 0x21, ⟨64, 1, 0, 0, 0, List.replicate 32 0⟩)
      (playVerdict 9 (lateEntry 0x21) ⟨64, 1, 0, 0, 0, List.replicate 32 0⟩) 2 ∧
    refusedFor (refusing 1 1 3 [4]) updateEntry (lateEntry 1, ⟨4, 0, 0, 0, 0, 0, 0⟩)
      (updateVerdict 9 (lateEntry 1) ⟨4, 0, 0, 0, 0, 0, 0⟩) 2 ∧
    refusedFor (refusing 2 0x2F 0 [9, 0, 0, 0, 1]) cancelEntry ({ lateEntry 0x2F with target := 0 }, 9, 1)
      (cancelVerdict 9 { lateEntry 0x2F with target := 0 } 9 1) 0x15 ∧
    refusedFor (refusing 3 0x31 3 []) signalEntry (lateEntry 0x31, 0, 0) (signalVerdict 9 (lateEntry 0x31) 0 0) 2 := by
  simp only [refusedFor, entrySpelt, entryWaits]; decide +kernel

/-! ### RowTestCommands -/

/-- Row 9 of bank 3 is under test. -/
def rowTesting : State :=
  modMemory (fun m => { m with rowTest := some { bank := 3, row := 9, saved := [] } }) State.reset

theorem test_row_test_witness :
    (withRegs [(0x5180, 2, 1)]).reg 0x5180 2 ≠ 0 ∧ (withRegs [(0x5180, 2, 1)]).dev.memory.rowTest = none ∧
    rowTesting.dev.memory.rowTest = some { bank := 3, row := 9, saved := [] } ∧ rowTesting.reg 0x5103 2 < 8 ∧
    memoryWf rowTesting.bank = true := by decide

/-! ### PseudoChannelStates -/

/-- A request of class 5 waits at PC127; PC21 has been idle for the entry delay. -/
def lowWaiting : State :=
  modPc 127 (fun p => { p with waiting := [{ src := 54, addr := 0 }] }) (withRegs [(0x507F, 1, 1)])
def longIdle : State := { withRegs [(0x5015, 1, 1)] with now := 1000000000 }

theorem test_pc_states_witness :
    (withRegs [(0x5090, 1, 1)]).reg 0x5090 1 = 1 ∧ (withRegs [(0x5090, 1, 1)]).reg 0x5090 6 = 0 ∧
    ((withRegs [(0x507F, 1, 1)]).pc 0x7F).waiting = [] ∧ pcUrgent lowWaiting 0x7F = false ∧
    (lowWaiting.pc 0x7F).waiting ≠ [] ∧ lowWaiting.reg 0x507F 1 = 1 ∧ 511 < 4 * nPcs State.reset ∧ 127 < nPcs State.reset ∧
    (withRegs [(0x507F, 1, 1)]).reg 0x507F 1 = 1 ∧ (withRegs [(0x507F, 1, 1)]).reg 0x507F 4 < 8 ∧
    (withRegs [(0x507F, 1, 1)]).reg 0x5083 2 ≠ 2 ∧ 
    selfRefreshAllowed longIdle 21 = true ∧ pcIdle longIdle 21 = true ∧ longIdle.reg 0x5015 1 = 1 ∧ (withRegs [(0x5000, 1, 2)]).reg 0x5000 1 = 2 ∧
    (withRegs [(0x5000, 1, 4)]).reg 0x5000 1 = 4 ∧ canLog State.reset := by simp only [canLog]; decide

/-! ### HbmErrorCommands -/

/-- A read of PC40 at 64 has been reissued; PC0 has had 15 command-parity errors within the second. -/
def mirrorWaiting : State :=
  modPc 0 (fun p => { p with parity := List.replicate 15 0 })
    (modMemory (fun m => { m with mirrorReads := [(40, 64)] }) State.reset)

theorem test_hbm_errors_witness :
    127 < nPcs State.reset ∧ mirroredAt State.reset 127 0x3FFFFFFF = true ∧
    pcFailed State.reset (pcMate 127) = false ∧ mirroredAt State.reset 20 0 = false ∧ isScratch State.reset 1 = false ∧ isScratch State.reset (127 * unitsPerPc + 0x40000) = true ∧ (40, 64) ∈ mirrorWaiting.dev.memory.mirrorReads ∧
    pcFailed mirrorWaiting 40 = false ∧ memoryWf mirrorWaiting.hbm = true ∧ State.reset.reg 0x5090 4 ≠ 0 ∧
    15 ≤ (within1s mirrorWaiting.now (mirrorWaiting.pc 0).parity).length ∧ 3 < nStacks State.reset ∧ 127 / 32 = 3 := by
  decide

/-! ### DispatchAndRedoCommands -/

/-- SC4 runs patch 7 of strip 3, SC97 a redo quarter of patch 8, two patches wait, and no cluster asks. -/
def dispatching : State :=
  withDev fun d =>
    { d with synth := { d.synth with queue := [⟨1, 0, 0⟩, ⟨1, 0, 1⟩], running := [(4, ⟨0, 3, 7⟩)]
                                     stores := [(99, [⟨2, 0, 5, 9, [], [], [], [⟨0, 3, 7⟩]⟩])]
                                     redoRunning := [(97, (⟨0, 3, 8⟩, 2))]
                                     redoDone := [(⟨0, 3, 8⟩, 0), (⟨0, 3, 8⟩, 1), (⟨0, 3, 8⟩, 3)] } }

theorem test_dispatch_witness :
    (scheduled dispatching 95 = true ∧ clustersOff dispatching = false ∧ dispatching.dev.synth.requests = [] ∧
      (dispatching.dev.synth.redoRunning.any fun e => e.1 == 95) = false) ∧
    (clusterHere dispatching 99 = true ∧ clusterFailed dispatching 99 = false ∧
      dispatching.dev.eventBuffer.length < 4096) ∧
    (dispatching.dev.synth.running.find? fun e => e.2.strip == 3 && e.2.patch == 7) = some (4, ⟨0, 3, 7⟩) ∧
    (amGet dispatching.dev.synth.redoRunning 97 = some (⟨0, 3, 8⟩, 2) ∧ lineFree dispatching ⟨0, 3, 8⟩ 17 = true ∧
      dispatching.dev.synth.colourFailed.contains ⟨0, 3, 8⟩ = false ∧
      ∀ k, k < 4 → k ≠ 2 → (⟨0, 3, 8⟩, k) ∈ dispatching.dev.synth.redoDone) ∧
    dispatching.reg 0x3010 8 ≠ 1 ∧
    (∀ k : Nat, (amGetD dispatching.dev.synth.stores 99 [])[k % max 1 (amGetD dispatching.dev.synth.stores 99 []).length]? =
      some ⟨2, 0, 5, 9, [], [], [], [⟨0, 3, 7⟩]⟩) := by
  refine ⟨by decide +kernel, by decide +kernel, by decide +kernel, ⟨by decide, by decide, by decide, ?_⟩, by decide +kernel, fun k => ?_⟩
  · decide
  · rw [show k % max 1 (amGetD dispatching.dev.synth.stores 99 []).length = 0 from Nat.mod_one k]; decide

/-! ### PatchAndWindowCommands -/

/-- SC4 runs patch 7 of strip 3; the block descriptor of layer 2's block 0 is in both copies, under lease 9. -/
def fetching : State :=
  hbmWrite (groupBase 0 + slotOffset 2 0) (descBytes 9 true 0xFFFF 2 0 (slotOffset 2 0))
    (withDev fun d =>
      { d with live := { d.live with layers := [(2, { lease := 9 })] }
               synth := { d.synth with running := [(4, ⟨0, 3, 7⟩)] } })

def freezing : State := withDev fun d => { d with live := { d.live with frozen := true } }

theorem test_patches_witness :
    runningPatch fetching 3 7 = some (some 4, ⟨0, 3, 7⟩) ∧
    fetching.dev.synth.colourFailed.contains ⟨0, 3, 7⟩ = false ∧ slotFree fetching ⟨0, 3, 7⟩ = true ∧
    stripCount freezing 5 = 0 ∧ (stateOf freezing 0).frozen = true ∧ slotFree freezing ⟨0, 5, 0⟩ = true ∧
    freezing.dev.synth.complete.contains ⟨0, 5, 0⟩ = false ∧ freezing.dev.synth.missed.contains ⟨0, 5, 0⟩ = false := by
  decide

theorem test_fetch_witness :
    workedAt fetching 3 7 = some ⟨0, 3, 7⟩ ∧ (List.range 64).all (fun i => decide ((within1s fetching.now (fetching.pc i).uncorrectable).length < 15)) = true ∧ (descriptorPc fetching 0 2 0 0 0).isSome = true ∧ cachedBlock fetching ⟨0, 3, 7⟩ 2 9 0 = none ∧
    (amGetD (stateOf fetching 0).layers 2 {}).lease = 9 ∧ (blockCopy fetching 0 2 0 9 0 0).isSome = true := by decide +kernel

/-! ### ColourCommands -/

/-- A band update of band 719 lies at the start of the staging area; another of it waits for calends 3; the ceiling was
lowered. -/
def banding : State :=
  modGov (fun g => { g with lowered := true, preLast := [(5, 100)] })
    ((((withDev fun d => { d with bandUpdates := [{ band := 719, staging := 0x6C0000000, crc := 0, target := 3, slot := 720 }] }).setReg
      0x3412 1 719).setReg 0x3412 2 0x6C0000000).setReg 0x3410 5 1)

/-- The target of a submission. -/
def targetOf : Except Nat Nat → Option Nat
  | .ok n => some n
  | .error _ => none

theorem test_colour_witness :
    gainEnabled banding = false ∧ banding.reg 0x3410 5 = 1 ∧
    (0x6C0000000 ≤ banding.reg 0x3412 2 ∧ banding.reg 0x3412 2 + bandSize banding.dev.live ≤ 0x740000000 ∧
      (place banding (banding.reg 0x3412 2 + bandSize banding.dev.live - 1)).isSome = true ∧
      targetOf (bandTarget banding) = some 1 ∧ banding.dev.bandUpdates.length < 8 ∧
      (banding.dev.bandUpdates.any fun x => x.band == banding.reg 0x3412 1 && x.target == 1) = false ∧
      freeBandSlot banding = some 721) ∧
    (banding.dev.bandUpdates.find? fun u => u.band == 719 && !u.copied).map (·.slot) = some 720 ∧
    banding.dev.gov.lowered = true ∧ banding.reg 0x2040 2 ≠ 1 ∧ banding.dev.gov.preLast = [(5, 100)] ∧
    amSorted 0 banding.dev.gov.scale = true := by decide +kernel

/-! ### ClipCommands -/

/-- The header of a clip of one frame with clip layers 0 and 31 for directory entry 9 (R145). -/
def clipHeader : List Byte :=
  let h := natLE 0x4C435445 4 ++ natLE 1 1 ++ natLE 0 1 ++ natLE 1 2 ++ natLE 0x80000001 4 ++ natLE 0 4 ++ natLE 4096 8 ++
    List.replicate 36 0
  h ++ natLE (crc32c 9 h) 4

/-- Entry 9 is selected, its header lies at library offset 0x2000; entry 8 is LOADED, entry 7 is being verified. -/
def registering : State :=
  hbmWrite (libraryBase + 0x2000) clipHeader
    ((((withDev fun d => { d with clips := [(7, { state := 2 }), (8, { state := 1 })] }).setReg 0x2021 1 9).setReg
      0x2021 2 0x2000).setReg 0x2021 3 4096)

theorem test_clips_witness :
    (clipPinned registering 9 = false ∧ clipSelected registering = 9 ∧ (registering.clip 9).state = 0 ∧
      headerGood registering 9 0x2000 4096 = true ∧ registering.reg 0x2021 2 = 0x2000 ∧
      registering.reg 0x2021 3 = 4096) ∧
    (clipPinned (registering.setReg 0x2021 1 8) 8 = false ∧ clipSelected (registering.setReg 0x2021 1 8) = 8 ∧
      ((registering.setReg 0x2021 1 8).clip 8).state = 1) ∧ (registering.clip 7).state = 2 := by decide +kernel

/-! ### DecoderCommands -/

/-- An overlay of 64 by 64 texels with its one block occupied: its palette chunk of one colour and its index chunk of
solid sub-blocks, after the two chunks of an admission. -/
def overlayChunks : List Byte :=
  chunkBytes 5 0 16 9 (List.replicate 32 0) ++ chunkBytes 4 1 16 9 (List.replicate 16 0) ++
    chunkBytes 2 2 16 9 (natLE 0 4 ++ natLE 1 4 ++ List.replicate 8 0) ++
    chunkBytes 3 3 16 9 (natLE 0 4 ++ natLE 128 4 ++ List.replicate 128 0)

def overlayJob : Job :=
  { num := 3, kind := .update, layer := 16, chunkLayer := 16, target := 1, staging := 0x6C0000000, length := 328, lease := 9
    seq := 0, content := { overlay := true, dw := 32, dh := 64, occ := [(0, 0xFFFF)] }, opened := true }

/-- The same with no occupied block: its END chunk is its third. -/
def emptyJob : Job :=
  { overlayJob with num := 4, staging := 0x6C0001000, length := 144, content := { overlay := true, dw := 32, dh := 64 } }

def emptyChunks : List Byte :=
  chunkBytes 5 0 16 9 (List.replicate 32 0) ++ chunkBytes 4 1 16 9 (List.replicate 8 0) ++
    chunkBytes 0x0F 2 16 9 (natLE 3 8)

/-- The decode window of count 1 is open, and the overlay's chunks and the empty one's lie in the staging area. -/
def staged : List Host.Cell :=
  (hbmWrite 0x6C0000000 overlayChunks (hbmWrite 0x6C0001000 emptyChunks State.reset)).hbm

def decoding (w : AMap Waiting) (j : Job) : State :=
  { withDev (fun d => { d with jobs := [j], waiting := w, lastChunk := [(31, (3, 2))] }) with hbm := staged }

/-- A chunk of the overlay's bytes, and of the empty one's. -/
def overlayChunk (off : Nat) : Chunk := chunkAt (fun o n => (overlayChunks.drop o).take n) off
def endChunk : Chunk := chunkAt (fun o n => (emptyChunks.drop o).take n) 104

theorem staged_read (w : AMap Waiting) (j : Job) : readsSame { State.reset with hbm := staged } (decoding w j) :=
  ⟨rfl, rfl, rfl, rfl, fun _ => rfl⟩

theorem staged_overlay :
    chunkOffsets (stagingBytes { State.reset with hbm := staged } 0x6C0000000) 328 11 0 = [0, 64, 112, 160] ∧
    ∀ o ∈ [0, 64, 112], fieldLE (stagingBytes { State.reset with hbm := staged } 0x6C0000000 o 32) 4 1 ≠ 0x0F := by
  decide +kernel

theorem staged_empty :
    chunkOffsets (stagingBytes { State.reset with hbm := staged } 0x6C0001000) 144 5 0 = [0, 64, 104] ∧
    ∀ o ∈ [0, 64], fieldLE (stagingBytes { State.reset with hbm := staged } 0x6C0001000 o 32) 4 1 ≠ 0x0F := by
  decide +kernel

theorem staged_chunks :
    chunkAt (stagingBytes { State.reset with hbm := staged } 0x6C0000000) 112 = overlayChunk 112 ∧
    chunkAt (stagingBytes { State.reset with hbm := staged } 0x6C0000000) 160 = overlayChunk 160 ∧
    chunkAt (stagingBytes { State.reset with hbm := staged } 0x6C0001000) 104 = endChunk := by
  decide +kernel

/-- Where the chunks of the overlay start, and of the empty one. -/
theorem decoding_offsets (w : AMap Waiting) (j k : Job) (hs : k.staging = 0x6C0000000) (hl : k.length = 328) :
    jobOffsets (decoding w j) k = [0, 64, 112, 160] := by
  rw [jobOffsets_congr (staged_read w j), jobOffsets, hs, hl]
  exact staged_overlay.1

theorem decoding_end (w : AMap Waiting) (j : Job) : jobOffsets (decoding w j) emptyJob = [0, 64, 104] := by
  rw [jobOffsets_congr (staged_read w j)]
  exact staged_empty.1

/-- An opened job's chunk at its place, one of those found before any END. -/
theorem chunkGiven_opened {w : AMap Waiting} {j : Job} {de ord off : Nat} {offs : List Nat}
    (h4 : (decoding w j).reg 0x2000 (de + 1) ≠ 4)
    (hw : amGet w de = none) (hn : (w.any fun x => x.2.job == j.num && x.2.chunk == ord) = false)
    (hj : j.target ≤ 1 ∧ j.marking = false ∧ j.taken.contains ord = false ∧ j.opened = true)
    (ho : jobOffsets (decoding w j) j = offs) (hf : offs[ord]? = some off)
    (hr : ∀ o ∈ offs.take ord, fieldLE (stagingBytes { State.reset with hbm := staged } j.staging o 32) 4 1 ≠ 0x0F) :
    chunkGiven (decoding w j) de ord off j (decoding w j) := by
  rw [← stagingBytes_congr (staged_read w j) j.staging] at hr
  have hlt : ord < offs.length := by
    rcases Nat.lt_or_ge ord offs.length with h | h
    · exact h
    · rw [List.getElem?_eq_none h] at hf; cases hf
  have hn' : nextCount (decoding w j) = 1 := rfl
  have he : (decoding w j).dev.timing.eveDone = false := rfl
  have hd : (decoding w j).dev.waiting = w := rfl
  have hq : (decoding w j).dev.jobs = [j] := rfl
  have hr' : ((offs.take ord).any fun o => fieldLE (stagingBytes (decoding w j) j.staging o 32) 4 1 == 0x0F) = false := by
    simpa using hr
  have hJ : jobOf (decoding w j) j.num = some j := by simp [jobOf, hq]
  have ht : ord ∉ j.taken := fun h => Bool.noConfusion (hj.2.2.1.symm.trans (List.contains_iff_mem.mpr h))
  have hF : jobFor (decoding w j) ord = some j := by
    simp [jobFor, chunkFound, windowOpen, hn', he, hd, hq, hj, ho, hlt, hr', hn, ht]
  refine ⟨h4, hw, rfl, ?_, hJ, by rw [ho, hf]⟩
  have hO : j.opening = j := by
    have h := hj.2.2.2
    cases j
    cases h
    rfl
  simp [chunkTaken?, hF, openJob, hj, hO]

/-- A job whose chunks carry another layer: its palette chunk fails its header. -/
def strayJob : Job := { overlayJob with chunkLayer := 17 }

/-- The job with its palette chunk decoded. -/
def indexJob : Job := { overlayJob with taken := [2, 0, 1], counts := [(0, 1)], palSpans := [(2, 0, 0)] }

theorem overlay_given {w : AMap Waiting} {j : Job} {de ord off : Nat} (hs : j.staging = 0x6C0000000) (hl : j.length = 328)
    (h4 : (decoding w j).reg 0x2000 (de + 1) ≠ 4) (hw : amGet w de = none)
    (hn : (w.any fun x => x.2.job == j.num && x.2.chunk == ord) = false)
    (hj : j.target ≤ 1 ∧ j.marking = false ∧ j.taken.contains ord = false ∧ j.opened = true)
    (hf : [0, 64, 112, 160][ord]? = some off) : chunkGiven (decoding w j) de ord off j (decoding w j) :=
  chunkGiven_opened h4 hw hn hj (decoding_offsets _ _ _ hs hl) hf fun o ho => by
    have h3 : ord ≤ 3 := by
      rcases Nat.lt_or_ge ord 4 with h | h
      · omega
      · rw [List.getElem?_eq_none (by simpa using h)] at hf; cases hf
    rw [hs]
    exact staged_overlay.2 o ((List.take_subset_take_left _ h3) ho)

theorem overlay_chunk (w : AMap Waiting) (j : Job) :
    chunkAt (stagingBytes (decoding w j) 0x6C0000000) 112 = overlayChunk 112 ∧
    chunkAt (stagingBytes (decoding w j) 0x6C0000000) 160 = overlayChunk 160 ∧
    chunkAt (stagingBytes (decoding w j) 0x6C0001000) 104 = endChunk := by
  rw [stagingBytes_congr (staged_read w j), stagingBytes_congr (staged_read w j)]
  exact staged_chunks

theorem test_palette_witness :
    let s := decoding [] overlayJob
    chunkGiven s 0 2 112 overlayJob s ∧ chunkAt (stagingBytes s 0x6C0000000) 112 = overlayChunk 112 ∧
    headerFail (jobExpect s.dev.live overlayJob 2) (overlayChunk 112) = none ∧ (overlayChunk 112).typ = 2 ∧
    paletteFail overlayJob 2 (overlayChunk 112) = none :=
  ⟨overlay_given rfl rfl (by decide) rfl rfl (by decide) rfl, (overlay_chunk ..).1, by decide +kernel⟩

theorem test_stray_witness :
    let s := decoding [] strayJob
    chunkGiven s 0 2 112 strayJob s ∧ headerFail (jobExpect s.dev.live strayJob 2) (overlayChunk 112) ≠ none :=
  ⟨overlay_given rfl rfl (by decide) rfl rfl (by decide) rfl, by decide +kernel⟩

/-- The index chunk waits for its Count, and passes once the Count has come. -/
theorem test_index_witness :
    let s := decoding [] overlayJob
    let v := decoding [] indexJob
    let c := overlayChunk 160
    (chunkGiven s 31 3 160 overlayJob s ∧ chunkAt (stagingBytes s 0x6C0000000) 160 = c ∧
      headerFail (jobExpect s.dev.live overlayJob 3) c = none ∧ c.typ = 3 ∧
      (indexRun s overlayJob 3 c).wait = some (0, 0)) ∧
    (chunkGiven v 31 3 160 indexJob v ∧ (indexRun v indexJob 3 c).wait = none ∧
      firstFail (indexRun v indexJob 3 c).fails = none ∧ (indexRun v indexJob 3 c).expanded = 64) ∧
    countAwaited overlayJob 3 0 = true :=
  ⟨⟨overlay_given rfl rfl (by decide) rfl rfl (by decide) rfl, (overlay_chunk ..).2.1, by decide +kernel⟩,
   ⟨overlay_given rfl rfl (by decide) rfl rfl (by decide) rfl, by decide +kernel⟩, by decide⟩

theorem test_resume_witness :
    let u := decoding [(31, { job := 3, chunk := 3, record := 0, block := 0 })] indexJob
    chunkResumed u 31 160 { job := 3, chunk := 3, record := 0, block := 0 } indexJob :=
  ⟨rfl, rfl, by decide, by rw [decoding_offsets _ _ _ rfl rfl]; rfl⟩

theorem test_fault_witness :
    let s := decoding [] overlayJob
    s.reg 0x2000 32 ≠ 4 ∧ amGet s.dev.lastChunk 31 = some (3, 2) ∧ jobOf s 3 = some overlayJob ∧
    overlayJob.marking = false ∧ overlayJob.reissued.contains 2 = false := by decide +kernel

theorem test_end_witness :
    let s := decoding [] emptyJob
    chunkGiven s 0 2 104 emptyJob s ∧ chunkAt (stagingBytes s 0x6C0001000) 104 = endChunk ∧
    headerFail (jobExpect s.dev.live emptyJob 2) endChunk = none ∧ endChunk.typ = 0x0F ∧ earlierTaken emptyJob 2 = true ∧
    endFail emptyJob.content endChunk 3 (104 + 32 + endChunk.len) 144 (fun b => emptyJob.palDone.contains b)
      (fun b => emptyJob.idxDone.contains b) = none :=
  ⟨chunkGiven_opened (by decide) rfl rfl (by decide) (decoding_end ..) rfl staged_empty.2, (overlay_chunk ..).2.2,
   by decide +kernel⟩

/-- A restore copy of layer 2 runs; one of layer 3 has sent its marker. -/
def runningCopy : CopyJob := { layer := 2, target := 1, restore := true, slot := 0, lease := 0, content := {} }
def markedCopy : CopyJob := { runningCopy with layer := 3, marking := true }

/-- A job whose END has passed waits for decoder 31's marker; two copies run. -/
def marked : State :=
  withDev fun d =>
    { d with jobs := [{ overlayJob with marking := true }], copies := [markedCopy, runningCopy]
             bandUpdates := [{ band := 5, staging := 0x6C0000000, crc := 0, target := 3, slot := 720 }]
             memory := { d.memory with markers :=
               [(31, .finalDescriptors 3), (47, .bandCopied 5), (0, .copyDescriptors markedCopy)] } }

theorem test_marked_witness :
    (marked.dev.memory.markers.find? fun m => m.1 == 31) = some (31, .finalDescriptors 3) ∧
    (marked.dev.memory.markers.find? fun m => m.1 == 47) = some (47, .bandCopied 5) ∧
    (marked.dev.memory.markers.find? fun m => m.1 == 0) = some (0, .copyDescriptors markedCopy) ∧
    (marked.dev.bandUpdates.find? fun u => u.band == 5 && !u.copied).isSome = true ∧
    (jobOf marked 3).map (·.marking) = some true ∧ markedCopy ∈ marked.dev.copies ∧
    (marked.dev.copies.find? fun c => c.layer == 2 && !c.marking) = some runningCopy := by
  decide +kernel

/-! ### SubmitsAndShadows -/

/-- A table of slopes 0 with its CRC. -/
def flatTable : List Byte := withCrc 0x2111 1 (List.replicate 1152 0)

theorem flatTable_length : flatTable.length = 1156 := by
  rw [flatTable, withCrc, List.length_append, List.length_replicate, length_natLE]

theorem flatTable_zeros (k : Nat) (h : k + 2 ≤ 1152) : leNat ((flatTable.drop k).take 2) = 0 := by
  rw [flatTable, withCrc, List.drop_append_of_le_length (by rw [List.length_replicate]; omega),
    List.take_append_of_le_length (by rw [List.length_drop, List.length_replicate]; omega), List.drop_replicate,
    List.take_replicate, Laws.leNat_zeros]

theorem natLE_of_length {bs : List Byte} {n : Nat} (h : bs.length = n) : natLE (leNat bs) n = bs := by
  rw [← h, natLE_leNat]

theorem test_view_crc : crcPasses 0x2111 1 (natLE (leNat flatTable) 1156) = true := by
  rw [natLE_of_length flatTable_length, flatTable]
  exact crcPasses_withCrc 0x2111 1 _

theorem tableGood_of_zeros {v : Nat} (h : ∀ i, i < 288 → (v >>> (32 * i)) % 65536 = 0 ∧ (v >>> (32 * i + 16)) % 65536 = 0) :
    tableGood (tableOf v) = true := by
  unfold tableGood tableOf
  rw [List.all_map, List.all_eq_true]
  intro i hi
  obtain ⟨h0, h1⟩ := h i (List.mem_range.mp hi)
  simp only [Function.comp, h0, h1]
  decide

theorem test_view_table : tableGood (tableOf (leNat flatTable)) = true := by
  refine tableGood_of_zeros fun i hi => ⟨?_, ?_⟩
  · rw [show 32 * i = 8 * (4 * i) by omega, leNat_field2 flatTable (4 * i) (by rw [flatTable_length]; omega),
      flatTable_zeros _ (by omega)]
  · rw [show 32 * i + 16 = 8 * (4 * i + 2) by omega,
      leNat_field2 flatTable (4 * i + 2) (by rw [flatTable_length]; omega), flatTable_zeros _ (by omega)]

/-- The table is submitted for the earliest frame, count 1. -/
def submitting : State := State.reset.setReg 0x2111 1 (leNat flatTable)

theorem test_view_witness : targetCount submitting (submitting.reg 0x2111 2) = .ok 1 ∧
    submitting.reg 0x2111 1 = leNat flatTable ∧
    itemFails submitting { num := submitting.dev.host.nextNum, target := 1, kind := .view (tableOf (leNat flatTable)) } = none :=
  ⟨target_zero (by decide +kernel) (by decide +kernel), reg_setReg_same .., Laws.itemFails_none (by decide +kernel)
    (by decide +kernel) (by decide +kernel)
    (budgets_idle [1, 2] (by decide +kernel) (by decide +kernel) (by decide +kernel) (by decide +kernel))⟩

theorem test_raster_witness : targetCount State.reset (State.reset.reg 0x3800 6) = .ok 1 ∧
    rasterHere State.reset 0 0 0 0 = true ∧ anyBound State.reset = false ∧
    itemFails State.reset { num := 0, target := 1, kind := .raster 0 0 0 0 0 } = none :=
  ⟨target_zero (by decide +kernel) (by decide +kernel), by decide +kernel, by decide +kernel, Laws.itemFails_none (by decide +kernel)
    (by decide +kernel) (by decide +kernel)
    (budgets_idle [1, 2] (by decide +kernel) (by decide +kernel) (by decide +kernel) (by decide +kernel))⟩

theorem test_commit_witness : targetCount State.reset (State.reset.reg 0x3000 2) = .ok 1 ∧
    State.reset.dev.commitPending = none ∧ commitFails 1 State.reset = none := by
  exact ⟨target_zero (by decide +kernel) (by decide +kernel), rfl,
    commitFails_none [1, 2] (by decide +kernel) (by decide +kernel) (by decide +kernel) (by decide +kernel)
      (by decide +kernel)⟩

theorem test_shadow_witness :
    (objHere State.reset 0x3800 1).map (fun r => (r.shadow, r.access, r.size)) = some (true, 1, 1) ∧
    ((objHere State.reset 0x3800 1).map fun r => valueAbort State.reset r 0x3800 1 (natLE 7 r.size)) = some 0 ∧
    (State.reset.setReg 0x3810 3 5).reg 0x3810 3 ≠ 0 := by decide +kernel

/-! ### ProtectedStoreCommands -/

/-- Slot 19 is valid, with block 0's descriptor in its copies; slot 3 loads; slot 4 is selected. -/
def protecting : State :=
  hbmWrite (protectedBase 19 + 0x10000) (descBytes 5 true 0xFFFF 2 0 (19 * 0x1000000 + 0x10000))
    ((withDev fun d =>
      { d with protectedDefs := [(19, { overlay := true })], protectedSlots := [(3, { state := 1 }), (19, { state := 2 })] }).setReg
      0x3180 1 4)

theorem test_protect_witness :
    slotInUse protecting 4 = false ∧ protecting.reg 0x3180 1 = 4 ∧ slotInUse (protecting.setReg 0x3180 1 3) 3 = true ∧ (protecting.setReg 0x3180 1 3).reg 0x3180 1 = 3 ∧
    (protecting.pslot 3).state = 1 ∧ (amGet protecting.dev.protectedDefs 19).isSome = true ∧
    (protectedCopy protecting 19 0 0).isSome = true := by decide +kernel

/-! ### TilePortCommands -/

/-- Port 7 links on lane 3; its neighbour is device 5 of wall 0. -/
def linking : State := withRegs [(0x4887, 1, 1), (0x4887, 2, 8), (0x4887, 9, 1), (0x4830, 1, 4095)]

theorem test_hello_witness :
    let b := block 0 (0x4B + 5 * 2 ^ 8 + 2 ^ 40)
    tileState linking 7 = 1 ∧ firstIntact helloGood (b + 1 + b * 2 ^ 64) = b ∧ helloGood b = true ∧ bits b 47 40 = 1 ∧
    bits b 19 8 ≠ wallId linking ∧ bits b 39 24 = linking.reg 0x4830 2 ∧ isPairing linking 7 = false := by decide +kernel

/-- R552: the neighbour's number is this device's, or its wall another. -/
theorem test_hello_classes :
    let own := block 0 (0x4B + 4095 * 2 ^ 8 + 2 ^ 40)
    let far := block 0 (0x4B + 4095 * 2 ^ 8 + 9 * 2 ^ 24 + 2 ^ 40)
    tileState (helloReceive 7 own linking) 7 = 4 ∧ tileState (helloReceive 7 far linking) 7 = 3 ∧
    tileState (helloReceive 7 (block 0 (0x4B + 2 ^ 40)) linking) 7 = 2 ∧
    (helloReceive 7 own linking).reg 0x4830 3 = 1 := by decide +kernel

theorem test_tile_locks_witness :
    let s := withRegs [(0x4887, 9, 1)]
    domainState s 31 = 2 ∧ tileState s 7 = 0 ∧ (s.tile 7).takenDown = false ∧ (s.reg 0x4887 2 = 0) ∧ (7 < nTiles s) := by decide +kernel

/-- 255 violations within the last second; a port that was taken down. -/
def violating : State := withDev fun d => { d with tiles := [(0, { violations := List.replicate 255 0 }), (7, { takenDown := true })] }

theorem test_tile_violation_witness :
    (within1s violating.now (violating.tile 0).violations).length + 1 = 256 ∧
    (within1s violating.now (violating.tile 3).violations).length + 1 < 256 ∧
    (violating.tile 7).takenDown = true ∧ tileState violating 7 = 0 := by decide +kernel

theorem test_tile_serdes_witness :
    ∀ t, t < 8 → (withRegs ((List.range 8).map fun t => (0x4880 + t, 9, 0))).reg (0x4880 + t) 9 = 0 := by decide +kernel

theorem test_tile_serdes_domain :
    domainState (withRegs ((List.range 8).map fun t => (0x4880 + t, 9, 0))) 31 ≠ 3 := by decide +kernel

/-! ### WallBlockCommands -/

/-- Ports 0 and 7 have neighbours, lane 0 of port 7 is locked; frame 3 began at 1,000 ps, and its MARKERs have passed on
port 7 as in the worked example of chapter 10. -/
def meeting : State :=
  { (withRegs [(0x4880, 1, 2), (0x4887, 1, 2), (0x4887, 2, 1), (0x4887, 3, 9), (0x4830, 1, 8)]) with
    dev := { (withRegs [(0x4880, 1, 2), (0x4887, 1, 2), (0x4887, 2, 1), (0x4887, 3, 9), (0x4830, 1, 8)]).dev with
      timing := { count := 3, calendsAt := 1000, started := true }
      tiles := [(7, { a1 := some (2200, 3), a4 := some (31100, 3) })] } }

/-- R554 worked: d is 25,000 ps and φ 3,000 ps. -/
theorem test_marker_witness :
    let b := block 9 (0x96 + 2100 * 2 ^ 8 + ofSigned 24 (-21100) * 2 ^ 24)
    tileJoined meeting 7 = true ∧ firstIntact (fun x => tileGood meeting 7 x 0x96 0 1) b = b ∧ tileGood meeting 7 b 0x96 0 1 = true ∧ frameNo meeting = 3 ∧
    bits b 47 24 ≠ 0x800000 ∧ hasBit (meeting.reg 0x4887 2) 0 = true ∧
    2 * (25000 : Int) = 31100 - 2200 - toSigned 24 (bits b 47 24) ∧
    (3000 : Int) = (31100 - 25000 - bits b 23 8) - (2200 - (2200 - 1000)) ∧
    (followReceive 7 b meeting).reg 0x4887 5 = 25000 ∧ (followReceive 7 b meeting).reg 0x4887 6 = 3000 := by decide +kernel

theorem test_marker_blocks_witness :
    tileGood meeting 7 (block 9 (0x87 + 99 * 2 ^ 8)) 0x87 47 46 = true ∧ strangeFrame meeting 99 31100 = true ∧
    strangeFrame meeting 3 31100 = false ∧
    firstIntact (fun x => tileGood meeting 7 x 0x87 47 46) (1 + block 9 (0x87 + 99 * 2 ^ 8) * 2 ^ 64) =
      block 9 (0x87 + 99 * 2 ^ 8) ∧
    firstIntact (fun x => tileGood meeting 7 x 0xA5 47 41) (block 9 (0xA5 + 4 * 2 ^ 8 + 2 ^ 40)) =
      block 9 (0xA5 + 4 * 2 ^ 8 + 2 ^ 40) ∧
    tileGood meeting 7 (block 9 (0xA5 + 4 * 2 ^ 8 + 2 ^ 40)) 0xA5 47 41 = true ∧
    ((2200 : Int) - 31100).natAbs < 2 ^ 23 := by decide +kernel

theorem test_safety_block_witness :
    let b := block 9 (0x99 + 2 * 2 ^ 8 + 4095 * 2 ^ 12 + 2 * 2 ^ 24)
    safetyGood meeting 7 b = true ∧ firstIntact (safetyGood meeting 7) b = b ∧ originates meeting = false ∧ safetyTarget meeting (bits b 39 24) = 2 ∧
    tileJoined meeting 0 = true ∧ meeting.dev.safety.origins.find? (fun o => o.id == bits b 23 12) = none := by decide +kernel

/-- This device originates a broadcast for SAFE_SHOW_N. -/
def broadcasting : State :=
  { meeting with dev := { meeting.dev with safety := { originating := true, origins := [⟨8, 1, 4, 3⟩] } } }

theorem test_broadcast_witness :
    let b := block 9 (0x99 + 8 * 2 ^ 12 + 2 * 2 ^ 24)
    safetyGood broadcasting 7 b = true ∧ firstIntact (safetyGood broadcasting 7) b = b ∧ bits b 23 12 = wallId broadcasting ∧
    originates broadcasting = true ∧
    broadcasting.dev.safety.origins.find? (fun o => o.id == wallId broadcasting) = some ⟨8, 1, 4, 3⟩ ∧
    meeting.dev.safety.originating = false ∧ wallId broadcasting ≠ 4095 := by decide +kernel

/-! ### NetworkPortCommands -/

theorem test_link_up_witness :
    let s := withRegs [(0x4801, 1, 1), (0x4801, 3, 1)]
    s.reg 0x4801 1 = 1 ∧ s.reg 0x4801 3 = 1 ∧ s.reg 0x4801 6 = 0 ∧ s.reg 0x4813 1 = 0 ∧
    (s.eth 1).try1G = !true ∧ entersStamp s 1 = true ∧ entersStamp s 3 = false := by decide +kernel

theorem test_ethernet_frames_witness :
    frameTaken State.reset .ptp none = true ∧ frameTaken State.reset .other none = false ∧
    8 * 1250 ≤ capLeft State.reset 1 ∧ capLeft State.reset 1 < 8 * 1251 ∧ (State.reset.eth 1).waiting = [] := by decide +kernel

/-- Port 1 has sent 10,000 bits in this millisecond, and 65,000 bytes wait; its stamp queue is full. -/
def crowded : State :=
  withDev fun d => { d with eth := [(1, { waiting := [{ size := 65000 }], sent := [(0, 10000)], stamps := List.replicate 32 7 })] }

theorem test_crowded_witness :
    drainFrames crowded.now crowded.ceilings.rec2.transmitCap (crowded.eth 1).waiting (sentLately crowded 1) =
      ([{ size := 65000 }], [(0, 10000)]) ∧ 65536 < [65000].foldl (· + ·) 0 + 537 ∧ (crowded.eth 1).stamps.length = 32 ∧
    (crowded.eth 0).stamps.length < 32 := by decide +kernel

/-! ### TimeSourceCommands -/

/-- Source A is active on port 0, source B valid on port 1; 70 s have passed, and port 1's violations stand at 1,000. -/
def timing : State :=
  let s := withRegs [(0x4800, 1, 1), (0x4800, 6, 4), (0x4801, 1, 1), (0x4801, 3, 1), (0x4801, 6, 4), (0x4802, 1, 0),
    (0x4802, 2, 1), (0x4821, 1, 2)]
  { s with
    now := 70000000000000
    dev := { s.dev with
      sources := [(0, { valid := true, offsets := [5], sync := some (3, 70000000000, 2) }), (1, { valid := true, former := true })]
      eth := [(0, { asked := [⟨1, 0, 4, 9⟩] }), (1, { asked := [⟨2, 0, 4, 70000000000⟩], violations := List.replicate 1000 69999999999999 })] } }

theorem test_sources_witness :
    timing.reg 0x4802 1 = 0 ∧ (timing.source 1).valid = true ∧ (timing.source 0).former = false ∧
    (timing.source 1).validSince + 64 * 10 ^ 12 ≤ timing.now ∧ frameLock timing = 2 ∧ timing.reg 0x6020 3 = 0 ∧
    sourceOf timing 1 0 0 = some 1 ∧ sourceOf timing 0 0 0 = some 0 ∧ 3 ≤ timing.reg 0x4800 6 := by decide +kernel

theorem test_violations_witness :
    (timing.eth 1).lockout = false ∧ (within1s timing.now (timing.eth 1).violations).length = 1000 ∧
    (within1s timing.now (timing.eth 0).violations).length < 1000 ∧ (timing.reg 0x4802 9 >>> 32) % 2 ^ 32 ≠ 0xFFFFFFFF := by
  decide +kernel

/-- A message of version 2.1 over IPv4 in domain 0, sequence number `q`. -/
def message (kind : PtpKind) (q : Nat) (t : Int) : PtpMsg := ⟨kind, 21, 0, 0, q, false, 7, true, t⟩

theorem test_sync_witness :
    unsupported (message .sync 3 0) = false ∧ unsupported { message .sync 3 0 with version := 10 } = true ∧
    (5 : Int) = (70000000005 : Int) + timing.reg 0x4800 8 - (localTime timing - phyLatency timing 0 0).fdiv 1000 ∧
    (timing.source 0).sync = some ((message .followUp 3 70000000003).seqId, 70000000000, 2) ∧
    (5 : Int) = (70000000003 + 2 : Int) + timing.reg 0x4800 8 - 70000000000 ∧ timing.reg 0x4800 9 ≠ 7 := by decide +kernel

theorem test_delay_witness :
    timing.reg 0x4800 4 = 0 ∧ askedAt timing 0 1 0 4 = some 9 ∧
    2 * ((0 : Nat) : Int) = ((timing.source 0).t2 - (timing.source 0).t1) + ((message .delayResp 4 9).t - 9) ∧
    (timing.setReg 0x4801 4 1).reg 0x4801 4 = 1 ∧ askedAt (timing.setReg 0x4801 4 1) 1 2 0 4 = some 70000000000 ∧
    2 * ((0 : Nat) : Int) =
      (receiveStamp (timing.setReg 0x4801 4 1) 1 - 70000000000) - (message .pdelayResp 4 0).t := by decide +kernel

/-! ### EpochAndRelockNeedFreeRun -/

theorem test_epoch_witness :
    frameLock State.reset = 0 ∧ time80Good (999999999 * 2 ^ 48 + 5) = true ∧ time80Good (1000000000 * 2 ^ 48) = false ∧
    frameLock (withRegs [(0x4821, 1, 3)]) ≠ 0 := by decide +kernel

theorem test_relock_witness :
    State.reset.dev.host.items = [] ∧ State.reset.dev.bandUpdates = [] ∧
    (withDev fun d => { d with commitPending := some 4 }).dev.commitPending ≠ none := by decide +kernel

/-! ### LinkTrainingCommands -/

/-- Link 255 in a training state, at 20 Gbit/s. -/
def training (st : Nat) (x : Link) : State :=
  let s := withRegs [(0x41FF, 1, st), (0x41FF, 2, 4), (0x4200, 2, 3)]
  { s with dev := { s.dev with links := [(255, x)] } }

theorem test_training_locks :
    linkState (training 1 {}) 255 = 1 ∧ ((training 1 { rx := { locked := true } }).link 255).upLock = true ∧
    hasBit ((training 1 {}).reg 0x41FF 0x0B) 1 = false ∧ ((training 7 {}).link 255).upLock = false := by decide +kernel

theorem test_training_blocks :
    trainUpGood (trainUp 2 true 40) = true ∧ bits (trainUp 2 true 40) 11 8 ≠ 15 ∧ hasBit (trainUp 2 true 40) 12 = true ∧
    (training 4 { swept := true, goodTrains := 15 }).reg 0x4200 2 ≤ bits (trainUp 4 true 40) 21 16 ∧
    resultGood (resultBlock 0) = true ∧ bits (resultBlock 0) 39 8 = 0 := by decide +kernel

theorem test_training_cap :
    let p0 := block 0 (0x4B + 1 * 2 ^ 16 + 15 * 2 ^ 24 + 7 * 2 ^ 32)
    let p1 := block 0 (0x4B + 1 * 2 ^ 8 + 9 * 2 ^ 16 + 5 * 2 ^ 32)
    capUpGood p1 = true ∧ bits p1 9 8 = 1 ∧ capPasses (training 3 { part0 := some p0 }) 255 p0 = true ∧
    linkState (capUpReceive 255 p1 (training 3 { part0 := some p0 })) 255 = 4 := by decide +kernel

/-- R890 worked: the highest margin, the lower-numbered preset on a tie. -/
theorem test_best_preset : bestPreset [3, 9, 2, 9, 1] = 1 := by decide

theorem test_training_ladder :
    linkState (trainTimer 255 (training 4 { attempts := 2 })) 255 = 1 ∧
    (trainTimer 255 (training 4 { attempts := 2 })).reg 0x41FF 2 = 1 ∧
    linkState (trainTimer 255 (training 3 { attempts := 2, ladder := 1 })) 255 = 7 ∧
    (trainTimer 255 (training 3 { attempts := 1 })).reg 0x41FF 2 = 4 ∧
    linkState (absentRetry 255 (training 7 {})) 255 = 1 := by decide +kernel

/-! ### LinkServiceCommands -/

/-- Port 127: both links ACTIVE; its lower link carries HALF at 20 Gbit/s, the upper is at 2.5 Gbit/s; port 3 was taken
down. -/
def serving : State :=
  let s := withRegs [(0x41FE, 1, 6), (0x41FE, 2, 4), (0x41FF, 1, 6), (0x41FF, 2, 1), (0x407F, 1, 1), (0x407F, 8, 5),
    (0x4200, 1, 4), (0x5090, 1, 3), (0x4200, 3, 1), (0x3801, 2, 55555556)]
  { s with
    now := 5
    dev := { s.dev with
      timing := { started := true, inHold := true }
      links := [(254, { seq := 9, rx := { locked := true } }), (255, { rx := { locked := true } })]
      ports := [(3, { takenDown := true }), (127, { item := 5, violations := List.replicate 255 1 })] } }

theorem test_status_witness :
    let b := statusBlock 254 true false false false true 33 8 0
    statusGood 254 b = true ∧ ((serving.link 254).lastSeq.any fun q => later 16 q (bits b 39 24)) = false ∧
    hasBit b 9 = false ∧ linkState serving (2 * (254 / 2) + 1) = 6 ∧
    linkState (statusReceive 254 b serving) 255 = 0 ∧ (statusReceive 254 b serving).reg 0x41FF 7 = 2 := by decide +kernel

theorem test_telem_witness :
    telemGood 254 (telemBlock 254 5 77) = true ∧ bits (telemBlock 254 5 77) 15 8 = (serving.port 127).item ∧
    telemGood 254 (telemBlock 254 6 77) = true ∧ bits (telemBlock 254 6 77) 15 8 ≠ (serving.port 127).item := by decide +kernel

theorem test_link_violation_witness :
    255 ≤ (within1s serving.now (serving.port (254 / 2)).violations).length ∧ (serving.port 127).takenDown = false ∧
    hbmTrained serving = true ∧ linkState serving (2 * (254 / 2) + 1) ≠ 7 ∧
    (within1s serving.now (serving.port 0).violations).length < 255 ∧
    linkState (upViolation 254 serving) 254 = 0 ∧ linkState (upViolation 254 serving) 255 = 0 := by decide +kernel

theorem test_link_service_witness :
    hasBit (serving.reg 0x407F 2) 0 = false ∧ carries serving 254 = true ∧ testAllowed serving 255 = true ∧
    (upAsleep serving 254 && upAsleep serving 255) = false ∧ linkState serving 6 = 0 ∧
    (serving.port 3).takenDown = true ∧ serving.reg 0x41FF 2 < targetSpeed serving ∧
    carries serving (mate 255) = true ∧ portMode serving (255 / 2) ≠ 0 ∧ maySleep serving 254 = true ∧
    linkState (testLoop 255 3 serving) 255 = 9 ∧ 3 * (nLinks serving / 4) + 62 = 254 := by decide +kernel

/-! ### DriverCommands -/

/-- Port 63's driver: the upper lane in service, the lower in CONFIRM; current limit 9 has come for the next calends. -/
def driving : State :=
  withDev fun d =>
    { d with drivers := [(63, { upper := { step := 0, rx := { locked := true }, link := 127, seq := some 65535 }
                                lower := { step := 5, rx := { locked := true }, link := 126, seq := some 4 }
                                commands := some [(1, 9), (3, 1)] })] }

/-- A PROXY packet of line 2 on link 127, all codes 5. -/
def drivingSol : Nat := solBlock 127 2 2 0
def drivingData : List Nat := dataBlocks (packetData 127 2 2 false drivingSol (List.replicate 60 5))

theorem test_driver_sol_witness :
    blockGood (laneOf driving 127).link drivingSol = true ∧ blockType drivingSol = 0x2D ∧ bits drivingSol 31 26 = 0 ∧ bits drivingSol 25 24 = 2 ∧
    bits drivingSol 23 8 = 2 ∧ bits drivingSol 47 32 = 0 ∧ seqPasses (laneOf driving 127) 0 = true ∧
    skipped (laneOf driving 127) 0 = 0 ∧ blockGood (laneOf driving 126).link drivingSol = false := by decide +kernel

theorem test_driver_data_witness :
    (packLE 8 drivingData).length = dataBytes false 2 ∧
    fieldLE (packLE 8 drivingData) (dataBytes false 2 - 4) 4 = crc32c (127 * 2 ^ 16 + 2)
      (slice (natLE drivingSol 8) 1 5 ++ (packLE 8 drivingData).take (dataBytes false 2 - 4)) := by decide +kernel

theorem test_driver_keep_witness :
    let b := keepBlock 126 0 5
    blockGood (laneOf driving 126).link b = true ∧ blockType b = 0x3C ∧ bits b 31 24 = 0 ∧ bits b 23 8 = 0 ∧
    bits b 47 32 = 5 ∧ seqPasses (laneOf driving 126) 5 = true ∧ skipped (laneOf driving 126) 5 = 0 ∧
    (laneOf driving 126).lock = true ∧ ((keepReceive 126 b driving).driver 63).current = 9 ∧
    ((keepReceive 126 b driving).driver 63).emit = true := by decide +kernel

theorem test_driver_frame_end_witness :
    let h := frameEndBlock 0 7 1 2
    blockGood (laneOf State.reset 0).link h = true ∧ blockType h = 0x55 ∧ bits h 47 46 = 0 ∧ bits h 43 40 = 1 ∧
    blockGood (laneOf State.reset 0).link (cmdBlock 0 1 77) = true ∧ blockType (cmdBlock 0 1 77) = 0x66 ∧
    (State.reset.driver 0).commands = none := by decide +kernel

theorem test_driver_training_witness :
    trainDownGood (trainDown 6 4) = true ∧ bits (trainDown 6 4) 11 8 = 6 ∧ trainDownGood (capBlock 126 4 true) = false ∧
    capGood (capBlock 126 4 true) = true ∧ (laneOf driving 126).step = 5 ∧ (laneOf driving 127).step = 0 ∧
    (driving.driver 63).telem = 1 ∧ (laneOf State.reset 9).lock = false ∧ (laneOf State.reset 9).step = 15 := by decide +kernel

theorem test_pattern_result_witness :
    let s := withRegs [(0x4109, 1, 9), (0x4109, 0x0C, 3)]
    s.reg 0x4109 1 = 9 ∧ s.reg 0x4109 0x0C = 3 := by decide +kernel

theorem test_reserved_telem_witness :
    8 < ((modDriver 0 (fun d => { d with telem := 9, lower := { d.lower with step := 0 } }) State.reset).driver 0).telem := by decide +kernel

/-- Lanes in STEP 3: one whose CAP_UP is due after this TRAIN, and one that has its CAP. -/
def exchanging : State :=
  withDev fun d => { d with drivers := [(2, { lower := { step := 3, trains := 3 }, upper := { step := 3, cap := true, trains := 3 } })] }

theorem test_cap_up_witness :
    (laneOf exchanging 4).step = 3 ∧ (laneOf exchanging 4).cap = false ∧ ((laneOf exchanging 4).trains + 1) % 4 = 0 ∧
    (laneOf exchanging 5).step = 3 ∧ (laneOf exchanging 5).cap = true := by decide

/-! ### LensDriveCommands -/

/-- A driven monostable layer: zone 6,012 has come to the end of its overdrive, zone 7 begins; 9 measurements were out of
range. -/
def lensDriving : State :=
  withDev fun d =>
    { d with lens := { bias := 1, outOfRange := [0, 0, 0, 0, 9], reports := [(5, true)]
                       transitions := [(7, { to2D := true }), (6012, { to2D := true, overdrive := some 0 })] } }

theorem test_lens_zone_witness :
    hasLens lensDriving = true ∧ (amGet lensDriving.dev.lens.transitions 6012).map (·.overdrive) = some (some 0) ∧
    (amGet lensDriving.dev.lens.transitions 7).map (·.overdrive) = some none ∧ zoneDead lensDriving 6012 = false ∧
    lensDriving.dev.lens.reports.find? (fun r => r.1 == 5) = some (5, true) ∧
    lensDriving.dev.bringup.inReset = false := by decide +kernel

/-- The levels at B1 of the worked example of chapter 9: V4 18.0 V and a = 6. -/
theorem test_lens_levels :
    biasLevels lensDriving = [3000, 6000, 12000, 15000, 18000] ∧ pumpFactor 18000 3300 = 7 ∧
    (([3000, 6000, 12000, 15000, 18000].zip (biasLevels lensDriving)).any fun x => outside3 x.1 x.2) = false ∧
    (([3000, 6000, 12000, 15000, 18541].zip (biasLevels lensDriving)).any fun x => outside3 x.1 x.2) = true ∧
    outside3 (nth [3000, 6000, 12000, 15000, 18541] 4) (nth (biasLevels lensDriving) 4) = true ∧
    9 ≤ nth lensDriving.dev.lens.outOfRange 4 := by
  decide +kernel

/-- A bistable layer whose rows are written, and the same in the last phase of common 23. -/
def lensStarting : State := withDev fun d => { d with lens := { bistable := true, phase := .starting, mask := 0x800001 } }
def lensPulsing (commons : List Nat) (repeats : Nat) : State :=
  withDev fun d => { d with lens := { bistable := true, bias := 1, phase := .pulsing, commons := commons, repeats := repeats } }

theorem test_lens_pulse_witness :
    lensStarting.dev.lens.bias < 2 ∧ commonList lensStarting.dev.lens.mask = [0, 23] ∧
    (biasStart 3300 lensStarting).dev.lens.phase = .pulsing ∧
    (pulseEnd (lensPulsing [0, 23] 1)).dev.lens.commons = [23] ∧ (pulseEnd (lensPulsing [23] 2)).dev.lens.repeats = 1 ∧
    (pulseEnd (lensPulsing [23] 1)).dev.lens.phase = .writingEnd := by decide +kernel

/-! ### LensFaultCommands -/

/-- COM23's integral stands at 4 times the limit; zone 0 is reported in 2D and committed 3D. -/
def unbalanced (bias retries : Nat) : State :=
  withDev fun d =>
    { d with lens := { bias := bias, retries := retries, integrals := [(535, -40000000)], reached := 1, hiZ := [511] }
             live := { objs := [(key 0x4410 1, 0)] }, bringup := { d.bringup with bringupMap := false } }

theorem test_dc_witness :
    hasLens (unbalanced 1 0) = true ∧ layerDriven (unbalanced 1 0) = true ∧
    2000 * (unbalanced 1 0).reg 0x4402 1 < (amGetD (unbalanced 1 0).dev.lens.integrals 535 0).natAbs ∧
    2000 * (4 * (unbalanced 1 0).reg 0x4402 1) ≤ (amGetD (unbalanced 1 0).dev.lens.integrals 535 0).natAbs := by decide +kernel

/-- R491 worked: one sample of V4 adds half of V4 for 1 us. -/
theorem test_dc_sample : amGetD (dcSample 535 18000 (unbalanced 1 0)).dev.lens.integrals 535 0 = -39982000 := by decide +kernel

theorem test_lens_restart_witness :
    (unbalanced 2 2).dev.lens.bias = 2 ∧ (unbalanced 2 2).dev.lens.retries < 3 ∧ 3 ≤ (unbalanced 2 3).dev.lens.retries := by
  decide +kernel

theorem wantedMap_zero {s : State} (h1 : s.dev.bringup.bringupMap = false) (h2 : s.dev.live.thermal = false)
    (h3 : s.com 0x4410 1 = 0) : wantedMap s = 0 := by
  unfold wantedMap
  rw [h1, if_neg (by decide)]
  unfold committedMap
  rw [h2, if_neg (by decide)]
  show s.com 0x4410 1 % 2 ^ 12288 = 0
  rw [h3, Nat.zero_mod]

theorem test_lens_restart_zones :
    zonesDiffering (unbalanced 2 2) (unbalanced 2 2).dev.lens.reached (wantedMap (unbalanced 2 2)) ≠ [] := by
  rw [wantedMap_zero (by decide +kernel) (by decide +kernel) (by decide +kernel)]
  refine List.ne_nil_of_mem (a := 0) (List.mem_filter.mpr ⟨?_, by decide +kernel⟩)
  unfold zonesHere
  rw [if_neg (by decide +kernel)]
  exact List.mem_filter.mpr ⟨List.mem_range.mpr (by decide), by decide +kernel⟩

theorem test_lens_faults_witness :
    (unbalanced 1 0).dev.lens.hiZ.contains 512 = false ∧ (unbalanced 1 0).dev.lens.phase ≠ .pulsing ∧
    (unbalanced 1 0).dev.bringup.v33Low = false ∧ (unbalanced 1 0).dev.eventBuffer.length < 4096 := by decide +kernel

/-! ### StoreCommands -/

/-- Record 600's selected value is copy A. -/
def selected : State :=
  { State.reset with nv := { records := [(600, { seq := 0xFFFFFFFF, payload := [1], inA := true })] } }

theorem test_record_witness :
    selected.nv.queue = [] ∧ selected.nv.writing = none ∧ recordType 600 ≠ 0 ∧ recordType 192 = 0 ∧
    (amGet selected.nv.records 600).map (fun v => (v.single, v.inA)) = some (false, true) ∧
    selected.nv.worn.contains 1624 = false ∧ amGet selected.nv.records 1023 = none := by decide +kernel

/-- R718 worked: the other copy, the next sequence; a record without a valid copy starts at copy A. -/
theorem test_record_write :
    (recordWrite 600 [2] selected).nv.writing.map (fun w => (w.page, fieldLE w.bytes 4 4)) = some (1624, 0) ∧
    (recordWrite 1023 [2] selected).nv.writing.map (fun w => (w.page, fieldLE w.bytes 4 4)) = some (1023, 1) := by
  decide +kernel

/-- The write of record 600 is under way. -/
def storing (attempts : Nat) : State :=
  { selected with nv := { selected.nv with writing := some { req := { target := .record 600, bytes := [2] }, page := 1624
                                                             bytes := recordPage 1624 0x40 1 0 [2], attempts := attempts } } }

theorem test_store_complete_witness :
    ((storing 1).nv.writing.map fun w => decide (w.bytes ≠ emptyPage)) = some true ∧ (storing 1).dev.delayed = [] ∧
    recordPayload (storeWriteComplete true (storing 1)) 600 = some [2] ∧
    ((storing 3).nv.writing.map (·.attempts)) = some 3 ∧
    (storeWriteComplete false (storing 3)).nv.worn = [1624] := by decide +kernel

theorem test_drive_reset_witness :
    State.reset.dev.delayed = [] ∧ hasLens State.reset = true ∧ (withDev fun d => { d with bringup := { d.bringup with v33Low := true } }).dev.bringup.v33Low = true ∧
    driveResetAllowed { State.reset with fuses := { state := .maker } } = true := by decide +kernel

theorem test_record_stopped_witness :
    let s : State := withRegs [(0x6020, 3, 1)]
    coresStopped { s with dev := { s.dev with bringup := { s.dev.bringup with firmwareRuns := true } } } = true ∧
    coresStopped selected = false := by decide +kernel

/-! ### SensorAndOctaveCommands -/

/-- TS51 works, TS27's checks have failed twice, TS3 is failed and has been good since time 0; 60 s have passed. -/
def sensing : State :=
  let s := withRegs [(0x5401, 4, 1)]
  { s with
    now := 60000000000000
    dev := { s.dev with thermal :=
      { s.dev.thermal with sensors := [(3, { goodSince := some 0 }), (27, { reading := 5000, crossFails := 2 })] } } }

theorem test_sensor_witness :
    sensorState sensing 51 = 0 ∧ (15001 : Int) = 15001 + sensorOffset sensing 51 ∧ sensorState sensing 27 = 0 ∧
    800 < ((sensing.sensor 27).reading - 4199).natAbs ∧ ((sensing.sensor 28).reading - 2500).natAbs ≤ 800 ∧
    (sensing.sensor 3).goodSince = some 0 ∧ sensorState sensing 3 = 1 ∧ 0 + 60 * 10 ^ 12 ≤ sensing.now := by decide +kernel

/-- A SERVICE overlay is in force. -/
def serviced (st : Nat) : State :=
  let s := withRegs [(0x5401, 52, st)]
  { s with dev := { s.dev with
    live := { mode := 1 }
    images := { loaded := some { overlays := [{ cls := 4 }] } } } }

theorem test_retire_witness :
    serviceInForce (serviced 1) = true ∧ sensorState (serviced 1) 51 = 1 ∧ sensorState (serviced 2) 51 = 2 ∧
    sensorState (retireSensor 51 (serviced 1)) 51 = 2 ∧ sensorState (restoreSensor 51 (serviced 2)) 51 = 1 := by decide +kernel

/-- The worked example of chapter 14: at 94.00 °C the advance target is 2, at 98.60 °C it is 5. -/
theorem test_octave_target : gUp 9200 150 9400 = 2 ∧ gUp 9200 150 9860 = 5 ∧ gUp 9200 150 9600 = 3 := by decide

/-- Every reading stands at 106 °C; the step is `k`. -/
def heated (k : Nat) (td : Int) : State :=
  let s := withRegs [(0x5410, 1, k)]
  { s with dev := { s.dev with thermal :=
    { s.dev.thermal with td := td, sensors := [(51, { hot := 3 })], clockPending := true } } }

theorem test_octave_witness :
    (hottest (heated 2 10600)).1 = 10600 ∧ 2 < gUp 9200 150 10600 ∧ gUp 9200 150 (9000 + 200) < 2 ∧
    (hottest (heated 2 9000)).1 = 9000 ∧ anySensorFailed (heated 2 9000) = false ∧ clustersOff (heated 2 9000) = false ∧
    toSigned 16 ((heated 2 9000).reg 0x5410 3) = 9200 ∧ (heated 2 9000).reg 0x5410 4 = 150 ∧
    gUp 9200 150 9400 ≤ 3 ∧ 3 ≤ gUp 9200 150 (9400 + 200) := by decide +kernel

theorem test_thermal_witness :
    (heated 2 10600).dev.thermal.fault = false ∧ 3 ≤ ((heated 2 10600).sensor 51).hot ∧
    (thermalEnter (heated 2 10600)).reg 0x5410 1 = 8 := by decide +kernel

/-! ### DomainAndStatisticsCommands -/

/-- PD24 and PD39 wake. -/
def waking : State := withRegs [(0x5430, 25, 1), (0x5430, 40, 1)]

theorem test_domain_witness :
    domainHere waking 24 = true ∧ domainState waking 24 = 1 ∧ domainHere waking 39 = true ∧ domainState waking 39 = 1 ∧
    clusterHere waking 99 = true ∧ 99 / 4 = 24 ∧ clusterFailed (domainTimeout 24 waking) 99 = true ∧
    domainState (domainTimeout 24 waking) 24 = 3 := by decide +kernel

theorem test_domain_idle_witness :
    clustersOff (withDev fun d => { d with live := { frozen := true } }) = true ∧ State.reset.dev.jobs = [] ∧
    domainState State.reset 25 ≠ 3 ∧
    (withDev fun d => { d with thermal := { d.thermal with changed := true } }).dev.thermal.changed = true := by decide +kernel

/-! ### MailboxServices -/

/-- Firmware runs in OPEN; a transfer of the view rows is open on the mailbox, with 2 of 3 bytes. -/
def asking (mail : HostIf → HostIf) : State :=
  let s := withDev fun d =>
    { d with bringup := { d.bringup with firmwareRuns := true }
             host := mail { d.host with
               mailTransfer := some { key := key 0x2111 1, typ := 13, total := 3, data := [1, 2], touched := 0 } } }
  { s with fuses := { s.fuses with state := .openState } }

/-- A request with nothing but its object, type and data. -/
def asked (index sub typ : Nat) (data : List Byte) : Request :=
  { reserved := 0, index := index, sub := sub, typ := typ, length := data.length, offset := 0, total := 0, data := data }

theorem test_mail_idle_witness : mailIdle (asking id) := by unfold mailIdle; decide +kernel

theorem test_mail_read_witness :
    let s := asking id
    (objHere s 0x1210 8).map (·.access) = some 4 ∧ mayRead s .mailbox 0x1210 8 = true ∧
    misused 1 (asked 0x1210 8 0 []) = false ∧ pageWait s 1 (asked 0x1210 8 0 []) = false ∧
    (objHere s 0x1210 8).map (fun w => valueSize s w 0x1210 8) = some 4 := by decide +kernel

theorem test_mail_write_witness :
    let s := asking id
    (objHere s 0x1210 2).map (fun w => mayWrite s .mailbox w 0x1210 2) = some true ∧
    (objHere s 0x1210 2).map (fun w => (w.typ, w.access)) = some (3, 1) ∧
    misused 2 (asked 0x1210 2 3 [40, 0]) = false ∧ leNat (asked 0x1210 2 3 [40, 0]).data = 40 ∧
    (serve 2 .mailbox (asked 0x1210 2 3 [40, 0]) s).reg 0x1210 2 = 40 ∧
    (serve 2 .mailbox (asked 0x1210 2 3 [40, 0]) s).dev.host.mailState = 2 := by decide +kernel

theorem test_mail_denied_witness :
    (objHere (asking id) 0x1103 1).map (fun w => mayWrite (asking id) .mailbox w 0x1103 1) = some false := by decide +kernel

theorem test_mail_fixed_witness :
    let s := asking id
    (objHere s 0x1000 2).map (fun w => (w.access, mayWrite s .mailbox w 0x1000 2)) = some (0, true) ∧
    (objHere s 0x6030 3).map (fun w => (w.access, mayWrite s .mailbox w 0x6030 3)) = some (3, true) := by decide +kernel

theorem test_mail_waits_witness :
    let s := asking id
    (objHere s 0x1120 2).map (fun w => mayWrite s .mailbox w 0x1120 2) = some true ∧
    (objHere s 0x1120 2).map (fun w => (writeWhole .mailbox w (asked 0x1120 2 3 [0xF4, 1]) [0xF4, 1]
      [(2, .mailbox, asked 0x1120 2 3 [0xF4, 1])] (hostHeard s)).1) = some none := by decide +kernel

theorem test_mail_segment_witness :
    let s := asking id
    let r := { asked 0x2111 1 13 [7] with offset := 2, total := 3 }
    (objHere s 0x2111 1).map (fun w => (w.typ, mayWrite s .mailbox w 0x2111 1)) = some (13, true) ∧
    misused 4 r = false ∧
    s.dev.host.mailTransfer = some { key := key 0x2111 1, typ := 13, total := 3, data := [1, 2], touched := 0 } ∧
    (objHere s 0x2111 1).map (fun w => (writeWhole .mailbox w r [1, 2, 7] [(4, .mailbox, r)]
      (modHost (fun h => { h with mailTransfer := none }) (hostHeard s))).1) = some (some abType) := by decide +kernel

theorem test_mail_next_witness :
    romServes (asking id) = false ∧ misused 6 (asked 0x1201 1 0 []) = false ∧
    ((objHere (asking id) 0x1201 2).isSome = true ∧ ∀ j m, (objHere (asking id) j m).isSome = true →
      (0x1201 < j ∨ (0x1201 = j ∧ 1 < m)) → 0x1201 < j ∨ (0x1201 = j ∧ 2 ≤ m)) :=
  ⟨by decide +kernel, by decide +kernel, by decide +kernel, fun j m _ h => by omega⟩

/-- No object lies above 0xFFFF. -/
theorem rowsNear_above (i : Nat) (h : 0x10000 ≤ i) : rowsNear i = [] := by
  unfold rowsNear; split <;> first | rfl | omega

theorem test_mail_next_end_witness :
    ∀ j m, (objHere (asking id) j m).isSome = true → j < 0x10000 ∨ (0x10000 = j ∧ m ≤ 0) := by
  intro j m h
  refine Or.inl (Nat.lt_of_not_le fun hj => ?_)
  simp [objHere, indexHere, objRow, rowsNear_above j hj] at h

theorem test_doorbell_witness :
    (asking fun h => { h with mailState := 1 }).dev.host.mailState = 1 ∧ served State.reset .mailbox = true ∧
    (mailRequest (asking fun h => { h with mailRequest := [(0, 1)] })).1 = 1 ∧
    (mailRequest (asking id)).1 = 0 ∧
    served { asking id with dev := State.reset.dev } .mailbox = false := by decide +kernel

theorem test_transfer_timeout_witness :
    let x : Session := { number := 9, slot := 1, port := 0, src := 5, key := []
                         transfer := some { key := 0, typ := 13, total := 9, data := [], touched := 0 } }
    let s := putSession 3 (some x) (asking id)
    ((amGet s.dev.ncp.sessions 3).join.bind (·.transfer)).isSome = true := by decide +kernel

/-! ### NcpSessions -/

/-- Firmware runs in OPEN; slot 1 holds a session key, place 3 a session, and a CHALLENGE is open. -/
def talking : State :=
  let key : List Byte := [1, 0x1F, 0] ++ List.replicate 49 7
  let x : Session := { number := 9, slot := 1, port := 0, src := 5, key := [7], responses := [(3, [1, 2])] }
  let s := withDev fun d =>
    { d with bringup := { d.bringup with firmwareRuns := true }
             ncp := { d.ncp with sessions := [(3, some x)], oldAddress := some [0x0A000001]
                                 challenges := [{ src := 5, slot := 1, nc := List.replicate 16 1, nd := List.replicate 16 2 }] } }
  { s with fuses := { s.fuses with state := .openState }
           nv := { s.nv with records := [(5, { seq := 1, payload := key, inA := true })] } }


/-- A frame head of source 5. -/
def headed (session seq txn : Nat) (tag : List Byte) : NcpHead :=
  { port := 0, src := 5, session := session, seq := seq, txn := txn, tag := tag }

theorem test_ncp_hello_witness :
    served talking (.ncp (headed 0 0 4 [])) = true ∧ 5 ∉ talking.dev.ncp.ignored ∧ allZero (headed 0 0 4 []).tag = true ∧
    (sessionKey talking 1).isSome = true ∧ sessionKey talking 2 = none ∧ (talking.eth 0).waiting = [] ∧
    8 * 84 ≤ capLeft talking 0 := by decide +kernel

theorem test_ncp_open_witness :
    sessionKey talking 1 = some (List.replicate 32 7) ∧ talking.dev.ncp.sessions.length ≤ 16 ∧
    ({ src := 5, slot := 1, nc := List.replicate 16 1, nd := List.replicate 16 2 } ∈ talking.dev.ncp.challenges) ∧
    ({ src := 5, slot := 1, nc := List.replicate 16 2, nd := List.replicate 16 2 } ∉ talking.dev.ncp.challenges) ∧
    freePlace talking = some 0 ∧
    freePlace (modNcp (fun n => { n with sessions := (List.range 16).map fun i =>
      (i, some { number := i + 1, slot := 1, port := 0, src := 5, key := [] }) }) talking) = none := by decide +kernel

theorem test_ncp_session_witness :
    (sessionAt talking 9).map (fun e => (e.1, sequenceGood e.2 1, e.2.responses)) = some (3, true, [(3, [1, 2])]) ∧
    sessionAt talking 8 = none ∧ owedNow talking = [] ∧ talking.dev.delayed = [] ∧
    ∃ h : NcpHead, h.src = 5 ∧ h.session = 9 ∧ h.seq = 1 ∧
      h.tag = hmac [7] (frameBody 7 h.session h.seq h.txn []) :=
  ⟨by decide +kernel, by decide +kernel, by decide +kernel, by decide +kernel,
    headed 9 1 3 (hmac [7] (frameBody 7 9 1 3 [])), by simp [headed]⟩

/-- The frame of a REQUEST with service 9. -/
def reservedBody : List Byte := frameBody 5 9 1 4 (9 :: List.replicate 15 0)

theorem test_ncp_malformed_witness :
    let bs := reservedBody ++ hmac [7] reservedBody
    bs.length = 64 ∧ fieldLE bs 14 2 + 48 = bs.length ∧ fieldLE bs 0 1 = 1 ∧ fieldLE bs 1 1 = 5 ∧ fieldLE bs 4 4 = 9 ∧
    slice bs (bs.length - 32) 32 = hmac [7] (bs.take (bs.length - 32)) ∧ fieldLE bs 8 4 = 1 ∧
    7 < fieldLE bs 16 1 := by decide +kernel

theorem test_ncp_idle_witness :
    (amGet talking.dev.ncp.sessions 3).join.isSome = true ∧ talking.dev.ncp.oldAddress ≠ none := by decide +kernel

/-! ### ImageAndModeCommands -/

/-- The smallest image: no overlay, no entry, unsigned (R795). -/
def smallBody : List Byte :=
  natLE 0x4D4F4C48 4 ++ [1, 0, 0, 0] ++ natLE 404 4 ++ natLE 7 4 ++ natLE (partCode State.reset) 4 ++
    List.replicate 12 0 ++ natLE 288 2 ++ List.replicate 254 0 ++ [0xFF] ++ List.replicate 111 0
def smallImage : List Byte := smallBody ++ natLE (crc32c (partCode State.reset) smallBody) 4

theorem smallBody_length : smallBody.length = 400 := by decide +kernel

theorem checked_tail {body : List Byte} {n : Nat} (fold : Nat) (h : body.length = n) :
    fieldLE (body ++ natLE (crc32c fold body) 4) n 4 = crc32c fold ((body ++ natLE (crc32c fold body) 4).take n) := by
  rw [fieldLE, slice, List.drop_left' h, List.take_left' h, List.take_of_length_le (by rw [length_natLE]),
    leNat_natLE, show (256 : Nat) ^ 4 = 2 ^ 32 from rfl, Nat.mod_eq_of_lt (crc32c_lt _ _)]

theorem smallImage_check :
    fieldLE smallImage 400 4 = crc32c (partCode State.reset) (smallImage.take 400) :=
  checked_tail _ smallBody_length

theorem test_image_witness :
    imageFails (withDev fun d => { d with images := { d.images with buffer := smallImage } }) true smallImage = none := by
  have h1 : headerImage smallImage = true := by decide +kernel
  have h2 : imageT smallImage = 404 := by decide +kernel
  have h2' : smallImage.length = 404 := by decide +kernel
  have h4 : fieldLE smallImage 16 4 = partCode State.reset := by decide +kernel
  have h5 : directoryGood smallImage = true := by decide +kernel
  have h6 : imageN smallImage = 0 := by decide +kernel
  have h7 : allEntries smallImage = [[]] := by decide +kernel
  have h9 : fieldLE smallImage 6 1 = 0 := by decide +kernel
  have hp : ∀ f, partCode (withDev f) = partCode State.reset := fun _ => rfl
  have hg : (gateOf (withDev fun d => { d with images := { d.images with buffer := smallImage } }) == .locked) = false := rfl
  unfold imageFails
  simp [h1, h2, h2', h4, h5, h6, h7, h9, hp, hg, smallImage_check, rising, rasterTaken]

theorem test_image_fails_witness :
    imageFails State.reset true [] = some 1 ∧ headerImage (smallImage ++ [0]) = true ∧
    imageT (smallImage ++ [0]) ≠ (smallImage ++ [0]).length := by decide +kernel

theorem test_cores_witness : coresStopped State.reset = false ∧
    coresStopped (((withDev fun d => { d with bringup := { d.bringup with firmwareRuns := true } })).setReg 0x6020 3 1) = true := by
  decide +kernel

theorem test_mode_refused_witness :
    (withRegs [(0x1410, 1, 3)]).reg 0x1410 1 % 16 = 3 ∧ overlayCount (switchImage (withRegs [(0x1410, 1, 3)]) false) < 3 :=
  by decide +kernel

theorem test_mode_submit_witness : targetCount State.reset (State.reset.reg 0x1410 2) = .ok 1 ∧
    switchFails State.reset { num := 0, target := 1, kind := .mode 0 false } 0 false = none :=
  ⟨target_zero (by decide +kernel) (by decide +kernel), Laws.switchFails_none (by decide +kernel) (by decide +kernel)
    (by decide +kernel) (by decide +kernel) (by decide +kernel) (by decide +kernel)
    (budgets_idle [1, 2] (by decide +kernel) (by decide +kernel) (by decide +kernel) (by decide +kernel))⟩

/-! ### LifeCycleAndCeilingCommands -/

/-- A part in a life-cycle state, with records: slot 1 holds a key with every right. -/
def living (st : LifeCycle) (records : AMap Selected) : State :=
  { State.reset with fuses := { State.reset.fuses with state := st }, nv := { records := records } }
def keyRecord : List Byte := [1, 0x1F, 0] ++ List.replicate 32 7 ++ List.replicate 17 0

theorem test_ceiling_witness :
    ceilingRange .transmitCap 999 = false ∧ gateOf (living .maker []) = .maker ∧ ceilingRange .dcBalance 100 = true ∧
    gateOf (living .locked []) = .locked ∧ (living .locked []).ceilings.rec2.field .radiance < 16384 ∧
    16383 ≤ (living .locked []).ceilings.rec2.field .radiance ∧ 16383 ≤ (intendedCeilings (living .locked []) 2).field .radiance ∧
    (living .openState []).ceilings.rec2.field .dcBalance < 20001 := by decide +kernel

theorem test_ceiling_refused_witness :
    let s : State := { living .openState [] with ceilings := { rec2 := { radiance := 99 } } }
    ceilingRange .radiance 100 = true ∧ s.ceilings.rec2.field .radiance < 100 := by decide +kernel

theorem test_key_witness :
    let s := living .openState [(5, { seq := 1, payload := keyRecord, inA := true }),
      (3, { seq := 1, payload := lifePayload .openState 2 false 0x1F, inA := true })]
    (objHere s 0x1101 2).map (fun w => mayWrite s .mailbox w 0x1101 2) = some true ∧
    (objHere s 0x1101 1).map (fun w => mayWrite s .mailbox w 0x1101 1) = some false ∧ keyRecord.length = 52 ∧
    keyAbort keyRecord = 0 ∧ keyAbort (List.replicate 52 0) = 0 ∧
    keysHeld (fun j => if j = 1 then keyRecord else (intendedPayload s (4 + j)).getD []) = true ∧
    keysHeld (fun j => if j = 1 then List.replicate 52 0 else (intendedPayload s (4 + j)).getD []) = false := by decide +kernel

theorem test_transition_witness :
    let s := living .openState [(3, { seq := 1, payload := lifePayload .openState 2 false 0x1F, inA := true })]
    s.dev.bringup.gate = none ∧ transitionAllowed s .mailbox .returned = true ∧
    transitionAllowed s .mailbox .locked = false ∧ s.fuses.state ≠ .locked := by decide +kernel

theorem test_transition_maker_witness :
    transitionAllowed (living .maker [(1, { seq := 1, payload := ceilingsPayload {}, inA := true }),
      (5, { seq := 1, payload := keyRecord, inA := true })]) .mailbox .openState = true ∧
    transitionAllowed ((living .blank [(4, { seq := 1, payload := keyRecord, inA := true })]).setReg 0x1104 1 5)
      .mailbox .maker = true := by decide +kernel

theorem test_erasure_complete_witness :
    let s := living .returned [(3, { seq := 1, payload := lifePayload .returned 3 true 7, inA := true })]
    erasurePending s = true ∧ s.dev.bringup.erasureLeft = [] ∧ erasurePending State.reset = false := by decide +kernel

theorem test_life_cores_witness :
    coresStopped (living .maker []) = false ∧ coresStopped (living .openState []) = false ∧
    coresStopped (((withDev fun d => { d with bringup := { d.bringup with firmwareRuns := true } })).setReg 0x6020 3 2) =
      true := by decide +kernel

/-! ### ManagementCommands -/

/-- A part in OPEN whose fused minimum is 4. -/
def booting : State :=
  { State.reset with fuses := { State.reset.fuses with state := .openState, minVersion := 4 } }

theorem test_boot_witness :
    romServes booting = false ∧ romServes State.reset = true ∧ booting.dev.bringup.firmwareRuns = false ∧
    booting.fuses.minVersion ≤ 5 ∧ (firmwareBoot (some 5) (some 5) booting).reg 0x6012 1 = 0 ∧
    (firmwareBoot (some 5) (some 6) booting).reg 0x6012 1 = 1 ∧
    (firmwareBoot (some 3) none booting).reg 0x6012 1 = 0xFF := by decide +kernel

theorem test_restarted_witness : (withRegs [(0x6020, 3, 2)]).reg 0x6020 3 = 2 := by decide +kernel

/-! ### BringupAndResetCommands -/

/-- The state after reset with another stage of power-up. -/
def poweringUp (f : Bringup → Bringup) : State := withDev fun d => { d with bringup := f d.bringup }

theorem test_rising_witness :
    (poweringUp fun b => { b with selecting := true }).dev.bringup.selecting = true ∧
    (poweringUp fun b => { b with inReset := true }).dev.bringup.inReset = true ∧
    (poweringUp fun b => { b with inReset := true }).dev.live.obj 0x3410 1 = 0 ∧
    (poweringUp fun b => { b with inReset := false, selecting := false }).dev.timing.started = false ∧
    (poweringUp fun b => { b with inReset := false, selecting := false }).dev.memory.releasedAt = none ∧
    readyNow State.reset = false := by decide +kernel

/-- Every port has a link that is ABSENT, the domains are awake and HBM is trained. -/
def readying : State :=
  withDev fun d =>
    { d with bringup := { d.bringup with inReset := false }, host := { d.host with retryStatus := false }
             od := (List.range 128).map (fun p => (key (0x4100 + 2 * p) 1, 7)) ++ [(key 0x5090 1, 2)] ++
               (List.range 25).map (fun i => (key 0x5430 (i + 1), 2)) }

theorem test_ready_witness : readyNow readying = true ∧ readying.dev.bringup.ready = false := by decide +kernel

/-! ### ProxyAndEventCommands -/

/-- A proxy image of one colour: its header and its data of zeros. -/
def proxyHead (data head : Nat) : List Byte :=
  natLE 0x59585250 4 ++ [1, 0] ++ natLE 640 2 ++ natLE 360 2 ++ natLE 1 2 ++ natLE 0 4 ++ natLE data 4 ++
    List.replicate 40 0 ++ natLE head 4
def proxyData : List Byte := List.replicate 231936 0
def proxyDataCheck : Nat := crc32c 0x00040040 proxyData
def proxyImage : List Byte :=
  proxyHead proxyDataCheck (crc32c 0x00040000 ((proxyHead proxyDataCheck 0).take 60)) ++ proxyData

theorem proxyHead_length (a b : Nat) : (proxyHead a b).length = 64 := by
  simp [proxyHead, length_natLE]

theorem proxyHead_field (a b off k : Nat) (d : List Byte) (h : off + k ≤ 64) :
    slice (proxyHead a b ++ d) off k = slice (proxyHead a b) off k := by
  rw [slice, slice, List.drop_append_of_le_length (by rw [proxyHead_length]; omega),
    List.take_append_of_le_length (by rw [List.length_drop, proxyHead_length]; omega)]

theorem proxyHead_data {n : Nat} (a b off k : Nat) (h : off + k ≤ n) :
    slice (proxyHead a b ++ List.replicate n 0) (64 + off) k = List.replicate k 0 := by
  have e : (proxyHead a b ++ List.replicate n 0).drop (64 + off) = List.replicate (n - off) 0 := by
    rw [← List.drop_drop, List.drop_left' (proxyHead_length a b), List.drop_replicate]
  have l : min k (n - off) = k := Nat.min_eq_left (by omega)
  rw [slice, e, List.take_replicate, l]

theorem proxyHead_fields (a b : Nat) :
    fieldLE (proxyHead a b) 0 4 = 0x59585250 ∧ fieldLE (proxyHead a b) 4 1 = 1 ∧ fieldLE (proxyHead a b) 5 1 = 0 ∧
    fieldLE (proxyHead a b) 6 2 = 640 ∧ fieldLE (proxyHead a b) 8 2 = 360 ∧ fieldLE (proxyHead a b) 10 2 = 1 ∧
    allZero (slice (proxyHead a b) 20 40) = true := by
  have h0 : slice (proxyHead a b) 0 4 = natLE 0x59585250 4 := rfl
  have h4 : slice (proxyHead a b) 4 1 = [1] := rfl
  have h5 : slice (proxyHead a b) 5 1 = [0] := rfl
  have h6 : slice (proxyHead a b) 6 2 = natLE 640 2 := rfl
  have h8 : slice (proxyHead a b) 8 2 = natLE 360 2 := rfl
  have h10 : slice (proxyHead a b) 10 2 = natLE 1 2 := rfl
  have h20 : slice (proxyHead a b) 20 40 = List.replicate 40 0 := rfl
  rw [fieldLE, fieldLE, fieldLE, fieldLE, fieldLE, fieldLE, h0, h4, h5, h6, h8, h10, h20]
  decide +kernel

theorem proxyHead_checks (a b : Nat) (ha : a < 2 ^ 32) (hb : b < 2 ^ 32) :
    fieldLE (proxyHead a b) 16 4 = a ∧ fieldLE (proxyHead a b) 60 4 = b := by
  have h1 : slice (proxyHead a b) 16 4 = natLE a 4 := rfl
  have h2 : slice (proxyHead a b) 60 4 = natLE b 4 := rfl
  rw [fieldLE, fieldLE, h1, h2, leNat_natLE, leNat_natLE]
  exact ⟨Nat.mod_eq_of_lt ha, Nat.mod_eq_of_lt hb⟩

theorem proxyHead_take (a b c : Nat) : (proxyHead a b).take 60 = (proxyHead a c).take 60 := rfl

theorem allZero_replicate (n : Nat) : allZero (List.replicate n 0) = true := by
  simp [allZero]

theorem below_replicate (n : Nat) : (List.replicate n (0 : Byte)).all (fun b => decide (b.toNat < 1)) = true := by
  simp

theorem good_of_head (d c n : Nat) (D : List Byte) (hn : n = 231936) (hD : D = List.replicate n 0)
    (hd : d = crc32c 0x00040040 D) (hc : c = crc32c 0x00040000 ((proxyHead d 0).take 60)) :
    proxyImageGood (proxyHead d c ++ D) = true ∧ fieldLE (proxyHead d c ++ D) 6 2 = 640 := by
  have f (off k : Nat) (h : off + k ≤ 64) : fieldLE (proxyHead d c ++ D) off k = fieldLE (proxyHead d c) off k := by
    rw [fieldLE, fieldLE, proxyHead_field _ _ _ _ _ h]
  obtain ⟨e0, e4, e5, e6, e8, e10, e20⟩ := proxyHead_fields d c
  obtain ⟨e16, e60⟩ := proxyHead_checks d c (hd ▸ crc32c_lt ..) (hc ▸ crc32c_lt ..)
  have e : (proxyHead d c ++ D).take 60 = (proxyHead d 0).take 60 := by
    rw [← proxyHead_take d c 0]
    exact List.take_append_of_le_length (by rw [proxyHead_length]; omega)
  have z : slice (proxyHead d c ++ D) 64 n = D := by
    rw [hD]; exact proxyHead_data d c 0 n (by omega)
  have z1 : slice (proxyHead d c ++ D) 70 1530 = List.replicate 1530 0 := by
    rw [hD]; exact proxyHead_data d c 6 1530 (by omega)
  have z2 : slice (proxyHead d c ++ D) 1600 230400 = List.replicate 230400 0 := by
    rw [hD]; exact proxyHead_data d c 1536 230400 (by omega)
  have e20' := proxyHead_field d c 20 40 D (by omega)
  rw [hn] at z
  refine ⟨?_, by rw [f 6 2 (by omega), e6]⟩
  unfold proxyImageGood
  dsimp only
  rw [f 0 4 (by omega), f 4 1 (by omega), f 5 1 (by omega), f 6 2 (by omega), f 8 2 (by omega), f 10 2 (by omega),
    f 16 4 (by omega), f 60 4 (by omega), e0, e4, e5, e6, e8, e10, e16, e60, e, e20', e20, ← hc, z, ← hd, z1, z2,
    allZero_replicate, below_replicate]
  simp

theorem test_proxy_witness :
    proxyImageGood proxyImage = true ∧ fieldLE proxyImage 6 2 = 640 ∧ State.reset.com 0x3800 2 ≠ 1 ∧
    proxyBusy State.reset = false ∧ padTo 232000 proxyImage = proxyImage :=
  ⟨(good_of_head _ _ _ _ rfl rfl rfl rfl).1, (good_of_head _ _ _ _ rfl rfl rfl rfl).2, by decide +kernel, by decide +kernel, by
    rw [padTo, proxyImage, List.length_append, proxyHead_length, proxyData, List.length_replicate]
    exact List.append_nil _⟩

theorem test_proxy_erase_witness :
    let s : State := { State.reset with nv := { pages := [(4100, [1])], queue := [] } }
    (amGet s.nv.pages (4096 + 4)).isSome = true ∧ proxyBusy s = false := by decide +kernel

theorem test_proxy_busy_witness :
    proxyBusy { State.reset with nv := { queue := [{ target := .page 4096, bytes := [], use := .proxy true }] } } = true := by
  decide +kernel

end Sys2Proof.Tests
end

section
/-!
PROOF. Every command of `exec` is one `runOn`: it is turned away when its operands name nothing, and takes its effect
only where the part has the unit (R1, R3, R4, R8; log 122).
-/
namespace Sys2Proof.Machine

/-- The outcome of `i` on `s` is that of `runOn`, gated by the presence of the unit the command acts on. -/
def RunsWherePresent (i : Instr) (s : State) : Prop := ∃ t, exec i s = runOn i (!unitAbsent s i) s t

/-- The gate of a command on no unit that a part may lack is open. -/
theorem runsWherePresent_of_run {i : Instr} {s t : State} (e : exec i s = run i t) (a : unitAbsent s i = false) :
    RunsWherePresent i s := ⟨t, by rw [e, a]; rfl⟩

/-- The gate of a command on one unit of those that a part has or lacks singly. -/
theorem runsWherePresent_of_here {i : Instr} {s t : State} {here : Bool} (e : exec i s = runOn i here s t)
    (a : unitAbsent s i = !here) : RunsWherePresent i s := ⟨t, by rw [e, a, Bool.not_not]⟩

/-- The gate of a command on unit `x` of `n` numbered ones. -/
theorem runsWherePresent_of_lt {i : Instr} {s t : State} {x n : Nat} (e : exec i s = runOn i (decide (x < n)) s t)
    (a : unitAbsent s i = decide (n ≤ x)) : RunsWherePresent i s :=
  runsWherePresent_of_here e (by rw [a, ← decide_not]; exact decide_eq_decide.mpr Nat.not_lt.symm)

theorem exec_runsWherePresent (i : Instr) (s : State) : RunsWherePresent i s := by
  cases i
  -- links
  case linkUnderrun | laneSleepEnter | laneWake | statusReceive | trainReceive | trainReqReceive | capUpReceive
      | testResultReceive | telemReceive | upstreamSleepReceive | upstreamViolation | upstreamLockGain
      | upstreamLockLoss | upstreamLaneLost | linkTransmitFault | trainingTimerExpiry | presetSweepStep
      | linkAbsentRetry | linkSpeedRaise | testLoopNear | testLoopFar | testLoopPattern | testLoopOff
      | driverSolReceive | driverKeepReceive | driverFrameEndReceive | driverDownstreamLockLoss | driverStatusSend
      | driverTelemSend | driverTrainReceive | driverPatternEnd | driverDownstreamLockGain | driverTrainSend
      | patternTestResultSend => exact runsWherePresent_of_lt rfl rfl
  -- ports
  case portBlindTimeout | portTakedownRetrain | driverPowerUp | driverLockLossTimeout =>
    exact runsWherePresent_of_lt rfl rfl
  -- tile ports
  case tilePortHello | helloSend | markerReceive | markerFollowSend | markerFollowReceive | eveBlockReceive
      | safetyReceive | tilePortViolation | tilePortLockTimeout | tilePortLockGain | tilePortLockLoss
      | tilePortTakeDownEnd => exact runsWherePresent_of_lt rfl rfl
  -- pseudo-channels, their lanes, and stacks
  case readDelayCheck | refreshDue | selfRefreshEntry | selfRefreshExitDone | hbmReadError | mirrorReadComplete
      | hbmCommandParityError | stackTemperatureRead | stackControlFailure => exact runsWherePresent_of_lt rfl rfl
  -- clusters
  case patchRequest | clusterFault | windowStoreEccError | clusterHeartbeatTimeout | redoQuarterComplete
      | spareFault => exact runsWherePresent_of_here rfl rfl
  -- the lens section
  case driveFrameBoundary | zoneTargetReached | zoneReportReceive | pulsePhaseEnd | biasSourceStart | biasMeasure
      | biasOvervoltageTrip | biasRetry | dcMonitorSample | forcedInversion | dcStop | layerRestart | outputFault
      | lensBandChange => exact runsWherePresent_of_here rfl rfl
  -- power domains
  case domainPowerGood | domainWakeTimeout => exact runsWherePresent_of_here rfl rfl
  -- what every part has
  all_goals exact runsWherePresent_of_run rfl rfl

/-- Settles O9: the gate of every command is one `runOn`, so its three cases are those of `runOn`. The refusal of
operands outside the manual's numbering and the absent unit's lack of effect are the model's reading (log 122). -/
theorem everyCommandCompletesOnPresentUnits : Obligations.EveryCommandCompletesOnPresentUnits := by
  intro i s
  obtain ⟨t, e⟩ := exec_runsWherePresent i s
  refine ⟨fun w => ?_, fun w absent => ?_, fun w => ?_⟩
  · exact e.trans (run_illFormed _ w)
  · rw [e, absent]
    exact runOn_absent s t w
  · exact ⟨_, e.trans (run_next _ w)⟩

end Sys2Proof.Machine
end

section
/-!
SUPPORT. A meaning that changes nothing under its scope, and the store's queue: what asking for a write leaves alone,
and that a write once asked for stays asked until the store completes it (R705, R709, R710).
-/
namespace Sys2Proof.Machine

/-! ### Meanings that change nothing -/

theorem within_self (ps : List DevPart) (d : Dev) : d.within ps d = d := by
  cases d; simp only [Dev.within, ite_self]

theorem onNv_of_fixed {ps : List DevPart} {f : State → State} {s : State} (h : f s = s) : onNv ps f s = s := by
  simp only [onNv, partsOf, h, within_self]

theorem onFuses_of_fixed {f : State → State} {s : State} (h : f s = s) : onFuses f s = s := by
  simp only [onFuses, h]

theorem answered_running {s : State} (f : State → State) (h : coresStopped s = false) : answered f s = f s := by
  simp [answered, h]

theorem answered_stopped {s : State} (f : State → State) (h : coresStopped s = true) : answered f s = s := by
  simp [answered, h]

theorem answered_of_fixed {s : State} {f : State → State} (h : f s = s) : answered f s = s := by
  simp [answered, h]

/-! ### What the store's operations leave alone -/

/-- `t` is `s` but for the dictionary's registers and the store. -/
def storeOnly (s t : State) : Prop := ∃ od nv, t = { s with dev := { s.dev with od := od }, nv := nv }

theorem storeOnly.refl (s : State) : storeOnly s s := ⟨_, _, rfl⟩

theorem storeOnly.trans {s t u : State} (h : storeOnly s t) (k : storeOnly t u) : storeOnly s u := by
  obtain ⟨_, _, rfl⟩ := h
  obtain ⟨_, _, rfl⟩ := k
  exact ⟨_, _, rfl⟩

theorem storeOnly_modNv (f : NvStore → NvStore) (s : State) : storeOnly s (modNv f s) := ⟨_, _, rfl⟩

/-- The store starts one of the requests that wait, when no write runs, or it does nothing (R705, R709). -/
theorem storeStart_cases (s : State) : storeStart s = s ∨ s.nv.writing = none ∧ ∃ r ∈ s.nv.queue, ∃ page bytes,
    storeStart s = (modNv (fun nv => { nv with
      queue := s.nv.queue.erase r
      writing := some { req := r, page := page, bytes := bytes } }) s).bumpSeq 0x5820 3 := by
  unfold storeStart
  split
  · exact .inl rfl
  · rename_i idle
    have hw : s.nv.writing = none := by
      simp only [Bool.or_eq_true, not_or, Bool.not_eq_true, Option.isSome_eq_false_iff,
        Option.isNone_iff_eq_none] at idle
      exact idle.1
    dsimp only
    split
    · rename_i r found
      exact .inr ⟨hw, r, List.mem_of_find?_eq_some found, _, _, rfl⟩
    · split
      · exact .inl rfl
      · rename_i r found
        exact .inr ⟨hw, r, List.mem_of_find?_eq_some found, _, _, rfl⟩

theorem storeOnly_storeStart (s : State) : storeOnly s (storeStart s) := by
  obtain h | ⟨_, r, _, page, bytes, h⟩ := storeStart_cases s
  · rw [h]; exact .refl s
  · rw [h]; exact ⟨_, _, rfl⟩

/-- The only register that the start of a write touches is its sequence counter 0x5820:03. -/
theorem reg_storeStart (s : State) (i j : Nat) (h : key 0x5820 3 ≠ key i j) : (storeStart s).reg i j = s.reg i j := by
  obtain e | ⟨_, r, _, page, bytes, e⟩ := storeStart_cases s
  · rw [e]
  · rw [e, reg_bumpSeq, if_neg h]; rfl

theorem storeOnly_writeRecord (r : Nat) (p : List Byte) (use : StoreUse) (s : State) :
    storeOnly s (writeRecord r p use s) := (storeOnly_modNv _ s).trans (storeOnly_storeStart _)

theorem storeOnly_oweRecord (r : Nat) (owed : Owed) (s : State) : storeOnly s (oweRecord r owed s) := by
  unfold oweRecord
  split <;> exact storeOnly_modNv _ s

/-! ### A write stays asked for -/

theorem storeAsked_storeStart {s : State} {target : StoreTarget} {bytes : List Byte} (h : storeAsked s target bytes) :
    storeAsked (storeStart s) target bytes := by
  obtain e | ⟨idle, r, _, page, image, e⟩ := storeStart_cases s
  · rwa [e]
  · rw [e]
    obtain ⟨q, ht, hb, place⟩ := h
    have queued : q ∈ s.nv.queue := place.resolve_right (by simp [idle])
    refine ⟨q, ht, hb, ?_⟩
    by_cases hq : q = r
    · exact .inr (by simp [hq])
    · exact .inl ((List.mem_erase_of_ne hq).mpr queued)

/-- The queue that a record's request leaves, before the store takes its next: one of that record with the payload of
the request, and every request of another target as before (R710). -/
theorem storeRequest_record {r : StoreReq} {n : Nat} (ht : r.target = .record n) (s : State) :
    ∃ queue, storeRequest r s = storeStart (modNv (fun nv => { nv with queue := queue }) s) ∧
      (∃ x ∈ queue, x.target = r.target ∧ x.bytes = r.bytes) ∧
      ∀ x ∈ s.nv.queue, x.target ≠ r.target → x ∈ queue := by
  refine ⟨_, rfl, ?_⟩
  rw [ht]
  dsimp only
  split
  · rename_i waits
    obtain ⟨x, hx, same⟩ := List.any_eq_true.mp waits
    refine ⟨⟨_, List.mem_map.mpr ⟨x, hx, if_pos same⟩, rfl, rfl⟩, fun y hy other => ?_⟩
    exact List.mem_map.mpr ⟨y, hy, if_neg (by simpa using other)⟩
  · exact ⟨⟨r, by simp, ht, rfl⟩, fun y hy _ => List.mem_append_left _ hy⟩

theorem storeAsked_writeRecord (r : Nat) (p : List Byte) (use : StoreUse) (s : State) :
    storeAsked (writeRecord r p use s) (.record r) p := by
  obtain ⟨queue, e, ⟨x, hx, ht, hb⟩, -⟩ := storeRequest_record (r := ⟨.record r, p, use, [], false⟩) rfl s
  rw [writeRecord, e]
  exact storeAsked_storeStart ⟨x, ht, hb, .inl hx⟩

/-- A write of another target is still asked for after one of record `r` (R710). -/
theorem storeAsked_writeRecord_other {r : Nat} {p : List Byte} {use : StoreUse} {s : State} {target : StoreTarget}
    {bytes : List Byte} (h : storeAsked s target bytes) (other : target ≠ .record r) :
    storeAsked (writeRecord r p use s) target bytes := by
  obtain ⟨queue, e, -, keeps⟩ := storeRequest_record (r := ⟨.record r, p, use, [], false⟩) rfl s
  rw [writeRecord, e]
  obtain ⟨q, ht, hb, place⟩ := h
  exact storeAsked_storeStart ⟨q, ht, hb, place.imp_left fun hq => keeps q hq (ht ▸ other)⟩

theorem oweRequest_target (r : Nat) (owed : Owed) (q : StoreReq) : (oweRequest r owed q).target = q.target := by
  unfold oweRequest; split <;> rfl

theorem oweRequest_bytes (r : Nat) (owed : Owed) (q : StoreReq) : (oweRequest r owed q).bytes = q.bytes := by
  unfold oweRequest; split <;> rfl

/-- Owing an answer to a write changes no write (R708). -/
theorem storeAsked_oweRecord {r : Nat} {owed : Owed} {s : State} {target : StoreTarget} {bytes : List Byte}
    (h : storeAsked s target bytes) : storeAsked (oweRecord r owed s) target bytes := by
  obtain ⟨q, ht, hb, place⟩ := h
  have ht' := (oweRequest_target r owed q).trans ht
  have hb' := (oweRequest_bytes r owed q).trans hb
  unfold oweRecord
  split
  · obtain queued | running := place
    · exact ⟨_, ht', hb', .inl (List.mem_map_of_mem queued)⟩
    · exact ⟨q, ht, hb, .inr running⟩
  · obtain queued | running := place
    · exact ⟨q, ht, hb, .inl queued⟩
    · refine ⟨_, ht', hb', .inr ?_⟩
      obtain ⟨w, hw, rfl⟩ := Option.map_eq_some_iff.mp running
      simp [hw]

end Sys2Proof.Machine
end

section
/-!
PROOF. Ceilings, keys, transitions and the end of an erasure: each function's answers, then the commands (R335, R820 to
R823, R830, R838; R60 while the management cores are stopped).
-/
namespace Sys2Proof.Machine

/-! ### Ceilings (R838) -/

section Ceilings
variable {s : State} {c : Ceiling} {v : Nat} {owed : Owed}

theorem ceilingWrite_refused (h : ceilingRange c v = false ∨ gateOf s = .blank ∨ gateOf s = .retired) :
    (ceilingWrite c v owed s).2 = s := by
  unfold ceilingWrite
  split
  · rfl
  · rename_i inRange
    obtain outside | blank | retired := h
    · simp [outside] at inRange
    · rw [blank]
    · rw [retired]

/-- In MAKER both CEILINGS records are asked for, and both writes stand at the end. -/
theorem ceilingWrite_maker (range : ceilingRange c v = true) (gate : gateOf s = .maker) :
    storeAsked (ceilingWrite c v owed s).2 (.record 1) (ceilingsPayload ((intendedCeilings s 1).set v c)) ∧
    storeAsked (ceilingWrite c v owed s).2 (.record 2) (ceilingsPayload ((intendedCeilings s 2).set v c)) := by
  simp only [ceilingWrite, range, gate, Bool.not_true, Bool.false_eq_true, if_false]
  refine ⟨storeAsked_oweRecord (storeAsked_writeRecord_other ?_ (by simp)),
    storeAsked_oweRecord (storeAsked_writeRecord ..)⟩
  exact storeAsked_oweRecord (storeAsked_writeRecord ..)

/-- The states in which a ceiling can only be lowered (R838). -/
theorem ceilingWrite_lowering (range : ceilingRange c v = true)
    (gate : gateOf s = .openState ∨ gateOf s = .locked ∨ gateOf s = .returned) :
    (ceilingWrite c v owed s).2 =
      if s.ceilings.rec2.field c < v ∨ (intendedCeilings s 2).field c < v then s
      else oweRecord 2 owed (writeRecord 2 (ceilingsPayload ((intendedCeilings s 2).set v c)) .ceilings s) := by
  obtain gate | gate | gate := gate <;>
    simp only [ceilingWrite, range, gate, Bool.not_true, Bool.false_eq_true, if_false] <;> split <;> rfl

/-- HARDWARE_CEILING_WRITE is the write of the radiance ceiling (R335). -/
theorem exec_ceiling {i : Instr} (h : i = .ceilingWrite c v ∨ (i = .hardwareCeilingWrite v ∧ c = .radiance)) :
    exec i s = .next (onNv [.od] (answered fun t => (ceilingWrite c v [] t).2) s) := by
  obtain rfl | ⟨rfl, rfl⟩ := h
  · exact exec_ceilingWrite ..
  · exact exec_hardwareCeilingWrite ..

end Ceilings

/-! ### Keys (R830) -/

/-- The payload of key slot `j` once slot `k` holds `p` and every write asked for has completed (R710). -/
def keyAfter (s : State) (k : Nat) (p : List Byte) (j : Nat) : List Byte :=
  if j = k then p else (intendedPayload s (4 + j)).getD []

theorem keyWrite_eq (k : Nat) (p : List Byte) (owed : Owed) (s : State) :
    keyWrite k p owed s =
      if (gateOf s == .openState || gateOf s == .locked) && !keysHeld (keyAfter s k p) then (some abInUse, s)
      else if keyAbort p ≠ 0 then (some (keyAbort p), s)
      else (none, oweRecord (4 + k) owed (writeRecord (4 + k) p (.key k) s)) := rfl

theorem keyWrite_lastKey {s : State} {k : Nat} {p : List Byte} {owed : Owed}
    (gate : gateOf s = .openState ∨ gateOf s = .locked) (lost : keysHeld (keyAfter s k p) = false) :
    (keyWrite k p owed s).2 = s := by
  rw [keyWrite_eq, if_pos (by simpa [lost] using gate)]

theorem keyWrite_accepted {s : State} {k : Nat} {p : List Byte} {owed : Owed} (form : keyAbort p = 0)
    (held : gateOf s = .openState ∨ gateOf s = .locked → keysHeld (keyAfter s k p) = true) :
    (keyWrite k p owed s).2 = oweRecord (4 + k) owed (writeRecord (4 + k) p (.key k) s) := by
  rw [keyWrite_eq, if_neg (by simpa using held), if_neg (by simp [form])]

theorem keyRequest_denied {s : State} {o : Origin} {k : Nat} {p : List Byte} {w : ObjRow}
    (row : objHere s 0x1101 (k + 1) = some w) (h : mayWrite s o w 0x1101 (k + 1) = false ∨ p.length ≠ 52) :
    keyRequest o k p s = s := by
  simp only [keyRequest, row]
  exact if_neg (by simpa [← Bool.not_eq_true, ← not_and_or] using h)

theorem keyRequest_allowed {s : State} {o : Origin} {k : Nat} {p : List Byte} {w : ObjRow}
    (row : objHere s 0x1101 (k + 1) = some w) (may : mayWrite s o w 0x1101 (k + 1) = true) (len : p.length = 52) :
    keyRequest o k p s = (keyWrite k p [] s).2 := by
  simp only [keyRequest, row]
  exact if_pos (by simp [may, len])

/-! ### Transitions (R820 to R822) -/

/-- The state with a transition fuse burned, whose gates are still those of the state before (R819 to R821). -/
def fuseBlown (target : LifeCycle) (s : State) : State :=
  modBringup (fun b => { b with gate := some s.fuses.state })
    { s with fuses := { s.fuses with
        state := target, used := s.fuses.used + 1
        digestFused := s.fuses.digestFused || s.fuses.state == .blank
        digest := if s.fuses.state = .blank then s.reg 0x1104 1 else s.fuses.digest } }

/-- The burned fuse is logged, before the store is asked for anything. -/
def fuseBurnt (target : LifeCycle) (s : State) : State :=
  logEvent 820 7 0x1100 1 (s.fuses.state.code + 256 * target.code) (fuseBlown target s)

/-- The burned fuse with CEILINGS record 2 asked for where the target opens the part (R820). -/
def ceilingsOpened (target : LifeCycle) (s : State) : State :=
  if target = .openState ∧ s.fuses.state ≠ .locked then oweRecord 2 [] (ceilingsEqual (fuseBurnt target s))
  else fuseBurnt target s

theorem burn_eq (target : LifeCycle) (owed : Owed) (s : State) :
    burn target owed s = oweRecord 3 owed (writeRecord 3
      (lifePayload target (ceilingsOpened target s).fuses.used (target == .returned || target == .retired)
        (((intendedPayload (ceilingsOpened target s) 3).map (fieldLE · 3 1)).getD 7))
      (.transition (target == .returned || target == .retired)) (ceilingsOpened target s)) := rfl

theorem storeOnly_ceilingsOpened (target : LifeCycle) (s : State) :
    storeOnly (fuseBurnt target s) (ceilingsOpened target s) := by
  unfold ceilingsOpened ceilingsEqual
  split
  · exact (storeOnly_writeRecord ..).trans (storeOnly_oweRecord ..)
  · exact .refl _

theorem storeOnly_burn (target : LifeCycle) (owed : Owed) (s : State) :
    storeOnly (fuseBurnt target s) (burn target owed s) := by
  rw [burn_eq]
  exact ((storeOnly_ceilingsOpened target s).trans (storeOnly_writeRecord ..)).trans (storeOnly_oweRecord ..)

theorem fuses_fuseBurnt (target : LifeCycle) (s : State) : (fuseBurnt target s).fuses = (fuseBlown target s).fuses :=
  logEvent_fuses ..

/-- The gates stay those of the state that the fuse left (R821). -/
theorem gateOf_fuseBurnt (target : LifeCycle) (s : State) : gateOf (fuseBurnt target s) = s.fuses.state := by
  obtain ⟨_, _, _, _, e⟩ := logEvent_eq 820 7 0x1100 1 (s.fuses.state.code + 256 * target.code) (fuseBlown target s)
  rw [fuseBurnt, e]; rfl

theorem intendedCeilings_congr {s t : State} (nv : t.nv = s.nv) (ceilings : t.ceilings = s.ceilings) (r : Nat) :
    intendedCeilings t r = intendedCeilings s r := by
  simp only [intendedCeilings, intendedPayload, recordPayload, nv, ceilings]

theorem intendedCeilings_fuseBurnt (target : LifeCycle) (s : State) (r : Nat) :
    intendedCeilings (fuseBurnt target s) r = intendedCeilings s r :=
  intendedCeilings_congr (logEvent_nv ..) (logEvent_ceilings ..) r

theorem eventLogged_fuseBurnt (target : LifeCycle) {s : State} (room : canLog s) :
    eventLogged 820 s (fuseBurnt target s) :=
  logEvent_logged 820 7 0x1100 1 _ (fuseBlown target s) room

theorem stateOfCode_code (target : LifeCycle) : stateOfCode target.code = some target := by cases target <;> rfl

theorem code_lt (target : LifeCycle) : target.code < 6 := by cases target <;> decide

theorem transition_code (o : Origin) (target : LifeCycle) (owed : Owed) (s : State) :
    (transition o (0x4C434600 + target.code) owed s).2 =
      if s.dev.bringup.gate.isSome || !transitionAllowed s o target then s else burn target owed s := by
  have lt := code_lt target
  simp only [transition]
  rw [if_neg (by omega), show (0x4C434600 + target.code) % 256 = target.code by omega, stateOfCode_code]
  dsimp only
  split <;> rfl

theorem stateOfCode_none {n : Nat} (h : 5 < n) : stateOfCode n = none := by
  obtain ⟨m, rfl⟩ := Nat.exists_eq_add_of_le' h
  rfl

theorem transition_refused {o : Origin} {v : Nat} {owed : Owed} {s : State}
    (h : v / 256 ≠ 0x4C4346 ∨ 5 < v % 256 ∨ s.dev.bringup.gate ≠ none) : (transition o v owed s).2 = s := by
  unfold transition
  split
  · rfl
  · rename_i confirmed
    obtain word | code | waiting := h
    · exact absurd word confirmed
    · rw [stateOfCode_none code]
    · cases stateOfCode (v % 256) with
      | none => rfl
      | some target =>
        dsimp only
        rw [if_pos (by simp [Option.isSome_iff_ne_none.mpr waiting])]

/-! ### The end of an erasure (R822, R823) -/

theorem erasureComplete_running {s : State} (h : erasurePending s = false ∨ s.dev.bringup.erasureLeft ≠ []) :
    erasureComplete s = s := by
  unfold erasureComplete
  exact if_pos (by simpa using h)

theorem erasureComplete_ended {s : State} (pending : erasurePending s = true) (left : s.dev.bringup.erasureLeft = []) :
    erasureComplete s =
      writeRecord 3 (lifePayload s.fuses.state s.fuses.used false 7) .erasureEnd (ceilingsEqual s) := by
  unfold erasureComplete
  exact if_neg (by simp [pending, left])

/-! ### The commands -/

/-- What holds of the store after a command's meaning holds after the command. -/
theorem storeAsked_onNv {ps : List DevPart} {f : State → State} {s : State} {target : StoreTarget} {bytes : List Byte}
    (h : storeAsked (f s) target bytes) : storeAsked (onNv ps f s) target bytes := h

theorem exec_ceiling_fixed {s : State} {c : Ceiling} {v : Nat} {i : Instr}
    (hi : i = .ceilingWrite c v ∨ (i = .hardwareCeilingWrite v ∧ c = .radiance))
    (h : (ceilingWrite c v [] s).2 = s) : exec i s = .next s := by
  rw [exec_ceiling hi, onNv_of_fixed (answered_of_fixed h)]

/-- A ceiling write that is answered asks the store for what its meaning asks, and no ceiling in force changes with
it (R838, R839). -/
theorem exec_ceiling_asks {s : State} {c : Ceiling} {v : Nat} {i : Instr}
    (hi : i = .ceilingWrite c v ∨ (i = .hardwareCeilingWrite v ∧ c = .radiance)) (running : coresStopped s = false) :
    ∃ u, exec i s = .next u ∧ u.ceilings = s.ceilings ∧
      ∀ target bytes, storeAsked (ceilingWrite c v [] s).2 target bytes → storeAsked u target bytes := by
  refine ⟨_, exec_ceiling hi, rfl, fun target bytes h => storeAsked_onNv ?_⟩
  rwa [answered_running _ running]

theorem exec_keyWrite_fixed {s : State} {o : Origin} {k : Nat} {p : List Byte} (hk : k < 8)
    (h : keyRequest o k p s = s) : exec (.keyWrite o k p) s = .next s := by
  rw [exec_keyWrite _ _ _ _ hk, onNv_of_fixed (answered_of_fixed h)]

theorem exec_keyWrite_asks {s : State} {o : Origin} {k : Nat} {p : List Byte} (hk : k < 8)
    (running : coresStopped s = false)
    (h : keyRequest o k p s = oweRecord (4 + k) [] (writeRecord (4 + k) p (.key k) s)) :
    ∃ u, exec (.keyWrite o k p) s = .next u ∧ storeAsked u (.record (4 + k)) p := by
  refine ⟨_, exec_keyWrite _ _ _ _ hk, storeAsked_onNv ?_⟩
  rw [answered_running _ running, h]
  exact storeAsked_oweRecord (storeAsked_writeRecord ..)

theorem exec_transition_fixed {s : State} {o : Origin} {v : Nat} (hv : v < 2 ^ 32)
    (h : (transition o v [] s).2 = s) : exec (.lifecycleTransition o v) s = .next s := by
  rw [exec_lifecycleTransition _ _ _ hv, onFuses_of_fixed (answered_of_fixed h)]

theorem confirmed_lt (target : LifeCycle) : 0x4C434600 + target.code < 2 ^ 32 := by
  have := code_lt target
  omega

/-- An accepted transition burns its fuse and asks for LIFECYCLE. -/
theorem exec_transition_burns {s : State} {o : Origin} {target : LifeCycle} (gate : s.dev.bringup.gate = none)
    (allowed : transitionAllowed s o target = true) (running : coresStopped s = false) :
    exec (.lifecycleTransition o (0x4C434600 + target.code)) s =
      .next (onFuses (fun t => burn target [] t) s) := by
  rw [exec_lifecycleTransition _ _ _ (confirmed_lt target)]
  simp only [onFuses, answered_running _ running, transition_code, gate, allowed]
  rfl

theorem storeAsked_burn_lifecycle (target : LifeCycle) (owed : Owed) (s : State) :
    ∃ rights, storeAsked (burn target owed s) (.record 3)
      (lifePayload target (s.fuses.used + 1) (target == .returned || target == .retired) rights) := by
  obtain ⟨_, _, e⟩ := storeOnly_ceilingsOpened target s
  have used : (ceilingsOpened target s).fuses.used = s.fuses.used + 1 := by
    rw [e]; exact congrArg Fuses.used (fuses_fuseBurnt target s)
  rw [burn_eq, used]
  exact ⟨_, storeAsked_oweRecord (storeAsked_writeRecord ..)⟩

/-- Entering OPEN from MAKER or RETURNED makes CEILINGS record 2 equal to record 1 (R820). -/
theorem storeAsked_burn_ceilings {target : LifeCycle} {owed : Owed} {s : State} (opens : target = .openState)
    (fresh : s.fuses.state ≠ .locked) :
    storeAsked (burn target owed s) (.record 2) (ceilingsPayload (intendedCeilings s 1)) := by
  rw [burn_eq, ← intendedCeilings_fuseBurnt target s 1]
  refine storeAsked_oweRecord (storeAsked_writeRecord_other ?_ (by simp))
  rw [ceilingsOpened, if_pos ⟨opens, fresh⟩]
  exact storeAsked_oweRecord (storeAsked_writeRecord ..)

/-- What a burned transition leaves outside the store: the fuses, the gates and the log (R819 to R821). -/
theorem burn_spec (target : LifeCycle) (owed : Owed) (s : State) :
    (burn target owed s).fuses = (fuseBlown target s).fuses ∧ gateOf (burn target owed s) = s.fuses.state ∧
    (canLog s → eventLogged 820 s (burn target owed s)) := by
  have gate := gateOf_fuseBurnt target s
  have logged := eventLogged_fuseBurnt target (s := s)
  have fuses := fuses_fuseBurnt target s
  obtain ⟨od, nv, e⟩ := storeOnly_burn target owed s
  rw [e]
  exact ⟨fuses, gate, logged⟩

theorem exec_answered_stopped {s : State} {o : Origin} {c : Ceiling} {k v : Nat} {p : List Byte} {i : Instr}
    (stopped : coresStopped s = true) (hk : k < 8) (hv : v < 2 ^ 32)
    (hi : i ∈ [.ceilingWrite c v, .hardwareCeilingWrite v, .keyWrite o k p, .lifecycleTransition o v]) :
    exec i s = .next s := by
  simp only [List.mem_cons, List.not_mem_nil, or_false] at hi
  obtain rfl | rfl | rfl | rfl := hi
  · rw [exec_ceilingWrite, onNv_of_fixed (answered_stopped _ stopped)]
  · rw [exec_hardwareCeilingWrite, onNv_of_fixed (answered_stopped _ stopped)]
  · rw [exec_keyWrite _ _ _ _ hk, onNv_of_fixed (answered_stopped _ stopped)]
  · rw [exec_lifecycleTransition _ _ _ hv, onFuses_of_fixed (answered_stopped _ stopped)]

/-- Settles O57: each command is its meaning under its scope, and what is asked of the store stays asked. The payloads
start from the writes that wait (log 116) and the record layouts are the model's (log 9). -/
theorem lifeCycleAndCeilingCommands : Obligations.LifeCycleAndCeilingCommands := by
  unfold Obligations.LifeCycleAndCeilingCommands
  refine ⟨?ceilings, ?keys, ?transitions, fun s o v hv h => exec_transition_fixed hv (transition_refused h),
    fun s o c k v p i stopped hk hv hi => exec_answered_stopped stopped hk hv hi, ?erasure⟩
  case ceilings =>
    intro s c v i hi
    refine ⟨fun h => exec_ceiling_fixed hi (ceilingWrite_refused h), fun range running gate => ?_,
      fun range gate => ⟨fun raised => ?_, fun running low lowNext => ?_⟩⟩
    · obtain ⟨u, e, same, asks⟩ := exec_ceiling_asks hi running
      obtain ⟨one, two⟩ := ceilingWrite_maker range gate
      exact ⟨u, e, same, asks _ _ one, asks _ _ two⟩
    · exact exec_ceiling_fixed hi (by rw [ceilingWrite_lowering range gate, if_pos (.inl raised)])
    · obtain ⟨u, e, same, asks⟩ := exec_ceiling_asks hi running
      refine ⟨u, e, same, asks _ _ ?_⟩
      rw [ceilingWrite_lowering range gate, if_neg (by omega)]
      exact storeAsked_oweRecord (storeAsked_writeRecord ..)
  case keys =>
    intro s o k p w hk row
    refine ⟨fun h => exec_keyWrite_fixed hk (keyRequest_denied row h), fun may len => ?_⟩
    have allowed := keyRequest_allowed row may len
    exact ⟨fun gate lost => exec_keyWrite_fixed hk (allowed.trans (keyWrite_lastKey gate lost)),
      fun form running held => exec_keyWrite_asks hk running (allowed.trans (keyWrite_accepted form held))⟩
  case transitions =>
    intro s o target gate
    refine ⟨fun allowed running => ?_, fun denied => ?_⟩
    · obtain ⟨rights, life⟩ := storeAsked_burn_lifecycle target [] s
      obtain ⟨fuses, gates, logged⟩ := burn_spec target [] s
      refine ⟨_, rights, exec_transition_burns gate allowed running, congrArg Fuses.state fuses,
        congrArg Fuses.used fuses, gates, life, fun blank => ?_, storeAsked_burn_ceilings, logged⟩
      rw [onFuses_fuses, fuses]
      simp [fuseBlown, blank]
    · refine exec_transition_fixed (confirmed_lt target) ?_
      rw [transition_code, denied, Bool.not_false, Bool.or_true, if_pos rfl]
  case erasure =>
    intro s
    refine ⟨fun pending left => ⟨_, exec_erasureComplete s, ?_⟩, fun h => ?_⟩
    · have asked : storeAsked (ceilingsEqual s) (.record 2) (ceilingsPayload (intendedCeilings s 1)) :=
        storeAsked_writeRecord ..
      constructor <;> refine storeAsked_onNv ?_ <;> rw [erasureComplete_ended pending left]
      · exact storeAsked_writeRecord_other asked (by simp)
      · exact storeAsked_writeRecord ..
    · rw [exec_erasureComplete, onNv_of_fixed (erasureComplete_running h)]

end Sys2Proof.Machine
end

section
/-!
PROOF. The management domain: which slot the boot ROM runs, what a restart drops and what it leaves alone, and that the
servo's stop reaches time alone (R59, R836, R857 to R859, R864, R865).
-/
namespace Sys2Proof.Machine

/-! ### Sessions (R786) -/

/-- `t` is `s` but for the sessions and the dictionary's registers, of which those of other indexes than 0x1210 are as
before. -/
def sessionsOnly (s t : State) : Prop :=
  (∃ od xs, t = { s with dev := { s.dev with od := od, ncp := { s.dev.ncp with sessions := xs } } }) ∧
    ∀ x y, x ≠ 0x1210 → y < 256 → t.reg x y = s.reg x y

theorem sessionsOnly.refl (s : State) : sessionsOnly s s := ⟨⟨_, _, rfl⟩, fun _ _ _ _ => rfl⟩

theorem sessionsOnly.trans {s t u : State} (h : sessionsOnly s t) (k : sessionsOnly t u) : sessionsOnly s u := by
  obtain ⟨⟨_, _, rfl⟩, hr⟩ := h
  obtain ⟨⟨_, _, rfl⟩, kr⟩ := k
  exact ⟨⟨_, _, rfl⟩, fun x y hx hy => (kr x y hx hy).trans (hr x y hx hy)⟩

theorem sessionsOnly_putSession (i : Nat) (x : Option Session) (s : State) : sessionsOnly s (putSession i x s) := by
  refine ⟨⟨_, _, rfl⟩, fun a b ha hb => ?_⟩
  unfold putSession
  dsimp only
  rw [reg_setReg, if_neg fun e => ha (key_inj (by decide) hb e).1.symm]
  rfl

@[simp] theorem sessions_putSession (i : Nat) (x : Option Session) (s : State) :
    (putSession i x s).dev.ncp.sessions = amPut s.dev.ncp.sessions i x := rfl

/-- The round of `closeSessions` for one place and what it holds. -/
def closePlace (f : Session → Bool) (e : Nat × Option Session) (s : State) : State :=
  match e.2 with
  | some x => if f x then putSession e.1 none s else s
  | none => s

theorem closeSessions_eq (f : Session → Bool) (s : State) :
    closeSessions f s = s.each s.dev.ncp.sessions (closePlace f) := rfl

theorem sessionsOnly_closeSessions (f : Session → Bool) (s : State) : sessionsOnly s (closeSessions f s) := by
  rw [closeSessions_eq]
  refine each_invariant (sessionsOnly s) _ (fun e t h => ?_) _ _ (.refl s)
  unfold closePlace
  split
  · split
    · exact h.trans (sessionsOnly_putSession ..)
    · exact h
  · exact h

theorem mem_of_amGet {α : Type} {m : AMap α} {i : Nat} {v : α} (h : amGet m i = some v) : (i, v) ∈ m := by
  induction m with
  | nil => simp [amGet] at h
  | cons e m ih =>
    simp only [amGet] at h
    split at h
    · rename_i here
      cases h
      exact here ▸ List.mem_cons_self
    · exact List.mem_cons_of_mem _ (ih h)

/-- Closing every place listed leaves no session at a place whose session is among them. -/
theorem each_closePlace (xs : AMap (Option Session)) (s : State) (i : Nat)
    (listed : ∀ x, amGet s.dev.ncp.sessions i = some (some x) → (i, some x) ∈ xs) :
    (amGet (s.each xs (closePlace fun _ => true)).dev.ncp.sessions i).join = none := by
  unfold State.each
  induction xs generalizing s with
  | nil =>
    refine Option.eq_none_iff_forall_ne_some.mpr fun x hx => ?_
    exact absurd (listed x (Option.join_eq_some_iff.mp hx)) List.not_mem_nil
  | cons e xs ih =>
    obtain ⟨j, o⟩ := e
    refine ih _ fun x hx => ?_
    cases o with
    | none => exact (List.mem_cons.mp (listed x hx)).resolve_left (by simp)
    | some y =>
      simp only [closePlace, if_true, sessions_putSession, amGet_amPut] at hx
      split at hx
      · cases hx
      · rename_i other
        exact (List.mem_cons.mp (listed x hx)).resolve_left fun e => other (congrArg Prod.fst e).symm

/-- Every session is closed. -/
theorem closeSessions_all (s : State) (i : Nat) :
    (amGet (closeSessions (fun _ => true) s).dev.ncp.sessions i).join = none :=
  each_closePlace s.dev.ncp.sessions s i fun _ h => mem_of_amGet h

/-! ### The servo stops (R527, R865) -/

/-- `t` is `s` but for time, its sources, the log and the registers, of which those of indexes above 0x6000 are as
before. -/
def timeOnly (s t : State) : Prop :=
  (∃ od timing clock sources events buffer messages, t =
    { s with dev := { s.dev with od := od, timing := timing, clock := clock, sources := sources, events := events,
                                 eventBuffer := buffer, eventMessages := messages } }) ∧
    ∀ x y, 0x6000 < x → y < 256 → t.reg x y = s.reg x y

theorem timeOnly.refl (s : State) : timeOnly s s := ⟨⟨_, _, _, _, _, _, _, rfl⟩, fun _ _ _ _ => rfl⟩

theorem timeOnly.trans {s t u : State} (h : timeOnly s t) (k : timeOnly t u) : timeOnly s u := by
  obtain ⟨⟨_, _, _, _, _, _, _, rfl⟩, hr⟩ := h
  obtain ⟨⟨_, _, _, _, _, _, _, rfl⟩, kr⟩ := k
  exact ⟨⟨_, _, _, _, _, _, _, rfl⟩, fun x y hx hy => (kr x y hx hy).trans (hr x y hx hy)⟩

theorem timeOnly_setReg {i j : Nat} (v : Nat) (s : State) (hi : i ≤ 0x6000) (hj : j < 256) :
    timeOnly s (s.setReg i j v) := by
  refine ⟨⟨_, _, _, _, _, _, _, rfl⟩, fun x y hx hy => ?_⟩
  rw [reg_setReg, if_neg fun e => ?_]
  have := (key_inj hj hy e).1
  omega

theorem timeOnly_modSource (c : Nat) (f : Source → Source) (s : State) : timeOnly s (modSource c f s) :=
  ⟨⟨_, _, _, _, _, _, _, rfl⟩, fun _ _ _ _ => rfl⟩

theorem timeOnly_modTiming (f : Timing → Timing) (s : State) : timeOnly s (modTiming f s) :=
  ⟨⟨_, _, _, _, _, _, _, rfl⟩, fun _ _ _ _ => rfl⟩

theorem timeOnly_modClock (f : Clock → Clock) (s : State) :
    timeOnly s (s.modDev fun d => { d with clock := f d.clock }) :=
  ⟨⟨_, _, _, _, _, _, _, rfl⟩, fun _ _ _ _ => rfl⟩

theorem timeOnly_logEvent (r c i j d : Nat) (s : State) : timeOnly s (logEvent r c i j d s) := by
  obtain ⟨od, events, buffer, messages, e⟩ := logEvent_eq r c i j d s
  exact ⟨⟨od, _, _, _, events, buffer, messages, e⟩, fun x y hx hy => reg_logEvent_index r c i j d s (by omega) hy⟩

theorem timeOnly_iff (c : Bool) {f : State → State} {s : State} (h : timeOnly s (f s)) : timeOnly s (s.iff c f) := by
  cases c
  · exact .refl s
  · exact h

theorem timeOnly_synchronise {c : Nat} (s : State) : timeOnly s (synchronise c s) := by
  have locked := (timeOnly_setReg c s (i := 0x4802) (j := 1) (by decide) (by decide)).trans
    (timeOnly_setReg 1 _ (i := 0x4802) (j := 2) (by decide) (by decide))
  unfold synchronise
  dsimp only
  split
  · exact (locked.trans (timeOnly_setReg 1 _ (by decide) (by decide))).trans (timeOnly_modTiming ..)
  · exact locked

theorem timeOnly_enterHoldover (s : State) : timeOnly s (enterHoldover s) := by
  have unsourced := timeOnly_setReg 2 s (i := 0x4802) (j := 1) (by decide) (by decide)
  have held := unsourced.trans (timeOnly_iff (s.reg 0x4802 2 == 1)
    (timeOnly_setReg 2 (s.setReg 0x4802 1 2) (i := 0x4802) (j := 2) (by decide) (by decide)))
  unfold enterHoldover
  dsimp only
  split
  · exact held.trans (timeOnly_setReg (i := 0x4821) (j := 1) 3 _ (by decide) (by decide))
  · exact held

theorem timeOnly_switchTo (c : Nat) (s : State) : timeOnly s (switchTo c s) := by
  unfold switchTo
  dsimp only
  refine timeOnly.trans ?_ (timeOnly_logEvent ..)
  refine timeOnly.trans ?_ (timeOnly_synchronise _)
  refine timeOnly.trans ?_ (timeOnly_setReg _ _ (by decide) (by decide))
  refine timeOnly.trans ?_ (timeOnly_setReg _ _ (by decide) (by decide))
  refine timeOnly.trans ?_ (timeOnly_modClock (fun k => { k.rebase _ with decayAt := _ }) _)
  exact (timeOnly_modSource ..).trans (timeOnly_modSource ..)

theorem timeOnly_servoStop (s : State) : timeOnly s (servoStop s) := by
  have lost (c : Nat) (hc : c < 2) (t : State) : timeOnly t ((modSource c (fun x =>
      { x with valid := false, offsets := [], jumps := 0 }) t).iff
        ((modSource c (fun x => { x with valid := false, offsets := [], jumps := 0 }) t).reg (0x4800 + c) 6 == 4)
        (·.setReg (0x4800 + c) 6 3)) :=
    (timeOnly_modSource ..).trans (timeOnly_iff _ (timeOnly_setReg _ _ (by omega) (by decide)))
  have both := (lost 0 (by decide) s).trans (lost 1 (by decide) _)
  unfold servoStop sourcesLost
  dsimp only [State.each, List.foldl]
  split
  · split
    · exact both.trans (timeOnly_switchTo ..)
    · exact both.trans (timeOnly_enterHoldover _)
  · exact both

/-! ### Which slot runs (R836, R857) -/

theorem bootSlot_none {n : Nat} {a b : Option Nat} (ha : ∀ x ∈ a, x < n) (hb : ∀ x ∈ b, x < n) :
    bootSlot n a b = none := by
  have out {o : Option Nat} (h : ∀ x ∈ o, x < n) : o.filter (decide <| n ≤ ·) = none :=
    Option.filter_eq_none_iff.mpr fun x hx => by simpa using h x hx
  rw [bootSlot, out ha, out hb]

/-- Slot 0 runs when slot 1 fails or holds no higher version (R836). -/
theorem bootSlot_first {n v : Nat} {b : Option Nat} (pass : n ≤ v) (hb : ∀ x ∈ b, x ≤ v ∨ x < n) :
    bootSlot n (some v) b = some (0, v) := by
  have ha : (some v).filter (decide <| n ≤ ·) = some v := by simp [pass]
  rw [bootSlot, ha]
  cases h : b.filter (decide <| n ≤ ·) with
  | none => rfl
  | some w =>
    obtain ⟨hw, passes⟩ := Option.filter_eq_some_iff.mp h
    have := hb w hw
    have := of_decide_eq_true passes
    exact if_neg (by omega)

/-- Slot 1 runs when slot 0 fails or holds a lower version (R836). -/
theorem bootSlot_second {n v : Nat} {a : Option Nat} (pass : n ≤ v) (ha : ∀ x ∈ a, x < v ∨ x < n) :
    bootSlot n a (some v) = some (1, v) := by
  have hb : (some v).filter (decide <| n ≤ ·) = some v := by simp [pass]
  rw [bootSlot, hb]
  cases h : a.filter (decide <| n ≤ ·) with
  | none => rfl
  | some w =>
    obtain ⟨hw, passes⟩ := Option.filter_eq_some_iff.mp h
    have := ha w hw
    have := of_decide_eq_true passes
    exact if_pos (by omega)

/-- The running slot holds the higher version of at least the minimum, slot 0 when equal. -/
theorem bootSlot_highest {n slot v : Nat} {a b : Option Nat} (pass : n ≤ v)
    (h : (slot = 0 ∧ a = some v ∧ ∀ x ∈ b, x ≤ v ∨ x < n) ∨ (slot = 1 ∧ b = some v ∧ ∀ x ∈ a, x < v ∨ x < n)) :
    bootSlot n a b = some (slot, v) := by
  obtain ⟨rfl, rfl, hb⟩ | ⟨rfl, rfl, ha⟩ := h
  · exact bootSlot_first pass hb
  · exact bootSlot_second pass ha

/-- Firmware of a slot begins to run, before its start is logged (R857, R863). -/
def firmwareStarted (slot version : Nat) (s : State) : State :=
  modBringup (fun b => { b with firmwareRuns := true, runningVersion := version, refreshedAt := s.now })
    ((s.setReg 0x6012 1 slot).setReg 0x6020 3 0)

theorem reg_firmwareStarted (slot version : Nat) (s : State) (i j : Nat) :
    (firmwareStarted slot version s).reg i j =
      if key 0x6020 3 = key i j then 0 else if key 0x6012 1 = key i j then slot else s.reg i j := by
  rw [firmwareStarted, modBringup_reg, reg_setReg, reg_setReg]

section Boot
variable {s : State} {a b : Option Nat}

/-- Neither running firmware nor a restart stands in the way. -/
theorem bootGuard_open (idle : s.dev.bringup.firmwareRuns = false ∨ s.reg 0x6020 3 = 2) :
    ¬(s.dev.bringup.firmwareRuns && s.reg 0x6020 3 != 2) = true := by
  obtain h | h := idle <;> simp [h]

theorem firmwareBoot_none (idle : s.dev.bringup.firmwareRuns = false ∨ s.reg 0x6020 3 = 2)
    (h : romServes s = true ∨ bootSlot s.fuses.minVersion a b = none) :
    firmwareBoot a b s = (modBringup (fun b => { b with firmwareRuns := false }) s).setReg 0x6012 1 0xFF := by
  have found : (if romServes s then none else bootSlot s.fuses.minVersion a b) = none := by
    obtain h | h := h <;> simp [h]
  rw [firmwareBoot, if_neg (bootGuard_open idle), found]

theorem firmwareBoot_some {slot v : Nat} (idle : s.dev.bringup.firmwareRuns = false ∨ s.reg 0x6020 3 = 2)
    (rom : romServes s = false) (h : bootSlot s.fuses.minVersion a b = some (slot, v)) :
    firmwareBoot a b s = storeStart (logEvent 857 0 0x6012 1 slot (firmwareStarted slot v s)) := by
  have found : (if romServes s then none else bootSlot s.fuses.minVersion a b) = some (slot, v) := by
    simp [rom, h]
  rw [firmwareBoot, if_neg (bootGuard_open idle), found]
  rfl

end Boot

/-- The start of firmware is logged wherever an event finds room (R857). -/
theorem eventLogged_firmwareStarted (slot v : Nat) {s : State} (room : canLog s) :
    eventLogged 857 s (logEvent 857 0 0x6012 1 slot (firmwareStarted slot v s)) := by
  have trained : hbmTrained (firmwareStarted slot v s) = hbmTrained s := by
    rw [hbmTrained, reg_firmwareStarted, if_neg (by decide), if_neg (by decide), hbmTrained]
  have next : (firmwareStarted slot v s).reg 0x6000 1 = s.reg 0x6000 1 := by
    rw [reg_firmwareStarted, if_neg (by decide), if_neg (by decide)]
  have room' : canLog (firmwareStarted slot v s) := by
    rw [canLog, trained]; exact room
  have logged := logEvent_logged 857 0 0x6012 1 slot _ room'
  rwa [eventLogged, next] at logged

/-- The log and the store's start leave what the start of firmware has set, and the event. -/
theorem storeStart_firmwareStarted (slot v : Nat) (s : State) :
    let u := storeStart (logEvent 857 0 0x6012 1 slot (firmwareStarted slot v s))
    u.dev.bringup = (firmwareStarted slot v s).dev.bringup ∧ u.reg 0x6012 1 = slot ∧ u.reg 0x6020 3 = 0 ∧
      (canLog s → eventLogged 857 s u) := by
  intro u
  have regs {i j : Nat} (hi : i ≠ 0x6000) (hj : j < 256) (other : key 0x5820 3 ≠ key i j) :
      u.reg i j = (firmwareStarted slot v s).reg i j := by
    rw [reg_storeStart _ _ _ other, reg_logEvent_index _ _ _ _ _ _ hi hj]
  have slotReg : u.reg 0x6012 1 = slot := by
    rw [regs (by decide) (by decide) (by decide), reg_firmwareStarted, if_neg (by decide), if_pos rfl]
  have stateReg : u.reg 0x6020 3 = 0 := by
    rw [regs (by decide) (by decide) (by decide), reg_firmwareStarted, if_pos rfl]
  have logged := eventLogged_firmwareStarted slot v (s := s)
  obtain ⟨_, _, e⟩ := storeOnly_storeStart (logEvent 857 0 0x6012 1 slot (firmwareStarted slot v s))
  obtain ⟨_, _, _, _, l⟩ := logEvent_eq 857 0 0x6012 1 slot (firmwareStarted slot v s)
  refine ⟨?_, slotReg, stateReg, fun room => ?_⟩
  · show (storeStart _).dev.bringup = _
    rw [e, l]
  · show eventLogged 857 s (storeStart _)
    rw [e]
    exact logged room

theorem eventLogged_onNv {ps : List DevPart} (events : .events ∈ ps) (buffer : .eventBuffer ∈ ps) {r : Nat}
    {f : State → State} {s : State} (h : eventLogged r s (f s)) : eventLogged r s (onNv ps f s) := by
  simpa only [eventLogged, onNv_dev, partsOf_events events, partsOf_eventBuffer buffer] using h

/-! ### The restart of the management domain (R859, R864) -/

/-- What a restart with a cause makes of `s`. -/
structure ManagementRestarted (cause : Nat) (s t : State) : Prop where
  sessions : ∀ i, (amGet t.dev.ncp.sessions i).join = none
  challenges : t.dev.ncp.challenges = []
  host : t.dev.host = { s.dev.host with mailState := 0, mailTransfer := none }
  delayed : t.dev.delayed = []
  queue : t.nv.queue = s.nv.queue.map fun q => { q with answers := [] }
  causeReg : t.reg 0x6010 2 = cause
  stateReg : t.reg 0x6020 3 = 2
  countReg : t.reg 0x6010 3 = (s.reg 0x6010 3 + 1) % 2 ^ 32

theorem ManagementRestarted.of_timeOnly {cause : Nat} {s t u : State} (h : ManagementRestarted cause s t)
    (k : timeOnly t u) : ManagementRestarted cause s u := by
  obtain ⟨⟨_, _, _, _, _, _, _, e⟩, regs⟩ := k
  refine ⟨?_, ?_, ?_, ?_, ?_, ?_, ?_, ?_⟩
  · rw [e]; exact h.sessions
  · rw [e]; exact h.challenges
  · rw [e]; exact h.host
  · rw [e]; exact h.delayed
  · rw [e]; exact h.queue
  · rw [regs _ _ (by decide) (by decide)]; exact h.causeReg
  · rw [regs _ _ (by decide) (by decide)]; exact h.stateReg
  · rw [regs _ _ (by decide) (by decide)]; exact h.countReg

theorem managementRestart_spec (cause : Nat) (s : State) :
    ManagementRestarted cause s (managementRestart cause s) := by
  unfold managementRestart
  dsimp only
  refine .of_timeOnly ?_ (timeOnly_servoStop _)
  have closed := closeSessions_all s
  obtain ⟨⟨od, xs, e⟩, regs⟩ := sessionsOnly_closeSessions (fun _ => true) s
  have count := regs 0x6010 3 (by decide) (by decide)
  rw [e] at closed count ⊢
  refine ⟨closed, rfl, rfl, rfl, rfl, ?_, reg_setReg_same .., ?_⟩
  · rw [reg_setReg, if_neg (by decide), reg_bump, if_neg (by decide), reg_bumpSeq, if_neg (by decide), reg_setReg_same]
  · rw [reg_setReg, if_neg (by decide), reg_bump, if_neg (by decide), reg_bumpSeq, if_pos rfl, reg_setReg,
      if_neg (by decide), ← count]
    rfl

theorem managementRestarted_waiting {s : State} (h : s.reg 0x6020 3 = 2) : managementRestarted s =
    storeStart (modBringup (fun b => { b with refreshedAt := s.now }) (s.setReg 0x6020 3 0)) := if_pos h

theorem managementRestarted_other {s : State} (h : s.reg 0x6020 3 ≠ 2) : managementRestarted s = s := if_neg h

/-! ### The commands -/

/-- Settles O58: the boot ROM's choice is `bootSlot`, the restart's drops stand before the servo's stop, which reaches
time alone, and the scopes leave the rest as it is. -/
theorem managementCommands : Obligations.ManagementCommands := by
  unfold Obligations.ManagementCommands
  refine ⟨?boot, ?restart, ?complete, ?stop⟩
  case boot =>
    intro s a b _ _ idle
    refine ⟨fun h => ⟨_, exec_firmwareBoot a b s, ?_⟩, fun slot v rom pass h => ⟨_, exec_firmwareBoot a b s, ?_⟩⟩
    · have idles := firmwareBoot_none (a := a) (b := b) idle (h.imp_right fun ⟨ha, hb⟩ => bootSlot_none ha hb)
      rw [onNv_reg (by decide), onNv_dev, partsOf_bringup (by decide), idles]
      exact ⟨rfl, reg_setReg_same ..⟩
    · have runs := firmwareBoot_some idle rom (bootSlot_highest pass h)
      obtain ⟨bringup, slotReg, stateReg, logged⟩ := storeStart_firmwareStarted slot v s
      rw [← runs] at bringup slotReg stateReg logged
      rw [onNv_reg (by decide), onNv_reg (by decide), onNv_dev, partsOf_bringup (by decide), bringup]
      exact ⟨rfl, rfl, slotReg, stateReg, rfl, fun room => eventLogged_onNv (by decide) (by decide) (logged room)⟩
  case restart =>
    intro s
    have h := managementRestart_spec 2 s
    refine ⟨_, exec_managementRestartCommand s, ?_⟩
    rw [onNv_reg (by decide), onNv_reg (by decide), onNv_reg (by decide), onNv_nv, onNv_dev, partsOf_ncp (by decide),
      partsOf_host (by decide), partsOf_delayed (by decide), h.host, h.queue]
    refine ⟨h.sessions, h.challenges, rfl, rfl, h.delayed, ?_, ?_, h.causeReg, h.stateReg, h.countReg,
      partsOf_same (p := .live) (by decide) _ s, partsOf_same (p := .shadow) (by decide) _ s, rfl, rfl,
      rfl, rfl, onNv_hbm .., onNv_bank ..⟩
    · rw [List.map_map]; rfl
    · intro q hq
      obtain ⟨_, _, rfl⟩ := List.mem_map.mp hq
      rfl
  case complete =>
    intro s
    refine ⟨fun waiting => ⟨_, exec_managementRestartComplete s, ?_⟩, fun other => ?_⟩
    · obtain ⟨_, _, e⟩ := storeOnly_storeStart
        (modBringup (fun b => { b with refreshedAt := s.now }) (s.setReg 0x6020 3 0))
      rw [onNv_reg (by decide), onNv_dev, partsOf_bringup (by decide), managementRestarted_waiting waiting]
      refine ⟨?_, by rw [e]; rfl⟩
      rw [reg_storeStart _ _ _ (by decide), modBringup_reg, reg_setReg_same]
    · rw [exec_managementRestartComplete, onNv_of_fixed (managementRestarted_other other)]
  case stop =>
    intro s
    refine ⟨_, exec_managementCoresStop s, ?_, partsOf_same (p := .live) (by decide) _ s,
      partsOf_same (p := .host) (by decide) _ s, partsOf_same (p := .players) (by decide) _ s, rfl⟩
    rw [onDev_reg (by decide), coresStop, (timeOnly_servoStop _).2 _ _ (by decide) (by decide), reg_setReg_same]

end Sys2Proof.Machine
end

section
/-!
SUPPORT. What serving requests and writes of HBM leaves alone (R133, R649, R653), and what the end of an update or of
another item leaves of the decoders and their statistics (R114, R123, R274).
-/
namespace Sys2Proof.Machine

/-! ### Requests and writes of HBM -/

/-- `t` is `s` but for HBM, its pseudo-channels and uncorrectable accesses, and registers from index 0x5000 on. -/
def memoryServed (s t : State) : Prop :=
  (∃ od pcs bad hbm, t = { s with
    hbm := hbm, dev := { s.dev with od := od, memory := { s.dev.memory with pcs := pcs, bad := bad } } }) ∧
  ∀ x y, x < 0x5000 → y < 256 → t.reg x y = s.reg x y

theorem memoryServed.refl (s : State) : memoryServed s s := ⟨⟨_, _, _, _, rfl⟩, fun _ _ _ _ => rfl⟩

theorem memoryServed.trans {s t u : State} (h : memoryServed s t) (k : memoryServed t u) : memoryServed s u := by
  obtain ⟨⟨_, _, _, _, rfl⟩, hr⟩ := h
  obtain ⟨⟨_, _, _, _, rfl⟩, kr⟩ := k
  exact ⟨⟨_, _, _, _, rfl⟩, fun x y hx hy => (kr x y hx hy).trans (hr x y hx hy)⟩

theorem memoryServed.jobs {s t : State} (h : memoryServed s t) : t.dev.jobs = s.dev.jobs := by
  obtain ⟨⟨_, _, _, _, rfl⟩, _⟩ := h; rfl

theorem memoryServed.waiting {s t : State} (h : memoryServed s t) : t.dev.waiting = s.dev.waiting := by
  obtain ⟨⟨_, _, _, _, rfl⟩, _⟩ := h; rfl

theorem memoryServed.copies {s t : State} (h : memoryServed s t) : t.dev.copies = s.dev.copies := by
  obtain ⟨⟨_, _, _, _, rfl⟩, _⟩ := h; rfl

theorem memoryServed.markers {s t : State} (h : memoryServed s t) : t.dev.memory.markers = s.dev.memory.markers := by
  obtain ⟨⟨_, _, _, _, rfl⟩, _⟩ := h; rfl

theorem memoryServed_each {α : Type} {f : α → State → State} (h : ∀ x t, memoryServed t (f x t)) (xs : List α)
    (s : State) : memoryServed s (s.each xs f) :=
  each_invariant (memoryServed s) f (fun x t k => k.trans (h x t)) xs s (.refl s)

theorem memoryServed_setReg {i : Nat} (j v : Nat) (s : State) (hi : 0x5000 ≤ i) : memoryServed s (s.setReg i j v) :=
  ⟨⟨_, _, _, _, rfl⟩, fun x y hx hy => by
    rw [reg_setReg, if_neg]
    simp only [key]
    omega⟩

theorem memoryServed_domainWake (d : Nat) (s : State) : memoryServed s (domainWake d s) := by
  unfold domainWake
  split
  · exact (memoryServed_setReg _ _ s (by decide)).trans (memoryServed_setReg _ _ _ (by decide))
  · exact .refl s

theorem memoryServed_hbmAsk (src : Nat) (write : Bool) (off len : Nat) (s : State) :
    memoryServed s (hbmAsk src write off len s) := by
  refine ⟨?_, (hostSame_hbmAsk src write off len s).2⟩
  obtain ⟨_, _, h⟩ := hbmAsk_dev src write off len s
  exact ⟨_, _, _, _, h⟩

theorem memoryServed_hbmWrite (off : Nat) (bs : List Byte) (s : State) : memoryServed s (hbmWrite off bs s) := by
  unfold hbmWrite
  dsimp only
  split <;> exact ⟨⟨_, _, _, _, rfl⟩, fun _ _ _ _ => rfl⟩

theorem memoryServed_hbmStore (src off : Nat) (bs : List Byte) (s : State) : memoryServed s (hbmStore src off bs s) :=
  (memoryServed_hbmAsk ..).trans (memoryServed_hbmWrite ..)

theorem memoryServed_askBlock (src n layer slot b : Nat) (s : State) : memoryServed s (askBlock src n layer slot b s) :=
  ((memoryServed_hbmAsk ..).trans (memoryServed_hbmAsk ..)).trans (memoryServed_hbmAsk ..)

theorem memoryServed_mirrorRead (off len : Nat) (s : State) : memoryServed s (mirrorRead off len s) := by
  unfold mirrorRead
  dsimp only
  split
  · have bumped (i n : Nat) : memoryServed s (s.bump (0x5000 + i) n) := memoryServed_setReg _ _ s (by omega)
    split
    · exact bumped ..
    · exact (bumped ..).trans (memoryServed_hbmWrite ..)
  · exact .refl s

theorem memoryServed_tileMirrors (n layer slot b : Nat) (s : State) : memoryServed s (tileMirrors n layer slot b s) :=
  (memoryServed_mirrorRead ..).trans (memoryServed_mirrorRead ..)

theorem memoryServed_mirrorServed (n layer slot b : Nat) (s : State) :
    memoryServed s (mirrorServed n layer slot b s) := by
  unfold mirrorServed
  dsimp only
  split
  · exact memoryServed_mirrorRead ..
  · split
    · exact memoryServed_setReg _ _ s (by omega)
    · exact .refl s

theorem memoryServed_iff (c : Bool) {f : State → State} {s : State} (h : memoryServed s (f s)) :
    memoryServed s (s.iff c f) := by
  cases c
  · exact .refl s
  · exact h

theorem memoryServed_openSlot (layer slot n : Nat) (s : State) : memoryServed s (openSlot layer slot n s) :=
  (memoryServed_hbmAsk ..).trans (memoryServed_each (fun _ _ => memoryServed_hbmWrite ..) _ _)

/-! ### Decoders and their statistics -/

/-- From `s` to `t` no job and no waiting decoder is new, no sub-block is counted, and a decoder's state changes only
where one that waited is idle again (R123). -/
structure DecodersKept (s t : State) : Prop where
  jobs : t.dev.jobs ⊆ s.dev.jobs
  waiting : t.dev.waiting ⊆ s.dev.waiting
  expanded : ∀ y < 256, t.reg 0x2001 y = s.reg 0x2001 y
  decoder : ∀ de < 32, t.reg 0x2000 (de + 1) = s.reg 0x2000 (de + 1) ∨
    t.reg 0x2000 (de + 1) = 0 ∧ ∃ w ∈ s.dev.waiting, w.1 = de

theorem DecodersKept.trans {s t u : State} (h : DecodersKept s t) (k : DecodersKept t u) : DecodersKept s u where
  jobs := List.Subset.trans k.jobs h.jobs
  waiting := List.Subset.trans k.waiting h.waiting
  expanded y hy := (k.expanded y hy).trans (h.expanded y hy)
  decoder de hde := by
    rcases k.decoder de hde with e | ⟨idle, w, hw, rfl⟩
    · rw [e]
      exact h.decoder de hde
    · exact .inr ⟨idle, w, h.waiting hw, rfl⟩

/-- An idle decoder stays idle. -/
theorem DecodersKept.idle {s t : State} (h : DecodersKept s t) {de : Nat} (hde : de < 32)
    (idle : s.reg 0x2000 (de + 1) = 0) : t.reg 0x2000 (de + 1) = 0 := by
  rcases h.decoder de hde with e | ⟨e, _⟩
  · rw [e, idle]
  · exact e

/-- `DecodersKept`, with no update counted (R114, R133). -/
structure DecodeQuiet (s t : State) : Prop extends DecodersKept s t where
  counts : ∀ y < 256, t.reg 0x2002 y = s.reg 0x2002 y

theorem DecodeQuiet.of_same {s t : State} (jobs : t.dev.jobs = s.dev.jobs) (waiting : t.dev.waiting = s.dev.waiting)
    (regs : ∀ x y, 0x2000 ≤ x → x ≤ 0x2002 → y < 256 → t.reg x y = s.reg x y) : DecodeQuiet s t where
  jobs := by rw [jobs]; exact List.Subset.refl _
  waiting := by rw [waiting]; exact List.Subset.refl _
  expanded y hy := regs _ y (by decide) (by decide) hy
  decoder de hde := .inl (regs _ _ (by decide) (by decide) (by omega))
  counts y hy := regs _ y (by decide) (by decide) hy

theorem DecodeQuiet.refl (s : State) : DecodeQuiet s s := .of_same rfl rfl fun _ _ _ _ _ => rfl

theorem DecodeQuiet.trans {s t u : State} (h : DecodeQuiet s t) (k : DecodeQuiet t u) : DecodeQuiet s u where
  toDecodersKept := h.toDecodersKept.trans k.toDecodersKept
  counts y hy := (k.counts y hy).trans (h.counts y hy)

theorem memoryServed.quiet {s t : State} (h : memoryServed s t) : DecodeQuiet s t :=
  .of_same h.jobs h.waiting fun x y _ hx hy => h.2 x y (by omega) hy

theorem decodeQuiet_setReg {i j : Nat} (v : Nat) (s : State) (hj : j < 256) (hi : i < 0x2000 ∨ 0x2002 < i) :
    DecodeQuiet s (s.setReg i j v) :=
  .of_same rfl rfl fun x y _ _ hy => by
    rw [reg_setReg, if_neg]
    intro e
    have := key_inj hj hy e
    omega

theorem jobs_logEvent (r c i j d : Nat) (s : State) : (logEvent r c i j d s).dev.jobs = s.dev.jobs := by
  obtain ⟨_, _, _, _, e⟩ := logEvent_eq r c i j d s
  rw [e]

theorem waiting_logEvent (r c i j d : Nat) (s : State) : (logEvent r c i j d s).dev.waiting = s.dev.waiting := by
  obtain ⟨_, _, _, _, e⟩ := logEvent_eq r c i j d s
  rw [e]

theorem decodeQuiet_logEvent (r c i j d : Nat) (s : State) : DecodeQuiet s (logEvent r c i j d s) :=
  .of_same (jobs_logEvent ..) (waiting_logEvent ..) fun _ _ _ _ hy => reg_logEvent_index r c i j d s (by omega) hy

/-- A change of the device that adds no job and no waiting decoder and leaves the dictionary alone. -/
theorem decodeQuiet_modDev {f : Dev → Dev} (s : State)
    (h : ∀ d, (f d).jobs ⊆ d.jobs ∧ (f d).waiting ⊆ d.waiting ∧ (f d).od = d.od := by
      exact fun _ => ⟨List.Subset.refl _, List.Subset.refl _, rfl⟩) : DecodeQuiet s (s.modDev f) := by
  obtain ⟨jobs, waiting, od⟩ := h s.dev
  have same (x y : Nat) : (s.modDev f).reg x y = s.reg x y := reg_modDev_of_od f s od x y
  exact ⟨⟨jobs, waiting, fun _ _ => same .., fun _ _ => .inl (same ..)⟩, fun _ _ => same ..⟩

theorem decodeQuiet_modHost (f : HostIf → HostIf) (s : State) : DecodeQuiet s (modHost f s) := decodeQuiet_modDev s

theorem decodeQuiet_postCompletion (r : Nat) (c : Completion) (s : State) : DecodeQuiet s (postCompletion r c s) := by
  have dropped : DecodeQuiet s (s.bump 0x1241 7) := decodeQuiet_setReg _ s (by decide) (by decide)
  have written : DecodeQuiet s (ringWrite r c s) := by
    unfold ringWrite
    dsimp only
    split
    · exact decodeQuiet_modDev _
    · exact decodeQuiet_setReg _ s (by decide) (by decide)
  have messaged (t : State) : DecodeQuiet t (ringMessage r t) := by
    unfold ringMessage
    split
    · exact .refl t
    · exact decodeQuiet_modDev _
  have put (t : State) : DecodeQuiet t
      (modQueue r (fun q => { q with tail := (q.tail + 1) % 2 ^ 32, messaged := true }) t) := decodeQuiet_modHost _ t
  unfold postCompletion
  dsimp only
  split
  · exact dropped
  · split
    · exact (written.trans (messaged _)).trans (put _)
    · split
      · exact decodeQuiet_modDev _
      · exact dropped

theorem decodeQuiet_postFinal (i : Item) (frame status detail : Nat) (s : State) :
    DecodeQuiet s (postFinal i frame status detail s) := by
  unfold postFinal
  dsimp only
  split
  · exact .refl s
  · split
    · exact decodeQuiet_postCompletion ..
    · exact decodeQuiet_setReg _ s (by decide) (by decide)

/-! ### The end of a job -/

/-- The round of `releaseDecoders` for one decoder. -/
def releaseDecoder (job de : Nat) (s : State) : State :=
  s.iff ((amGet s.dev.waiting de).any fun w => w.job == job) (·.setReg 0x2000 (de + 1) 0)

theorem releaseDecoders_eq (job : Nat) (s : State) : releaseDecoders job s =
    (s.each (List.range 32) (releaseDecoder job)).modDev fun d =>
      { d with waiting := d.waiting.filter fun w => w.2.job != job } := rfl

/-- A decoder that waits for the job is set to idle, and no other register is written (R123). -/
theorem decodeQuiet_releaseDecoder (job : Nat) {de : Nat} (hde : de < 32) (s : State) :
    DecodeQuiet s (releaseDecoder job de s) := by
  unfold releaseDecoder State.iff
  split
  · next waits =>
    obtain ⟨w, hw, _⟩ := (Option.any_eq_true _ _).mp waits
    have same (x y : Nat) (hy : y < 256) (ne : ¬(x = 0x2000 ∧ y = de + 1)) :
        (s.setReg 0x2000 (de + 1) 0).reg x y = s.reg x y := by
      rw [reg_setReg, if_neg]
      intro e
      have := key_inj (by omega) hy e
      omega
    refine ⟨⟨List.Subset.refl _, List.Subset.refl _, fun y hy => same _ y hy (by omega), fun d hd => ?_⟩,
      fun y hy => same _ y hy (by omega)⟩
    by_cases h : d = de
    · subst h
      exact .inr ⟨reg_setReg_same .., (d, w), mem_of_amGet hw, rfl⟩
    · exact .inl (same _ _ (by omega) (by omega))
  · exact .refl s

theorem decodeQuiet_dropJob (num : Nat) (s : State) : DecodeQuiet s (dropJob num s) := by
  have loop : DecodeQuiet s (s.each (List.range 32) (releaseDecoder num)) :=
    List.foldlRecOn (motive := DecodeQuiet s) _ _ (.refl s) fun t h de hde =>
      h.trans (decodeQuiet_releaseDecoder num (List.mem_range.mp hde) t)
  rw [dropJob, releaseDecoders_eq]
  generalize s.each (List.range 32) (releaseDecoder num) = t at loop ⊢
  refine loop.trans (.trans (decodeQuiet_modDev t ?_) (decodeQuiet_modDev _ ?_))
  · exact fun _ => ⟨List.Subset.refl _, List.filter_subset_self _, rfl⟩
  · exact fun _ => ⟨List.filter_subset_self _, List.Subset.refl _, rfl⟩

theorem dropJob_ended (num : Nat) (s : State) : ∀ y ∈ (dropJob num s).dev.jobs, y.num ≠ num := by
  unfold dropJob
  generalize releaseDecoders num s = t
  simp

theorem dropJob_memory (num : Nat) (s : State) : (dropJob num s).dev.memory = s.dev.memory := by
  have loop : (s.each (List.range 32) (releaseDecoder num)).dev.memory = s.dev.memory :=
    each_keeps (fun t => t.dev.memory) (releaseDecoder num) (fun _ t => iff_keeps (fun t => t.dev.memory) _ _ t rfl)
      (List.range 32) s
  rw [dropJob, releaseDecoders_eq]
  generalize s.each (List.range 32) (releaseDecoder num) = t at loop ⊢
  exact loop

theorem decodeQuiet_startCopy (layer n : Nat) (restore : Bool) (s : State) :
    DecodeQuiet s (startCopy layer n restore s) := by
  have added (c : CopyJob) : DecodeQuiet s (addCopy c s) :=
    ((memoryServed_openSlot ..).trans (memoryServed_domainWake ..)).quiet.trans (decodeQuiet_modDev _)
  unfold startCopy
  dsimp only
  split
  · exact .refl s
  · split
    · exact .refl s
    · exact added _

theorem decodeQuiet_endItem (i : Item) (status detail : Nat) (s : State) :
    DecodeQuiet s (endItem i status detail s) := by
  have dropped := (decodeQuiet_modDev s).trans (decodeQuiet_dropJob i.num
    (modHost (fun h => { h with items := h.items.filter fun x => x.num != i.num }) s))
  unfold endItem
  dsimp only
  generalize dropJob i.num _ = t at dropped ⊢
  refine dropped.trans (.trans ?_ (decodeQuiet_postFinal i i.target status detail _))
  split
  · exact .refl t
  · exact (decodeQuiet_modDev t).trans (decodeQuiet_modDev _)

theorem decodeQuiet_noteLost (i : Item) (s : State) : DecodeQuiet s (noteLost i s) := by
  unfold noteLost
  split
  · exact .refl s
  · exact .of_same rfl rfl fun _ _ _ _ _ => rfl

/-- An item that ends, with those of its group, ends jobs and frees decoders that waited for them, nothing more of the
decoders (R269, R274). -/
theorem decodeQuiet_loseItem (i : Item) (status detail : Nat) (s : State) :
    DecodeQuiet s (loseItem i status detail s) := by
  unfold loseItem
  refine (decodeQuiet_endItem i status detail s).trans ?_
  unfold abandonGroup
  split
  · exact .refl _
  · refine .trans ?_ (decodeQuiet_setReg _ _ (by decide) (by decide))
    exact each_invariant (DecodeQuiet _) _
      (fun x t h => h.trans ((decodeQuiet_noteLost x t).trans (decodeQuiet_endItem ..))) _ _ (.refl _)

/-! ### A failing update (R114, R116) -/

/-- The update of job `num` has failed between `s` and `t`: its decode has ended and is counted, and no decoder but those
that waited changes. -/
structure UpdateFailed (num : Nat) (s t : State) : Prop extends DecodersKept s t where
  ended : ∀ y ∈ t.dev.jobs, y.num ≠ num
  failures : counted s t 0x2002 2

theorem decodersKept_countUpdate {k : Nat} (hk : k < 256) (s : State) : DecodersKept s (s.bump 0x2002 k) := by
  have same (x y : Nat) (hx : x ≠ 0x2002) (hy : y < 256) : (s.bump 0x2002 k).reg x y = s.reg x y := by
    rw [reg_bump, if_neg fun e => hx (key_inj hk hy e).1.symm]
  exact ⟨List.Subset.refl _, List.Subset.refl _, fun y hy => same _ y (by decide) hy,
    fun de hde => .inl (same _ _ (by decide) (by omega))⟩

theorem UpdateFailed.of_quiet {num : Nat} {s a t : State} (before : DecodeQuiet s a)
    (ended : ∀ y ∈ a.dev.jobs, y.num ≠ num) (after : DecodeQuiet (a.bump 0x2002 2) t) : UpdateFailed num s t where
  toDecodersKept := (before.toDecodersKept.trans (decodersKept_countUpdate (by decide) a)).trans after.toDecodersKept
  ended y hy := ended y (after.jobs hy)
  failures := by
    rw [counted, after.counts 2 (by decide), reg_bump, if_pos rfl, before.counts 2 (by decide)]

theorem jobFail_updateFailed (j : Job) (detail seq : Nat) (read late : Bool) (s : State) :
    UpdateFailed j.num s (jobFail j detail seq read late s) := by
  have noted (t : State) : DecodeQuiet t
      (noteDue j.layer j.target (t.modDev fun d => { d with lost := (j.layer, j.target) :: d.lost })) :=
    (decodeQuiet_modDev t).trans (decodeQuiet_modDev _)
  unfold jobFail
  dsimp only
  have before := (decodeQuiet_logEvent 114 3 0x2010 (j.layer + 1)
    (seq + j.chunkLayer * 2 ^ 32 + detail * 2 ^ 40 + ofBool read * 2 ^ 48) s).trans (noted _)
  generalize noteDue j.layer j.target _ = a at before ⊢
  refine .of_quiet (before.trans (decodeQuiet_dropJob j.num a)) (dropJob_ended j.num a) ?_
  generalize hb : (if (j.slot != 0 || late) = true then _ else startCopy j.layer j.target true _) = b
  have copied : DecodeQuiet ((dropJob j.num a).bump 0x2002 2) b := by
    rw [← hb]
    split
    · exact .refl _
    · exact decodeQuiet_startCopy ..
  refine copied.trans ?_
  split
  · exact decodeQuiet_modDev _
  · split
    · exact .refl _
    · exact decodeQuiet_loseItem ..

end Sys2Proof.Machine
end

section
/-!
PROOF. Decoders, markers and copies: a decoder that takes a chunk is free and finds the chunk as it stood, and each
result of its tests acts on the job alone or ends it (R113 to R125, R133 to R136, R654).
-/
namespace Sys2Proof.Machine

/-! ### Jobs by number -/

theorem jobOf_num {s : State} {num : Nat} {j : Job} (h : jobOf s num = some j) : j.num = num := by
  simpa using List.find?_some h

theorem jobOf_congr {s t : State} (h : t.dev.jobs = s.dev.jobs) (num : Nat) : jobOf t num = jobOf s num := by
  unfold jobOf
  rw [h]

theorem jobOf_modJob {num : Nat} {f : Job → Job} (hf : ∀ j, (f j).num = j.num) (s : State) :
    jobOf (modJob num f s) num = (jobOf s num).map f := by
  unfold jobOf modJob
  rw [modDev_dev, List.find?_map]
  have same : ((fun j : Job => j.num == num) ∘ fun j => if j.num = num then f j else j) = fun j => j.num == num := by
    funext j
    dsimp only [Function.comp]
    split
    · rw [hf]
    · rfl
  rw [same]
  cases h : s.dev.jobs.find? fun j => j.num == num with
  | none => rfl
  | some j => exact congrArg some (if_pos (by simpa using List.find?_some h))

theorem jobOf_onMem {ps : List DevPart} (h : .jobs ∈ ps) (f : State → State) (s : State) (num : Nat) :
    jobOf (onMem ps f s) num = jobOf (f s) num := jobOf_congr (partsOf_jobs h f s) num

theorem chunkSettled_onMem {ps : List DevPart} (jobs : .jobs ∈ ps) (od : .od ∈ ps) {f : State → State} {s : State}
    {ord : Nat} {j : Job} (h : chunkSettled s (f s) ord j) : chunkSettled s (onMem ps f s) ord j := by
  unfold chunkSettled counted at *
  rw [jobOf_onMem jobs, onMem_reg od, onMem_dev, partsOf_jobs jobs]
  exact h

/-! ### A decoder takes a chunk (R122, R123) -/

/-- Decoder `de` is idle and holds chunk `ord` of job `j`. -/
def chunkHeld (de ord : Nat) (j : Job) (s : State) : State :=
  freeDecoder de (s.modDev fun d => { d with lastChunk := amPut d.lastChunk de (j.num, ord) })

/-- The same, with the chunk fetched. -/
def chunkFetched (de ord : Nat) (j : Job) (c : Chunk) (s : State) : State := chunkAsk de j c (chunkHeld de ord j s)

theorem memoryServed_chunkAsk (de : Nat) (j : Job) (c : Chunk) (s : State) : memoryServed s (chunkAsk de j c s) :=
  memoryServed_hbmAsk ..

theorem memoryServed_copyAsk (de : Nat) (shown : Committed) (j : Job) (x : ChunkResult) (s : State) :
    memoryServed s (copyAsk de shown j x s) := by
  cases x
  case tiles r => exact memoryServed_each (fun _ _ => memoryServed_askBlock ..) _ _
  all_goals exact .refl s

theorem readsSame_chunkHeld {de : Nat} (hde : de < 32) (ord : Nat) (j : Job) (s : State) :
    readsSame s (chunkHeld de ord j s) :=
  readsSame_setReg 0 s (i := 0x2000) (j := de + 1) (by omega) (by omega)

theorem readsSame_chunkFetched {de : Nat} (hde : de < 32) (ord : Nat) (j : Job) (c : Chunk) (s : State) :
    readsSame s (chunkFetched de ord j c s) :=
  (readsSame_chunkHeld hde ord j s).trans (readsSame_hbmAsk ..)

/-- Between `s` and `t` decoder `de` became idle; the registers of the statistics and the markers are as before. -/
structure DecoderFreed (de : Nat) (s t : State) : Prop where
  idle : t.reg 0x2000 (de + 1) = 0
  regs : ∀ x y, 0x2000 < x → x < 0x5000 → y < 256 → t.reg x y = s.reg x y
  markers : t.dev.memory.markers = s.dev.memory.markers

theorem DecoderFreed.served {de : Nat} {s t u : State} (h : DecoderFreed de s t) (k : memoryServed t u) (hde : de < 32) :
    DecoderFreed de s u where
  idle := (k.2 _ _ (by decide) (by omega)).trans h.idle
  regs x y hx hx' hy := (k.2 x y hx' hy).trans (h.regs x y hx hx' hy)
  markers := k.markers.trans h.markers

theorem decoderFreed_chunkHeld {de : Nat} (hde : de < 32) (ord : Nat) (j : Job) (s : State) :
    DecoderFreed de s (chunkHeld de ord j s) where
  idle := reg_setReg_same (State.modDev (fun d => { d with lastChunk := amPut d.lastChunk de (j.num, ord) }) s) ..
  regs x y hx _ hy := by
    unfold chunkHeld freeDecoder
    rw [reg_modDev_of_od _ _ rfl, reg_setReg, if_neg, reg_modDev_of_od _ _ rfl]
    intro e
    have := key_inj (by omega) hy e
    omega
  markers := rfl

/-- A decoder that finds its chunk ends the update where the header fails, and acts on what the tests give where it
passes, each as the state was before it took the chunk (R114, R117, R118). -/
theorem decodeChunk_found {s : State} {de ord off : Nat} {j : Job} {c : Chunk} (hde : de < 32)
    (found : (jobOffsets s j)[ord]? = some off) (hc : c = chunkAt (stagingBytes s j.staging) off) :
    decodeChunk de ord j s =
      let x := testChunk (shownBefore s s.dev.live j.layer j.target) j ord off c
      (headerFail (jobExpect s.dev.live j ord) c).elim
        (takeResult de ord j c x (copyAsk de s.dev.live j x (chunkFetched de ord j c s)))
        fun x => jobFail j x (failSeq j ord x c).1 (failSeq j ord x c).2 false (chunkFetched de ord j c s) := by
  have held := readsSame_chunkHeld hde ord j s
  have fetched := readsSame_chunkFetched hde ord j c s
  have live : (chunkFetched de ord j c s).dev.live = s.dev.live := fetched.2.2.1
  rw [← jobOffsets_congr held] at found
  rw [← stagingBytes_congr held] at hc
  rw [← shownBefore_congr fetched, ← live]
  unfold decodeChunk
  dsimp only
  rw [← chunkHeld]
  simp only [found]
  rw [← hc, ← chunkFetched]
  cases headerFail (jobExpect (chunkFetched de ord j c s).dev.live j ord) c <;> rfl

theorem decoderFreed_chunkFetched {de : Nat} (hde : de < 32) (ord : Nat) (j : Job) (c : Chunk) (s : State) :
    DecoderFreed de s (chunkFetched de ord j c s) :=
  (decoderFreed_chunkHeld hde ord j s).served (memoryServed_chunkAsk ..) hde

theorem jobs_chunkFetched (de ord : Nat) (j : Job) (c : Chunk) (s : State) :
    (chunkFetched de ord j c s).dev.jobs = s.dev.jobs := by
  unfold chunkFetched
  rw [(memoryServed_chunkAsk de j c (chunkHeld de ord j s)).jobs]
  rfl

/-- A decoder that `s` gives chunk `ord` of job `j` finds it at `off` in `u`, which has the statistics and markers of
`s`. -/
structure ChunkInHand (s u : State) (ord off : Nat) (j : Job) : Prop where
  found : (jobOffsets u j)[ord]? = some off
  job : jobOf u j.num = some j
  regs : ∀ x y, x < 0x5000 → y < 256 → u.reg x y = s.reg x y
  markers : u.dev.memory.markers = s.dev.memory.markers

theorem ChunkInHand.freed {s u : State} {ord off de : Nat} {j : Job} (h : ChunkInHand s u ord off j) (hde : de < 32)
    (c : Chunk) : DecoderFreed de s (chunkFetched de ord j c u) :=
  have k := decoderFreed_chunkFetched hde ord j c u
  ⟨k.idle, fun x y hx hx' hy => (k.regs x y hx hx' hy).trans (h.regs x y hx' hy), k.markers.trans h.markers⟩

/-- The same once the blocks that the chunk copies from are read (R106). -/
theorem ChunkInHand.ready {s u : State} {ord off de : Nat} {j : Job} (h : ChunkInHand s u ord off j) (hde : de < 32)
    (shown : Committed) (c : Chunk) (x : ChunkResult) :
    DecoderFreed de s (copyAsk de shown j x (chunkFetched de ord j c u)) ∧
      jobOf (copyAsk de shown j x (chunkFetched de ord j c u)) j.num = some j := by
  have asked := memoryServed_copyAsk de shown j x (chunkFetched de ord j c u)
  exact ⟨(h.freed hde c).served asked hde, (jobOf_congr (asked.jobs.trans (jobs_chunkFetched ..)) _).trans h.job⟩

/-- Starting a job's decode changes no statistics and no marker. -/
theorem setStage_modJob_keeps (num : Nat) (st : DecodeStage) (f : Job → Job) (s : State) :
    (∀ x y, (setStage num st (modJob num f s)).reg x y = s.reg x y) ∧
      (setStage num st (modJob num f s)).dev.memory.markers = s.dev.memory.markers := ⟨fun _ _ => rfl, rfl⟩

/-- Nor does opening its slot (R133). -/
theorem openJob_keeps (j : Job) (s : State) :
    (∀ x y, x < 0x5000 → y < 256 → (openJob j s).reg x y = s.reg x y) ∧
      (openJob j s).dev.memory.markers = s.dev.memory.markers := by
  have opened := (memoryServed_openSlot j.layer j.slot j.target s).trans (memoryServed_domainWake 25 _)
  obtain ⟨regs, markers⟩ := setStage_modJob_keeps j.num .running Job.opening
    (domainWake 25 (openSlot j.layer j.slot j.target s))
  unfold openJob
  split
  · exact ⟨fun _ _ _ _ => rfl, rfl⟩
  · exact ⟨fun x y hx hy => (regs x y).trans (opened.2 x y hx hy), markers.trans opened.markers⟩

theorem chunkInHand_given {s u : State} {de ord off : Nat} {j : Job} (h : chunkGiven s de ord off j u) :
    chunkDecode de ord s = decodeChunk de ord j u ∧ ChunkInHand s u ord off j := by
  obtain ⟨works, idle, before, taken, job, found⟩ := h
  obtain ⟨k, first, e⟩ := Option.map_eq_some_iff.mp taken
  obtain ⟨rfl, rfl⟩ := Prod.mk.inj e
  obtain ⟨regs, markers⟩ := openJob_keeps k s
  refine ⟨?_, found, job, regs, markers⟩
  unfold chunkDecode
  rw [if_neg (by simp [works, idle]), if_neg (by simp [before]), first]

theorem chunkInHand_resumed {s : State} {de off : Nat} {w : Waiting} {j : Job} (h : chunkResumed s de off w j) :
    indexResume de s = decodeChunk de w.chunk j s ∧ ChunkInHand s s w.chunk off j := by
  obtain ⟨waits, job, come, found⟩ := h
  have num : j.num = w.job := jobOf_num job
  refine ⟨?_, found, num ▸ job, fun _ _ _ _ => rfl, rfl⟩
  unfold indexResume
  simp only [waits, job, come]
  rfl

/-! ### What the tests of a chunk give (R117, R118) -/

theorem testChunk_palettes {prev : Option Previous} {j : Job} {ord off : Nat} {c : Chunk} (typ : c.typ = 2)
    (passes : paletteFail j ord c = none) : ∃ rs, testChunk prev j ord off c = .palettes rs := by
  unfold paletteFail at passes
  unfold testChunk
  simp only [typ, passes]
  exact ⟨_, rfl⟩

theorem testChunk_index {s : State} {j : Job} {ord off : Nat} {c : Chunk} (typ : c.typ = 3) :
    testChunk (shownBefore s s.dev.live j.layer j.target) j ord off c =
      match (indexRun s j ord c).wait with
      | some (record, b) => .waits record b
      | none => match firstFail (indexRun s j ord c).fails with
        | some x => .fail x (indexRun s j ord c).expanded
        | none => .tiles (indexRun s j ord c) := by
  simp only [testChunk, typ]
  rfl

theorem testChunk_ends {prev : Option Previous} {j : Job} {ord off : Nat} {c : Chunk} (typ : c.typ = 0x0F)
    (earlier : earlierTaken j ord = true)
    (passes : endFail j.content c (ord + 1) (off + 32 + c.len) j.length (fun b => j.palDone.contains b)
      (fun b => j.idxDone.contains b) = none) : testChunk prev j ord off c = .ends := by
  simp only [testChunk, typ, earlier, passes]
  rfl

/-! ### What a decoder does with a result -/

/-- Where every chunk is decoded and none is an END the update has failed; otherwise nothing changes (R117). -/
theorem endMissing_settled {s w : State} {de ord : Nat} {j : Job} (hde : de < 32) (idle : w.reg 0x2000 (de + 1) = 0)
    (counts : w.reg 0x2002 2 = s.reg 0x2002 2) (taken : (jobOf w j.num).map (·.taken) = some (ord :: j.taken)) :
    (endMissing j.num w).reg 0x2000 (de + 1) = 0 ∧ (∀ y < 256, (endMissing j.num w).reg 0x2001 y = w.reg 0x2001 y) ∧
      chunkSettled s (endMissing j.num w) ord j := by
  unfold endMissing
  split
  · exact ⟨idle, fun _ _ => rfl, .inl taken⟩
  · next k hk =>
    dsimp only
    split
    · have failed := jobFail_updateFailed k 0x17
        (chunkAt (stagingBytes w k.staging) ((jobOffsets w k).getLastD 0)).seq true false w
      have num := jobOf_num hk
      refine ⟨failed.idle hde idle, failed.expanded, .inr ⟨num ▸ failed.ended, ?_⟩⟩
      rw [counted, ← counts]
      exact failed.failures
    · exact ⟨idle, fun _ _ => rfl, .inl taken⟩

theorem jobOf_chunkTaken (num ord : Nat) (s : State) :
    jobOf (chunkTaken num ord s) num = (jobOf s num).map fun j => { j with taken := ord :: j.taken } :=
  jobOf_modJob (f := fun j => { j with taken := ord :: j.taken }) (fun _ => rfl) s

/-- A chunk whose records are known is decoded, and its job ended where no END follows. -/
theorem chunkTaken_settled {s v : State} {de ord : Nat} {j : Job} {f : Job → Job} (hde : de < 32)
    (idle : v.reg 0x2000 (de + 1) = 0) (counts : v.reg 0x2002 2 = s.reg 0x2002 2) (job : jobOf v j.num = some j)
    (num : ∀ k, (f k).num = k.num) (same : (f j).taken = j.taken) :
    let t := endMissing j.num (chunkTaken j.num ord (modJob j.num f v))
    t.reg 0x2000 (de + 1) = 0 ∧ (∀ y < 256, t.reg 0x2001 y = v.reg 0x2001 y) ∧ chunkSettled s t ord j := by
  refine endMissing_settled hde idle counts ?_
  rw [jobOf_chunkTaken, jobOf_modJob num, job]
  simp [same]

theorem takeResult_palettes {s v : State} {de ord : Nat} {j : Job} {c : Chunk} {rs : List PaletteRecord} (hde : de < 32)
    (freed : DecoderFreed de s v) (job : jobOf v j.num = some j) :
    (takeResult de ord j c (.palettes rs) v).reg 0x2000 (de + 1) = 0 ∧
      chunkSettled s (takeResult de ord j c (.palettes rs) v) ord j := by
  have written := memoryServed_each
    (f := fun r => hbmStore de (paletteAt j.layer j.slot j.target r.block) (paletteSlot r))
    (fun _ _ => memoryServed_hbmStore ..) rs v
  have k := freed.served written hde
  obtain ⟨idle, _, settled⟩ := chunkTaken_settled (ord := ord) (f := Job.withPalettes ord rs) hde k.idle
    (k.regs _ _ (by decide) (by decide) (by decide)) ((jobOf_congr written.jobs _).trans job) (fun _ => rfl) rfl
  exact ⟨idle, settled⟩

theorem takeResult_tiles {s v : State} {de ord : Nat} {j : Job} {c : Chunk} {r : IndexRun} (hde : de < 32)
    (freed : DecoderFreed de s v) (job : jobOf v j.num = some j) :
    (takeResult de ord j c (.tiles r) v).reg 0x2000 (de + 1) = 0 ∧
      (takeResult de ord j c (.tiles r) v).reg 0x2001 (de + 1) = (s.reg 0x2001 (de + 1) + r.expanded) % 2 ^ 32 ∧
      chunkSettled s (takeResult de ord j c (.tiles r) v) ord j := by
  have written := memoryServed_each (f := fun t => hbmStore de (tileAt j.layer j.slot j.target t.1) t.2)
    (fun _ _ => memoryServed_hbmStore ..) r.tiles (v.bumpSeq 0x2001 (de + 1) r.expanded)
  have other (x y : Nat) (hx : x ≠ 0x2001) (hy : y < 256) :
      (v.bumpSeq 0x2001 (de + 1) r.expanded).reg x y = v.reg x y := by
    rw [reg_bumpSeq, if_neg fun e => hx (key_inj (by omega) hy e).1.symm]
  obtain ⟨idle, expanded, settled⟩ := chunkTaken_settled (s := s) (ord := ord) (f := Job.withTiles ord r) hde
    ((written.2 _ _ (by decide) (by omega)).trans ((other _ _ (by decide) (by omega)).trans freed.idle))
    ((written.2 _ _ (by decide) (by decide)).trans ((other _ _ (by decide) (by decide)).trans
      (freed.regs _ _ (by decide) (by decide) (by decide))))
    ((jobOf_congr written.jobs _).trans job) (fun _ => rfl) rfl
  refine ⟨idle, (expanded _ (by omega)).trans ?_, settled⟩
  rw [← freed.regs 0x2001 (de + 1) (by decide) (by decide) (by omega)]
  exact (written.2 _ _ (by decide) (by omega)).trans (by rw [reg_bumpSeq, if_pos rfl])

theorem takeResult_ends {s v : State} {de ord : Nat} {j : Job} {c : Chunk} (freed : DecoderFreed de s v)
    (job : jobOf v j.num = some j) :
    (takeResult de ord j c .ends v).reg 0x2000 (de + 1) = 0 ∧
      (takeResult de ord j c .ends v).dev.memory.markers = s.dev.memory.markers ++ [(de, .finalDescriptors j.num)] ∧
      (jobOf (takeResult de ord j c .ends v) j.num).map (·.marking) = some true := by
  refine ⟨freed.idle, congrArg (· ++ _) freed.markers, ?_⟩
  have marked := jobOf_modJob (num := j.num) (f := fun j => { j with marking := true, taken := ord :: j.taken })
    (fun _ => rfl) v
  rw [job] at marked
  exact congrArg (Option.map (·.marking)) marked

/-! ### A chunk in hand -/

section
variable {s u : State} {de ord off : Nat} {j : Job} {c : Chunk}

theorem decodeChunk_headerFail {x : Nat} (h : ChunkInHand s u ord off j) (hde : de < 32)
    (fails : headerFail (jobExpect u.dev.live j ord) (chunkAt (stagingBytes u j.staging) off) = some x) :
    (∀ y ∈ (decodeChunk de ord j u).dev.jobs, y.num ≠ j.num) ∧ counted s (decodeChunk de ord j u) 0x2002 2 := by
  rw [decodeChunk_found hde h.found rfl, fails]
  have freed := h.freed hde (chunkAt (stagingBytes u j.staging) off)
  dsimp only [Option.elim]
  have failed := jobFail_updateFailed j x (failSeq j ord x (chunkAt (stagingBytes u j.staging) off)).1
    (failSeq j ord x (chunkAt (stagingBytes u j.staging) off)).2 false
    (chunkFetched de ord j (chunkAt (stagingBytes u j.staging) off) u)
  refine ⟨failed.ended, ?_⟩
  rw [counted, ← freed.regs 0x2002 2 (by decide) (by decide) (by decide)]
  exact failed.failures

/-- A chunk that passes its header leaves what the decoder does with the result of its tests, from a state in which the
decoder is free and the job as before. -/
theorem decodeChunk_headerPass {x : ChunkResult} (h : ChunkInHand s u ord off j) (hde : de < 32)
    (hc : c = chunkAt (stagingBytes u j.staging) off) (passes : headerFail (jobExpect u.dev.live j ord) c = none)
    (result : testChunk (shownBefore u u.dev.live j.layer j.target) j ord off c = x) :
    ∃ v, decodeChunk de ord j u = takeResult de ord j c x v ∧ DecoderFreed de s v ∧ jobOf v j.num = some j := by
  rw [decodeChunk_found hde h.found hc, passes, result]
  exact ⟨_, rfl, h.ready hde u.dev.live c x⟩

theorem decodeChunk_palettes (h : ChunkInHand s u ord off j) (hde : de < 32)
    (hc : c = chunkAt (stagingBytes u j.staging) off) (passes : headerFail (jobExpect u.dev.live j ord) c = none)
    (typ : c.typ = 2) (records : paletteFail j ord c = none) :
    (decodeChunk de ord j u).reg 0x2000 (de + 1) = 0 ∧ chunkSettled s (decodeChunk de ord j u) ord j := by
  obtain ⟨rs, result⟩ := testChunk_palettes typ records
  obtain ⟨v, e, freed, job⟩ := decodeChunk_headerPass h hde hc passes result
  rw [e]
  exact takeResult_palettes hde freed job

theorem decodeChunk_tiles (h : ChunkInHand s u ord off j) (hde : de < 32)
    (hc : c = chunkAt (stagingBytes u j.staging) off) (passes : headerFail (jobExpect u.dev.live j ord) c = none)
    (typ : c.typ = 3) (come : (indexRun u j ord c).wait = none)
    (records : firstFail (indexRun u j ord c).fails = none) :
    (decodeChunk de ord j u).reg 0x2000 (de + 1) = 0 ∧
      (decodeChunk de ord j u).reg 0x2001 (de + 1) =
        (s.reg 0x2001 (de + 1) + (indexRun u j ord c).expanded) % 2 ^ 32 ∧
      chunkSettled s (decodeChunk de ord j u) ord j := by
  have result := testChunk_index (s := u) (j := j) (ord := ord) (off := off) typ
  rw [come, records] at result
  obtain ⟨v, e, freed, job⟩ := decodeChunk_headerPass h hde hc passes result
  rw [e]
  exact takeResult_tiles hde freed job

theorem decodeChunk_waits {record block : Nat} (h : ChunkInHand s u ord off j) (hde : de < 32)
    (hc : c = chunkAt (stagingBytes u j.staging) off) (passes : headerFail (jobExpect u.dev.live j ord) c = none)
    (typ : c.typ = 3) (waits : (indexRun u j ord c).wait = some (record, block)) :
    (decodeChunk de ord j u).reg 0x2000 (de + 1) = 1 ∧
      amGet (decodeChunk de ord j u).dev.waiting de =
        some { job := j.num, chunk := ord, record := record, block := block } := by
  have result := testChunk_index (s := u) (j := j) (ord := ord) (off := off) typ
  rw [waits] at result
  obtain ⟨v, e, _, _⟩ := decodeChunk_headerPass h hde hc passes result
  rw [e]
  exact ⟨reg_setReg_same .., amGet_amPut_same ..⟩

theorem decodeChunk_ends (h : ChunkInHand s u ord off j) (hde : de < 32)
    (hc : c = chunkAt (stagingBytes u j.staging) off) (passes : headerFail (jobExpect u.dev.live j ord) c = none)
    (typ : c.typ = 0x0F) (earlier : earlierTaken j ord = true)
    (tests : endFail j.content c (ord + 1) (off + 32 + c.len) j.length (fun b => j.palDone.contains b)
      (fun b => j.idxDone.contains b) = none) :
    (decodeChunk de ord j u).reg 0x2000 (de + 1) = 0 ∧
      (decodeChunk de ord j u).dev.memory.markers = s.dev.memory.markers ++ [(de, .finalDescriptors j.num)] ∧
      (jobOf (decodeChunk de ord j u) j.num).map (·.marking) = some true := by
  obtain ⟨v, e, freed, job⟩ := decodeChunk_headerPass h hde hc passes (testChunk_ends typ earlier tests)
  rw [e]
  exact takeResult_ends freed job

end

/-! ### A decoder that fails (R125) -/

/-- Decoder `de` is failed and no chunk waits in it. -/
def decoderDown (de : Nat) (s : State) : Prop := s.reg 0x2000 (de + 1) = 4 ∧ ∀ w ∈ s.dev.waiting, w.1 ≠ de

/-- A failed decoder is no decoder that waits, so that the end of an update does not free it. -/
theorem decoderDown_kept {de : Nat} (hde : de < 32) {s t : State} (down : decoderDown de s) (h : DecodersKept s t) :
    decoderDown de t := by
  refine ⟨?_, fun w hw => down.2 w (h.waiting hw)⟩
  rcases h.decoder de hde with e | ⟨_, w, hw, ew⟩
  · rw [e, down.1]
  · exact absurd ew (down.2 w hw)

/-- Decoder `de` is marked failed, and what it held is forgotten. -/
def decoderMarked (de : Nat) (s : State) : State :=
  (latch 2 (s.setReg 0x2000 (de + 1) 4)).modDev fun d =>
    { d with waiting := d.waiting.filter fun w => w.1 != de, lastChunk := d.lastChunk.filter fun w => w.1 != de }

/-- The same with the event of R125, whose class says whether another decoder still works. -/
def decoderLogged (de : Nat) (s : State) : State :=
  logEvent 125 (if (List.range 32).any fun d => (decoderMarked de s).reg 0x2000 (d + 1) != 4 then 1 else 4) 0x2000
    (de + 1) 0 (decoderMarked de s)

theorem decoderDown_logged {de : Nat} (hde : de < 32) (s : State) : decoderDown de (decoderLogged de s) := by
  refine decoderDown_kept hde (s := decoderMarked de s) ⟨?_, ?_⟩ (decodeQuiet_logEvent ..).toDecodersKept
  · unfold decoderMarked
    rw [reg_modDev_of_od _ _ rfl, reg_latch, if_neg, reg_setReg_same]
    intro e
    have := key_inj (by decide) (by omega) e
    omega
  · unfold decoderMarked
    simp

theorem jobOf_decoderLogged (de : Nat) (s : State) (num : Nat) : jobOf (decoderLogged de s) num = jobOf s num :=
  jobOf_congr (jobs_logEvent 125 _ 0x2000 (de + 1) 0 (decoderMarked de s)) num

theorem decoderFault_eq {de : Nat} {s : State} (works : s.reg 0x2000 (de + 1) ≠ 4) :
    decoderFault de s =
      match amGet s.dev.lastChunk de with
      | none => decoderLogged de s
      | some (num, ord) => match jobOf (decoderLogged de s) num with
        | none => decoderLogged de s
        | some j =>
          if j.marking then decoderLogged de s
          else if j.reissued.contains ord then
            jobFail j (freeValue (decoderLogged de s) % 256) ((j.seq + ord) % 2 ^ 32) true
              (!windowOpen (decoderLogged de s) j) (drawFree (decoderLogged de s))
          else
            modJob j.num (fun j => { withdrawChunk ord j with reissued := ord :: j.reissued }) (decoderLogged de s) := by
  unfold decoderFault
  rw [if_neg works]
  rfl

theorem decoderFault_down {de : Nat} (hde : de < 32) {s : State} (works : s.reg 0x2000 (de + 1) ≠ 4) :
    decoderDown de (decoderFault de s) := by
  have down := decoderDown_logged hde s
  rw [decoderFault_eq works]
  split
  · exact down
  · split
    · exact down
    · split
      · exact down
      · split
        · exact decoderDown_kept hde down
            ((decodeQuiet_modDev (decoderLogged de s)).toDecodersKept.trans (jobFail_updateFailed ..).toDecodersKept)
        · exact down

/-- The chunk that the decoder took last waits for a decoder again, unless it had been reissued (R125, log 137). -/
theorem decoderFault_reissues {de num ord : Nat} {s : State} {j : Job} (works : s.reg 0x2000 (de + 1) ≠ 4)
    (held : amGet s.dev.lastChunk de = some (num, ord)) (job : jobOf s num = some j) (decoding : j.marking = false)
    (first : j.reissued.contains ord = false) :
    jobOf (decoderFault de s) num = some { withdrawChunk ord j with reissued := ord :: j.reissued } := by
  have job' := (jobOf_decoderLogged de s num).trans job
  have e : decoderFault de s =
      modJob num (fun j => { withdrawChunk ord j with reissued := ord :: j.reissued }) (decoderLogged de s) := by
    rw [decoderFault_eq works, held]
    dsimp only
    rw [job']
    dsimp only
    rw [decoding, first, jobOf_num job]
    rfl
  rw [e]
  refine (jobOf_modJob (fun _ => ?_) _).trans ?_
  · rfl
  · rw [job']
    rfl

/-! ### Markers and copies (R133 to R136, R654) -/

theorem memoryServed_putDesc (src layer slot n frame lease b cells count : Nat) (s : State) :
    memoryServed s (putDesc src layer slot n frame lease b cells count s) := memoryServed_hbmStore ..

/-- The decode of a job ends with its final descriptors, and is counted; the markers are as before. -/
theorem finalDescriptors_ends (src : Nat) (j : Job) (s : State) :
    (∀ y ∈ (finalDescriptors src j s).dev.jobs, y.num ≠ j.num) ∧ counted s (finalDescriptors src j s) 0x2002 1 ∧
      (finalDescriptors src j s).dev.memory.markers = s.dev.memory.markers := by
  unfold finalDescriptors
  dsimp only
  have written := memoryServed_each
    (f := fun b => putDesc src j.layer j.slot j.target j.target j.lease b (cellsOf j.content b) (amGetD j.counts b 0))
    (fun _ _ => memoryServed_putDesc ..) (List.range (blockCount j.content)) s
  generalize s.each _ _ = v at written ⊢
  have dropped := written.quiet.trans (decodeQuiet_dropJob j.num v)
  have ended := dropJob_ended j.num v
  have memory := dropJob_memory j.num v
  generalize dropJob j.num v = a at dropped ended memory ⊢
  have count : counted s (a.bump 0x2002 1) 0x2002 1 := by
    rw [counted, reg_bump, if_pos rfl, dropped.counts 1 (by decide)]
  have markers : a.dev.memory.markers = s.dev.memory.markers := by rw [memory, written.markers]
  split
  · exact ⟨ended, count, markers⟩
  · split
    · exact ⟨ended, count, markers⟩
    · split <;> exact ⟨ended, count, markers⟩

/-- The state in which a marker has its effect: it is among the markers no more. -/
def markerTaken (m : Nat × MarkerUse) (s : State) : State :=
  modMemory (fun y => { y with markers := y.markers.erase m }) s

/-- The oldest marker of a source is a job's: its decode ends. -/
theorem markerComplete_final {src num : Nat} {s : State} {j : Job}
    (oldest : (s.dev.memory.markers.find? fun m => m.1 == src) = some (src, .finalDescriptors num))
    (job : jobOf s num = some j) (marking : j.marking = true) :
    markerComplete src s = finalDescriptors src j (markerTaken (src, .finalDescriptors num) s) := by
  have job' : jobOf (markerTaken (src, .finalDescriptors num) s) num = some j := job
  unfold markerComplete
  rw [oldest]
  dsimp only
  rw [← markerTaken, job']
  exact if_pos marking

theorem markerComplete_band {src band : Nat} {s : State} {u : BandUpdate}
    (oldest : (s.dev.memory.markers.find? fun m => m.1 == src) = some (src, .bandCopied band))
    (first : (s.dev.bandUpdates.find? fun u => u.band == band && !u.copied) = some u) :
    (markerComplete src s).reg 0x3412 6 = 2 ∧ { u with copied := true } ∈ (markerComplete src s).dev.bandUpdates := by
  unfold markerComplete
  rw [oldest]
  dsimp only [bandMarked, modMemory_dev]
  rw [first]
  exact ⟨reg_setReg_same .., List.mem_map.mpr ⟨u, List.mem_of_find?_eq_some first, if_pos rfl⟩⟩

theorem memoryServed_copyDescriptors (c : CopyJob) (s : State) : memoryServed s (copyDescriptors c s) := by
  refine memoryServed_each (fun b t => ?_) _ s
  split
  · exact .refl t
  · exact memoryServed_putDesc ..

theorem memoryServed_copyBlocks (c : CopyJob) (s : State) : memoryServed s (copyBlocks c s) := by
  refine memoryServed_each (fun b t => ?_) _ s
  split
  · exact .refl t
  · next tile palette mirror _ =>
    have asked := ((memoryServed_iff mirror (memoryServed_mirrorServed (c.target - 1) c.layer c.slot b t)).trans
      (memoryServed_tileMirrors (c.target - 1) c.layer c.slot b _)).trans
      (memoryServed_askBlock 0 (c.target - 1) c.layer c.slot b _)
    dsimp only
    split
    · exact asked
    · exact asked.trans ((memoryServed_hbmStore ..).trans (memoryServed_hbmStore ..))

theorem markerComplete_copy {src : Nat} {s : State} {c : CopyJob}
    (oldest : (s.dev.memory.markers.find? fun m => m.1 == src) = some (src, .copyDescriptors c))
    (runs : c ∈ s.dev.copies) : (markerComplete src s).dev.copies = s.dev.copies.erase c ∧
      counted s (markerComplete src s) 0x2002 (if c.restore then 4 else 3) := by
  have e : markerComplete src s = copyMarked c (markerTaken (src, .copyDescriptors c) s) := by
    unfold markerComplete
    rw [oldest]
    rfl
  have runs' : (markerTaken (src, .copyDescriptors c) s).dev.copies.contains c = true := List.contains_iff_mem.mpr runs
  rw [e, copyMarked, if_pos runs']
  have written := memoryServed_copyDescriptors c
    ((markerTaken (src, .copyDescriptors c) s).modDev fun d => { d with copies := d.copies.erase c })
  refine ⟨written.copies, ?_⟩
  rw [counted, reg_bump, if_pos rfl, written.2 _ _ (by decide) (by split <;> decide)]
  rfl

theorem copyComplete_marks {layer : Nat} {s : State} {c : CopyJob}
    (first : (s.dev.copies.find? fun c => c.layer == layer && !c.marking) = some c) :
    (copyComplete layer s).dev.copies = (s.dev.copies.map fun x => if x = c then c.marked else x) ∧
      (copyComplete layer s).dev.memory.markers = s.dev.memory.markers ++ [(0, .copyDescriptors c.marked)] := by
  have copied := memoryServed_copyBlocks c
    (s.modDev fun d => { d with copies := d.copies.map fun x => if x = c then c.marked else x })
  unfold copyComplete
  rw [first]
  exact ⟨copied.copies, congrArg (· ++ _) copied.markers⟩

/-- Settles O38. A chunk in hand acts on the job it belongs to, by the result of its tests; that the chunk reissued after
a fault is the one taken last is the model's choice (log 137), as is the source of a copy's marker (log 197). -/
theorem decoderCommands : Obligations.DecoderCommands := by
  unfold Obligations.DecoderCommands
  refine ⟨?header, ?palette, ?index, ?waits, ?ends, ?awaited, ?resumed, ?fault, ?final, ?band, ?copied, ?copyEnds⟩
  case header =>
    intro s u de ord off x j hde given fails
    obtain ⟨e, hand⟩ := chunkInHand_given given
    obtain ⟨ended, failures⟩ := decodeChunk_headerFail hand hde fails
    refine ⟨_, exec_chunkDecode de ord s hde, ?_⟩
    rw [counted, onMem_reg (by decide), onMem_dev, partsOf_jobs (by decide), e]
    exact ⟨ended, failures⟩
  case palette =>
    intro s u de ord off j c hde given hc passes typ records
    obtain ⟨e, hand⟩ := chunkInHand_given given
    obtain ⟨idle, settled⟩ := e ▸ decodeChunk_palettes hand hde hc passes typ records
    exact ⟨_, exec_chunkDecode de ord s hde, by rw [onMem_reg (by decide), idle],
      chunkSettled_onMem (by decide) (by decide) settled⟩
  case index =>
    intro s u de ord off j c hde given hc passes typ come records
    obtain ⟨e, hand⟩ := chunkInHand_given given
    obtain ⟨idle, expanded, settled⟩ := e ▸ decodeChunk_tiles hand hde hc passes typ come records
    exact ⟨_, exec_chunkDecode de ord s hde, by rw [onMem_reg (by decide), idle],
      by rw [onMem_reg (by decide), expanded], chunkSettled_onMem (by decide) (by decide) settled⟩
  case waits =>
    intro s u de ord off record block j c hde given hc passes typ waits
    obtain ⟨e, hand⟩ := chunkInHand_given given
    refine ⟨_, exec_chunkDecode de ord s hde, ?_⟩
    rw [onMem_reg (by decide), onMem_dev, partsOf_waiting (by decide), e]
    exact decodeChunk_waits hand hde hc passes typ waits
  case ends =>
    intro s u de ord off j c hde given hc passes typ earlier tests
    obtain ⟨e, hand⟩ := chunkInHand_given given
    refine ⟨_, exec_chunkDecode de ord s hde, ?_⟩
    rw [onMem_reg (by decide), onMem_dev, partsOf_memory (by decide), jobOf_onMem (by decide), e]
    exact decodeChunk_ends hand hde hc passes typ earlier tests
  case awaited =>
    intro s de w j hde waits job awaited
    have same : indexResume de s = s := by
      unfold indexResume
      simp only [waits, job, awaited]
      rfl
    refine ⟨_, exec_indexRecordResume de s hde, ?_⟩
    rw [onMem_dev, partsOf_waiting (by decide), partsOf_jobs (by decide), same]
    exact ⟨rfl, rfl⟩
  case resumed =>
    intro s de off w j c hde resumed hc passes typ come records
    obtain ⟨e, hand⟩ := chunkInHand_resumed resumed
    obtain ⟨idle, expanded, settled⟩ := e ▸ decodeChunk_tiles hand hde hc passes typ come records
    exact ⟨_, exec_indexRecordResume de s hde, by rw [onMem_reg (by decide), idle],
      by rw [onMem_reg (by decide), expanded], chunkSettled_onMem (by decide) (by decide) settled⟩
  case fault =>
    intro s de hde works
    obtain ⟨failed, waiting⟩ := decoderFault_down hde works
    refine ⟨_, exec_decoderFault de s hde, ?_⟩
    rw [onMem_reg (by decide), onMem_dev, partsOf_waiting (by decide)]
    refine ⟨failed, waiting, fun num ord j held job decoding first => ?_⟩
    rw [jobOf_onMem (by decide), decoderFault_reissues works held job decoding first]
    simp [withdrawChunk]
  case final =>
    intro s src num j hsrc oldest job marking
    obtain ⟨ended, count, markers⟩ := finalDescriptors_ends src j (markerTaken (src, .finalDescriptors num) s)
    refine ⟨_, exec_internalMarkerComplete src s hsrc, ?_⟩
    rw [counted, onMem_reg (by decide), onMem_dev, partsOf_jobs (by decide), partsOf_memory (by decide),
      markerComplete_final oldest job marking]
    exact ⟨ended, count, markers⟩
  case band =>
    intro s src band u hsrc oldest first
    refine ⟨_, exec_internalMarkerComplete src s hsrc, ?_⟩
    rw [onMem_reg (by decide), onMem_dev, partsOf_bandUpdates (by decide)]
    exact markerComplete_band oldest first
  case copied =>
    intro s src c hsrc oldest runs
    refine ⟨_, exec_internalMarkerComplete src s hsrc, ?_⟩
    rw [counted, onMem_reg (by decide), onMem_dev, partsOf_copies (by decide)]
    exact markerComplete_copy oldest runs
  case copyEnds =>
    intro s layer c hlayer first
    refine ⟨_, exec_copyComplete layer s hlayer, ?_⟩
    rw [onMem_dev, partsOf_copies (by decide), partsOf_memory (by decide)]
    exact copyComplete_marks first

end Sys2Proof.Machine
end

section
/-!
PROOF. The state after reset: registers at the defaults of their Objects tables, and nothing under way.
-/
namespace Sys2Proof.Machine

/-- The dictionary after reset lists no value, so every register holds its default. -/
theorem reg_reset (i j : Nat) : State.reset.reg i j = objDefault i j := rfl

theorem shad_reset (i j : Nat) : State.reset.shad i j = objDefault i j := rfl

theorem com_reset (i j : Nat) : State.reset.com i j = objDefault i j := rfl

/-- Settles O2: the dictionary after reset lists no object, so each reads as its default, and every queue and table is
empty. -/
theorem resetValues : Obligations.ResetValues := by
  unfold Obligations.ResetValues
  simp only [reg_reset, shad_reset, com_reset]
  have untrained : hbmTrained State.reset = false := by decide
  exact ⟨by decide, by decide, rfl, rfl, rfl, rfl, rfl, rfl, rfl, rfl, rfl, rfl, untrained, rfl, rfl, rfl⟩

end Sys2Proof.Machine
end

section
/-!
PROOF. The directory of the show library: a pinned clip is kept, and the states that the clip commands lead along
(R145, R150, R151, R153, R154).
-/
namespace Sys2Proof.Machine

/-! ### The directory through scopes and services -/

theorem clip_onDev {ps : List DevPart} (h : .clips ∈ ps) (f : State → State) (s : State) (e : Nat) :
    (onDev ps f s).clip e = (f s).clip e := by
  rw [State.clip, onDev_dev, partsOf_clips h, State.clip]

theorem memoryServed.clip {s t : State} (h : memoryServed s t) (e : Nat) : t.clip e = s.clip e := by
  obtain ⟨⟨_, _, _, _, rfl⟩, _⟩ := h; rfl

/-- The count of expanded sub-blocks is kept in registers alone (R174). -/
theorem clip_countExpanded (ds : List Nat) (n : Nat) (s : State) (e : Nat) :
    (countExpanded ds n s).clip e = s.clip e := by
  induction ds, n, s using countExpanded.induct with
  | case1 n s => rfl
  | case2 n s d => rfl
  | case3 n s d ds nonempty k ih =>
    rw [countExpanded.eq_3 _ _ _ _ nonempty]
    exact ih

/-! ### Pinned clips (R154) -/

theorem clipPinned_iff {s : State} {e : Nat} :
    clipPinned s e = true ↔ ∃ p ∈ s.dev.players, p.2.state ≠ 0 ∧ p.2.clip = e := by
  simp [clipPinned]

theorem clipRegister_pinned {s : State} (h : clipPinned s (clipSelected s) = true) : clipRegister s = (abInUse, s) :=
  if_pos (.inl h)

theorem clipVerify_pinned {s : State} (h : clipPinned s (clipSelected s) = true) : clipVerify s = (abInUse, s) :=
  if_pos (.inl h)

theorem clipUnregister_pinned {s : State} (h : clipPinned s (clipSelected s) = true) :
    clipUnregister s = (abInUse, s) := if_pos (.inl h)

/-- A directory command that is refused leaves the directory as it is. -/
theorem clips_onDev_refused {ps : List DevPart} (h : .clips ∈ ps) {f : State → Ans} {s : State} {code : Nat}
    (refused : f s = (code, s)) : (onDev ps (fun t => (f t).2) s).dev.clips = s.dev.clips := by
  rw [onDev_dev, partsOf_clips h, refused]

/-- Settles O18: the test of the pin stands first in each of the three operations, so each is refused before it acts. -/
theorem pinnedClipsAreKept : Obligations.PinnedClipsAreKept := by
  intro s played
  have pinned := clipPinned_iff.mpr played
  have register := clipRegister_pinned pinned
  have verify := clipVerify_pinned pinned
  have unregister := clipUnregister_pinned pinned
  exact ⟨register, verify, unregister,
    ⟨_, exec_clipRegister s, clips_onDev_refused (by decide) register⟩,
    ⟨_, exec_clipVerify s, clips_onDev_refused (by decide) verify⟩,
    ⟨_, exec_clipUnregister s, clips_onDev_refused (by decide) unregister⟩⟩

/-! ### The states of an entry (R150, R151, R153) -/

/-- The entry that REGISTER makes of a good header. -/
def clipLoaded (s : State) : ClipEntry :=
  { addr := s.reg 0x2021 2, length := s.reg 0x2021 3, state := 1
    frames := fieldLE (libraryBytes s (s.reg 0x2021 2) 64) 6 2
    mask := fieldLE (libraryBytes s (s.reg 0x2021 2) 64) 8 4 }

/-- What the end of its verification makes of entry `k`. -/
def clipJudged (s : State) (k : Nat) (c : ClipEntry) : ClipEntry :=
  match (verifyClip s k).2 with
  | .ok sum => { c with state := 3, progress := 100, summary := sum }
  | .error (d, f, i) =>
    { c with
      state := 4, progress := checkedPercent s c f i
      detail := d % 256 + f % 65536 * 2 ^ 8 + (maskLayers (s.clip k).mask).getD i 0 * 2 ^ 24 }

theorem clipJudged_passes {s : State} {k : Nat} (c : ClipEntry) {sum : List (Nat × Nat × Nat × Nat × Nat)}
    (h : (verifyClip s k).2 = .ok sum) : clipJudged s k c = { c with state := 3, progress := 100, summary := sum } := by
  unfold clipJudged
  rw [h]

theorem clipJudged_fails {s : State} {k d f i : Nat} (c : ClipEntry) (h : (verifyClip s k).2 = .error (d, f, i)) :
    clipJudged s k c = { c with
      state := 4, progress := checkedPercent s c f i
      detail := d % 256 + f % 65536 * 2 ^ 8 + (maskLayers (s.clip k).mask).getD i 0 * 2 ^ 24 } := by
  unfold clipJudged
  rw [h]

theorem clip_clipRegister {s : State} (free : clipPinned s (clipSelected s) = false)
    (empty : (s.clip (clipSelected s)).state = 0)
    (good : headerGood s (clipSelected s) (s.reg 0x2021 2) (s.reg 0x2021 3) = true) (e : Nat) :
    (clipRegister s).2.clip e = if clipSelected s = e then clipLoaded s else s.clip e := by
  unfold clipRegister
  rw [if_neg (by simp [free, empty]), if_neg (by simp [good])]
  exact ((memoryServed_hbmAsk ..).clip e).trans (clip_modClip ..)

theorem clip_clipVerify {s : State} (free : clipPinned s (clipSelected s) = false)
    (checkable : (s.clip (clipSelected s)).state = 1 ∨ (s.clip (clipSelected s)).state = 4) (e : Nat) :
    (clipVerify s).2.clip e = if clipSelected s = e then
      { s.clip (clipSelected s) with state := 2, progress := 0, detail := 0 } else s.clip e := by
  unfold clipVerify
  rw [if_neg (by simpa [free] using fun other => checkable.resolve_left other)]
  exact clip_modClip ..

theorem clip_clipUnregister {s : State} (free : clipPinned s (clipSelected s) = false)
    (used : (s.clip (clipSelected s)).state ≠ 0) (e : Nat) :
    (clipUnregister s).2.clip e = if clipSelected s = e then {} else s.clip e := by
  unfold clipUnregister
  rw [if_neg (by simp [free, used])]
  exact clip_modClip ..

theorem clip_clipVerified {s : State} {k : Nat} (checked : (s.clip k).state = 2) (e : Nat) :
    (clipVerified k s).clip e = if k = e then clipJudged s k (s.clip k) else s.clip e := by
  have served (j : Nat) : (countExpanded (decodersLeft s) (verifyClip s k).1
      (drawFree (hbmAsk 0 false (libraryBase + (s.clip k).addr) (s.clip k).length s))).clip j = s.clip j :=
    (clip_countExpanded ..).trans ((memoryServed_hbmAsk ..).clip j)
  unfold clipVerified
  rw [if_neg (by simp [checked])]
  dsimp only
  split
  · next passes => rw [clip_modClip, served, served, clipJudged_passes _ passes]
  · next fails => rw [clip_modClip, served, served, clipJudged_fails _ fails]

/-- Settles O37: each command is its operation under its scope, and of the directory the operation changes the entry it
names alone. -/
theorem clipCommands : Obligations.ClipCommands := by
  unfold Obligations.ClipCommands
  refine ⟨?register, ?verify, ?unregister, ?verified⟩
  case register =>
    intro s free empty good
    refine ⟨_, exec_clipRegister s, ?_, fun e other => ?_⟩
    · rw [clip_onDev (by decide), clip_clipRegister free empty good, if_pos rfl]
      rfl
    · rw [clip_onDev (by decide), clip_clipRegister free empty good, if_neg other.symm]
  case verify =>
    intro s free checkable
    refine ⟨_, exec_clipVerify s, ?_, fun e other => ?_⟩
    · rw [clip_onDev (by decide), clip_clipVerify free checkable, if_pos rfl]
    · rw [clip_onDev (by decide), clip_clipVerify free checkable, if_neg other.symm]
  case unregister =>
    intro s free used
    refine ⟨_, exec_clipUnregister s, ?_, fun e other => ?_⟩
    · rw [clip_onDev (by decide), clip_clipUnregister free used, if_pos rfl]
    · rw [clip_onDev (by decide), clip_clipUnregister free used, if_neg other.symm]
  case verified =>
    intro s k hk checked
    refine ⟨_, exec_clipVerificationComplete k s hk, fun e other => ?_, ?_⟩
    · rw [clip_onDev (by decide), clip_clipVerified checked, if_neg other.symm]
    · have judged : (onDev [.od, .clips, .tiles, .memory, .drawn] (clipVerified k) s).clip k =
          clipJudged s k (s.clip k) := by rw [clip_onDev (by decide), clip_clipVerified checked, if_pos rfl]
      split
      · next sum passes => exact judged.trans (clipJudged_passes _ passes)
      · next d f i fails =>
        have failed := judged.trans (clipJudged_fails _ fails)
        exact ⟨congrArg _ failed, congrArg _ failed⟩

end Sys2Proof.Machine
end

section
/-!
SUPPORT. What an uncorrectable access leaves alone (R674, R675), which registers requests and mirror reads of HBM keep
(R668, R672), and an event written after such changes (R869).
-/
namespace Sys2Proof.Machine

/-! ### Registers by index and subindex -/

theorem reg_setReg_sub {j j' : Nat} (hj : j < 256) (hj' : j' < 256) (h : j ≠ j') (i v i' : Nat) (s : State) :
    (s.setReg i j v).reg i' j' = s.reg i' j' := by
  rw [reg_setReg, if_neg fun e => h (key_inj hj hj' e).2]

theorem reg_setReg_index {i i' j j' : Nat} (hj : j < 256) (hj' : j' < 256) (h : i ≠ i') (v : Nat) (s : State) :
    (s.setReg i j v).reg i' j' = s.reg i' j' := by
  rw [reg_setReg, if_neg fun e => h (key_inj hj hj' e).1]

/-! ### Loops -/

/-- What a round of a loop brings about for its element, and every round keeps, holds of each element at the end. -/
theorem each_reaches {α : Type} {P : α → State → Prop} {f : α → State → State} (brings : ∀ x t, P x (f x t))
    (keeps : ∀ x y t, P x t → P x (f y t)) (xs : List α) (s : State) : ∀ x ∈ xs, P x (s.each xs f) := by
  intro x hx
  obtain ⟨before, after, rfl⟩ := List.append_of_mem hx
  rw [State.each, List.foldl_append]
  exact each_invariant (P x) f (keeps x) after _ (brings x _)

/-- What every round of a loop over its own elements leaves as it is, the loop leaves as it is. -/
theorem each_keeps_of_mem {α β : Type} (g : State → β) (f : α → State → State) (xs : List α)
    (h : ∀ x ∈ xs, ∀ t, g (f x t) = g t) (s : State) : g (s.each xs f) = g s := by
  unfold State.each
  induction xs generalizing s with
  | nil => rfl
  | cons x xs ih =>
    rw [List.foldl_cons, ih fun y hy => h y (List.mem_cons_of_mem x hy)]
    exact h x List.mem_cons_self s

/-! ### Requests and mirror reads -/

theorem memoryServed.synth {s t : State} (h : memoryServed s t) : t.dev.synth = s.dev.synth := by
  obtain ⟨⟨_, _, _, _, rfl⟩, _⟩ := h; rfl

/-- Requests touch the state of a pseudo-channel and its count of abandoned entries alone (R668). -/
theorem reg_hbmAsk_sub {y : Nat} (hy : y < 256) (state : y ≠ 1) (abandoned : y ≠ 9) (src : Nat) (write : Bool)
    (off len : Nat) (s : State) (x : Nat) : (hbmAsk src write off len s).reg x y = s.reg x y := by
  have touch (i : Nat) (t : State) : (pcTouch i t).reg x y = t.reg x y := by
    unfold pcTouch
    split
    · rw [State.bump, reg_setReg_sub (by decide) hy abandoned.symm, reg_setReg_sub (by decide) hy state.symm]
    · rw [reg_setReg_sub (by decide) hy state.symm]
    · rfl
  have request (i a : Nat) (t : State) : (pcRequest src i a t).reg x y = t.reg x y := by
    unfold pcRequest
    dsimp only
    split
    · rfl
    · exact touch i _
    · exact touch i _
    · rfl
    · rfl
  refine each_keeps (·.reg x y) _ (fun u t => ?_) _ s
  dsimp only
  split
  · rfl
  · exact each_keeps (·.reg x y) _ (fun i t => request i _ t) _ t

/-- A mirror read counts on subindex 7 alone (R672). -/
theorem reg_mirrorRead_sub {y : Nat} (hy : y < 256) (served : y ≠ 7) (off len : Nat) (s : State) (x : Nat) :
    (mirrorRead off len s).reg x y = s.reg x y := by
  have write (off : Nat) (bs : List Byte) (t : State) : (hbmWrite off bs t).reg x y = t.reg x y := by
    unfold hbmWrite
    dsimp only
    split <;> rfl
  unfold mirrorRead
  dsimp only
  split
  · split
    · rw [State.bump, reg_setReg_sub (by decide) hy served.symm]
    · rw [write, State.bump, reg_setReg_sub (by decide) hy served.symm]
  · rfl

/-! ### Uncorrectable accesses (R674, R675) -/

/-- `t` is `s` but for the dictionary, the state of the memories and the event log; of the registers none below index
0x5000 differs. -/
structure MemoryNoted (s t : State) : Prop where
  parts : ∃ od mem ev buf n, t = { s with dev := { s.dev with
    od := od, memory := mem, events := ev, eventBuffer := buf, eventMessages := n } }
  low : ∀ x y, x < 0x5000 → y < 256 → t.reg x y = s.reg x y

theorem MemoryNoted.refl (s : State) : MemoryNoted s s := ⟨⟨_, _, _, _, _, rfl⟩, fun _ _ _ _ => rfl⟩

theorem MemoryNoted.trans {s t u : State} (h : MemoryNoted s t) (k : MemoryNoted t u) : MemoryNoted s u := by
  obtain ⟨⟨_, _, _, _, _, rfl⟩, hr⟩ := h
  obtain ⟨⟨_, _, _, _, _, rfl⟩, kr⟩ := k
  exact ⟨⟨_, _, _, _, _, rfl⟩, fun x y hx hy => (kr x y hx hy).trans (hr x y hx hy)⟩

theorem MemoryNoted.synth {s t : State} (h : MemoryNoted s t) : t.dev.synth = s.dev.synth := by
  obtain ⟨⟨_, _, _, _, _, rfl⟩, _⟩ := h; rfl

theorem MemoryNoted.gov {s t : State} (h : MemoryNoted s t) : t.dev.gov = s.dev.gov := by
  obtain ⟨⟨_, _, _, _, _, rfl⟩, _⟩ := h; rfl

theorem memoryNoted_setReg {i j : Nat} (v : Nat) (s : State) (hi : 0x5000 ≤ i) : MemoryNoted s (s.setReg i j v) :=
  ⟨⟨_, _, _, _, _, rfl⟩, (memoryServed_setReg j v s hi).2⟩

theorem memoryNoted_logEvent (r c i j d : Nat) (s : State) : MemoryNoted s (logEvent r c i j d s) where
  parts := by
    obtain ⟨_, _, _, _, e⟩ := logEvent_eq r c i j d s
    exact ⟨_, _, _, _, _, e⟩
  low _ _ hx hy := reg_logEvent_index _ _ _ _ _ _ (by omega) hy

theorem memoryNoted_hbmAsk (src : Nat) (write : Bool) (off len : Nat) (s : State) :
    MemoryNoted s (hbmAsk src write off len s) where
  parts := by
    obtain ⟨_, _, e⟩ := hbmAsk_dev src write off len s
    exact ⟨_, _, _, _, _, e⟩
  low := (memoryServed_hbmAsk src write off len s).2

theorem memoryNoted_iff (c : Bool) {f : State → State} {s : State} (h : MemoryNoted s (f s)) :
    MemoryNoted s (s.iff c f) := by
  cases c
  · exact .refl s
  · exact h

theorem memoryNoted_stackOff (k : Nat) (s : State) : MemoryNoted s (stackOff k s) := by
  refine memoryNoted_iff _ ?_
  unfold domainOff
  split
  · exact .refl s
  · exact memoryNoted_setReg _ s (by decide)

theorem memoryNoted_pcFail (i cause : Nat) (s : State) : MemoryNoted s (pcFail i cause s) := by
  have own {j : Nat} (v : Nat) (t : State) : MemoryNoted t (t.setReg (0x5000 + i) j v) :=
    memoryNoted_setReg v t (by omega)
  have shared {j : Nat} (v : Nat) (t : State) : MemoryNoted t (t.setReg 0x5090 j v) :=
    memoryNoted_setReg v t (by decide)
  have latched (b : Nat) (t : State) : MemoryNoted t (latch b t) := memoryNoted_setReg _ t (by decide)
  unfold pcFail
  split
  · exact .refl s
  · dsimp only
    split
    all_goals
      refine .trans ?_ (memoryNoted_logEvent ..)
      refine .trans ?_ (memoryNoted_stackOff ..)
      exact ((((own ..).trans (own ..)).trans (shared ..)).trans (shared ..)).trans (latched ..)

theorem memoryNoted_pcUncorrectable (i : Nat) (s : State) : MemoryNoted s (pcUncorrectable i s) := by
  have timed (f : Pc → Pc) : MemoryNoted s (modPc i f s) := ⟨⟨_, _, _, _, _, rfl⟩, fun _ _ _ _ => rfl⟩
  unfold pcUncorrectable
  dsimp only
  split
  · exact (timed _).trans (memoryNoted_pcFail ..)
  · exact timed _

/-- Up to 15 accesses within a second leave the pseudo-channel in service (R674). -/
theorem pcUncorrectable_few {i : Nat} {s : State} (few : (within1s s.now (s.pc i).uncorrectable).length < 15) :
    ∃ f, pcUncorrectable i s = modPc i f s :=
  ⟨_, if_neg (by rw [List.length_cons]; omega)⟩

/-! ### Events -/

/-- An event written after changes that leave the log and HBM's training alone finds the room that was there. -/
theorem eventLogged_after {s u : State} (seq : u.reg 0x6000 1 = s.reg 0x6000 1)
    (trained : u.reg 0x5090 1 = s.reg 0x5090 1) (buffer : u.dev.eventBuffer = s.dev.eventBuffer) (room : canLog s)
    (r c i j d : Nat) : eventLogged r s (logEvent r c i j d u) := by
  have room' : canLog u := by rwa [canLog, hbmTrained, trained, buffer]
  have logged := logEvent_logged r c i j d u room'
  rwa [eventLogged, seq] at logged

theorem eventLogged_onDev {ps : List DevPart} (events : .events ∈ ps) (buffer : .eventBuffer ∈ ps) {r : Nat}
    {f : State → State} {s : State} (h : eventLogged r s (f s)) : eventLogged r s (onDev ps f s) := by
  simpa only [eventLogged, onDev_dev, partsOf_events events, partsOf_eventBuffer buffer] using h

end Sys2Proof.Machine
end

section
/-!
SUPPORT. Fetches of a patch and its completion: what they count, what a fetch keeps or misses, and that a patch which is
done is complete (R141 to R143, R207, R208, R210, R281).
-/
namespace Sys2Proof.Machine

theorem synth_logEvent (r c i j d : Nat) (s : State) : (logEvent r c i j d s).dev.synth = s.dev.synth :=
  (memoryNoted_logEvent r c i j d s).synth

/-! ### Layers that are visited (R231) -/

theorem mem_insertBy {α : Type} {le : α → α → Bool} {x y : α} {xs : List α} (h : y ∈ insertBy le x xs) :
    y = x ∨ y ∈ xs := by
  induction xs with
  | nil => exact .inl (List.mem_singleton.mp h)
  | cons z zs ih =>
    rw [insertBy] at h
    split at h
    · exact List.mem_cons.mp h
    · rcases List.mem_cons.mp h with rfl | h
      · exact .inr List.mem_cons_self
      · exact (ih h).imp_right (List.mem_cons_of_mem z)

theorem mem_sortBy {α : Type} {le : α → α → Bool} {y : α} {xs : List α} (h : y ∈ sortBy le xs) : y ∈ xs := by
  induction xs with
  | nil => exact h
  | cons x xs ih =>
    rcases mem_insertBy h with rfl | h
    · exact List.mem_cons_self
    · exact List.mem_cons_of_mem x (ih h)

/-- Planes and overlays are layers 0 to 31. -/
theorem layer_lt_of_visited {c : Committed} {v : Nat × Content} (h : v ∈ visitedPlanes c ++ visibleOverlays c) :
    v.1 < 32 := by
  have ranked {base : Nat} (hb : base ≤ 16) (hv : v ∈ (List.range 16).filterMap fun j =>
      (visibleContent c (base + j)).map fun ct => (base + j, ct)) : v.1 < 32 := by
    obtain ⟨j, hj, e⟩ := List.mem_filterMap.mp hv
    obtain ⟨ct, -, rfl⟩ := Option.map_eq_some_iff.mp e
    have := List.mem_range.mp hj
    dsimp only
    omega
  rcases List.mem_append.mp h with h | h
  · exact ranked (base := 0) (by decide) (by simpa only [Nat.zero_add] using mem_sortBy h)
  · exact ranked (by decide) (mem_sortBy h)

/-! ### What fetches and reads of a patch count -/

/-- Of the registers below index 0x5000, none of an index but 0x2011 and 0x3180, the counts of lease misses and of
protected reads, differs between `s` and `t` (R143, R281). -/
structure FetchCounts (s t : State) : Prop where
  regs : ∀ x y, x < 0x5000 → x ≠ 0x2011 → x ≠ 0x3180 → y < 256 → t.reg x y = s.reg x y

theorem FetchCounts.refl (s : State) : FetchCounts s s := ⟨fun _ _ _ _ _ _ => rfl⟩

theorem FetchCounts.trans {s t u : State} (h : FetchCounts s t) (k : FetchCounts t u) : FetchCounts s u :=
  ⟨fun x y hx h1 h2 hy => (k.regs x y hx h1 h2 hy).trans (h.regs x y hx h1 h2 hy)⟩

theorem FetchCounts.each {α : Type} {f : α → State → State} (xs : List α)
    (h : ∀ x ∈ xs, ∀ t, FetchCounts t (f x t)) (s : State) : FetchCounts s (s.each xs f) :=
  ⟨fun x y hx h1 h2 hy => each_keeps_of_mem (·.reg x y) f xs (fun z hz t => (h z hz t).regs x y hx h1 h2 hy) s⟩

theorem FetchCounts.iff (c : Bool) {f : State → State} {s : State} (h : FetchCounts s (f s)) :
    FetchCounts s (s.iff c f) := by
  cases c
  · exact .refl s
  · exact h

theorem memoryServed.fetchCounts {s t : State} (h : memoryServed s t) : FetchCounts s t :=
  ⟨fun x y hx _ _ hy => h.2 x y hx hy⟩

theorem MemoryNoted.fetchCounts {s t : State} (h : MemoryNoted s t) : FetchCounts s t :=
  ⟨fun x y hx _ _ hy => h.low x y hx hy⟩

theorem fetchCounts_bump {i j : Nat} (hi : i = 0x2011 ∨ i = 0x3180) (hj : j < 256) (s : State) :
    FetchCounts s (s.bump i j) :=
  ⟨fun _ _ _ _ _ hy => reg_setReg_index hj hy (by omega) _ s⟩

/-- A change of the device that leaves the dictionary alone counts nothing. -/
theorem fetchCounts_modDev {f : Dev → Dev} (s : State) (h : (f s.dev).od = s.dev.od) : FetchCounts s (s.modDev f) :=
  ⟨fun x y _ _ _ _ => reg_modDev_of_od f s h x y⟩

theorem fetchCounts_modSynth (f : Synth → Synth) (s : State) : FetchCounts s (modSynth f s) := fetchCounts_modDev s rfl

theorem fetchCounts_hbmWrite (off : Nat) (bs : List Byte) (s : State) : FetchCounts s (hbmWrite off bs s) :=
  (memoryServed_hbmWrite off bs s).fetchCounts

theorem fetchCounts_noted (bad : Bool) (i : Nat) (s : State) :
    FetchCounts s (if bad then pcUncorrectable i s else s) := by
  cases bad
  · exact .refl s
  · exact (memoryNoted_pcUncorrectable i s).fetchCounts

theorem fetchCounts_keepFetched (q : Patch) (e : CacheEntry) (s : State) : FetchCounts s (keepFetched q e s) := by
  unfold keepFetched
  exact fetchCounts_modSynth ..

theorem fetchCounts_leaseMiss {j : Nat} (hj : j < 32) (q : Patch) (s : State) : FetchCounts s (leaseMiss j q s) := by
  unfold leaseMiss
  extract_lets missed
  have h_missed : FetchCounts s missed :=
    (fetchCounts_modSynth ..).trans (fetchCounts_bump (.inl rfl) (by omega) _)
  split
  · exact .refl s
  split
  · exact h_missed
  · exact (h_missed.trans (fetchCounts_modSynth ..)).trans (memoryNoted_logEvent ..).fetchCounts

theorem fetchCounts_fetchFor (q : Patch) {layer : Nat} (hl : layer < 32) (block : Nat) (bad0 bad1 : Bool) (s : State) :
    FetchCounts s (fetchFor q layer block bad0 bad1 s) := by
  unfold fetchFor
  extract_lets l off entry try' note cached asked noted mirrored
  have h_asked : FetchCounts s asked := .iff _ (memoryServed_askBlock ..).fetchCounts
  have h_note (k : Nat) (bad : Bool) (t : State) : FetchCounts t (note k bad t) := by
    dsimp only [note]
    split
    · exact fetchCounts_noted ..
    · exact .refl t
  have h_noted : FetchCounts s noted := h_asked.trans (h_note ..)
  have h_mirrored : FetchCounts s mirrored :=
    (h_noted.trans (memoryServed_mirrorServed ..).fetchCounts).trans (memoryServed_tileMirrors ..).fetchCounts
  split
  · exact (h_asked.trans (.iff _ (memoryServed_tileMirrors ..).fetchCounts)).trans (fetchCounts_keepFetched ..)
  · split
    · refine .trans ?_ (fetchCounts_keepFetched ..)
      split
      · split
        · exact ((h_mirrored.trans (fetchCounts_hbmWrite ..)).trans (fetchCounts_hbmWrite ..)).trans
            (fetchCounts_hbmWrite ..)
        · exact h_mirrored
      · exact h_mirrored
    · exact (h_noted.trans (h_note ..)).trans (fetchCounts_leaseMiss hl ..)

theorem fetchCounts_patchFetches (q : Patch) (s : State) : FetchCounts s (patchFetches q s) := by
  unfold patchFetches
  dsimp only
  split
  · exact .refl s
  · refine .each _ (fun v hv t => .each _ (fun b _ t => ?_) t) s
    split
    · exact .refl t
    · exact fetchCounts_fetchFor q (layer_lt_of_visited hv) b false false t

theorem fetchCounts_rewriteFirst (off : Nat) (bad : Bool) (s : State) : FetchCounts s (rewriteFirst off bad s) := by
  unfold rewriteFirst
  split
  · exact ((memoryServed_setReg _ _ s (by omega)).trans (memoryServed_hbmWrite ..)).fetchCounts
  · exact (memoryServed_mirrorRead ..).fetchCounts

theorem fetchCounts_protectedLogged (s : State) :
    FetchCounts s (s.modDev fun d => { d with protectedLogged := true }) := fetchCounts_modDev s rfl

theorem fetchCounts_protectedRead (k b : Nat) (bad0 bad1 : Bool) (s : State) :
    FetchCounts s (protectedRead k b bad0 bad1 s) := by
  unfold protectedRead
  split
  · exact .refl s
  extract_lets note good base clean asked tiles noted spoilt
  have h_asked : FetchCounts s asked :=
    (((memoryServed_hbmAsk ..).trans (memoryServed_hbmAsk ..)).trans (memoryServed_hbmAsk ..)).fetchCounts
  have h_note (k : Nat) (bad : Bool) (t : State) : FetchCounts t (note k bad t) := by
    dsimp only [note]
    split
    · exact fetchCounts_noted ..
    · exact .refl t
  have h_tiles (t : State) : FetchCounts t (clean (tiles t)) :=
    ((memoryServed_mirrorRead ..).trans (memoryServed_mirrorRead ..)).fetchCounts.trans (fetchCounts_modSynth ..)
  have h_noted : FetchCounts s noted := (h_asked.trans (h_note ..)).trans (fetchCounts_bump (.inr rfl) (by decide) _)
  have h_spoilt : FetchCounts s spoilt := (h_noted.trans (h_note ..)).trans (fetchCounts_modSynth ..)
  split
  · exact h_asked.trans (h_tiles _)
  split
  · exact (h_noted.trans (fetchCounts_rewriteFirst ..)).trans (h_tiles _)
  split
  · exact h_spoilt
  · exact (h_spoilt.trans (fetchCounts_protectedLogged _)).trans (memoryNoted_logEvent ..).fetchCounts

theorem fetchCounts_protectedFetches (q : Patch) (s : State) : FetchCounts s (protectedFetches q s) := by
  refine .each _ (fun k _ t => ?_) s
  unfold protectedReads
  split
  · exact .refl t
  · refine .each _ (fun b _ u => ?_) t
    split
    · exact fetchCounts_bump (.inr rfl) (by decide) u
    · exact fetchCounts_protectedRead ..

theorem memoryServed_gainReads (q : Patch) (s : State) : memoryServed s (gainReads q s) := by
  unfold gainReads
  dsimp only
  split
  · exact .refl s
  · exact memoryServed_each (fun _ _ => memoryServed_hbmAsk ..) _ s

/-! ### A patch that is done (R210) -/

theorem memoryServed_flattenStrip (q : Patch) (s : State) : memoryServed s (flattenStrip q s) := by
  unfold flattenStrip
  split
  · exact memoryServed_each (fun _ _ => (memoryServed_hbmStore ..).trans (memoryServed_hbmStore ..)) _ s
  · exact .refl s

theorem fetchCounts_takeSignature (c : Committed) (q : Patch) (vals : List (List Rgba)) (s : State) :
    FetchCounts s (takeSignature c q vals s) := by
  unfold takeSignature
  split
  · exact .refl s
  refine .each _ (fun r _ t => ?_) s
  split
  · exact .refl t
  refine .each _ (fun l _ u => .each _ (fun x _ v => ?_) u) t
  dsimp only
  split
  · exact fetchCounts_modSynth ..
  · exact .refl v

theorem fetchCounts_patchDone (q : Patch) (s : State) : FetchCounts s (patchDone q s) := by
  unfold patchDone
  extract_lets fetched c raw signed lines summed flattened coded
  have h_fetched : FetchCounts s fetched :=
    ((fetchCounts_patchFetches ..).trans (fetchCounts_protectedFetches ..)).trans (memoryServed_gainReads ..).fetchCounts
  have h_signed : FetchCounts s signed := h_fetched.trans (fetchCounts_takeSignature ..)
  have h_summed : FetchCounts s summed := h_signed.trans (.each _ (fun h _ t => fetchCounts_modDev t rfl) _)
  have h_flattened : FetchCounts s flattened := by
    dsimp only [flattened]
    split
    · exact h_summed.trans (.each _ (fun h _ t => fetchCounts_modDev t rfl) _)
    · exact h_summed
  have h_coded : FetchCounts s coded := h_flattened.trans (.each _ (fun l _ t => fetchCounts_modSynth _ t) _)
  exact (h_coded.trans (fetchCounts_modSynth ..)).trans (memoryServed_flattenStrip ..).fetchCounts

theorem complete_patchDone (q : Patch) (s : State) : q ∈ (patchDone q s).dev.synth.complete := by
  unfold patchDone
  extract_lets fetched c raw signed lines summed flattened coded
  rw [(memoryServed_flattenStrip ..).synth]
  exact List.mem_cons_self

end Sys2Proof.Machine
end

section
/-!
PROOF. Patches that complete or fail in colour, window fetches, and strips of the freeze cache (R141 to R143, R170, R171,
R208, R210, R321, R346, R347).
-/
namespace Sys2Proof.Machine

/-! ### Completion (R210) -/

theorem patchComplete_running {s : State} {strip patch : Nat} {sc : Option Nat} {p : Patch}
    (runs : runningPatch s strip patch = some (sc, p)) (passes : s.dev.synth.colourFailed.contains p = false)
    (free : slotFree s p = true) :
    p ∈ (patchComplete strip patch s).dev.synth.complete ∧ ∀ i, sc = some i → i < 100 →
      (patchComplete strip patch s).reg 0x2101 (i + 1) = (s.reg 0x2101 (i + 1) + 1) % 2 ^ 32 := by
  unfold patchComplete
  rw [runs]
  dsimp only
  rw [if_neg (by rw [passes, free]; decide)]
  cases sc with
  | none => exact ⟨complete_patchDone p s, fun i h => nomatch h⟩
  | some i =>
    refine ⟨complete_patchDone p _, fun j same hj => ?_⟩
    cases same
    have kept := (fetchCounts_patchDone p (s.bumpSeq 0x2101 (i + 1))).regs 0x2101 (i + 1) (by decide) (by decide)
      (by decide) (by omega)
    exact kept.trans (reg_setReg_same ..)

/-! ### Faults of the colour unit (R321, R346, R347) -/

/-- Spares take quarters that wait, and nothing else changes (R219). -/
theorem assignRedo_takes (s : State) : ∃ waiting running,
    assignRedo s = modSynth (fun y => { y with redoWaiting := waiting, redoRunning := running }) s ∧
      waiting ⊆ s.dev.synth.redoWaiting ∧
      ∀ e ∈ running, e ∈ s.dev.synth.redoRunning ∨ e.2 ∈ s.dev.synth.redoWaiting := by
  refine each_invariant (fun t => ∃ waiting running,
    t = modSynth (fun y => { y with redoWaiting := waiting, redoRunning := running }) s ∧
      waiting ⊆ s.dev.synth.redoWaiting ∧
      ∀ e ∈ running, e ∈ s.dev.synth.redoRunning ∨ e.2 ∈ s.dev.synth.redoWaiting) _ (fun i t taken => ?_) _ s
    ⟨_, _, rfl, List.Subset.refl _, fun _ => .inl⟩
  split
  · next r rs first =>
    split
    · obtain ⟨waiting, running, rfl, left, taken⟩ := taken
      obtain rfl : waiting = r :: rs := first
      refine ⟨rs, amPut running i r, rfl, fun _ h => left (List.mem_cons_of_mem r h), fun e he => ?_⟩
      rcases mem_amPut he with rfl | he
      · exact .inr (left List.mem_cons_self)
      · exact taken e he
    · exact taken
  · exact taken

/-- Work on a patch whose second colour computation has failed ends (R347). -/
def colourGivenUp (q : Patch) (y : Synth) : Synth :=
  { y with
    colourFailed := q :: y.colourFailed
    running := y.running.filter fun e => e.2 != q
    redoWaiting := y.redoWaiting.filter fun r => r.1 != q
    redoRunning := y.redoRunning.filter fun e => e.2.1 != q
    redoDone := y.redoDone.filter fun r => r.1 != q }

section ResidueFail
variable {s : State} {strip patch : Nat} {p : Patch}
  (works : (workedAt s strip patch).or ((runningPatch s strip patch).map (·.2)) = some p)
include works

theorem residueFail_first : residueFail strip patch false s = modSynth
    (fun y => { y with recomputed := p :: y.recomputed.filter (· != p) }) (s.bump 0x3450 (halfOf (1920 * patch) + 1)) := by
  unfold residueFail
  rw [works]
  rfl

theorem residueFail_second : residueFail strip patch true s =
    assignRedo (modSynth (colourGivenUp p) (s.bump 0x3450 (halfOf (1920 * patch) + 1))) := by
  unfold residueFail
  rw [works]
  rfl

theorem residueFail_counts (second : Bool) :
    counted s (residueFail strip patch second s) 0x3450 (halfOf (1920 * patch) + 1) := by
  cases second with
  | false =>
    rw [residueFail_first works]
    exact reg_setReg_same ..
  | true =>
    obtain ⟨_, _, taken, -, -⟩ :=
      assignRedo_takes (modSynth (colourGivenUp p) (s.bump 0x3450 (halfOf (1920 * patch) + 1)))
    rw [residueFail_second works, taken]
    exact reg_setReg_same ..

theorem residueFail_givesUp :
    p ∈ (residueFail strip patch true s).dev.synth.colourFailed ∧
      (∀ e ∈ (residueFail strip patch true s).dev.synth.running, e.2 ≠ p) ∧
      ∀ e ∈ (residueFail strip patch true s).dev.synth.redoRunning, e.2.1 ≠ p := by
  obtain ⟨_, running, taken, -, from'⟩ :=
    assignRedo_takes (modSynth (colourGivenUp p) (s.bump 0x3450 (halfOf (1920 * patch) + 1)))
  rw [residueFail_second works, taken]
  refine ⟨List.mem_cons_self, fun e he => ?_, fun e he => ?_⟩
  · exact bne_iff_ne.mp (List.mem_filter.mp he).2
  · rcases from' e he with kept | waited
    · exact bne_iff_ne.mp (List.mem_filter.mp kept).2
    · exact bne_iff_ne.mp (List.mem_filter.mp waited).2

end ResidueFail

/-- The failing access of a read of the gain map, noted on its pseudo-channel (R673, R674). -/
def gainAccessNoted (off : Nat) (s : State) : State :=
  match (place s off).map (·.copies) with
  | some (i :: _) => (pcUncorrectable i s).bump (0x5000 + i) 6
  | _ => s

/-- The bytes that a read of the gain map lost, noted for the frame that it read for (R321). -/
def gainLost (off len : Nat) (s : State) : State :=
  (modGov (fun g => { g with badGain := (gainFrame s off, off, len) :: g.badGain }) (gainAccessNoted off s)).bump 0x3410 6

theorem gainFault_eq (off len : Nat) (s : State) : gainFault off len s = logEvent 321 3 0x3410 0 off (gainLost off len s) :=
  rfl

theorem memoryNoted_gainAccess (off : Nat) (s : State) : MemoryNoted s (gainAccessNoted off s) := by
  unfold gainAccessNoted
  split
  · exact (memoryNoted_pcUncorrectable ..).trans (memoryNoted_setReg _ _ (by omega))
  · exact .refl s

theorem gov_logEvent (r c i j d : Nat) (s : State) : (logEvent r c i j d s).dev.gov = s.dev.gov :=
  (memoryNoted_logEvent r c i j d s).gov

theorem badGain_gainFault (off len : Nat) (s : State) :
    (gainFault off len s).dev.gov.badGain = (gainFrame s off, off, len) :: s.dev.gov.badGain := by
  rw [gainFault_eq, gov_logEvent, ← (memoryNoted_gainAccess off s).gov]
  rfl

theorem gainFault_counts (off len : Nat) (s : State) : counted s (gainFault off len s) 0x3410 6 := by
  rw [counted, gainFault_eq, reg_logEvent_index _ _ _ _ _ _ (by decide) (by decide), gainLost, reg_bump, if_pos rfl,
    modGov_reg, (memoryNoted_gainAccess off s).low _ _ (by decide) (by decide)]

theorem gainFault_logs (off len : Nat) {s : State} (room : canLog s)
    (few : ∀ i, (within1s s.now (s.pc i).uncorrectable).length < 15) : eventLogged 321 s (gainFault off len s) := by
  have quiet : (∀ x y, y < 256 → y ≠ 6 → (gainLost off len s).reg x y = s.reg x y) ∧
      (gainLost off len s).dev.eventBuffer = s.dev.eventBuffer := by
    unfold gainLost gainAccessNoted
    split
    · next i _ _ =>
      obtain ⟨f, timed⟩ := pcUncorrectable_few (few i)
      rw [timed]
      refine ⟨fun x y hy other => ?_, rfl⟩
      rw [State.bump, reg_setReg_sub (by decide) hy other.symm, modGov_reg, State.bump,
        reg_setReg_sub (by decide) hy other.symm, modPc_reg]
    · refine ⟨fun x y hy other => ?_, rfl⟩
      rw [State.bump, reg_setReg_sub (by decide) hy other.symm, modGov_reg]
  obtain ⟨regs, buffer⟩ := quiet
  exact eventLogged_after (regs _ _ (by decide) (by decide)) (regs _ _ (by decide) (by decide)) buffer room ..

/-! ### Window fetches (R141 to R143, R207, R208) -/

theorem transparent_leaseMiss (j : Nat) (q : Patch) (s : State) :
    (j, q) ∈ (leaseMiss j q s).dev.synth.transparent := by
  unfold leaseMiss
  extract_lets missed
  split
  · next known => exact List.contains_iff_mem.mp known
  split
  · exact List.mem_cons_self
  · rw [synth_logEvent]
    exact List.mem_cons_self

theorem mem_cache_keepFetched (q : Patch) (e : CacheEntry) (s : State) : e ∈ (keepFetched q e s).dev.synth.cache :=
  List.mem_cons_self

theorem reg_keepFetched (q : Patch) (e : CacheEntry) (s : State) (x y : Nat) :
    (keepFetched q e s).reg x y = s.reg x y := rfl

/-- The layer as the frame of a patch shows it (R201). -/
abbrev fetchedLayer (s : State) (q : Patch) (layer : Nat) : Layer := amGetD (stateOf s q.count).layers layer {}

section WindowFetch
variable {s : State} {strip patch layer block : Nat} {p : Patch} {x : List Byte × List Byte}

/-- A block that a store or cache holds, or whose first copy is good, is kept under its layer's lease. -/
theorem fetchFor_found (bad1 : Bool)
    (found : (cachedBlock s p layer (fetchedLayer s p layer).lease block).or
      (blockCopy s p.count layer (fetchedLayer s p layer).slot (fetchedLayer s p layer).lease block 0) = some x) :
    (∃ e ∈ (fetchFor p layer block false bad1 s).dev.synth.cache, e.layer = layer ∧ e.group = p.count % 2 ∧
      e.block = block ∧ e.tile = x.1 ∧ e.palette = x.2 ∧ e.lease = (fetchedLayer s p layer).lease) ∧
    ∀ i, (fetchFor p layer block false bad1 s).reg i 5 = s.reg i 5 := by
  have asks (t : State) (l : Layer) (i : Nat) : (askBlock 32 p.count layer l.slot block t).reg i 5 = t.reg i 5 := by
    simp only [askBlock, reg_hbmAsk_sub (by decide : 5 < 256) (by decide) (by decide)]
  have mirrors (t : State) (l : Layer) (i : Nat) : (tileMirrors p.count layer l.slot block t).reg i 5 = t.reg i 5 := by
    simp only [tileMirrors, reg_mirrorRead_sub (by decide : 5 < 256) (by decide)]
  unfold fetchFor
  extract_lets l off entry try' note cached asked noted mirrored
  have read : try' 0 false = blockCopy s p.count layer l.slot l.lease block 0 := if_neg Bool.false_ne_true
  have here : cached.or (try' 0 false) = some x := read ▸ found
  rw [here]
  refine ⟨⟨_, mem_cache_keepFetched .., rfl, rfl, rfl, rfl, rfl, rfl⟩, fun i => ?_⟩
  have h_asked : asked.reg i 5 = s.reg i 5 := iff_keeps (·.reg i 5) _ _ s (asks ..)
  rw [reg_keepFetched, ← h_asked]
  exact iff_keeps (·.reg i 5) _ _ asked (mirrors ..)

/-- A block that is held nowhere, and whose copies are both read with an error, makes its layer transparent. -/
theorem fetchFor_lost (absent : cachedBlock s p layer (fetchedLayer s p layer).lease block = none) :
    (layer, p) ∈ (fetchFor p layer block true true s).dev.synth.transparent := by
  unfold fetchFor
  extract_lets l off entry try' note cached asked noted mirrored
  have nowhere : cached.or (try' 0 true) = none := by rw [show cached = none from absent]; rfl
  have lost : try' 1 true = none := rfl
  rw [nowhere, lost]
  exact transparent_leaseMiss ..

/-- A fetch for a patch that is worked on follows the count of a corrected error, which leaves what it reads alone
(R671). -/
theorem windowFetch_worked (layer block : Nat) (works : workedAt s strip patch = some p) (first : CopyRead) (bad1 : Bool) :
    ∃ u, windowFetch strip patch layer block first bad1 s = fetchFor p layer block first.bad bad1 u ∧
      readsSame s u ∧ u.dev.synth = s.dev.synth ∧ stateOf u p.count = stateOf s p.count ∧
      ∀ i, first.single = true → descriptorPc s p.count layer (fetchedLayer s p layer).slot block 0 = some i →
        cachedBlock s p layer (fetchedLayer s p layer).lease block = none → counted s u (0x5000 + i) 5 := by
  unfold windowFetch
  rw [works]
  dsimp only
  split
  · next i corrected =>
    refine ⟨_, rfl, readsSame_setReg _ s (by decide) (fun h => nomatch h), rfl, rfl, fun j single at' absent => ?_⟩
    rw [if_pos (by rw [single, absent]; rfl), at'] at corrected
    cases corrected
    exact reg_setReg_same ..
  · next other =>
    refine ⟨s, rfl, readsSame.refl s, rfl, rfl, fun j single at' absent => ?_⟩
    rw [if_pos (by rw [single, absent]; rfl), at'] at other
    cases other

/-- What a patch has fetched lies in its stores and the window cache alone (R207, R208). -/
theorem cachedBlock_congr {u : State} (h : u.dev.synth = s.dev.synth) (lease : Nat) :
    cachedBlock u p layer lease block = cachedBlock s p layer lease block := by
  simp only [cachedBlock, h]

theorem windowFetch_found (works : workedAt s strip patch = some p) (single bad1 : Bool)
    (found : (cachedBlock s p layer (fetchedLayer s p layer).lease block).or
      (blockCopy s p.count layer (fetchedLayer s p layer).slot (fetchedLayer s p layer).lease block 0) = some x) :
    (∀ i, single = true → descriptorPc s p.count layer (fetchedLayer s p layer).slot block 0 = some i →
      cachedBlock s p layer (fetchedLayer s p layer).lease block = none →
      counted s (windowFetch strip patch layer block ⟨single, false⟩ bad1 s) (0x5000 + i) 5) ∧
    ∃ e ∈ (windowFetch strip patch layer block ⟨single, false⟩ bad1 s).dev.synth.cache, e.layer = layer ∧
      e.group = p.count % 2 ∧ e.block = block ∧ e.tile = x.1 ∧ e.palette = x.2 ∧
      e.lease = (fetchedLayer s p layer).lease := by
  obtain ⟨u, fetches, same, synth, shown, corrected⟩ := windowFetch_worked layer block works ⟨single, false⟩ bad1
  rw [← cachedBlock_congr synth, ← blockCopy_congr same, fetchedLayer, ← shown] at found
  obtain ⟨kept, counts⟩ := fetchFor_found bad1 found
  rw [fetches, fetchedLayer, ← shown]
  refine ⟨fun i one at' absent => (counts _).trans ?_, kept⟩
  rw [shown] at at' absent
  exact corrected i one at' absent

theorem windowFetch_lost (works : workedAt s strip patch = some p) (single : Bool)
    (absent : cachedBlock s p layer (fetchedLayer s p layer).lease block = none) :
    (layer, p) ∈ (windowFetch strip patch layer block ⟨single, true⟩ true s).dev.synth.transparent := by
  obtain ⟨u, fetches, -, synth, shown, -⟩ := windowFetch_worked layer block works ⟨single, true⟩ true
  rw [← cachedBlock_congr synth, fetchedLayer, ← shown] at absent
  rw [fetches]
  exact fetchFor_lost absent

end WindowFetch

/-! ### Strips of the freeze caches (R170, R171) -/

section FreezeCaches
variable {s : State} {strip : Nat} {bad0 bad1 : Bool}
  (frozen : (stateOf s (stripCount s strip)).frozen = true)
  (free : slotFree s ⟨stripCount s strip, strip, 0⟩ = true)
  (incomplete : s.dev.synth.complete.contains ⟨stripCount s strip, strip, 0⟩ = false)
  (unmissed : s.dev.synth.missed.contains ⟨stripCount s strip, strip, 0⟩ = false)
include frozen free incomplete unmissed

theorem freezeStripRead_given (b0 : bad0 = false)
    (given : (cacheRead (hbmAsk 39 false (cacheBase s 0 + strip * cacheStripBytes (stateOf s (stripCount s strip)))
      (cacheStripBytes (stateOf s (stripCount s strip))) s) strip 0).isSome = true) :
    ∀ k, k < patchesPerStrip (stateOf s (stripCount s strip)) →
      (⟨stripCount s strip, strip, k⟩ : Patch) ∈ (freezeStripRead strip bad0 bad1 s).dev.synth.complete := by
  intro k hk
  obtain ⟨bytes, read⟩ := Option.isSome_iff_exists.mp given
  subst b0
  unfold freezeStripRead
  extract_lets q c n all note asked get noted other mirrored failed
  rw [if_neg (by simp only [c, q, frozen, free, incomplete, unmissed]; decide)]
  have first : get 0 false = some bytes := read
  rw [first]
  exact each_reaches (P := fun k t => ({ q with patch := k } : Patch) ∈ t.dev.synth.complete)
    (fun _ _ => List.mem_cons_self) (fun _ _ _ => List.mem_cons_of_mem _) _ _ k (List.mem_range.mpr hk)

theorem freezeStripRead_lost (b0 : bad0 = true) (b1 : bad1 = true) :
    counted s (freezeStripRead strip bad0 bad1 s) 0x2040 4 ∧
      ∀ k, k < patchesPerStrip (stateOf s (stripCount s strip)) →
        (⟨stripCount s strip, strip, k⟩ : Patch) ∈ (freezeStripRead strip bad0 bad1 s).dev.synth.missed := by
  subst b0 b1
  unfold freezeStripRead
  extract_lets q c n all note asked get noted other mirrored failed
  rw [if_neg (by simp only [c, q, frozen, free, incomplete, unmissed]; decide)]
  have h_note (k : Nat) (bad : Bool) (t : State) : MemoryNoted t (note k bad t) := by
    dsimp only [note]
    split
    · cases bad
      · exact .refl t
      · exact memoryNoted_pcUncorrectable ..
    · exact .refl t
  have h_mirrored : MemoryNoted s mirrored :=
    (((memoryNoted_hbmAsk ..).trans (h_note ..)).trans (memoryNoted_iff _ (memoryNoted_hbmAsk ..))).trans (h_note ..)
  have h_failed : failed.reg 0x2040 4 = min (s.reg 0x2040 4 + 1) 0xFFFFFFFF := by
    rw [← h_mirrored.low 0x2040 4 (by decide) (by decide)]
    exact reg_setReg_same ..
  have first : get 0 true = none := rfl
  have second : get 1 true = none := rfl
  rw [first, second]
  refine ⟨?_, fun k hk => ?_⟩
  · rw [counted, reg_logEvent_index _ _ _ _ _ _ (by decide) (by decide), ← h_failed]
    refine each_keeps (·.reg 0x2040 4) _ ?_ _ failed
    exact fun _ _ => rfl
  · rw [synth_logEvent]
    exact each_reaches (P := fun k t => ({ q with patch := k } : Patch) ∈ t.dev.synth.missed)
      (fun _ _ => List.mem_cons_self) (fun _ _ _ => List.mem_cons_of_mem _) _ failed k (List.mem_range.mpr hk)

end FreezeCaches

/-! ### The commands -/

/-- Settles O35: each command is its operation under its scope, and each clause is what that operation does to the patch
or strip. -/
theorem patchAndWindowCommands : Obligations.PatchAndWindowCommands := by
  unfold Obligations.PatchAndWindowCommands
  refine ⟨?complete, ?residue, ?gain, ?fetch, ?freeze⟩
  case complete =>
    intro s strip patch sc p hstrip hpatch runs passes free
    obtain ⟨done, count⟩ := patchComplete_running runs passes free
    refine ⟨_, exec_patchComplete strip patch s hstrip hpatch, ?_, fun i cluster hi => ?_⟩
    · rw [onMem_dev, partsOf_synth (by decide)]
      exact done
    · rw [onMem_reg (by decide), count i cluster hi]
  case residue =>
    intro s strip patch second p hstrip hpatch works
    refine ⟨_, exec_colourResidueFail strip patch second s hstrip hpatch, ?_, ?_, ?_⟩
    · rw [counted, onDev_reg (by decide)]
      exact residueFail_counts works second
    · rintro rfl
      rw [onDev_dev, partsOf_synth (by decide)]
      exact residueFail_givesUp works
    · rintro rfl
      rw [onDev_dev, partsOf_synth (by decide), residueFail_first works]
      exact ⟨List.mem_cons_self, rfl⟩
  case gain =>
    intro s off len
    refine ⟨_, exec_gainMapReadFault off len s, ?_, ?_, fun room few => ?_⟩
    · rw [onDev_dev, partsOf_gov (by decide), badGain_gainFault]
    · rw [counted, onDev_reg (by decide)]
      exact gainFault_counts off len s
    · exact eventLogged_onDev (by decide) (by decide) (gainFault_logs off len room few)
  case fetch =>
    intro s strip patch layer block p single bad1 hstrip hpatch hlayer hblock works
    refine ⟨fun x found => ?_, fun absent => ?_⟩
    · obtain ⟨counts, kept⟩ := windowFetch_found works single bad1 found
      refine ⟨_, exec_windowFetch strip patch layer block _ bad1 s hstrip hpatch hlayer hblock, ?_⟩
      rw [onMem_dev, partsOf_synth (by decide)]
      refine ⟨fun i one at' uncached => ?_, kept⟩
      rw [counted, onMem_reg (by decide)]
      exact counts i one at' uncached
    · refine ⟨_, exec_windowFetch strip patch layer block _ true s hstrip hpatch hlayer hblock, ?_⟩
      rw [onMem_dev, partsOf_synth (by decide)]
      exact windowFetch_lost works single absent
  case freeze =>
    intro s strip bad0 bad1 hstrip frozen free incomplete unmissed
    refine ⟨_, exec_freezeCacheStripRead strip bad0 bad1 s hstrip, fun b0 b1 => ?_, fun b0 given => ?_⟩
    · rw [counted, onDev_reg (by decide), onDev_dev, partsOf_synth (by decide)]
      exact freezeStripRead_lost frozen free incomplete unmissed b0 b1
    · rw [onDev_dev, partsOf_synth (by decide)]
      exact freezeStripRead_given frozen free incomplete unmissed b0 given

end Sys2Proof.Machine
end

section
/-!
SUPPORT. Dispatch, redo and stopped clusters: what handing out patches and quarters can change, and what a failed cluster
leaves behind (R212, R217, R219, R221).
-/
namespace Sys2Proof.Machine

/-! ### Patches handed out (R212) -/

/-- Requests are met from the queue, and nothing else changes. -/
theorem dispatchLoop_takes (n : Nat) (s : State) : ∃ queue requests running,
    dispatchLoop n s = modSynth (fun y => { y with queue := queue, requests := requests, running := running }) s ∧
      ∀ e ∈ running, e ∈ s.dev.synth.running ∨ e.1 ∈ s.dev.synth.requests := by
  induction n generalizing s with
  | zero => exact ⟨_, _, _, rfl, fun _ => .inl⟩
  | succ n ih =>
    rw [dispatchLoop]
    split
    · next q qs i is _ asked =>
      obtain ⟨queue, requests, running, handed, from'⟩ := ih (modSynth (fun y =>
        { y with queue := qs, requests := is, running := y.running ++ [(i, q)] }) s)
      refine ⟨queue, requests, running, handed, fun e he => ?_⟩
      rw [asked]
      rcases from' e he with ran | waits
      · rcases List.mem_append.mp ran with old | new
        · exact .inl old
        · cases List.mem_singleton.mp new
          exact .inr List.mem_cons_self
      · exact .inr (List.mem_cons_of_mem i waits)
    · exact ⟨_, _, _, rfl, fun _ => .inl⟩

theorem dispatch_single {s : State} {p : Patch} {ps : List Patch} {i : Nat} (waits : s.dev.synth.queue = p :: ps)
    (asks : s.dev.synth.requests = [i]) :
    dispatch s = modSynth (fun y => { y with queue := ps, requests := [], running := y.running ++ [(i, p)] }) s := by
  rw [dispatch, asks, List.length_singleton, dispatchLoop, waits, asks]
  rfl

theorem clusterHere_of_scheduled {s : State} {i : Nat} (h : scheduled s i = true) : clusterHere s i = true := by
  simp only [scheduled, Bool.and_eq_true] at h
  obtain ⟨⟨here, -⟩, -⟩ := h
  exact here

theorem patchRequest_first {s : State} {i : Nat} {p : Patch} {ps : List Patch} (sched : scheduled s i = true)
    (powered : clustersOff s = false) (alone : s.dev.synth.requests = [])
    (idle : (s.dev.synth.redoRunning.any fun e => e.1 == i) = false) (waits : s.dev.synth.queue = p :: ps) :
    patchRequest i s =
      modSynth (fun y => { y with queue := ps, requests := [], running := y.running ++ [(i, p)] }) s := by
  have takes : (scheduled s i && clustersWork s && !s.dev.synth.requests.contains i &&
      !(s.dev.synth.redoRunning.any fun e => e.1 == i)) = true := by
    rw [sched, clustersWork, powered, alone, idle]
    rfl
  have asks : (modSynth (fun y => { y with requests := y.requests ++ [i] }) s).dev.synth.requests = [i] := by
    rw [modSynth_dev, alone]
    rfl
  rw [patchRequest, if_pos takes]
  exact dispatch_single waits asks

/-! ### Redo (R219, R221) -/

/-- `t` holds the events on chip that `s` holds, and of the registers only the count of patches redone, 0x2103:01, may
differ. -/
structure RedoKeeps (s t : State) : Prop where
  buffer : t.dev.eventBuffer = s.dev.eventBuffer
  regs : ∀ x y, y < 256 → x ≠ 0x2103 ∨ y ≠ 1 → t.reg x y = s.reg x y

theorem RedoKeeps.refl (s : State) : RedoKeeps s s := ⟨rfl, fun _ _ _ _ => rfl⟩

theorem RedoKeeps.trans {s t u : State} (h : RedoKeeps s t) (k : RedoKeeps t u) : RedoKeeps s u :=
  ⟨k.buffer.trans h.buffer, fun x y hy other => (k.regs x y hy other).trans (h.regs x y hy other)⟩

theorem redoKeeps_modSynth (f : Synth → Synth) (s : State) : RedoKeeps s (modSynth f s) := ⟨rfl, fun _ _ _ _ => rfl⟩

theorem redoKeeps_dispatch (s : State) : RedoKeeps s (dispatch s) := by
  obtain ⟨_, _, _, handed, -⟩ := dispatchLoop_takes s.dev.synth.requests.length s
  rw [dispatch, handed]
  exact redoKeeps_modSynth ..

theorem redoKeeps_assignRedo (s : State) : RedoKeeps s (assignRedo s) := by
  obtain ⟨_, _, taken, -, -⟩ := assignRedo_takes s
  rw [taken]
  exact redoKeeps_modSynth ..

theorem redoKeeps_redoPatch (q : Patch) (s : State) : RedoKeeps s (redoPatch q s) := by
  have counts (t : State) : RedoKeeps t (t.bump 0x2103 1) := by
    refine ⟨rfl, fun x y hy other => ?_⟩
    rcases other with index | sub
    · exact reg_setReg_index (by decide) hy index.symm ..
    · exact reg_setReg_sub (by decide) hy sub.symm ..
  exact ((redoKeeps_modSynth ..).trans (counts _)).trans (redoKeeps_assignRedo _)

theorem redoKeeps_reissueQuarter (i : Nat) (s : State) : RedoKeeps s (reissueQuarter i s) := by
  unfold reissueQuarter
  split
  · exact .refl s
  · exact (redoKeeps_modSynth ..).trans (redoKeeps_assignRedo _)

theorem redoKeeps_dropPatches (i : Nat) (worked : Option Patch) (s : State) :
    RedoKeeps s (dropPatches i worked s) := by
  cases worked with
  | none => exact (redoKeeps_modSynth ..).trans (redoKeeps_dispatch _)
  | some q => exact ((redoKeeps_modSynth ..).trans (redoKeeps_dispatch _)).trans (redoKeeps_redoPatch ..)

theorem running_assignRedo (s : State) : (assignRedo s).dev.synth.running = s.dev.synth.running := by
  obtain ⟨_, _, taken, -, -⟩ := assignRedo_takes s
  rw [taken]
  rfl

theorem complete_assignRedo (s : State) : (assignRedo s).dev.synth.complete = s.dev.synth.complete := by
  obtain ⟨_, _, taken, -, -⟩ := assignRedo_takes s
  rw [taken]
  rfl

theorem redoDone_assignRedo (s : State) : (assignRedo s).dev.synth.redoDone = s.dev.synth.redoDone := by
  obtain ⟨_, _, taken, -, -⟩ := assignRedo_takes s
  rw [taken]
  rfl

theorem running_redoPatch (q : Patch) (s : State) : (redoPatch q s).dev.synth.running = s.dev.synth.running :=
  running_assignRedo _

theorem running_reissueQuarter (i : Nat) (s : State) :
    (reissueQuarter i s).dev.synth.running = s.dev.synth.running := by
  unfold reissueQuarter
  split
  · rfl
  · exact running_assignRedo _

/-! ### Clusters that stop (R217) -/

/-- A cluster that stops runs nothing: it asks for no patch any more, so dispatch hands it none. -/
theorem dropPatches_idle (i : Nat) (worked : Option Patch) (s : State) :
    ∀ e ∈ (dropPatches i worked s).dev.synth.running, e.1 ≠ i := by
  unfold dropPatches
  extract_lets mine dropped dispatched
  have idle : ∀ e ∈ dispatched.dev.synth.running, e.1 ≠ i := by
    obtain ⟨_, _, running, handed, from'⟩ := dispatchLoop_takes dropped.dev.synth.requests.length dropped
    intro e he
    simp only [dispatched, dispatch, handed, modSynth_dev] at he
    rcases from' e he with ran | asked
    · exact bne_iff_ne.mp (List.mem_filter.mp ran).2
    · exact bne_iff_ne.mp (List.mem_filter.mp asked).2
  cases worked with
  | none => exact idle
  | some q =>
    rw [running_redoPatch]
    exact idle

/-- A cluster marked failed changes the dictionary alone. -/
theorem clusterFail_eq (i : Nat) (s : State) :
    ∃ od, clusterFail i s = { s with dev := { s.dev with od := od } } := by
  unfold clusterFail domainOff
  dsimp only
  split
  · split <;> exact ⟨_, rfl⟩
  · exact ⟨_, rfl⟩

theorem buffer_clusterFail (i : Nat) (s : State) : (clusterFail i s).dev.eventBuffer = s.dev.eventBuffer := by
  obtain ⟨_, marked⟩ := clusterFail_eq i s
  rw [marked]

theorem reg_domainOff {d x y : Nat} (hd : d < 255) (hx : x ≠ 0x5430) (hy : y < 256) (s : State) :
    (domainOff d s).reg x y = s.reg x y := by
  unfold domainOff
  split
  · rfl
  · exact reg_setReg_index (by omega) hy hx.symm ..

/-- Beside the cluster's mark, a failed cluster changes FAULT_N and the state of its power domain alone. -/
theorem reg_clusterFail {i x y : Nat} (hi : i < 100) (power : x ≠ 0x5430) (latched : x ≠ 0x6030) (hy : y < 256)
    (s : State) : (clusterFail i s).reg x y = (s.setReg 0x2100 (i + 1) 3).reg x y := by
  have marked : (latch 2 (s.setReg 0x2100 (i + 1) 3)).reg x y = (s.setReg 0x2100 (i + 1) 3).reg x y :=
    reg_setReg_index (by decide) hy latched.symm ..
  unfold clusterFail
  dsimp only
  split
  · rw [reg_domainOff (by omega) power hy, marked]
  · exact marked

theorem reg_clusterFail_index {i x y : Nat} (hi : i < 100) (mark : x ≠ 0x2100) (power : x ≠ 0x5430)
    (latched : x ≠ 0x6030) (hy : y < 256) (s : State) : (clusterFail i s).reg x y = s.reg x y := by
  rw [reg_clusterFail hi power latched hy, reg_setReg_index (by omega) hy mark.symm]

/-- SC`i` fails: it is marked and counted, and its patches and its quarter go to others (R217, R221). -/
def clusterStopped (i : Nat) (s : State) : State :=
  let t := (clusterFail i s).bump 0x2102 (i + 1)
  reissueQuarter i (dropPatches i (workedPatch t i) t)

theorem clusterFault_working {i : Nat} {s : State} (works : clusterFailed s i = false) :
    ∃ cls, clusterFault i s = logEvent 217 cls 0x2100 (i + 1) 0 (clusterStopped i s) :=
  ⟨_, if_neg (by rw [works]; decide)⟩

theorem redoKeeps_clusterStopped (i : Nat) (s : State) :
    RedoKeeps ((clusterFail i s).bump 0x2102 (i + 1)) (clusterStopped i s) :=
  (redoKeeps_dropPatches ..).trans (redoKeeps_reissueQuarter ..)

theorem clusterFault_marks {i : Nat} (hi : i < 100) (s : State) : (clusterFault i s).reg 0x2100 (i + 1) = 3 := by
  cases works : clusterFailed s i with
  | true =>
    rw [clusterFault, if_pos works]
    exact beq_iff_eq.mp works
  | false =>
    obtain ⟨cls, fails⟩ := clusterFault_working works
    rw [fails, reg_logEvent_index _ _ _ _ _ _ (by decide) (by omega),
      (redoKeeps_clusterStopped i s).regs _ _ (by omega) (.inl (by decide)), State.bump,
      reg_setReg_index (by omega) (by omega) (by decide), reg_clusterFail hi (by decide) (by decide) (by omega),
      reg_setReg_same]

section ClusterFault
variable {i : Nat} {s : State} (works : clusterFailed s i = false)
include works

theorem clusterFault_counts (hi : i < 100) : counted s (clusterFault i s) 0x2102 (i + 1) := by
  obtain ⟨cls, fails⟩ := clusterFault_working works
  rw [counted, fails, reg_logEvent_index _ _ _ _ _ _ (by decide) (by omega),
    (redoKeeps_clusterStopped i s).regs _ _ (by omega) (.inl (by decide)), reg_bump, if_pos rfl,
    reg_clusterFail_index hi (by decide) (by decide) (by decide) (by omega)]

theorem clusterFault_logs (hi : i < 100) (room : canLog s) : eventLogged 217 s (clusterFault i s) := by
  obtain ⟨cls, fails⟩ := clusterFault_working works
  obtain ⟨buffer, regs⟩ := redoKeeps_clusterStopped i s
  have quiet {x : Nat} (mark : x ≠ 0x2100) (count : x ≠ 0x2102) (redo : x ≠ 0x2103) (power : x ≠ 0x5430)
      (latched : x ≠ 0x6030) : (clusterStopped i s).reg x 1 = s.reg x 1 := by
    rw [regs x 1 (by decide) (.inl redo), State.bump, reg_setReg_index (by omega) (by decide) count.symm,
      reg_clusterFail_index hi mark power latched (by decide)]
  rw [fails]
  exact eventLogged_after (quiet (by decide) (by decide) (by decide) (by decide) (by decide))
    (quiet (by decide) (by decide) (by decide) (by decide) (by decide)) (buffer.trans (buffer_clusterFail i s)) room ..

theorem clusterFault_idle : ∀ e ∈ (clusterFault i s).dev.synth.running, e.1 ≠ i := by
  obtain ⟨cls, fails⟩ := clusterFault_working works
  rw [fails, synth_logEvent, clusterStopped, running_reissueQuarter]
  exact dropPatches_idle i _ _

end ClusterFault

end Sys2Proof.Machine
end

section
/-!
PROOF. Patch requests, faults of clusters, of their window stores and of overlay engines, the watchdog and redo quarters
(R203, R208, R212, R216 to R221, R239).
-/
namespace Sys2Proof.Machine

/-! ### Errors of the window store (R216) -/

theorem windowEcc_double {sc : Nat} {s : State} {w : WindowSlot}
    (hit : (amGetD s.dev.synth.stores sc [])[freeValue s % max 1 (amGetD s.dev.synth.stores sc []).length]? = some w) :
    windowEcc sc true false s = refetch sc w (drawFree s) := by
  unfold windowEcc
  dsimp only
  rw [if_neg (by decide), if_neg (by decide), hit]

theorem refetch_unpinned (sc : Nat) {w : WindowSlot} (free : w.pins = []) (s : State) :
    refetch sc w s = modSynth (fun y => { y with stores := amMod y.stores sc [] fun xs => xs.erase w }) s := by
  rw [refetch, free]
  rfl

theorem refetch_pinned (sc : Nat) {w : WindowSlot} {q : Patch} (pinned : w.pins = [q]) (s : State) :
    refetch sc w s = fetchFor q w.layer w.block false false
      (modSynth (fun y => { y with stores := amMod y.stores sc [] fun xs => xs.erase w }) s) := by
  rw [refetch, pinned]
  rfl

/-! ### The watchdog (R218) -/

/-- The expiry of `q`'s watchdog is noted and counted, and `q` leaves SC`i` to be redone. -/
def expiryRedone (i : Nat) (q : Patch) (s : State) : State :=
  let noted := modSynth (fun y =>
    { y with expiries := amPut y.expiries i (s.now :: within1s s.now (amGetD y.expiries i [])) }) s
  redoPatch q (modSynth (fun y => { y with running := y.running.erase (i, q) })
    ((noted.bump 0x2103 2).bump 0x2102 (i + 1)))

/-- The patch is redone, and with a third expiry within 1 s its cluster fails. -/
theorem watchdogExpiry_running {s : State} {strip patch i : Nat} {p : Patch}
    (runs : (s.dev.synth.running.find? fun e => e.2.strip == strip && e.2.patch == patch) = some (i, p)) :
    watchdogExpiry strip patch s = expiryRedone i p s ∨
      ∃ cls worked, watchdogExpiry strip patch s = logEvent 218 cls 0x2100 (i + 1) 0
        (reissueQuarter i (dropPatches i worked (clusterFail i (expiryRedone i p s)))) := by
  unfold watchdogExpiry
  rw [runs]
  dsimp only
  split
  · exact .inr ⟨_, _, rfl⟩
  · exact .inl rfl

theorem redoKeeps_expiryRedone (i : Nat) (p : Patch) (s : State) :
    RedoKeeps ((s.bump 0x2103 2).bump 0x2102 (i + 1)) (expiryRedone i p s) := by
  unfold expiryRedone
  refine .trans ?_ (redoKeeps_redoPatch ..)
  refine ⟨rfl, fun x y _ _ => ?_⟩
  simp only [modSynth_reg, reg_bump]

/-- Both counters count the expiry, whether or not the cluster fails with it. -/
theorem watchdogExpiry_counts {s : State} {strip patch i : Nat} {p : Patch} (hi : i < 100)
    (runs : (s.dev.synth.running.find? fun e => e.2.strip == strip && e.2.patch == patch) = some (i, p)) :
    counted s (watchdogExpiry strip patch s) 0x2103 2 ∧ counted s (watchdogExpiry strip patch s) 0x2102 (i + 1) := by
  have kept {x y : Nat} (mark : x ≠ 0x2100) (power : x ≠ 0x5430) (latched : x ≠ 0x6030) (log : x ≠ 0x6000)
      (hy : y < 256) (redo : x ≠ 0x2103 ∨ y ≠ 1) :
      (watchdogExpiry strip patch s).reg x y = ((s.bump 0x2103 2).bump 0x2102 (i + 1)).reg x y := by
    rw [← (redoKeeps_expiryRedone i p s).regs x y hy redo]
    rcases watchdogExpiry_running runs with redone | ⟨cls, worked, fails⟩
    · rw [redone]
    · rw [fails, reg_logEvent_index _ _ _ _ _ _ log hy, (redoKeeps_reissueQuarter ..).regs x y hy redo,
        (redoKeeps_dropPatches ..).regs x y hy redo, reg_clusterFail_index hi mark power latched hy]
  constructor
  · rw [counted, kept (by decide) (by decide) (by decide) (by decide) (by decide) (.inr (by decide)), State.bump,
      reg_setReg_index (by omega) (by decide) (by decide), reg_bump, if_pos rfl]
  · rw [counted, kept (by decide) (by decide) (by decide) (by decide) (by omega) (.inl (by decide)), reg_bump,
      if_pos rfl, State.bump, reg_setReg_index (by decide) (by omega) (by decide)]

/-! ### Redo quarters (R203, R219, R220) -/

/-- Quarter `r` is among those done, and SC`i` has counted it. -/
def quarterKept (i : Nat) (r : Patch × Nat) (s : State) : State :=
  (modSynth (fun y => { y with redoDone := r :: y.redoDone }) s).bumpSeq 0x2101 (i + 1)

/-- SC`i` is free for another quarter. -/
def spareFreed (i : Nat) (s : State) : State :=
  assignRedo (modSynth (fun y => { y with redoRunning := amErase y.redoRunning i }) s)

section QuarterComplete
variable {s : State} {sc : Nat} {r : Patch × Nat} (runs : amGet s.dev.synth.redoRunning sc = some r)
  (free : lineFree s r.1 (6 * r.2 + 5) = true)
include runs free

theorem quarterComplete_eq : quarterComplete sc s = spareFreed sc
    (if ((List.range 4).all fun k => (r :: s.dev.synth.redoDone).contains (r.1, k)) &&
        !s.dev.synth.colourFailed.contains r.1 then
      patchDone r.1 (modSynth (fun y => { y with redoDone := y.redoDone.filter fun x => x.1 != r.1 })
        (quarterKept sc r s))
    else quarterKept sc r s) := by
  unfold quarterComplete
  rw [runs]
  dsimp only
  rw [if_neg (by rw [free]; decide)]
  rfl

theorem quarterComplete_counts (hsc : sc < 100) :
    (quarterComplete sc s).reg 0x2101 (sc + 1) = (s.reg 0x2101 (sc + 1) + 1) % 2 ^ 32 := by
  have kept : (quarterKept sc r s).reg 0x2101 (sc + 1) = (s.reg 0x2101 (sc + 1) + 1) % 2 ^ 32 := reg_setReg_same ..
  rw [quarterComplete_eq runs free, spareFreed, (redoKeeps_assignRedo _).regs _ _ (by omega) (.inl (by decide)),
    modSynth_reg, ← kept]
  split
  · exact (fetchCounts_patchDone r.1 _).regs _ _ (by decide) (by decide) (by decide) (by omega)
  · rfl

/-- The fourth quarter of a patch whose colour has not failed completes it. -/
theorem quarterComplete_last (passes : s.dev.synth.colourFailed.contains r.1 = false)
    (others : ∀ k, k < 4 → k ≠ r.2 → (r.1, k) ∈ s.dev.synth.redoDone) :
    r.1 ∈ (quarterComplete sc s).dev.synth.complete := by
  have all : ((List.range 4).all fun k => (r :: s.dev.synth.redoDone).contains (r.1, k)) = true := by
    refine List.all_eq_true.mpr fun k hk => List.contains_iff_mem.mpr ?_
    by_cases own : k = r.2
    · exact own ▸ List.mem_cons_self
    · exact List.mem_cons_of_mem r (others k (List.mem_range.mp hk) own)
  rw [quarterComplete_eq runs free, all, passes, if_pos (by decide), spareFreed, complete_assignRedo]
  exact complete_patchDone ..

/-- A quarter that does not yet make its patch complete is kept. -/
theorem quarterComplete_kept (lacks : ∃ k, k < 4 ∧ k ≠ r.2 ∧ (r.1, k) ∉ s.dev.synth.redoDone) :
    r ∈ (quarterComplete sc s).dev.synth.redoDone := by
  obtain ⟨k, hk, other, undone⟩ := lacks
  have more : ¬((List.range 4).all fun k => (r :: s.dev.synth.redoDone).contains (r.1, k)) = true := by
    intro all
    have among := List.contains_iff_mem.mp (List.all_eq_true.mp all k (List.mem_range.mpr hk))
    rcases List.mem_cons.mp among with own | done
    · exact other (congrArg Prod.snd own)
    · exact undone done
  rw [quarterComplete_eq runs free, if_neg fun h => more (Bool.and_eq_true_iff.mp h).1, spareFreed,
    redoDone_assignRedo]
  exact List.mem_cons_self

end QuarterComplete

/-! ### Overlay engines (R239) -/

theorem engineFault_working {e : Nat} {s : State} (he : e < 8) (works : s.reg 0x3010 (e + 1) ≠ 1) :
    (engineFault e s).reg 0x3010 (e + 1) = 1 ∧ counted s (engineFault e s) 0x3010 10 := by
  have marked {y : Nat} (hy : y < 256) :
      (latch 2 (s.setReg 0x3010 (e + 1) 1)).reg 0x3010 y = (s.setReg 0x3010 (e + 1) 1).reg 0x3010 y :=
    reg_setReg_index (by decide) hy (by decide) ..
  unfold engineFault
  rw [if_neg works]
  constructor
  · rw [reg_logEvent_index _ _ _ _ _ _ (by decide) (by omega), State.bump,
      reg_setReg_sub (by decide) (by omega) (by omega), marked (by omega), reg_setReg_same]
  · rw [counted, reg_logEvent_index _ _ _ _ _ _ (by decide) (by decide), reg_bump, if_pos rfl, marked (by decide),
      reg_setReg_sub (by omega) (by decide) (by omega)]

/-! ### The commands -/

/-- The three faults of a cluster have one meaning (R217, R221). -/
theorem exec_clusterFaults {sc : Nat} {s : State} {c : Instr} (hsc : sc < 100) (here : clusterHere s sc = true)
    (fault : c = .clusterFault sc ∨ c = .clusterHeartbeatTimeout sc ∨ c = .spareFault sc) :
    exec c s = .next (onDev [.od, .synth, .events, .eventBuffer, .eventMessages] (clusterFault sc) s) := by
  rcases fault with rfl | rfl | rfl
  · exact exec_clusterFault sc s hsc here
  · exact exec_clusterHeartbeatTimeout sc s hsc here
  · exact exec_spareFault sc s hsc here

/-- Settles O34: each command is its operation under its scope, and each clause is what that operation does to the
cluster, patch, slot or engine. Which slot of a window store an error is in is free (log 187). -/
theorem dispatchAndRedoCommands : Obligations.DispatchAndRedoCommands := by
  unfold Obligations.DispatchAndRedoCommands
  refine ⟨?request, ?fault, ?store, ?watchdog, ?quarter, ?engine⟩
  case request =>
    intro s sc p ps hsc sched powered alone idle waits
    refine ⟨_, exec_patchRequest sc s hsc (clusterHere_of_scheduled sched), ?_⟩
    rw [onDev_dev, partsOf_synth (by decide), patchRequest_first sched powered alone idle waits]
    exact ⟨rfl, rfl, rfl⟩
  case fault =>
    intro s sc c hsc here works room fault
    refine ⟨_, exec_clusterFaults hsc here fault, ?_, ?_, ?_, ?_⟩
    · rw [onDev_reg (by decide)]
      exact clusterFault_marks hsc s
    · rw [counted, onDev_reg (by decide)]
      exact clusterFault_counts works hsc
    · exact eventLogged_onDev (by decide) (by decide) (clusterFault_logs works hsc room)
    · rw [onDev_dev, partsOf_synth (by decide)]
      exact clusterFault_idle works
  case store =>
    intro s sc again hsc here
    refine ⟨?_, fun w hit => ⟨fun free => ?_, fun q pinned => ?_⟩, ?_⟩
    · refine ⟨_, exec_windowStoreEccError sc false again s hsc here, ?_⟩
      rw [counted, onMem_reg (by decide)]
      exact reg_setReg_same ..
    · refine ⟨_, exec_windowStoreEccError sc true false s hsc here, ?_⟩
      rw [onMem_dev, partsOf_synth (by decide), windowEcc_double hit, refetch_unpinned sc free]
      exact amGetD_amMod_same s.dev.synth.stores sc [] fun xs => xs.erase w
    · refine ⟨_, exec_windowStoreEccError sc true false s hsc here, ?_⟩
      rw [onMem_dev, partsOf_synth (by decide), windowEcc_double hit, refetch_pinned sc pinned]
    · refine ⟨_, exec_windowStoreEccError sc true true s hsc here, ?_⟩
      rw [onMem_reg (by decide)]
      exact clusterFault_marks hsc s
  case watchdog =>
    intro s strip patch i p hstrip hpatch hi runs
    refine ⟨_, exec_patchWatchdogExpiry strip patch s hstrip hpatch, ?_⟩
    rw [counted, counted, onDev_reg (by decide), onDev_reg (by decide)]
    exact watchdogExpiry_counts hi runs
  case quarter =>
    intro s sc r hsc here runs free passes
    refine ⟨_, exec_redoQuarterComplete sc s hsc here, ?_⟩
    rw [onMem_reg (by decide), onMem_dev, partsOf_synth (by decide)]
    exact ⟨quarterComplete_counts runs free hsc, quarterComplete_last runs free passes,
      quarterComplete_kept runs free⟩
  case engine =>
    intro s e he works
    refine ⟨_, exec_overlayEngineFault e s he, ?_⟩
    rw [counted, onDev_reg (by decide), onDev_reg (by decide)]
    exact engineFault_working he works

end Sys2Proof.Machine
end

section
/-!
PROOF. Submissions of the view table and the raster setting, commits, shadow writes and the host's silence (R179 to R181,
R248, R251, R253, R353, R354, R391).
-/
namespace Sys2Proof.Machine

/-! ### The view table and the raster setting (R181, R353) -/

/-- The item that VIEW_TABLE_SUBMIT admits for count `n`. -/
def viewItem (s : State) (n : Nat) : Item :=
  { num := s.dev.host.nextNum, target := n, kind := .view (tableOf (s.reg 0x2111 1)) }

theorem viewSubmit_admits {s : State} {n : Nat} (crc : crcPasses 0x2111 1 (natLE (s.reg 0x2111 1) 1156) = true)
    (slopes : tableGood (tableOf (s.reg 0x2111 1)) = true) (target : targetCount s (s.reg 0x2111 2) = .ok n)
    (fits : itemFails s (viewItem s n) = none) :
    viewSubmit s = (0, admitItem (viewItem s n) (s.setReg 0x2111 4 2)) := by
  unfold viewSubmit
  dsimp only
  rw [if_neg (by rw [crc, slopes]; decide), target]
  dsimp only
  rw [viewItem] at fits
  rw [fits]
  rfl

/-- The item that RASTER_SUBMIT admits for count `n`. -/
def rasterItem (s : State) (n : Nat) : Item :=
  { num := s.dev.host.nextNum, target := n
    kind := .raster (s.shad 0x3800 1) (s.shad 0x3800 2) (s.shad 0x3800 3) (s.shad 0x3800 4) (s.shad 0x3800 5) }

theorem rasterSubmit_admits {s : State} {n : Nat} (target : targetCount s (s.reg 0x3800 6) = .ok n)
    (driven : rasterHere s (s.shad 0x3800 1) (s.shad 0x3800 2) (s.shad 0x3800 3) (s.shad 0x3800 4) = true)
    (unbound : anyBound s = false) (fits : itemFails s (rasterItem s n) = none) :
    rasterSubmit s = (0, admitItem (rasterItem s n) (s.setReg 0x3800 8 2)) := by
  have passes : (if !rasterHere s (s.shad 0x3800 1) (s.shad 0x3800 2) (s.shad 0x3800 3) (s.shad 0x3800 4) then some 3
      else if anyBound s then some 0x11 else itemFails s (rasterItem s n)) = none := by
    rw [driven, unbound, fits]
    rfl
  unfold rasterSubmit
  dsimp only
  rw [target]
  dsimp only
  rw [rasterItem] at passes
  rw [passes]
  rfl

/-! ### Commits and shadows (R251, R253) -/

theorem commitRequest_accepts {s : State} {n : Nat} (target : targetCount s (s.reg 0x3000 2) = .ok n)
    (free : s.dev.commitPending = none) (fits : commitFails n s = none) : commitRequest s = (0, commitAccepted n s) := by
  unfold commitRequest
  rw [target]
  dsimp only
  rw [free, if_neg (by rw [Option.any_none]; decide), fits]

theorem commitAccepted_reports (n : Nat) (s : State) :
    (commitAccepted n s).reg 0x3000 3 = 1 ∧ (commitAccepted n s).reg 0x3000 4 = n % 2 ^ 32 := by
  unfold commitAccepted
  dsimp only
  constructor
  · rw [reg_modDev_of_od _ _ rfl, reg_setReg_sub (by decide) (by decide) (by decide),
      reg_setReg_sub (by decide) (by decide) (by decide), reg_setReg_same]
  · rw [reg_modDev_of_od _ _ rfl, reg_setReg_sub (by decide) (by decide) (by decide), reg_setReg_same]

theorem shadowWriteValue_sets {s : State} {index sub value : Nat} {r : ObjRow} (here : objHere s index sub = some r)
    (shadow : r.shadow = true) (writable : r.access = 1) (fits : value < 2 ^ (8 * r.size))
    (good : valueAbort s r index sub (natLE value r.size) = 0) (free : s.dev.commitPending = none) :
    shadowWriteValue index sub value s = s.setShad index sub (cleaned index sub (leNat (natLE value r.size))) := by
  unfold shadowWriteValue
  rw [here]
  dsimp only
  rw [if_pos (by rw [shadow, writable, decide_eq_true fits]; rfl)]
  unfold shadowWrite
  dsimp only
  rw [if_neg (not_not_intro good), free]

theorem shad_onDev {ps : List DevPart} (h : .shadow ∈ ps) (f : State → State) (s : State) (i j : Nat) :
    (onDev ps f s).shad i j = (f s).shad i j := by
  rw [State.shad, onDev_dev, partsOf_shadow h, State.shad]

/-! ### Silence (R391) -/

theorem hostSilent_timed {s : State} (timeout : s.reg 0x3810 3 ≠ 0) :
    hostSilent s = modTiming (fun t => { t with silent := true }) s := if_neg timeout

/-! ### The commands -/

/-- Settles O39: each command is its operation under its scope; with no test failed, a submission admits its item last, a
commit takes its target, and a shadow write sets its shadow. -/
theorem submitsAndShadows : Obligations.SubmitsAndShadows := by
  unfold Obligations.SubmitsAndShadows
  refine ⟨?view, ?raster, ?commit, ?shadow, ?silence⟩
  case view =>
    intro s n crc slopes target fits
    refine ⟨_, exec_viewTableSubmit s, ?_⟩
    rw [onDev_reg (by decide), onDev_dev, partsOf_host (by decide), viewSubmit_admits crc slopes target fits]
    exact ⟨reg_setReg_same .., rfl⟩
  case raster =>
    intro s n target driven unbound fits
    refine ⟨_, exec_rasterSubmit s, ?_⟩
    rw [onDev_reg (by decide), onDev_dev, partsOf_host (by decide), rasterSubmit_admits target driven unbound fits]
    exact ⟨reg_setReg_same .., rfl⟩
  case commit =>
    intro s n target free fits
    obtain ⟨result, assigned⟩ := commitAccepted_reports n s
    refine ⟨_, exec_commitRequest s, ?_, ?_, ?_, partsOf_same (p := .shadow) (by decide) _ s⟩
    · rw [onDev_dev, partsOf_commitPending (by decide), commitRequest_accepts target free fits]
      rfl
    · rw [onDev_reg (by decide), commitRequest_accepts target free fits]
      exact result
    · rw [onDev_reg (by decide), commitRequest_accepts target free fits]
      exact assigned
  case shadow =>
    intro s index sub value r hindex hsub here shadow writable fits good free
    refine ⟨_, exec_shadowWrite index sub value s hindex hsub, ?_, partsOf_same (p := .live) (by decide) _ s,
      partsOf_same (p := .od) (by decide) _ s⟩
    rw [shad_onDev (by decide), shadowWriteValue_sets here shadow writable fits good free]
    exact shad_setShad_same ..
  case silence =>
    intro s timeout
    refine ⟨_, exec_hostSilenceTimeout s, ?_⟩
    rw [onDev_dev, partsOf_timing (by decide), hostSilent_timed timeout]
    rfl

end Sys2Proof.Machine
end

section
/-!
SUPPORT. The calendar: the states in force and captured and the frame's place in time (R243, R244). The updates below
keep it, and choices and loops of what keeps it keep it, so each operation is unfolded once and its updates peel off.
-/
namespace Sys2Proof.Machine

/-- The states in force and captured, the frame's count, line, calends and eve, and local time. -/
structure Calendar where
  live : Committed
  captured : Option Committed
  count : Nat
  line : Nat
  eveDone : Bool
  calendsAt : Nat
  now : Nat

/-- The calendar of a state. -/
def calendar (s : State) : Calendar :=
  { live := s.dev.live, captured := s.dev.captured, count := s.dev.timing.count, line := s.dev.timing.line
    eveDone := s.dev.timing.eveDone, calendsAt := s.dev.timing.calendsAt, now := s.now }

/-! ### Updates of the state -/

/-- A change of the device that touches neither state of composition nor the timing. -/
@[simp] theorem calendar_modDev (f : Dev → Dev) (s : State)
    (live : ∀ d, (f d).live = d.live := by exact fun _ => rfl)
    (captured : ∀ d, (f d).captured = d.captured := by exact fun _ => rfl)
    (timing : ∀ d, (f d).timing = d.timing := by exact fun _ => rfl) : calendar (s.modDev f) = calendar s := by
  simp only [calendar, State.modDev, live, captured, timing]

@[simp] theorem calendar_modTiming {f : Timing → Timing} (count : ∀ t, (f t).count = t.count)
    (line : ∀ t, (f t).line = t.line) (eve : ∀ t, (f t).eveDone = t.eveDone)
    (calends : ∀ t, (f t).calendsAt = t.calendsAt) (s : State) : calendar (modTiming f s) = calendar s := by
  simp only [calendar, modTiming_dev, modTiming_now, count, line, eve, calends]

@[simp] theorem calendar_setReg (i j v : Nat) (s : State) : calendar (s.setReg i j v) = calendar s :=
  calendar_modDev _ s
@[simp] theorem calendar_bump (i j n : Nat) (s : State) : calendar (s.bump i j n) = calendar s := calendar_modDev _ s
@[simp] theorem calendar_bumpSeq (i j n : Nat) (s : State) : calendar (s.bumpSeq i j n) = calendar s :=
  calendar_modDev _ s
@[simp] theorem calendar_modSynth (f : Synth → Synth) (s : State) : calendar (modSynth f s) = calendar s :=
  calendar_modDev _ s
@[simp] theorem calendar_modGov (f : Governor → Governor) (s : State) : calendar (modGov f s) = calendar s :=
  calendar_modDev _ s
@[simp] theorem calendar_modFreeze (f : Freeze → Freeze) (s : State) : calendar (modFreeze f s) = calendar s :=
  calendar_modDev _ s
@[simp] theorem calendar_modLens (f : Lens → Lens) (s : State) : calendar (modLens f s) = calendar s :=
  calendar_modDev _ s
@[simp] theorem calendar_modSafety (f : Safety → Safety) (s : State) : calendar (modSafety f s) = calendar s :=
  calendar_modDev _ s
@[simp] theorem calendar_modHost (f : HostIf → HostIf) (s : State) : calendar (modHost f s) = calendar s :=
  calendar_modDev _ s
@[simp] theorem calendar_modBringup (f : Bringup → Bringup) (s : State) : calendar (modBringup f s) = calendar s :=
  calendar_modDev _ s
@[simp] theorem calendar_modPort (p : Nat) (f : Port → Port) (s : State) : calendar (modPort p f s) = calendar s :=
  calendar_modDev _ s
@[simp] theorem calendar_modRegion (r : Nat) (f : Region → Region) (s : State) :
    calendar (modRegion r f s) = calendar s := calendar_modDev _ s
@[simp] theorem calendar_modTile (t : Nat) (f : TilePort → TilePort) (s : State) :
    calendar (modTile t f s) = calendar s := calendar_modDev _ s
@[simp] theorem calendar_modPinOut (j : Nat) (f : TimeOut → TimeOut) (s : State) :
    calendar (modPinOut j f s) = calendar s := calendar_modDev _ s
@[simp] theorem calendar_modQueue (q : Nat) (f : Queue → Queue) (s : State) :
    calendar (modQueue q f s) = calendar s := calendar_modDev _ s
@[simp] theorem calendar_putHold (h : Nat) (n : Option Nat) (s : State) : calendar (putHold h n s) = calendar s :=
  calendar_modDev _ s

/-! ### Choices and loops -/

@[simp] theorem calendar_ite (c : Prop) {d : Decidable c} (s t : State) :
    calendar (if c then s else t) = if c then calendar s else calendar t := apply_ite calendar c s t

@[simp] theorem calendar_iff {c : Bool} {f : State → State} {s : State} (h : calendar (f s) = calendar s) :
    calendar (s.iff c f) = calendar s := iff_keeps calendar c f s h

@[simp] theorem calendar_each {α : Type} {f : α → State → State} (h : ∀ x t, calendar (f x t) = calendar t)
    (xs : List α) (s : State) : calendar (s.each xs f) = calendar s := each_keeps calendar f h xs s

/-! ### Memory, the store and the event log -/

theorem memoryServed.calendar {s t : State} (h : memoryServed s t) : calendar t = calendar s := by
  obtain ⟨⟨_, _, _, _, rfl⟩, _⟩ := h; rfl

theorem storeOnly.calendar {s t : State} (h : storeOnly s t) : calendar t = calendar s := by
  obtain ⟨_, _, rfl⟩ := h; rfl

@[simp] theorem calendar_logEvent (r c i j d : Nat) (s : State) : calendar (logEvent r c i j d s) = calendar s := by
  obtain ⟨_, _, _, _, e⟩ := logEvent_eq r c i j d s
  rw [e]; rfl

@[simp] theorem calendar_domainWake (d : Nat) (s : State) : calendar (domainWake d s) = calendar s :=
  (memoryServed_domainWake d s).calendar

@[simp] theorem calendar_domainOff (d : Nat) (s : State) : calendar (domainOff d s) = calendar s := by
  simp [domainOff]

@[simp] theorem calendar_openSlot (layer slot n : Nat) (s : State) : calendar (openSlot layer slot n s) = calendar s :=
  (memoryServed_openSlot layer slot n s).calendar

@[simp] theorem calendar_putDesc (src layer slot n frame lease b cells count : Nat) (s : State) :
    calendar (putDesc src layer slot n frame lease b cells count s) = calendar s :=
  (memoryServed_putDesc ..).calendar

@[simp] theorem calendar_pcTouch (i : Nat) (s : State) : calendar (pcTouch i s) = calendar s := by
  unfold pcTouch
  split <;> rfl

theorem storeOnly_storeRequest (r : StoreReq) (s : State) : storeOnly s (storeRequest r s) :=
  (storeOnly_modNv ..).trans (storeOnly_storeStart _)

@[simp] theorem calendar_writeRing (r : Nat) (payload : List Byte) (use : StoreUse) (s : State) :
    calendar (writeRing r payload use s) = calendar s := (storeOnly_storeRequest ..).calendar

/-! ### Completions and the ends of items (R613) -/

@[simp] theorem calendar_ringWrite (r : Nat) (c : Completion) (s : State) :
    calendar (ringWrite r c s) = calendar s := by
  simp [ringWrite]

@[simp] theorem calendar_ringMessage (r : Nat) (s : State) : calendar (ringMessage r s) = calendar s := by
  simp [ringMessage]

@[simp] theorem calendar_postCompletion (r : Nat) (c : Completion) (s : State) :
    calendar (postCompletion r c s) = calendar s := by
  have put : calendar (ringPut r c s) = calendar s := by
    simp only [ringPut, calendar_modQueue, calendar_ringMessage, calendar_ringWrite]
  simp [postCompletion, put]

@[simp] theorem calendar_postFinal (i : Item) (frame status detail : Nat) (s : State) :
    calendar (postFinal i frame status detail s) = calendar s := by
  simp [postFinal]

@[simp] theorem calendar_dropJob (num : Nat) (s : State) : calendar (dropJob num s) = calendar s := by
  simp [dropJob, releaseDecoders]

@[simp] theorem calendar_endItem (i : Item) (status detail : Nat) (s : State) :
    calendar (endItem i status detail s) = calendar s := by
  unfold endItem
  dsimp only
  split <;> simp

@[simp] theorem calendar_noteLost (i : Item) (s : State) : calendar (noteLost i s) = calendar s := by
  unfold noteLost
  split <;> simp

@[simp] theorem calendar_abandonItems (xs : List Item) (s : State) : calendar (abandonItems xs s) = calendar s := by
  simp [abandonItems]

@[simp] theorem calendar_loseItem (i : Item) (status detail : Nat) (s : State) :
    calendar (loseItem i status detail s) = calendar s := by
  simp [loseItem, abandonGroup]

/-! ### Decodes and copies (R114, R133, R136) -/

@[simp] theorem calendar_addCopy (c : CopyJob) (s : State) : calendar (addCopy c s) = calendar s := by
  simp [addCopy]

@[simp] theorem calendar_startCopy (layer n : Nat) (restore : Bool) (s : State) :
    calendar (startCopy layer n restore s) = calendar s := by
  unfold startCopy
  dsimp only
  split <;> simp

@[simp] theorem calendar_addJob (j : Job) (s : State) : calendar (addJob j s) = calendar s := calendar_modDev _ s

@[simp] theorem calendar_noteDue (layer n : Nat) (s : State) : calendar (noteDue layer n s) = calendar s :=
  calendar_modDev _ s

@[simp] theorem calendar_modPlayer (p : Nat) (f : Player → Player) (s : State) :
    calendar (modPlayer p f s) = calendar s := calendar_modDev _ s

@[simp] theorem calendar_jobFail (j : Job) (detail seq : Nat) (read late : Bool) (s : State) :
    calendar (jobFail j detail seq read late s) = calendar s := by
  unfold jobFail
  extract_lets logged lost item counted restored
  have kept : calendar restored = calendar s := by simp [restored, counted, lost, logged]
  split
  · simp [kept]
  · cases item <;> simp [kept]

@[simp] theorem calendar_openJob (j : Job) (s : State) : calendar (openJob j s) = calendar s := by
  simp [openJob, setStage, modJob]

@[simp] theorem calendar_endLate (n : Nat) (s : State) : calendar (endLate n s) = calendar s := by
  simp [endLate]

end Sys2Proof.Machine
end

section
/-!
SUPPORT. The parts of the eve and their calendar (R243).
-/
namespace Sys2Proof.Machine

/-! ### Clips and players (R157, R163) -/

@[simp] theorem calendar_clipEnters (early : Bool) (num : Nat) (p : Player) (n f : Nat) (x : Nat × Nat × Nat)
    (s : State) : calendar (clipEnters early num p n f x s) = calendar s := by
  unfold clipEnters
  dsimp only
  split <;> simp

@[simp] theorem calendar_clipUpdate (num : Nat) (p : Player) (n f : Nat) (x : Nat × Nat × Nat) (s : State) :
    calendar (clipUpdate num p n f x s) = calendar s := by
  simp [clipUpdate]

@[simp] theorem calendar_enterClips (n : Nat) (s : State) : calendar (enterClips n s) = calendar s := by
  refine calendar_each (fun x t => ?_) _ s
  split <;> simp

@[simp] theorem calendar_clearLayer (num n layer : Nat) (s : State) :
    calendar (clearLayer num n layer s) = calendar s := by
  simp [clearLayer]

@[simp] theorem calendar_openClip (n : Nat) (x : Nat × Player) (s : State) :
    calendar (openClip n x s) = calendar s := by
  unfold openClip
  dsimp only
  split
  · rfl
  · split <;> simp

@[simp] theorem calendar_cancelCopy (layer n : Nat) (restore : Bool) (s : State) :
    calendar (cancelCopy layer n restore s) = calendar s := by
  simp [cancelCopy]

@[simp] theorem calendar_dropStep (num : Nat) (s : State) : calendar (dropStep num s) = calendar s := by
  simp [dropStep]

@[simp] theorem calendar_noteFailed (p : Player) (s : State) : calendar (noteFailed p s) = calendar s :=
  calendar_iff (calendar_modDev _ s)

@[simp] theorem calendar_dropBinding (num : Nat) (s : State) : calendar (dropBinding num s) = calendar s := by
  simp [dropBinding]

@[simp] theorem calendar_restepPlayer (player n : Nat) (s : State) :
    calendar (restepPlayer player n s) = calendar s := by
  simp [restepPlayer, reopenStep]

@[simp] theorem calendar_refreshEnds (s : State) : calendar (refreshEnds s) = calendar s := calendar_modDev _ s

/-! ### Items that end before they take effect (R243, R270 to R274, R613) -/

@[simp] theorem calendar_withdraw (i : Item) (s : State) : calendar (withdraw i s) = calendar s := by
  unfold withdraw
  split <;> simp

@[simp] theorem calendar_supersedeFlips (n : Nat) (s : State) : calendar (supersedeFlips n s) = calendar s := by
  simp [supersedeFlips]

@[simp] theorem calendar_checkFences (n : Nat) (s : State) : calendar (checkFences n s) = calendar s := by
  refine calendar_each (fun x t => ?_) _ s
  split
  · rfl
  · split
    · rfl
    · split
      · simp
      · split
        · split <;> simp [abandonWhole]
        · rfl

@[simp] theorem calendar_cancelPlays (n : Nat) (s : State) : calendar (cancelPlays n s) = calendar s := by
  simp [cancelPlays]

/-! ### What the eve takes (R243) -/

@[simp] theorem calendar_captureCommit (n : Nat) (c : Committed) (s : State) :
    calendar (captureCommit n c s).2 = calendar s := by
  unfold captureCommit
  split
  · rfl
  · split <;> simp

@[simp] theorem calendar_holdAddress (s : State) : calendar (holdAddress s) = calendar s := by
  simp [holdAddress, modNcp]

@[simp] theorem calendar_switchRegs (i : Item) (c : Committed) (s : State) :
    calendar (switchRegs i c s) = calendar s := by
  unfold switchRegs
  split
  · extract_lets sets held timeout written timed limited live
    have kept : calendar written = calendar s := by simp [written, held]
    have timed_kept : calendar timed = calendar s := by simp [timed, kept]
    simp [limited, timed_kept, modImages]
  · rfl

@[simp] theorem calendar_takeItems (is : List Item) (c : Committed) (s : State) :
    calendar (takeItems is c s).2 = calendar s := by
  induction is generalizing c s with
  | nil => rfl
  | cons i is ih => simp [takeItems, ih, itemShadows]

@[simp] theorem calendar_takeClips (c : Committed) (s : State) : calendar (takeClips c s).2 = calendar s :=
  calendar_modDev _ s

@[simp] theorem calendar_takeZones (c : Committed) (s : State) : calendar (takeZones c s).2 = calendar s := by
  unfold takeZones
  split <;> simp

@[simp] theorem calendar_takeSafety (n : Nat) (c : Committed) (s : State) :
    calendar (takeSafety n c s).2 = calendar s := by
  simp [takeSafety]

@[simp] theorem calendar_freezeStep (n : Nat) (c : Committed) (s : State) :
    calendar (freezeStep n c s) = calendar s := by
  unfold freezeStep
  dsimp only
  split <;> simp

@[simp] theorem calendar_ownConditions (n : Nat) (c : Committed) (s : State) :
    calendar (ownConditions n c s) = calendar s := by
  simp [ownConditions]

@[simp] theorem calendar_settleHold (s : State) : calendar (settleHold s) = calendar s := by
  simp [settleHold]

@[simp] theorem calendar_wakeFor (c : Committed) (s : State) : calendar (wakeFor c s) = calendar s := by
  simp [wakeFor]

@[simp] theorem calendar_sendTile (t b : Nat) (s : State) : calendar (sendTile t b s) = calendar s :=
  calendar_modTile ..

@[simp] theorem calendar_wallEve (s : State) : calendar (wallEve s) = calendar s := by
  simp [wallEve]

/-! ### The eve -/

/-- The calendar after an eve that has captured `c`. -/
def Calendar.captures (k : Calendar) (c : Committed) : Calendar := { k with captured := some c, eveDone := true }

/-- A step of the capture answers the state it leaves beside the state it captures. -/
theorem calendar_of_pair {p : Committed × State} {c : Committed} {s t : State} (e : p = (c, t))
    (kept : calendar p.2 = calendar s) : calendar t = calendar s := by
  rwa [e] at kept

/-- EVE of a frame whose eve has come captures a state, and the rest of it leaves the calendar alone. -/
theorem calendar_eve {s : State} (started : s.dev.timing.started = true) (coming : s.dev.timing.eveDone = false)
    (come : eveLine s < s.dev.timing.line) :
    ∃ c, calendar (eve s) = (calendar s).captures c := by
  unfold eve
  rw [if_neg (by simp [started, coming, come])]
  extract_lets n now ended
  split
  next committed =>
  split
  next items =>
  split
  next clips =>
  extract_lets banded
  split
  next zones =>
  split
  next c t safety =>
  extract_lets frozen c' owned captured counted settled
  have kept : calendar t = calendar s :=
    calendar_of_pair safety <| (calendar_takeSafety ..).trans <|
    calendar_of_pair zones <| (calendar_takeZones ..).trans <|
    calendar_of_pair clips <| (calendar_takeClips ..).trans <|
    calendar_of_pair items <| (calendar_takeItems ..).trans <|
    calendar_of_pair committed <| (calendar_captureCommit ..).trans (by simp [ended])
  have taken : calendar settled = (calendar owned).captures c' :=
    (calendar_settleHold _).trans rfl
  refine ⟨c', ?_⟩
  simp [taken, owned, frozen, kept]

end Sys2Proof.Machine
end

section
/-!
PROOF. The parts of the calends and their calendar (R244).
-/
namespace Sys2Proof.Machine

/-! ### The frame that ends -/

@[simp] theorem calendar_pairingLost (s : State) : calendar (pairingLost s) = calendar s := by
  simp [pairingLost]

@[simp] theorem calendar_pairingStep (s : State) : calendar (pairingStep s) = calendar s := by
  simp [pairingStep]

@[simp] theorem calendar_wallBefore (s : State) : calendar (wallBefore s) = calendar s := by
  have counted (t : Nat) (u : State) : calendar (markerCount t u) = calendar u := by simp [markerCount]
  simp [wallBefore, correctionStep, counted]

@[simp] theorem calendar_agingCalends (ns : Nat) (s : State) : calendar (agingCalends ns s) = calendar s :=
  calendar_modGov ..

@[simp] theorem calendar_flattenEnds (s : State) : calendar (flattenEnds s) = calendar s :=
  calendar_iff (calendar_modFreeze ..)

@[simp] theorem calendar_segmentCalends (n : Nat) (c : Committed) (s : State) :
    calendar (segmentCalends n c s) = calendar s := by
  have recorded (t : State) (p : List Byte) : calendar (writeRecord 13 p .none t) = calendar t :=
    (storeOnly_writeRecord ..).calendar
  simp [segmentCalends, startSegment, recorded]

/-! ### The frame that begins -/

@[simp] theorem calendar_startPorts (s : State) : calendar (startPorts s) = calendar s := by
  refine calendar_each (fun p t => ?_) _ s
  extract_lets u
  have kept : calendar u = calendar t := by
    dsimp only [u]
    split <;> simp
  split <;> simp [kept]

@[simp] theorem calendar_startLightField (s : State) : calendar (startLightField s) = calendar s := by
  simp [startLightField]

@[simp] theorem calendar_firstEmission (s : State) : calendar (firstEmission s) = calendar s := by
  simp [firstEmission]

@[simp] theorem calendar_startFreeze (s : State) : calendar (startFreeze s) = calendar s := by
  simp [startFreeze]

@[simp] theorem calendar_startThermal (s : State) : calendar (startThermal s) = calendar s := by
  simp [startThermal]

@[simp] theorem calendar_startDomains (s : State) : calendar (startDomains s) = calendar s := by
  simp [startDomains]

@[simp] theorem calendar_clipsChanged (s : State) : calendar (clipsChanged s) = calendar s := calendar_modDev _ s

@[simp] theorem calendar_startRegions (s : State) : calendar (startRegions s) = calendar s := by
  simp [startRegions]

@[simp] theorem calendar_assignRedo (s : State) : calendar (assignRedo s) = calendar s := by
  refine calendar_each (fun i t => ?_) _ s
  split <;> simp

@[simp] theorem calendar_startSynth (s : State) : calendar (startSynth s) = calendar s :=
  (calendar_assignRedo _).trans (calendar_modSynth ..)

@[simp] theorem calendar_draftSpares (s : State) : calendar (draftSpares s) = calendar s := by
  simp [draftSpares]

@[simp] theorem calendar_governorCalends (s : State) : calendar (governorCalends s) = calendar s := by
  simp [governorCalends, putScale]

/-! ### Items and players whose calends has come (R163, R270, R613) -/

@[simp] theorem calendar_leaveSlots (old : Committed) (s : State) : calendar (leaveSlots old s) = calendar s := by
  simp [leaveSlots]

@[simp] theorem calendar_freeSlots (s : State) : calendar (freeSlots s) = calendar s := calendar_modDev _ s

@[simp] theorem calendar_itemReport (i : Item) (s : State) : calendar (itemReport i s) = calendar s := by
  unfold itemReport
  split <;> simp

@[simp] theorem calendar_completeItems (s : State) : calendar (completeItems s) = calendar s := by
  simp [completeItems]

@[simp] theorem calendar_commitCalends (s : State) : calendar (commitCalends s) = calendar s := by
  unfold commitCalends
  split <;> simp

@[simp] theorem calendar_bandCalends (s : State) : calendar (bandCalends s) = calendar s := by
  simp [bandCalends]

@[simp] theorem calendar_endBinding (x : Nat × Player) (s : State) : calendar (endBinding x s) = calendar s := by
  simp [endBinding]

@[simp] theorem calendar_playerCalends (s : State) : calendar (playerCalends s) = calendar s := by
  simp [playerCalends]

/-! ### The wall, the time pins and the lens -/

@[simp] theorem calendar_jubilee (n : Nat) (s : State) : calendar (jubilee n s) = calendar s := by
  simp [jubilee]

@[simp] theorem calendar_wallAfter (s : State) : calendar (wallAfter s) = calendar s := by
  refine calendar_each (fun t u => ?_) _ s
  extract_lets since half timed a1 f lane0 sent
  have kept : calendar sent = calendar u := by simp [sent, timed, drawFree]
  simp [timed, kept]

@[simp] theorem calendar_pinsCalends (s : State) : calendar (pinsCalends s) = calendar s := by
  simp [pinsCalends]

@[simp] theorem calendar_journalStart (s : State) : calendar (journalStart s) = calendar s := by
  simp [journalStart, updateRuns]

@[simp] theorem calendar_lensTake (zs : List Nat) (m : Nat) (s : State) : calendar (lensTake zs m s) = calendar s := by
  unfold lensTake
  split
  · rfl
  · extract_lets l old counted n updated held tr driven
    have kept : calendar driven = calendar s := by simp [driven, updated, counted]
    split
    · exact kept
    · split <;> simp [kept]

@[simp] theorem calendar_lensCalends (s : State) : calendar (lensCalends s) = calendar s := by
  simp [lensCalends]

/-! ### The decode window (R134 to R136, R262) -/

@[simp] theorem calendar_windowCopy (n j : Nat) (s : State) : calendar (windowCopy n j s) = calendar s := by
  simp [windowCopy]

@[simp] theorem calendar_holdCopies (n : Nat) (s : State) : calendar (holdCopies n s) = calendar s := by
  refine calendar_each (fun i t => ?_) _ s
  split <;> simp

@[simp] theorem calendar_forgetClips (n : Nat) (s : State) : calendar (forgetClips n s) = calendar s :=
  calendar_modDev _ s

@[simp] theorem calendar_openWindow (n : Nat) (s : State) : calendar (openWindow n s) = calendar s := by
  simp [openWindow]

/-! ### The calends -/

/-- The calendar after the calends of count `n` with state `c`. -/
def Calendar.begins (k : Calendar) (n : Nat) (c : Committed) : Calendar :=
  { k with live := c, captured := none, count := n, line := 0, eveDone := false, calendsAt := k.now }

theorem calendar_startFrame (n : Nat) (c : Committed) (s : State) :
    calendar (startFrame n c s) = (calendar s).begins n c := by
  unfold startFrame
  extract_lets now placed timed t hz rated reported
  have held : calendar (reported.iff t.inHold (·.bump 0x3810 5)) = calendar timed := by simp [reported, rated]
  exact held

/-- The frame begins once; what comes before and after that in CALENDS leaves the calendar alone. -/
theorem calendar_calendsOf (n : Nat) (c : Committed) (s : State) :
    calendar (calendsOf n c s) = (calendar s).begins n c := by
  simp [calendsOf, calendar_startFrame]

theorem calends_eq_calendsOf {s : State} {c : Committed} (captured : s.dev.captured = some c)
    (started : s.dev.timing.started = true) (eve : s.dev.timing.eveDone = true)
    (last : totalLines s ≤ s.dev.timing.line) : calends s = calendsOf (nextCount s) c s := by
  unfold calends
  rw [captured]
  exact if_pos (by simp [started, eve, last])

/-- Settles O16: EVE does not reach the state in force, and of its parts the capture alone moves the calendar; of the
parts of CALENDS the start of the frame alone does. -/
theorem capturedStateTakesEffectAtCalends : Obligations.CapturedStateTakesEffectAtCalends := by
  unfold Obligations.CapturedStateTakesEffectAtCalends
  constructor
  case left =>
    intro s
    refine ⟨_, exec_eve s, partsOf_same (p := .live) (by decide) _ s, fun started coming come => ?_⟩
    obtain ⟨c, e⟩ := calendar_eve started coming come
    rw [onMem_dev, partsOf_captured (by decide), partsOf_timing (by decide)]
    have captured : (eve s).dev.captured = some c := congrArg Calendar.captured e
    rw [captured]
    exact ⟨rfl, congrArg Calendar.eveDone e, congrArg Calendar.count e⟩
  case right =>
    intro s c captured started eve last
    have e := calendar_calendsOf (nextCount s) c s
    rw [← calends_eq_calendsOf captured started eve last] at e
    refine ⟨_, exec_calends s, ?_⟩
    rw [onMemNv_dev, partsOf_live (by decide), partsOf_captured (by decide), partsOf_timing (by decide)]
    exact ⟨congrArg Calendar.live e, congrArg Calendar.captured e, congrArg Calendar.count e, congrArg Calendar.line e,
      congrArg Calendar.eveDone e, congrArg Calendar.calendsAt e⟩

end Sys2Proof.Machine
end

section
/-!
PROOF. Commit requests and the eve (R249).
-/
namespace Sys2Proof.Machine

/-- With no hold and no jump, a request before the eve of a frame goes to the next one. -/
theorem earliestRequest_before {s : State} (jump : s.dev.timing.jump = none) (hold : s.dev.timing.hold = 1)
    (eve : s.dev.timing.eveDone = false) : earliestRequest s = s.dev.timing.count + 1 := by
  simp [earliestRequest, earliest, jump, hold, eve]

/-- With no hold and no jump, a request from the eve of a frame on goes to the second one after it. -/
theorem earliestRequest_after {s : State} (jump : s.dev.timing.jump = none) (hold : s.dev.timing.hold = 1)
    (next : s.dev.timing.holdNext = 1) (eve : s.dev.timing.eveDone = true) :
    earliestRequest s = s.dev.timing.count + 2 := by
  simp [earliestRequest, earliest, jump, hold, next, eve]

/-- A request with target 0 and nothing against it is assigned the frame that R249 gives. -/
theorem exec_commitRequest_assigns {s : State} {n : Nat} (target : s.reg 0x3000 2 = 0) (given : earliestRequest s = n)
    (free : s.dev.commitPending = none) (fits : commitFails n s = none) :
    ∃ t, exec .commitRequest s = .next t ∧ t.dev.commitPending = some n ∧ t.reg 0x3000 4 = n % 2 ^ 32 := by
  have accepted : commitRequest s = (0, commitAccepted n s) :=
    commitRequest_accepts (by rw [targetCount, if_pos target, given]) free fits
  refine ⟨_, exec_commitRequest s, ?_, ?_⟩
  · rw [onDev_dev, partsOf_commitPending (by decide), accepted]
    rfl
  · rw [onDev_reg (by decide), accepted]
    exact (commitAccepted_reports n s).2

/-- Settles O19: target 0 asks for the earliest frame, which with no hold and no jump lies one period ahead before the
eve and two from it on. -/
theorem commitsFollowTheEve : Obligations.CommitsFollowTheEve := by
  intro s target jump hold next free
  exact ⟨fun eve fits => exec_commitRequest_assigns target (earliestRequest_before jump hold eve) free fits,
    fun eve fits => exec_commitRequest_assigns target (earliestRequest_after jump hold next eve) free fits⟩

end Sys2Proof.Machine
end

section
/-!
PROOF. The safety inputs and the pending release (R293, R300, R301, R560).
-/
namespace Sys2Proof.Machine

/-! ### What a broadcast leaves of the inputs (R560) -/

/-- The pin and the time of its return are the same, and a release that is cancelled stays so. -/
structure InputsKept (s t : State) : Prop where
  pinLow : t.dev.safety.pinLow = s.dev.safety.pinLow
  highAt : t.dev.safety.highAt = s.dev.safety.highAt
  release : s.dev.safety.release = none → t.dev.safety.release = none

theorem InputsKept.of_same {s t : State} (h : t.dev.safety = s.dev.safety) : InputsKept s t := by
  constructor <;> simp [h]

theorem InputsKept.trans {s t u : State} (h : InputsKept s t) (k : InputsKept t u) : InputsKept s u where
  pinLow := k.pinLow.trans h.pinLow
  highAt := k.highAt.trans h.highAt
  release := k.release ∘ h.release

theorem inputsKept_cancelRelease (s : State) : InputsKept s (cancelRelease s) := by
  unfold cancelRelease
  split
  · exact .of_same rfl
  · split
    · exact ⟨rfl, rfl, fun _ => rfl⟩
    · exact .of_same rfl

theorem inputsKept_putOrigin (o : OriginState) (s : State) : InputsKept s (putOrigin o s) := ⟨rfl, rfl, id⟩

theorem inputsKept_sendOwn (s : State) : InputsKept s (sendOwn s) := by
  unfold sendOwn
  split
  · exact .of_same rfl
  · refine .of_same (each_keeps (·.dev.safety) _ (fun p t => ?_) _ s)
    split <;> rfl

theorem inputsKept_startOwn (s : State) : InputsKept s (startOwn s) :=
  ((inputsKept_cancelRelease s).trans (inputsKept_putOrigin ..)).trans (inputsKept_sendOwn _)

theorem inputsKept_endOwn (s : State) : InputsKept s (endOwn s) := by
  unfold endOwn
  split
  · exact .of_same rfl
  · unfold dropOrigin
    dsimp only
    split
    · exact ⟨rfl, rfl, id⟩
    · exact .of_same rfl

/-! ### The pin and the release (R293, R300, R301) -/

/-- Before the eve that precedes its calends a pending release is cancelled. -/
theorem release_cancelRelease {s : State} {r : Nat} (pending : s.dev.safety.release = some r)
    (early : beforeEveOf s r = true) : (cancelRelease s).dev.safety.release = none := by
  unfold cancelRelease
  rw [pending]
  dsimp only
  rw [if_pos early]
  rfl

/-- SAFE_SHOW_N is an input, with no time of its return. -/
def pinLowered (s : State) : State := modSafety (fun y => { y with pinLow := true, pinSeen := true, highAt := none }) s

/-- After the pin and the cancel, an assertion only marks and starts the broadcast. -/
theorem inputsKept_pinAssert (s : State) : InputsKept (cancelRelease (pinLowered s)) (pinAssert s) := by
  have marked : InputsKept (cancelRelease (pinLowered s))
      (modSafety (fun y => { y with originating := true }) (cancelRelease (pinLowered s))) := ⟨rfl, rfl, id⟩
  unfold pinAssert
  dsimp only
  split
  · exact marked.trans (inputsKept_startOwn _)
  · exact marked

theorem safetyRelease_assigns {s : State} (free : s.dev.safety.release = none) (shown : s.reg 0x3190 2 ≠ 0)
    (quiet : inputsQuiet s = true) :
    safetyRelease s = (0, modSafety (fun y => { y with release := some (earliestRequest s) }) s) := by
  unfold safetyRelease
  rw [if_neg (by simp [free]), if_neg (by simp [shown, quiet])]

/-- Settles O24: what follows the change of the pin, a cancel and a broadcast, keeps the inputs. -/
theorem safetyInputCommands : Obligations.SafetyInputCommands := by
  unfold Obligations.SafetyInputCommands
  refine ⟨?pin, ?high, ?release, ?cancel⟩
  case pin =>
    intro s
    have kept := inputsKept_pinAssert s
    have lowered := inputsKept_cancelRelease (pinLowered s)
    refine ⟨_, exec_safeShowNAssert s, ?_⟩
    rw [onDev_dev, partsOf_safety (by decide)]
    refine ⟨kept.pinLow.trans lowered.pinLow, kept.highAt.trans lowered.highAt, fun r pending early => ?_⟩
    exact kept.release (release_cancelRelease (s := pinLowered s) pending early)
  case high =>
    intro s low
    refine ⟨_, exec_safeShowNRelease s, ?_⟩
    rw [onDev_dev, partsOf_safety (by decide), pinRelease, if_pos low]
    have kept := inputsKept_endOwn
      (modSafety (fun y => { y with pinLow := false, highAt := some s.now, originating := false }) s)
    exact ⟨kept.pinLow, kept.highAt⟩
  case release =>
    intro s free shown high origins highLong quietLong
    have quiet : inputsQuiet s = true := by simp [inputsQuiet, high, origins, highLong, quietLong]
    refine ⟨_, exec_safetyRelease s, ?_⟩
    rw [onDev_dev, partsOf_safety (by decide), safetyRelease_assigns free shown quiet]
    rfl
  case cancel =>
    intro s r pending early
    refine ⟨_, exec_safetyReleaseCancel s, ?_⟩
    rw [onDev_dev, partsOf_safety (by decide)]
    exact release_cancelRelease pending early

end Sys2Proof.Machine
end

section
/-!
PROOF. Protected slots: loads, erasures and reads, and the learning of region signatures (R278 to R281, R291).
-/
namespace Sys2Proof.Machine

/-! ### Slots under the operations and the scopes -/

theorem pslot_modPslot_same (k : Nat) (f : ProtectedSlot → ProtectedSlot) (s : State) :
    (modPslot k f s).pslot k = f (s.pslot k) := amGetD_amMod_same ..

theorem pslot_onDev {ps : List DevPart} (h : .protectedSlots ∈ ps) (f : State → State) (s : State) (k : Nat) :
    (onDev ps f s).pslot k = (f s).pslot k := by
  rw [State.pslot, onDev_dev, partsOf_protectedSlots h, State.pslot]

theorem pslot_onMem {ps : List DevPart} (h : .protectedSlots ∈ ps) (f : State → State) (s : State) (k : Nat) :
    (onMem ps f s).pslot k = (f s).pslot k := by
  rw [State.pslot, onMem_dev, partsOf_protectedSlots h, State.pslot]

/-! ### LOAD and ERASE (R278, R280) -/

theorem protectedLoad_free {s : State} (free : slotInUse s (s.reg 0x3180 1) = false) :
    protectedLoad s = (0, modPslot (s.reg 0x3180 1)
      (fun _ => { state := 1, staging := s.reg 0x3180 2, length := s.reg 0x3180 3 })
      (slotInvalid (s.reg 0x3180 1) s)) :=
  if_neg (by rw [free]; decide)

theorem protectedErase_free {s : State} (free : slotInUse s (s.reg 0x3180 1) = false) :
    protectedErase s = (0, modPslot (s.reg 0x3180 1) (fun _ => {}) (slotInvalid (s.reg 0x3180 1) s)) :=
  if_neg (by rw [free]; decide)

theorem protectedLoad_inUse {s : State} (used : slotInUse s (s.reg 0x3180 1) = true) :
    protectedLoad s = (abInUse, s) := if_pos used

theorem protectedErase_inUse {s : State} (used : slotInUse s (s.reg 0x3180 1) = true) :
    protectedErase s = (abInUse, s) := if_pos used

/-- A command that is refused leaves the slots and their definitions as they are. -/
theorem slots_onDev_refused {ps : List DevPart} (slots : .protectedSlots ∈ ps) (defs : .protectedDefs ∈ ps)
    {f : State → Ans} {s : State} {code : Nat} (refused : f s = (code, s)) :
    (onDev ps (fun t => (f t).2) s).dev.protectedSlots = s.dev.protectedSlots ∧
      (onDev ps (fun t => (f t).2) s).dev.protectedDefs = s.dev.protectedDefs := by
  rw [onDev_dev, partsOf_protectedSlots slots, partsOf_protectedDefs defs, refused]
  exact ⟨rfl, rfl⟩

/-! ### The end of a LOAD (R278, R279) -/

/-- The count of expanded sub-blocks writes no byte of HBM (R174). -/
theorem hbm_countExpanded (ds : List Nat) (n : Nat) (s : State) : (countExpanded ds n s).hbm = s.hbm := by
  induction ds, n, s using countExpanded.induct with
  | case1 n s => rfl
  | case2 n s d => rfl
  | case3 n s d ds nonempty k ih =>
    rw [countExpanded.eq_3 _ _ _ _ nonempty]
    exact ih

/-- The staging area has been read, and the sub-blocks that the decode expands are counted. -/
def loadDecoded (k : Nat) (s : State) : State :=
  countExpanded (decodersLeft s) (loadDecode s (s.pslot k)).1
    (hbmAsk 0 false (s.pslot k).staging (s.pslot k).length s)

theorem hbm_loadDecoded (k : Nat) (s : State) : (loadDecoded k s).hbm = s.hbm :=
  (hbm_countExpanded ..).trans (readsSame_hbmAsk ..).1

theorem loadComplete_fails {k e : Nat} {s : State} (loading : (s.pslot k).state = 1)
    (fails : (loadDecode s (s.pslot k)).2 = .error e) :
    loadComplete k s = modPslot k (fun p => { p with state := 3, detail := e }) (loadDecoded k s) := by
  unfold loadComplete
  dsimp only
  rw [if_neg (not_not_intro loading), fails]
  rfl

theorem loadComplete_passes {k : Nat} {d : Decoded} {s : State} (loading : (s.pslot k).state = 1)
    (passes : (loadDecode s (s.pslot k)).2 = .ok d) :
    loadComplete k s = modPslot k (fun p => { p with state := 2 })
      ((protectedWrite k d (loadDecoded k s)).modDev fun v =>
        { v with protectedDefs := amPut v.protectedDefs k d.content }) := by
  unfold loadComplete
  dsimp only
  rw [if_neg (not_not_intro loading), passes]
  rfl

/-! ### Reads of a slot (R281) -/

theorem memoryServed.protectedLogged {s t : State} (h : memoryServed s t) :
    t.dev.protectedLogged = s.dev.protectedLogged := by
  obtain ⟨⟨_, _, _, _, rfl⟩, _⟩ := h; rfl

/-- A read of a block whose first copy is good serves memory and takes the block off the list of bad ones. -/
theorem protectedRead_good {k b : Nat} {s : State} (bad1 : Bool) (valid : (amGet s.dev.protectedDefs k).isSome = true)
    (good : (protectedCopy s k b 0).isSome = true) : ∃ t, memoryServed s t ∧ protectedRead k b false bad1 s =
      modSynth (fun y => { y with protectedBad := y.protectedBad.filter (· != (k, b)) }) t := by
  obtain ⟨ct, found⟩ := Option.isSome_iff_exists.mp valid
  unfold protectedRead
  rw [found]
  extract_lets note goodCopy base clean asked tiles
  have served : memoryServed s (tiles asked) :=
    (((memoryServed_hbmAsk ..).trans (memoryServed_hbmAsk ..)).trans (memoryServed_hbmAsk ..)).trans
      ((memoryServed_mirrorRead ..).trans (memoryServed_mirrorRead ..))
  have first : goodCopy 0 false = true := by simpa [goodCopy] using good
  exact ⟨tiles asked, served, if_pos first⟩

/-- Block `b` of slot `k` is bad in the frame, which has its event (R281). -/
def blockSpoilt (k b : Nat) (s : State) : State :=
  let s := modSynth (fun y => { y with protectedBad := (k, b) :: y.protectedBad.filter (· != (k, b)) }) s
  if s.dev.protectedLogged then s
  else logEvent 281 3 0x3180 0 (k + b * 2 ^ 8) (s.modDev fun d => { d with protectedLogged := true })

/-- A read with both copies bad counts one fallback between accesses that are noted, and the block is spoilt. -/
theorem protectedRead_bad (k b : Nat) {s : State} (valid : (amGet s.dev.protectedDefs k).isSome = true) :
    ∃ t u, MemoryNoted s t ∧ MemoryNoted (t.bump 0x3180 7) u ∧ protectedRead k b true true s = blockSpoilt k b u := by
  obtain ⟨ct, found⟩ := Option.isSome_iff_exists.mp valid
  unfold protectedRead
  rw [found]
  extract_lets note goodCopy base clean asked tiles noted spoilt
  have h_note (j : Nat) (t : State) : MemoryNoted t (note j true t) := by
    dsimp only [note]
    split
    · exact memoryNoted_pcUncorrectable ..
    · exact .refl t
  have h_asked : MemoryNoted s asked :=
    ((memoryNoted_hbmAsk ..).trans (memoryNoted_hbmAsk ..)).trans (memoryNoted_hbmAsk ..)
  have bad (j : Nat) : goodCopy j true = false := by simp [goodCopy]
  rw [if_neg (by rw [bad]; decide), if_neg (by rw [bad]; decide)]
  exact ⟨_, _, h_asked.trans (h_note 0 asked), h_note 1 noted, rfl⟩

theorem mem_protectedBad_blockSpoilt (k b : Nat) (s : State) :
    (k, b) ∈ (blockSpoilt k b s).dev.synth.protectedBad := by
  unfold blockSpoilt
  dsimp only
  split
  · exact List.mem_cons_self
  · rw [synth_logEvent]
    exact List.mem_cons_self

theorem protectedLogged_blockSpoilt (k b : Nat) (s : State) : (blockSpoilt k b s).dev.protectedLogged = true := by
  unfold blockSpoilt
  dsimp only
  split
  · assumption
  · obtain ⟨⟨_, _, _, _, _, e⟩, _⟩ := memoryNoted_logEvent 281 3 0x3180 0 (k + b * 2 ^ 8)
      ((modSynth (fun y => { y with protectedBad := (k, b) :: y.protectedBad.filter (· != (k, b)) }) s).modDev fun d =>
        { d with protectedLogged := true })
    rw [e]
    rfl

theorem reg_blockSpoilt (k b : Nat) (s : State) : (blockSpoilt k b s).reg 0x3180 7 = s.reg 0x3180 7 := by
  unfold blockSpoilt
  dsimp only
  split
  · rfl
  · exact reg_logEvent_index _ _ _ _ _ _ (by decide) (by decide)

/-- A fallback counts one (R21, R281). -/
theorem protectedRead_counts {k b : Nat} {s : State} (valid : (amGet s.dev.protectedDefs k).isSome = true) :
    counted s (protectedRead k b true true s) 0x3180 7 := by
  obtain ⟨t, u, before, after, e⟩ := protectedRead_bad k b valid
  rw [counted, e, reg_blockSpoilt, after.low _ _ (by decide) (by decide), reg_bump, if_pos rfl,
    before.low _ _ (by decide) (by decide)]

/-! ### The commands -/

/-- Settles O40: a free slot takes what LOAD or ERASE gives it and one in use refuses both, a load ends with what its
checks give, and a read falls back or not by its first copy. -/
theorem protectedStoreCommands : Obligations.ProtectedStoreCommands := by
  unfold Obligations.ProtectedStoreCommands
  refine ⟨?free, ?inUse, ?complete, ?read, ?learn⟩
  case free =>
    intro s free
    refine ⟨⟨_, exec_protectedLoad s, ?_⟩, ⟨_, exec_protectedErase s, ?_⟩⟩
    · rw [pslot_onDev (by decide), protectedLoad_free free]
      exact pslot_modPslot_same ..
    · rw [pslot_onDev (by decide), protectedErase_free free]
      exact pslot_modPslot_same ..
  case inUse =>
    intro s used
    exact ⟨⟨_, exec_protectedLoad s, slots_onDev_refused (by decide) (by decide) (protectedLoad_inUse used)⟩,
      ⟨_, exec_protectedErase s, slots_onDev_refused (by decide) (by decide) (protectedErase_inUse used)⟩⟩
  case complete =>
    intro s k hk loading
    refine ⟨_, exec_protectedLoadComplete k s hk, ?_⟩
    split
    next d passes =>
      rw [pslot_onMem (by decide), onMem_dev, partsOf_protectedDefs (by decide), loadComplete_passes loading passes,
        pslot_modPslot_same]
      exact ⟨rfl, amGet_amPut_same ..⟩
    next e fails =>
      rw [pslot_onMem (by decide), onMem_hbm, loadComplete_fails loading fails, pslot_modPslot_same]
      exact ⟨rfl, rfl, hbm_loadDecoded k s⟩
  case read =>
    intro s k b bad1 hk hb valid
    refine ⟨fun good => ⟨_, exec_protectedSlotRead k b false bad1 s hk hb, ?_⟩,
      ⟨_, exec_protectedSlotRead k b true true s hk hb, ?_⟩⟩
    · obtain ⟨t, served, e⟩ := protectedRead_good bad1 valid good
      rw [onMem_reg (by decide), onMem_dev, partsOf_protectedLogged (by decide), partsOf_synth (by decide), e]
      exact ⟨served.2 _ _ (by decide) (by decide), served.protectedLogged, by simp⟩
    · obtain ⟨t, u, -, -, e⟩ := protectedRead_bad k b valid
      rw [counted, onMem_reg (by decide), onMem_dev, partsOf_protectedLogged (by decide), partsOf_synth (by decide)]
      refine ⟨protectedRead_counts valid, ?_⟩
      rw [e]
      exact ⟨protectedLogged_blockSpoilt .., mem_protectedBad_blockSpoilt ..⟩
  case learn =>
    intro s r hr
    refine ⟨_, exec_regionLearn r s hr, ?_, partsOf_same (p := .live) (by decide) _ s⟩
    rw [shad_onDev (by decide)]
    exact shad_setShad_same ..

end Sys2Proof.Machine
end

section
/-!
PROOF. The gain map and its check, band updates, the scales under a lowered ceiling and the aging refresh (R322 to R328,
R344, R904).
-/
namespace Sys2Proof.Machine

/-! ### What requests and events leave as it is -/

theorem memoryServed.live {s t : State} (h : memoryServed s t) : t.dev.live = s.dev.live := by
  obtain ⟨⟨_, _, _, _, rfl⟩, _⟩ := h; rfl

theorem memoryServed.bandUpdates {s t : State} (h : memoryServed s t) : t.dev.bandUpdates = s.dev.bandUpdates := by
  obtain ⟨⟨_, _, _, _, rfl⟩, _⟩ := h; rfl

theorem MemoryNoted.bandUpdates {s t : State} (h : MemoryNoted s t) : t.dev.bandUpdates = s.dev.bandUpdates := by
  obtain ⟨⟨_, _, _, _, _, rfl⟩, _⟩ := h; rfl

/-! ### Gain map (R322, R323) -/

theorem gainBaseWrite_accepted {s : State} {v : Nat} (disabled : gainEnabled s = false) (aligned : v % 4096 = 0)
    (small : v < 2 ^ 64) : gainBaseWrite v s = (0, s.setReg 0x3410 2 v) := by
  unfold gainBaseWrite
  rw [if_neg (by rw [disabled]; decide), if_neg (by omega)]

theorem rangeCheck_congr {s t : State} (h : readsSame s t) (a n off r z : Nat) :
    rangeCheck t a n off r z = rangeCheck s a n off r z := by
  induction n generalizing off r z with
  | zero => rfl
  | succ n ih => simp only [rangeCheck, hbmByte_congr h, ih]

/-- What CHECK finds in the map: the CRC of its bytes and how many are 0; none where a byte cannot be read. -/
def gainMapRange (s : State) : Option (Nat × Nat) :=
  rangeCheck s 0 (720 * bandSize s.dev.live) (s.reg 0x3410 2) (crcInit 0 0x34100003) 0

/-- The requests that read the map for CHECK have met the pseudo-channels. -/
def gainMapAsked (s : State) : State := hbmAsk 36 false (s.reg 0x3410 2) (720 * bandSize s.dev.live) s

theorem reg_gainMapAsked (s : State) {j : Nat} (hj : j < 256) : (gainMapAsked s).reg 0x3410 j = s.reg 0x3410 j :=
  (memoryServed_hbmAsk ..).2 _ _ (by decide) hj

theorem gainMapRange_gainMapAsked (s : State) : gainMapRange (gainMapAsked s) = gainMapRange s := by
  have same : readsSame s (gainMapAsked s) := readsSame_hbmAsk ..
  have served : memoryServed s (gainMapAsked s) := memoryServed_hbmAsk ..
  unfold gainMapRange
  rw [rangeCheck_congr same, served.live, reg_gainMapAsked s (by decide)]

/-- A CHECK that ends has failed where a byte cannot be read, and otherwise as the CRC says. -/
theorem reg_gainCheckEnd {s : State} (runs : s.reg 0x3410 5 = 1) : (gainCheckEnd s).reg 0x3410 5 =
    (gainMapRange s).elim 3 fun found => if found.1 = s.reg 0x3410 3 then 2 else 3 := by
  rw [← gainMapRange_gainMapAsked, ← reg_gainMapAsked s (j := 3) (by decide)]
  unfold gainCheckEnd
  rw [if_neg (not_not_intro runs)]
  dsimp only
  split
  · next unreadable =>
    rw [show gainMapRange (gainMapAsked s) = none from unreadable]
    exact reg_setReg_same ..
  · next v z read =>
    rw [show gainMapRange (gainMapAsked s) = some (v, z) from read]
    exact reg_setReg_same ..

/-! ### Band updates (R324 to R328) -/

/-- The update that a submission for calends `n` in slot `k` asks for (R324). -/
def bandAsked (s : State) (n k : Nat) : BandUpdate :=
  { band := s.reg 0x3412 1, staging := s.reg 0x3412 2, crc := s.reg 0x3412 3, target := n, slot := k }

theorem bandSubmit_accepted {s : State} {n k : Nat} (above : 0x6C0000000 ≤ s.reg 0x3412 2)
    (below : s.reg 0x3412 2 + bandSize s.dev.live ≤ 0x740000000)
    (placed : (place s (s.reg 0x3412 2 + bandSize s.dev.live - 1)).isSome = true) (target : bandTarget s = .ok n)
    (room : s.dev.bandUpdates.length < 8)
    (single : (s.dev.bandUpdates.any fun x => x.band == s.reg 0x3412 1 && x.target == n) = false)
    (slot : freeBandSlot s = some k) :
    (bandSubmit s).2 = (((s.setReg 0x3412 6 1).setReg 0x3412 7 (n % 2 ^ 32)).modDev fun d =>
      { d with bandUpdates := d.bandUpdates ++ [bandAsked s n k] }).setReg 0x3412 9 (s.dev.bandUpdates.length + 1) := by
  have staged : ¬(s.reg 0x3412 2 < 0x6C0000000 ∨ 0x740000000 < s.reg 0x3412 2 + bandSize s.dev.live ∨
      (place s (s.reg 0x3412 2 + bandSize s.dev.live - 1)).isNone = true) := by
    rw [← Option.not_isSome, placed]
    simp only [Bool.not_true, Bool.false_eq_true, or_false]
    omega
  have pending : ¬(8 ≤ s.dev.bandUpdates.length ∨
      (s.dev.bandUpdates.any fun x => x.band == s.reg 0x3412 1 && x.target == n) = true) := by
    rw [single]
    simp only [Bool.false_eq_true, or_false]
    omega
  unfold bandSubmit
  dsimp only
  rw [if_neg staged, target]
  dsimp only
  rw [if_neg pending, slot]
  simp [bandAsked]

/-- The bytes that update `u` stages for band `b` can be read and have its CRC (R324). -/
def bandPasses (s : State) (b : Nat) (u : BandUpdate) : Bool :=
  (hbmRead s u.staging (bandSize s.dev.live)).any fun bs => crc32c b bs == u.crc

/-- Update `u` of band `b` is dropped, with its event (R327). -/
def bandDropped (b : Nat) (u : BandUpdate) (s : State) : State :=
  let s := s.modDev fun d => { d with bandUpdates := d.bandUpdates.erase u }
  logEvent 327 3 0x3412 0 b ((s.setReg 0x3412 9 s.dev.bandUpdates.length).setReg 0x3412 6 5)

/-- The marker of the copier for band `b` is on its way (R654). -/
def bandMarkerSent (b : Nat) : State → State :=
  modMemory fun m => { m with markers := m.markers ++ [(47, .bandCopied b)] }

theorem bandUpdates_bandDropped (b : Nat) (u : BandUpdate) (s : State) :
    (bandDropped b u s).dev.bandUpdates = s.dev.bandUpdates.erase u := by
  unfold bandDropped
  exact (memoryNoted_logEvent ..).bandUpdates

theorem reg_bandDropped (b : Nat) (u : BandUpdate) (s : State) : (bandDropped b u s).reg 0x3412 6 = 5 := by
  unfold bandDropped
  exact (reg_logEvent_index _ _ _ _ _ _ (by decide) (by decide)).trans (reg_setReg_same ..)

theorem bandCopied_fails {s : State} {b : Nat} {u : BandUpdate}
    (found : (s.dev.bandUpdates.find? fun u => u.band == b && !u.copied) = some u) (fails : ¬bandPasses s b u = true) :
    ∃ t, memoryServed s t ∧ bandCopied b s = bandDropped b u t := by
  refine ⟨_, memoryServed_hbmAsk 47 false u.staging (bandSize s.dev.live) s, ?_⟩
  unfold bandCopied
  rw [found]
  dsimp only
  rw [(memoryServed_hbmAsk ..).live, hbmRead_hbmAsk]
  unfold bandPasses at fails
  split
  · rfl
  · next bs read =>
    rw [read] at fails
    rw [if_pos (by simpa using fails)]
    rfl

theorem bandCopied_passes {s : State} {b : Nat} {u : BandUpdate}
    (found : (s.dev.bandUpdates.find? fun u => u.band == b && !u.copied) = some u) (passes : bandPasses s b u = true) :
    ∃ t n, memoryServed s t ∧ bandCopied b s = bandMarkerSent b (t.setReg 0x3410 7 n) := by
  unfold bandCopied
  rw [found]
  dsimp only
  rw [(memoryServed_hbmAsk ..).live, hbmRead_hbmAsk]
  unfold bandPasses at passes
  split
  · next unread =>
    rw [unread] at passes
    cases passes
  · next bs read =>
    rw [read] at passes
    rw [if_neg (by simpa using passes)]
    exact ⟨_, _, (memoryServed_hbmAsk ..).trans (memoryServed_hbmStore ..), rfl⟩

/-! ### Scales under a lowered ceiling (R904) -/

theorem zoneScale_putScale_same {s : State} (sorted : amSorted 0 s.dev.gov.scale = true) (z v : Nat) :
    zoneScale (putScale z v s) z = v := by
  unfold zoneScale putScale
  rw [modGov_dev]
  dsimp only
  split
  · next full => rw [amGetD, amGet_amErase sorted, if_pos rfl, full]; rfl
  · exact amGetD_amPut_same ..

/-- The scales are those that the hardware ceiling in force allows for the sums of the last frame. -/
def scalesLowered (s : State) : State :=
  s.each s.dev.gov.preLast fun e t =>
    putScale e.1 (min (zoneScale t e.1) (scaleTarget e.2 (zoneBudget t t.dev.live e.1))) t

theorem gov_ceilingRecompute {s : State} (lowered : s.dev.gov.lowered = true) (running : s.reg 0x2040 2 ≠ 1) :
    (ceilingRecompute s).dev.gov = { (scalesLowered s).dev.gov with lowered := false } := by
  unfold ceilingRecompute
  rw [if_neg (by rw [lowered]; simpa using running)]
  exact iff_keeps (·.dev.gov) _ _ _ rfl

theorem zoneScale_scalesLowered {s : State} {z p : Nat} (last : s.dev.gov.preLast = [(z, p)])
    (sorted : amSorted 0 s.dev.gov.scale = true) :
    zoneScale (scalesLowered s) z = min (zoneScale s z) (scaleTarget p (zoneBudget s s.dev.live z)) := by
  unfold scalesLowered
  rw [last]
  exact zoneScale_putScale_same sorted ..

/-! ### The commands -/

/-- Settles O36: the base, the check and the band updates go through what requests to HBM leave as it is, a zone's scale
reads what it was lowered to, and the aging factors are those of the counters. -/
theorem colourCommands : Obligations.ColourCommands := by
  unfold Obligations.ColourCommands
  refine ⟨?base, ?check, ?checkEnd, ?submit, ?copied, ?ceiling, ?aging⟩
  case base =>
    intro s v disabled aligned small
    refine ⟨_, exec_gainMapBaseWrite v s, ?_⟩
    rw [onDev_reg (by decide), gainBaseWrite_accepted disabled aligned small]
    exact reg_setReg_same ..
  case check =>
    intro s
    refine ⟨_, exec_gainMapCheck s, ?_, ?_⟩
    · rw [onDev_reg (by decide)]
      exact reg_setReg_same ..
    · rw [onDev_dev, partsOf_live (by decide)]
      rfl
  case checkEnd =>
    intro s runs
    refine ⟨_, exec_gainMapCheckComplete s, ?_⟩
    rw [onDev_reg (by decide), reg_gainCheckEnd runs]
    unfold gainMapRange
    split
    next unreadable => rw [unreadable]; rfl
    next v z read => rw [read]; rfl
  case submit =>
    intro s n k above below placed target room single slot
    refine ⟨_, exec_bandSubmit s, ?_⟩
    rw [onDev_reg (by decide), onDev_dev, partsOf_bandUpdates (by decide),
      bandSubmit_accepted above below placed target room single slot]
    refine ⟨?_, rfl⟩
    rw [reg_setReg_sub (by decide) (by decide) (by decide), reg_modDev_of_od _ _ rfl,
      reg_setReg_sub (by decide) (by decide) (by decide), reg_setReg_same]
  case copied =>
    intro s b u hb found
    refine ⟨_, exec_bandCopyComplete b s hb, ?_⟩
    rw [onMem_reg (by decide), onMem_dev, partsOf_memory (by decide), partsOf_bandUpdates (by decide)]
    split
    next passes =>
      obtain ⟨t, n, served, e⟩ := bandCopied_passes found passes
      rw [e]
      exact ⟨congrArg (· ++ [(47, MarkerUse.bandCopied b)]) served.markers, served.bandUpdates⟩
    next fails =>
      obtain ⟨t, served, e⟩ := bandCopied_fails found fails
      rw [e]
      exact ⟨served.bandUpdates ▸ bandUpdates_bandDropped .., reg_bandDropped ..⟩
  case ceiling =>
    intro s z p lowered running last sorted
    refine ⟨_, exec_ceilingScaleRecompute s, ?_⟩
    rw [zoneScale, onDev_dev, partsOf_gov (by decide), gov_ceilingRecompute lowered running]
    exact ⟨zoneScale_scalesLowered last sorted, rfl⟩
  case aging =>
    intro s
    refine ⟨_, exec_agingRefresh s, ?_⟩
    rw [shad_onDev (by decide)]
    exact shad_setShad_same ..

end Sys2Proof.Machine
end

section
/-!
SUPPORT. The clock of lines: the state in force, the line of the frame and the lines since the start (R362). The updates
below keep it, and so do choices and loops of what keeps it.
-/
namespace Sys2Proof.Machine

/-- The state in force, the line of the frame that starts next, and the lines since the start. -/
structure LineClock where
  live : Committed
  line : Nat
  lines : Nat

/-- The clock of lines of a state. -/
def lineClock (s : State) : LineClock :=
  { live := s.dev.live, line := s.dev.timing.line, lines := s.dev.timing.lines }

/-! ### Updates of the state -/

/-- A change of the device that touches neither the state in force nor the timing. -/
@[simp] theorem lineClock_modDev (f : Dev → Dev) (s : State)
    (live : ∀ d, (f d).live = d.live := by exact fun _ => rfl)
    (timing : ∀ d, (f d).timing = d.timing := by exact fun _ => rfl) : lineClock (s.modDev f) = lineClock s := by
  simp only [lineClock, State.modDev, live, timing]

@[simp] theorem lineClock_modTiming {f : Timing → Timing} (line : ∀ t, (f t).line = t.line)
    (lines : ∀ t, (f t).lines = t.lines) (s : State) : lineClock (modTiming f s) = lineClock s := by
  simp only [lineClock, modTiming_dev, line, lines]

@[simp] theorem lineClock_setReg (i j v : Nat) (s : State) : lineClock (s.setReg i j v) = lineClock s :=
  lineClock_modDev _ s
@[simp] theorem lineClock_bump (i j n : Nat) (s : State) : lineClock (s.bump i j n) = lineClock s :=
  lineClock_modDev _ s
@[simp] theorem lineClock_bumpSeq (i j n : Nat) (s : State) : lineClock (s.bumpSeq i j n) = lineClock s :=
  lineClock_modDev _ s
@[simp] theorem lineClock_modSynth (f : Synth → Synth) (s : State) : lineClock (modSynth f s) = lineClock s :=
  lineClock_modDev _ s
@[simp] theorem lineClock_modFreeze (f : Freeze → Freeze) (s : State) : lineClock (modFreeze f s) = lineClock s :=
  lineClock_modDev _ s
@[simp] theorem lineClock_modLens (f : Lens → Lens) (s : State) : lineClock (modLens f s) = lineClock s :=
  lineClock_modDev _ s
@[simp] theorem lineClock_modHost (f : HostIf → HostIf) (s : State) : lineClock (modHost f s) = lineClock s :=
  lineClock_modDev _ s
@[simp] theorem lineClock_modNcp (f : Ncp → Ncp) (s : State) : lineClock (modNcp f s) = lineClock s :=
  lineClock_modDev _ s
@[simp] theorem lineClock_modLink (l : Nat) (f : Link → Link) (s : State) : lineClock (modLink l f s) = lineClock s :=
  lineClock_modDev _ s
@[simp] theorem lineClock_modPort (p : Nat) (f : Port → Port) (s : State) : lineClock (modPort p f s) = lineClock s :=
  lineClock_modDev _ s
@[simp] theorem lineClock_modRegion (r : Nat) (f : Region → Region) (s : State) :
    lineClock (modRegion r f s) = lineClock s := lineClock_modDev _ s
@[simp] theorem lineClock_modEth (p : Nat) (f : EthPort → EthPort) (s : State) : lineClock (modEth p f s) = lineClock s :=
  lineClock_modDev _ s
@[simp] theorem lineClock_drawFree (s : State) : lineClock (drawFree s) = lineClock s := lineClock_modDev _ s
@[simp] theorem lineClock_latch (b : Nat) (s : State) : lineClock (latch b s) = lineClock s :=
  lineClock_modDev _ s

/-! ### Choices and loops -/

@[simp] theorem lineClock_ite (c : Prop) {d : Decidable c} (s t : State) :
    lineClock (if c then s else t) = if c then lineClock s else lineClock t := apply_ite lineClock c s t

@[simp] theorem lineClock_iff {c : Bool} {f : State → State} {s : State} (h : lineClock (f s) = lineClock s) :
    lineClock (s.iff c f) = lineClock s := iff_keeps lineClock c f s h

@[simp] theorem lineClock_each {α : Type} {f : α → State → State} (h : ∀ x t, lineClock (f x t) = lineClock t)
    (xs : List α) (s : State) : lineClock (s.each xs f) = lineClock s := each_keeps lineClock f h xs s

/-! ### Memory and the event log -/

theorem memoryServed.lineClock {s t : State} (h : memoryServed s t) : lineClock t = lineClock s := by
  obtain ⟨⟨_, _, _, _, rfl⟩, _⟩ := h; rfl

theorem MemoryNoted.lineClock {s t : State} (h : MemoryNoted s t) : lineClock t = lineClock s := by
  obtain ⟨⟨_, _, _, _, _, rfl⟩, _⟩ := h; rfl

@[simp] theorem lineClock_logEvent (r c i j d : Nat) (s : State) : lineClock (logEvent r c i j d s) = lineClock s :=
  (memoryNoted_logEvent ..).lineClock

@[simp] theorem lineClock_pcUncorrectable (i : Nat) (s : State) : lineClock (pcUncorrectable i s) = lineClock s :=
  (memoryNoted_pcUncorrectable ..).lineClock

@[simp] theorem lineClock_hbmAsk (src : Nat) (write : Bool) (off len : Nat) (s : State) :
    lineClock (hbmAsk src write off len s) = lineClock s := (memoryServed_hbmAsk ..).lineClock

@[simp] theorem lineClock_hbmWrite (off : Nat) (bs : List Byte) (s : State) :
    lineClock (hbmWrite off bs s) = lineClock s := (memoryServed_hbmWrite ..).lineClock

@[simp] theorem lineClock_mirrorRead (off len : Nat) (s : State) : lineClock (mirrorRead off len s) = lineClock s :=
  (memoryServed_mirrorRead ..).lineClock

@[simp] theorem lineClock_pcTouch (i : Nat) (s : State) : lineClock (pcTouch i s) = lineClock s := by
  unfold pcTouch
  split <;> rfl

/-! ### Reads of the protected store (R281) -/

@[simp] theorem lineClock_rewriteFirst (off : Nat) (bad : Bool) (s : State) :
    lineClock (rewriteFirst off bad s) = lineClock s := by
  unfold rewriteFirst
  split <;> simp

@[simp] theorem lineClock_protectedRead (k b : Nat) (bad0 bad1 : Bool) (s : State) :
    lineClock (protectedRead k b bad0 bad1 s) = lineClock s := by
  unfold protectedRead
  split
  · rfl
  extract_lets note good base clean asked tiles noted spoilt
  have noting (j : Nat) (bad : Bool) (t : State) : lineClock (note j bad t) = lineClock t := by
    dsimp only [note]
    split <;> simp
  have rewritten (t : State) : lineClock (clean (tiles t)) = lineClock t := by simp [clean, tiles]
  have h_asked : lineClock asked = lineClock s := by simp [asked]
  have h_noted : lineClock noted = lineClock s := by simp [noted, noting, h_asked]
  have h_spoilt : lineClock spoilt = lineClock s := by simp [spoilt, noting, h_noted]
  split
  · simp [rewritten, h_asked]
  split
  · simp [rewritten, h_noted]
  split <;> simp [h_spoilt]

@[simp] theorem lineClock_protectedReads (k : Nat) (q : Patch) (s : State) :
    lineClock (protectedReads k q s) = lineClock s := by
  unfold protectedReads
  split <;> simp

@[simp] theorem lineClock_proxyReads (n line : Nat) (s : State) : lineClock (proxyReads n line s) = lineClock s := by
  simp [proxyReads, proxyFetches]

/-! ### Strips: release, deadline and the freeze caches (R170, R209, R210, R286) -/

@[simp] theorem lineClock_dispatchLoop (n : Nat) (s : State) : lineClock (dispatchLoop n s) = lineClock s := by
  induction n generalizing s with
  | zero => rfl
  | succ n ih =>
    unfold dispatchLoop
    split
    · exact ih _
    · rfl

@[simp] theorem lineClock_releaseStrip (n strip : Nat) (s : State) :
    lineClock (releaseStrip n strip s) = lineClock s := by
  simp [releaseStrip, dispatch]

@[simp] theorem lineClock_hbmLead (s : State) : lineClock (hbmLead s) = lineClock s := by
  simp [hbmLead]

@[simp] theorem lineClock_assignRedo (s : State) : lineClock (assignRedo s) = lineClock s := by
  refine lineClock_each (fun i t => ?_) _ s
  split <;> simp

@[simp] theorem lineClock_stripDeadline (n strip : Nat) (s : State) :
    lineClock (stripDeadline n strip s) = lineClock s := by
  simp [stripDeadline, patchMissed]

@[simp] theorem lineClock_regionMismatch (c : Committed) (n r : Nat) (s : State) :
    lineClock (regionMismatch c n r s) = lineClock s := by
  simp [regionMismatch]

@[simp] theorem lineClock_regionResults (n strip : Nat) (s : State) :
    lineClock (regionResults n strip s) = lineClock s := by
  simp [regionResults, regionMatch]

@[simp] theorem lineClock_fillStrip (q : Patch) (bytes : List Byte) (s : State) :
    lineClock (fillStrip q bytes s) = lineClock s := by
  simp [fillStrip]

@[simp] theorem lineClock_freezeStripRead (strip : Nat) (bad0 bad1 : Bool) (s : State) :
    lineClock (freezeStripRead strip bad0 bad1 s) = lineClock s := by
  unfold freezeStripRead
  extract_lets q c n all note asked get noted mirrored again lost
  have marking (f : Patch → Synth → Synth) (t : State) : lineClock (all f t) = lineClock t := by simp [all]
  have noting (k : Nat) (bad : Bool) (t : State) : lineClock (note k bad t) = lineClock t := by
    dsimp only [note]
    split <;> simp
  have h_noted : lineClock noted = lineClock s := by simp [noted, noting, asked]
  have h_again : lineClock again = lineClock s := by simp [again, noting, mirrored, h_noted]
  split
  · rfl
  split
  · simp [marking, h_noted]
  split
  · simp [marking, h_again]
  · simp [marking, lost, h_again]

@[simp] theorem lineClock_deadline (n strip : Nat) (s : State) : lineClock (deadline n strip s) = lineClock s := by
  simp [deadline]

/-! ### Links and ports (R362, R428, R440 to R456) -/

@[simp] theorem lineClock_ethDrain (p : Nat) (s : State) : lineClock (ethDrain p s) = lineClock s := by
  simp [ethDrain, framesLeave]

@[simp] theorem lineClock_setLinkState (l v : Nat) (s : State) : lineClock (setLinkState l v s) = lineClock s :=
  lineClock_setReg ..

@[simp] theorem lineClock_sendBlock (l b : Nat) (s : State) : lineClock (sendBlock l b s) = lineClock s :=
  lineClock_modLink ..

@[simp] theorem lineClock_startDown (s : State) : lineClock (startDown s) = lineClock s := by
  simp [startDown, trainStart, enterDetect, enterLock]

@[simp] theorem lineClock_sendLine (l : Nat) (s : State) : lineClock (sendLine l s) = lineClock s := by
  unfold sendLine
  extract_lets x last go
  have going (tx : LinkTx) (blk : Nat) (data : List Nat) : lineClock (go tx blk data) = lineClock s := rfl
  split
  · exact going ..
  · exact going ..
  · split <;> simp

@[simp] theorem lineClock_readLine (n line : Nat) (mode : Nat → Nat) (s : State) :
    lineClock (readLine n line mode s) = lineClock s := by
  simp [readLine]

@[simp] theorem lineClock_chooseNext (p : Nat) (s : State) : lineClock (chooseNext p s) = lineClock s := by
  unfold chooseNext
  split <;> rfl

@[simp] theorem lineClock_linkFail (l cause : Nat) (s : State) : lineClock (linkFail l cause s) = lineClock s := by
  simp [linkFail, endTest, dropLink, enterDown]

@[simp] theorem lineClock_lateRetrains (s : State) : lineClock (lateRetrains s) = lineClock s := by
  simp [lateRetrains]

@[simp] theorem lineClock_startRetrains (s : State) : lineClock (startRetrains s) = lineClock s := by
  simp [startRetrains]

@[simp] theorem lineClock_portModes (s : State) : lineClock (portModes s) = lineClock s := by
  simp [portModes]

@[simp] theorem lineClock_bringupModes (s : State) : lineClock (bringupModes s) = lineClock s := by
  simp [bringupModes]

@[simp] theorem lineClock_proxyFrame (s : State) : lineClock (proxyFrame s) = lineClock s := by
  simp [proxyFrame]

@[simp] theorem lineClock_frameEndOf (p : Nat) (s : State) : lineClock (frameEndOf p s) = lineClock s := by
  simp [frameEndOf]

@[simp] theorem lineClock_frameEndSend (k : Nat) (s : State) : lineClock (frameEndSend k s) = lineClock s := by
  refine lineClock_each (fun l t => ?_) _ s
  split <;> simp

/-! ### Underruns and scan engines (R368, R370 to R374) -/

@[simp] theorem lineClock_underrunEvents (s : State) : lineClock (underrunEvents s) = lineClock s := by
  unfold underrunEvents
  refine (lineClock_modTiming (by simp) (by simp) _).trans (lineClock_each (fun h t => ?_) _ s)
  dsimp only
  split <;> simp

@[simp] theorem lineClock_takeAlone (h line : Nat) (s : State) : lineClock (takeAlone h line s) = lineClock s := by
  unfold takeAlone
  split <;> simp

@[simp] theorem lineClock_scanEngine (h line : Nat) (k : ScanCheck) (s : State) :
    lineClock (scanEngine h line k s) = lineClock s := by
  simp [scanEngine]

/-! ### The frame DPLL (R539 to R543) -/

@[simp] theorem lineClock_moveAssigned (n : Nat) (d : Int) (s : State) :
    lineClock (moveAssigned n d s) = lineClock s := by
  unfold moveAssigned
  extract_lets m moved hosted committed banded submitted
  have h_hosted : lineClock hosted = lineClock s := by simp [hosted, moved]
  have h_committed : lineClock committed = lineClock s := by simp [committed, h_hosted]
  simp [submitted, banded, h_committed]

@[simp] theorem lineClock_dpll (s : State) : lineClock (dpll s) = lineClock s := by
  simp [dpll, acquire, lockStep]

end Sys2Proof.Machine
end

section
/-!
PROOF. A line start advances the clock of lines by one, and an underrun repeats the last colour value sent (R362, R365,
R368, R369).
-/
namespace Sys2Proof.Machine

/-- What a line does counts no line: each part of its work leaves the clock of lines alone (R358, R362). -/
theorem lineClock_lineWork (j : Nat) (left right : ScanCheck) (s : State) :
    lineClock (lineWork j left right s) = lineClock s := by
  unfold lineWork
  extract_lets n next engines released due sent read ended copied retrained last first
  have comparing (line : Nat) (t : State) : lineClock (engines line t) = lineClock t := by simp [engines]
  have h_released : lineClock released = lineClock s := by simp [released]
  have h_due : lineClock due = lineClock s := by simp [due, h_released]
  have h_sent : lineClock sent = lineClock s := by simp [sent, h_due]
  have h_read : lineClock read = lineClock s := by simp [read, comparing, h_sent]
  have h_ended : lineClock ended = lineClock s := by simp [ended, h_read]
  have h_copied : lineClock copied = lineClock s := by simp [copied, h_ended]
  have h_retrained : lineClock retrained = lineClock s := by simp [retrained, h_copied]
  have h_last : lineClock last = lineClock s := by simp [last, h_retrained]
  split
  · simp [first, comparing, h_last]
  · exact h_last

/-- The clock of lines with one more line started. -/
def LineClock.advanced (k : LineClock) : LineClock := { k with line := k.line + 1, lines := k.lines + 1 }

/-- LINE_START of a frame that has a line to start, whose eve is not due (R245, R362, R369). -/
theorem lineClock_lineStart (left right : ScanCheck) {s : State} (started : s.dev.timing.started = true)
    (more : s.dev.timing.line ≤ 17280 ∨ s.dev.timing.line < totalLines s)
    (eve : s.dev.timing.eveDone = true ∨ s.dev.timing.line ≤ eveLine s) :
    lineClock (lineStart left right s) = (lineClock s).advanced := by
  have worked : lineClock (lineWork s.dev.timing.line left right
      (startDown (underrunEvents (s.each [0, 1] ethDrain)))) = lineClock s := by
    simp [lineClock_lineWork]
  have starts : ¬ (!s.dev.timing.started ||
      (decide (17280 < s.dev.timing.line) && decide (totalLines s ≤ s.dev.timing.line)) ||
      (!s.dev.timing.eveDone && decide (eveLine s < s.dev.timing.line))) = true := by
    simp only [started, Bool.not_true, Bool.false_or, Bool.or_eq_true, Bool.and_eq_true, decide_eq_true_eq,
      Bool.not_eq_true', not_or, not_and]
    refine ⟨by omega, fun coming late => ?_⟩
    rcases eve with eve | eve
    · simp [coming] at eve
    · omega
  unfold lineStart
  rw [if_neg starts, ← worked]
  rfl

/-! ### Underruns -/

/-- What goes out of a line of `codes` that underruns after `sent` whole values, one at least: those values, and the
last of them to the end of the line (R365). -/
def repeatedCodes (sent : Nat) (codes : List Nat) : List Nat :=
  codes.take (3 * sent) ++
    (List.replicate ((codes.length - 3 * sent) / 3) ((codes.take (3 * sent)).drop (3 * sent - 3))).flatten

/-- Link `l` sends `codes` from now on, and the place is reported (R365, R367). -/
def lineRefilled (l line depth seq : Nat) (codes : List Nat) (s : State) : State :=
  (modLink l (fun k => { k with
    tx := .sol line depth seq codes, data := packetBlocksOf s l line depth seq codes }) s).setReg 0x3831 1
    (frameNo s + line * 2 ^ 32 + l / 2 * 2 ^ 47)

theorem link_setReg (i j v l : Nat) (s : State) : (s.setReg i j v).link l = s.link l := rfl

theorem link_modTiming (f : Timing → Timing) (l : Nat) (s : State) : (modTiming f s).link l = s.link l := rfl

theorem tx_lineRefilled (l line depth seq : Nat) (codes : List Nat) (s : State) :
    ((lineRefilled l line depth seq codes s).link l).tx = .sol line depth seq codes := by
  rw [lineRefilled, link_setReg, link_modLink_same]

theorem reg_lineRefilled (l line depth seq : Nat) (codes : List Nat) (s : State) {j : Nat} (hj : j < 256) :
    (lineRefilled l line depth seq codes s).reg 0x3830 j = s.reg 0x3830 j := by
  rw [lineRefilled, reg_setReg_index (by decide) hj (by decide), modLink, reg_modDev_of_od _ _ rfl]

/-- An underrun after a whole value refills the line; the first of a port in a line is counted (R365, R368). -/
theorem underrun_refills {s : State} {l sent line depth seq : Nat} {codes : List Nat} (begun : 1 ≤ sent)
    (within : 3 * sent ≤ codes.length) (sending : (s.link l).tx = .sol line depth seq codes) :
    underrun l sent s =
      let u := lineRefilled l line depth seq (repeatedCodes sent codes) s
      if s.dev.timing.underran.contains (l / 2) then u
      else modTiming (fun t => { t with underran := l / 2 :: t.underran }) (u.bump 0x3830 (l / 2 + 1)) := by
  have taken : (codes.take (3 * sent)).length = 3 * sent := List.length_take_of_le within
  have value : sent ≠ 0 := Nat.one_le_iff_ne_zero.mp begun
  unfold underrun
  rw [sending]
  simp only [taken, if_neg value]
  rfl

/-- The rest of a line that underruns repeats the last colour value sent (R365). -/
theorem tx_underrun {s : State} {l sent line depth seq : Nat} {codes : List Nat} (begun : 1 ≤ sent)
    (within : 3 * sent ≤ codes.length) (sending : (s.link l).tx = .sol line depth seq codes) :
    ((underrun l sent s).link l).tx = .sol line depth seq (repeatedCodes sent codes) := by
  rw [underrun_refills begun within sending]
  dsimp only
  split
  · exact tx_lineRefilled ..
  · rw [link_modTiming, State.bump, link_setReg]
    exact tx_lineRefilled ..

/-- The first underrun of a port in a line is counted (R368). -/
theorem counted_underrun {s : State} {l sent line depth seq : Nat} {codes : List Nat} (range : l < 256)
    (begun : 1 ≤ sent) (within : 3 * sent ≤ codes.length) (sending : (s.link l).tx = .sol line depth seq codes)
    (first : s.dev.timing.underran.contains (l / 2) = false) : counted s (underrun l sent s) 0x3830 (l / 2 + 1) := by
  have again : ¬ s.dev.timing.underran.contains (l / 2) = true := by rw [first]; exact Bool.false_ne_true
  rw [counted, underrun_refills begun within sending]
  dsimp only
  rw [if_neg again, modTiming, reg_modDev_of_od _ _ rfl, reg_bump, if_pos rfl, reg_lineRefilled _ _ _ _ _ _ (by omega)]

/-- Settles O17: all that a line start does before it counts leaves the clock of lines alone, and an underrun refills
the line with the last value sent. -/
theorem lineCommands : Obligations.LineCommands := by
  unfold Obligations.LineCommands
  refine ⟨?start, ?underrun⟩
  case start =>
    intro s left right started more eve
    have advanced := lineClock_lineStart left right started more eve
    refine ⟨_, exec_lineStart left right s, ?_⟩
    rw [onMemNv_dev, partsOf_timing (by decide), partsOf_live (by decide)]
    exact ⟨congrArg LineClock.line advanced, congrArg LineClock.lines advanced, congrArg LineClock.live advanced⟩
  case underrun =>
    intro s l sent line depth seq codes present range begun within sending
    refine ⟨_, exec_linkUnderrun l sent s range present, ?_, fun first => ?_⟩
    · rw [State.link, onDev_dev, partsOf_links (by decide)]
      exact tx_underrun begun within sending
    · rw [counted, onDev_reg (by decide)]
      exact counted_underrun range begun within sending first

end Sys2Proof.Machine
end

section
/-!
PROOF. The port that an NCP frame names is a number without a bound: no operand check keeps it to the two Ethernet ports
(R516, R518, R787).
-/
namespace Sys2Proof.Machine

/-- A HELLO that names Ethernet port 2, which no part has. -/
def strayHello : NcpHead := { port := 2, src := 0, session := 0, seq := 0, txn := 0, tag := [] }

/-- A MAKER part with an address and a session key in slot 0, whose firmware runs; 65,536 bytes wait on port 2. -/
def strayPortFull : State :=
  { State.reset with
    fuses := { State.reset.fuses with state := .maker }
    nv := { records := [(4, { seq := 1, payload := [1], inA := true })] }
    dev := { State.reset.dev with
      bringup := { State.reset.dev.bringup with firmwareRuns := true }
      od := [(key 0x1200 1, 1)]
      eth := [(2, { waiting := [{ size := 65536 }] })] } }

/-- The CHALLENGE finds no room among the frames that wait, so it is dropped and counted in 0x4814:03 (R518). -/
theorem hello_strayPortFull : (hello strayHello 0 (List.replicate 16 0) strayPortFull).reg 0x4814 3 = 1 := rfl

/-- Refutes O6: nothing bounds the port that an NCP frame names, and on port 2 the dropped CHALLENGE of a HELLO is
counted in 0x4814:03, which lies outside the ranges of `ncpHello`. -/
theorem not_portRegisterFrames : ¬ Obligations.PortRegisterFrames := by
  unfold Obligations.PortRegisterFrames
  intro frame
  have answers := exec_ncpHello strayHello 0 (List.replicate 16 0) strayPortFull rfl
  have kept := frame _ _ _ _ rfl answers 0x4814 3 (by decide) (by decide)
  rw [onDev_reg (by decide), hello_strayPortFull] at kept
  exact absurd kept (by decide)

end Sys2Proof.Machine
end

section
/-!
SUPPORT. Bits, control blocks and block receivers: what setting a bit leaves, that an intact block passes its check, and
that 64 valid headers give lock and 16 invalid ones lose it (R398, R400, R438).
-/
namespace Sys2Proof.Machine

/-! ### Bits -/

theorem hasBit_eq_testBit (n i : Nat) : hasBit n i = n.testBit i := by
  rw [hasBit, bit, Nat.shiftRight_eq_div_pow, Nat.testBit_eq_decide_div_mod_eq]
  rfl

theorem hasBit_setBit (n i j : Nat) : hasBit (setBit n i) j = (hasBit n j || decide (i = j)) := by
  simp only [hasBit_eq_testBit, setBit, Nat.testBit_or, Nat.testBit_two_pow]

@[simp] theorem hasBit_setBit_same (n i : Nat) : hasBit (setBit n i) i = true := by simp [hasBit_setBit]

@[simp] theorem hasBit_clearBit_same (n i : Nat) : hasBit (clearBit n i) i = false := by
  unfold clearBit
  split
  · rename_i set
    have odd : n / 2 ^ i % 2 = 1 := by simpa [hasBit, bit, Nat.shiftRight_eq_div_pow] using set
    have below : (n - 2 ^ i * 1) / 2 ^ i = n / 2 ^ i - 1 := Nat.sub_mul_div ..
    rw [Nat.mul_one] at below
    simp only [hasBit, bit, Nat.shiftRight_eq_div_pow, below, beq_eq_false_iff_ne]
    omega
  · simpa using ‹¬hasBit n i = true›

/-- Bit 0 stays as it is when bit 1 is cleared. -/
theorem hasBit_clearBit_one (n : Nat) : hasBit (clearBit n 1) 0 = hasBit n 0 := by
  unfold clearBit
  split
  · rename_i set
    have odd : n / 2 % 2 = 1 := by simpa [hasBit, bit, Nat.shiftRight_eq_div_pow] using set
    have even : (n - 2) % 2 = n % 2 := by omega
    simp only [hasBit, bit, Nat.shiftRight_zero, Nat.pow_one, even]
  · rfl

/-! ### Control blocks (R400) -/

theorem crc16_lt (fold : Nat) (bs : List Byte) : crc16 fold bs < 2 ^ 16 := by
  have shift (n r : Nat) (h : r < 2 ^ 16) : crcShift 2 n r < 2 ^ 16 := by
    induction n generalizing r with
    | zero => exact h
    | succ n ih =>
      refine ih _ ?_
      have moved : (r <<< 1) % 2 ^ 16 < 2 ^ 16 := Nat.mod_lt _ (by decide)
      rw [if_neg (by decide)]
      split
      · exact Nat.xor_lt_two_pow moved (by decide)
      · exact moved
  have feed (r : Nat) (h : r < 2 ^ 16) : crcFeed 2 r bs < 2 ^ 16 := by
    induction bs generalizing r with
    | nil => exact h
    | cons b bs ih =>
      have byte : b.toNat <<< 8 < 2 ^ 16 := by
        have := b.isLt
        rw [Nat.shiftLeft_eq]
        omega
      exact ih _ (shift 8 _ (Nat.xor_lt_two_pow h byte))
  refine Nat.xor_lt_two_pow (feed _ ?_) (by decide)
  have word (hi lo : Nat) (h : hi + 1 - lo = 16) : bits fold hi lo < 2 ^ 16 := by
    rw [bits, h]; exact Nat.mod_lt _ (by decide)
  exact Nat.xor_lt_two_pow (Nat.xor_lt_two_pow (by decide) (word 15 0 rfl)) (word 31 16 rfl)

/-- The first `k` bytes of a number are those of its low bytes. -/
theorem natLE_mod (n : Nat) {k m : Nat} (h : k ≤ m) : natLE (n % 256 ^ m) k = natLE n k := by
  induction k generalizing n m with
  | zero => rfl
  | succ k ih =>
    obtain ⟨m, rfl⟩ := Nat.exists_eq_add_of_le' (Nat.le_trans (Nat.le_add_left 1 k) h)
    have first : n % 256 ^ (m + 1) % 256 = n % 256 := Nat.mod_mod_of_dvd n (Dvd.intro_left _ (Nat.pow_succ 256 m).symm)
    have rest : n % 256 ^ (m + 1) / 256 = n / 256 % 256 ^ m := by
      rw [Nat.pow_succ', Nat.mod_mul_right_div_self]
    have byte : BitVec.ofNat 8 (n % 256 ^ (m + 1)) = BitVec.ofNat 8 n := by
      apply BitVec.eq_of_toNat_eq
      rw [BitVec.toNat_ofNat, BitVec.toNat_ofNat, first]
    rw [natLE, natLE, byte, rest, ih _ (Nat.le_of_succ_le_succ h)]

/-- A control block passes its check under the fold it was made with. -/
theorem blockGood_block (fold body : Nat) : blockGood fold (block fold body) = true := by
  have check := crc16_lt fold (natLE body 6)
  have low : block fold body % 256 ^ 6 = body % 256 ^ 6 := by
    rw [block]; omega
  have bytes : natLE (block fold body) 6 = natLE body 6 := by
    rw [← natLE_mod _ (le_refl 6), low, natLE_mod _ (le_refl 6)]
  rw [blockGood, bytes, Bool.and_eq_true, decide_eq_true_eq, beq_iff_eq, block]
  omega

/-- A SLEEP block is intact, and its reserved fields are 0 (R402). -/
theorem sleepBlock_good (l : Nat) :
    blockGood l (sleepBlock l) = true ∧ blockType (sleepBlock l) = 0x5A ∧ bits (sleepBlock l) 47 8 = 0 := by
  refine ⟨blockGood_block .., ?_, ?_⟩
  · simp only [blockType, sleepBlock, block]; omega
  · have check := crc16_lt l (natLE 0x5A 6)
    simp only [bits, sleepBlock, block, Nat.shiftRight_eq_div_pow]
    omega

/-! ### Block receivers (R438) -/

theorem Receiver.header_valid_locked {r : Receiver} (h : r.locked = true) : (r.header true).locked = true := by
  simp [Receiver.header, h]

theorem Receiver.hear_locked {r : Receiver} (now : Nat) (h : r.locked = true) : (r.hear now).locked = true :=
  header_valid_locked h

theorem Receiver.headers_valid_locked (n : Nat) {r : Receiver} (h : r.locked = true) :
    ((List.replicate n true).foldl Receiver.header r).locked = true := by
  induction n generalizing r with
  | zero => exact h
  | succ n ih => exact ih (header_valid_locked h)

/-- Valid headers bring lock, but for fewer than 64 in a row. -/
theorem Receiver.headers_valid (n : Nat) (r : Receiver) :
    ((List.replicate n true).foldl Receiver.header r).locked = true ∨ r.good + n < 64 ∨ n = 0 := by
  induction n generalizing r with
  | zero => exact .inr (.inr rfl)
  | succ n ih =>
    by_cases locked : (r.header true).locked = true
    · exact .inl (headers_valid_locked n locked)
    · have hunts : r.locked = false := by
        by_contra h
        exact locked (header_valid_locked (by simpa using h))
      have few : ¬64 ≤ r.good + 1 := fun h => locked (by simp [Receiver.header, hunts, h])
      have counts : (r.header true).good = r.good + 1 := by simp [Receiver.header, hunts, few]
      rcases ih (r.header true) with h | h | h
      · exact .inl h
      · rw [counts] at h
        exact .inr (.inl (by omega))
      · exact .inr (.inl (by omega))

theorem Receiver.gain_locked (now : Nat) (r : Receiver) : (r.gain now).locked = true := by
  rcases headers_valid 64 r with h | h | h
  · simpa only [Receiver.gain] using h
  · omega
  · omega

/-- A receiver whose last `k` headers were invalid loses lock with the sixteenth, and one without lock gains none. -/
theorem Receiver.headers_invalid (n : Nat) {k : Nat} {r : Receiver} (sixteen : k + n = 16)
    (h : r.locked = false ∨ 0 < n ∧ ∃ xs, r.recent = List.replicate k false ++ xs) :
    ((List.replicate n false).foldl Receiver.header r).locked = false := by
  induction n generalizing k r with
  | zero => exact h.resolve_right fun h => absurd h.1 (lt_irrefl 0)
  | succ n ih =>
    refine ih (k := k + 1) (by omega) ?_
    by_cases locked : r.locked = true
    · obtain ⟨-, xs, before⟩ := h.resolve_left (by simp [locked])
      have recent : (false :: r.recent).take 64 = List.replicate (k + 1) false ++ xs.take (64 - (k + 1)) := by
        rw [before, ← List.cons_append, ← List.replicate_succ, List.take_append, List.length_replicate,
          List.take_of_length_le (by simp; omega)]
      by_cases lost : 16 ≤ ((false :: r.recent).take 64).count false
      · left
        simp only [Receiver.header, locked, lost, Bool.not_false, decide_true, Bool.and_self, if_true]
      · have few : k + 1 < 16 := by
          rw [recent, List.count_append, List.count_replicate_self] at lost
          omega
        refine .inr ⟨by omega, xs.take (64 - (k + 1)), ?_⟩
        rw [← recent]
        simp only [Receiver.header, locked, lost, decide_false, Bool.and_false, if_true, Bool.false_eq_true, if_false]
    · exact .inl (by simp [Receiver.header, locked])

theorem Receiver.loss_unlocked (r : Receiver) : r.loss.locked = false := by
  by_cases locked : r.locked = true
  · exact headers_invalid 16 (k := 0) rfl (.inr ⟨by decide, r.recent, rfl⟩)
  · exact headers_invalid 16 (k := 0) rfl (.inl (by simpa using locked))

end Sys2Proof.Machine
end

section
/-!
SUPPORT. Registers and typed fields of links: what each small operation of the device's end writes and what it leaves
alone (R444 to R450).
-/
namespace Sys2Proof.Machine

/-! ### Registers under a write -/

/-- What a register reads after a write of one, by index and subindex. -/
theorem reg_setReg_at {j j' : Nat} (hj : j < 256) (hj' : j' < 256) (i v i' : Nat) (s : State) :
    (s.setReg i j v).reg i' j' = if i = i' ∧ j = j' then v else s.reg i' j' := by
  rw [reg_setReg]
  by_cases same : i = i' ∧ j = j'
  · rw [if_pos same, if_pos (by rw [same.1, same.2])]
  · rw [if_neg same, if_neg fun e => same (key_inj hj hj' e)]

/-- A counter after one more event, by index and subindex (R21). -/
theorem reg_bump_at {j j' : Nat} (hj : j < 256) (hj' : j' < 256) (i n i' : Nat) (s : State) :
    (s.bump i j n).reg i' j' = if i = i' ∧ j = j' then min (s.reg i j + n) 0xFFFFFFFF else s.reg i' j' :=
  reg_setReg_at hj hj' ..

theorem linkState_def (s : State) (l : Nat) : linkState s l = s.reg (0x4100 + l) 1 := rfl

/-- Links are numbered below 256 (R1). -/
theorem nLinks_le (s : State) : nLinks s ≤ 256 := by
  unfold nLinks
  split <;> decide

theorem nPorts_le (s : State) : nPorts s ≤ 128 := by
  unfold nPorts
  split <;> decide

/-! ### What the updates of other fields leave alone -/

@[simp] theorem linkState_modLink (l m : Nat) (f : Link → Link) (s : State) :
    linkState (modLink l f s) m = linkState s m := rfl

@[simp] theorem link_setLinkState (l v m : Nat) (s : State) : (setLinkState l v s).link m = s.link m := rfl

@[simp] theorem link_bump (i j n m : Nat) (s : State) : (s.bump i j n).link m = s.link m := rfl

@[simp] theorem link_logEvent (r c i j d m : Nat) (s : State) : (logEvent r c i j d s).link m = s.link m := by
  obtain ⟨_, _, _, _, e⟩ := logEvent_eq r c i j d s
  rw [e]; rfl

@[simp] theorem port_logEvent (r c i j d p : Nat) (s : State) : (logEvent r c i j d s).port p = s.port p := by
  obtain ⟨_, _, _, _, e⟩ := logEvent_eq r c i j d s
  rw [e]; rfl

theorem linkState_logEvent (r c i j d : Nat) (s : State) {l : Nat} (hl : l < 256) :
    linkState (logEvent r c i j d s) l = linkState s l :=
  reg_logEvent_index r c i j d s (by omega) (by decide)

@[simp] theorem linkState_setLinkState_same (l v : Nat) (s : State) : linkState (setLinkState l v s) l = v :=
  reg_setReg_same ..

theorem linkState_setReg {j : Nat} (hj : j < 256) (other : j ≠ 1) (i v m : Nat) (s : State) :
    linkState (s.setReg i j v) m = linkState s m := reg_setReg_sub hj (by decide) other ..

/-! ### Blocks sent and heard -/

@[simp] theorem reg_sendBlock (l b : Nat) (s : State) (x y : Nat) : (sendBlock l b s).reg x y = s.reg x y := rfl

@[simp] theorem linkState_sendBlock (l b m : Nat) (s : State) : linkState (sendBlock l b s) m = linkState s m := rfl

/-- Sending a block changes what the lane has sent and how, nothing else of the link. -/
theorem link_sendBlock (l b : Nat) (s : State) : ∃ drive wire,
    (sendBlock l b s).link l =
      { s.link l with sent := (b :: (s.link l).sent).take 16, drive := drive, wire := wire } :=
  ⟨_, _, link_modLink_same ..⟩

@[simp] theorem sent_sendBlock (l b : Nat) (s : State) :
    ((sendBlock l b s).link l).sent = (b :: (s.link l).sent).take 16 := by
  obtain ⟨_, _, e⟩ := link_sendBlock l b s
  rw [e]

theorem head_sendBlock (l b : Nat) (s : State) : ((sendBlock l b s).link l).sent.head? = some b := by simp

/-- Two blocks sent one after the other are the last two sent. -/
theorem sent_sendBlock_sendBlock (l b c : Nat) (s : State) :
    ((sendBlock l b (sendBlock l c s)).link l).sent.take 2 = [b, c] := by simp

@[simp] theorem linkState_hearBlock (l m : Nat) (s : State) : linkState (hearBlock l s) m = linkState s m := rfl

theorem link_hearBlock (l : Nat) (s : State) :
    (hearBlock l s).link l = { s.link l with rx := (s.link l).rx.hear s.now } := link_modLink_same ..

/-! ### Links through a scope -/

section Scope
variable {ps : List DevPart}

theorem linkState_onDev (od : .od ∈ ps) (f : State → State) (s : State) (l : Nat) :
    linkState (onDev ps f s) l = linkState (f s) l := onDev_reg od ..

theorem link_onDev (links : .links ∈ ps) (f : State → State) (s : State) (l : Nat) :
    (onDev ps f s).link l = (f s).link l := by
  simp only [State.link, onDev_dev, partsOf_links links]

theorem port_onDev (ports : .ports ∈ ps) (f : State → State) (s : State) (p : Nat) :
    (onDev ps f s).port p = (f s).port p := by
  simp only [State.port, onDev_dev, partsOf_ports ports]

theorem counted_onDev (od : .od ∈ ps) {f : State → State} {s : State} {i j : Nat} (h : counted s (f s) i j) :
    counted s (onDev ps f s) i j := by
  rwa [counted, onDev_reg od]

end Scope

/-! ### Entering LOCK and DETECT (R444, R449) -/

@[simp] theorem linkState_enterLock (l : Nat) (s : State) : linkState (enterLock l s) l = 2 := by simp [enterLock]

theorem reg_enterLock {y : Nat} (hy : y < 256) (other : y ≠ 1) (l x : Nat) (s : State) :
    (enterLock l s).reg x y = s.reg x y := reg_setReg_sub (by decide) hy other.symm ..

theorem head_enterLock (l : Nat) (s : State) :
    ((enterLock l s).link l).sent.head? = some (trainDown 2 (s.reg (0x4100 + l) 2)) := head_sendBlock ..

/-- DETECT with its TRAIN sent, before lock is looked at. -/
def detecting (l speed : Nat) (s : State) : State :=
  sendBlock l (trainDown 1 speed) (modLink l (fun x =>
    { x with part0 := none, part1 := none, preset := 0, margins := [], swept := false, goodTrains := 0 })
    ((setLinkState l 1 s).setReg (0x4100 + l) 2 speed))

theorem link_detecting (l speed : Nat) (s : State) :
    ((detecting l speed s).link l).rx = (s.link l).rx ∧
    ((detecting l speed s).link l).attempts = (s.link l).attempts ∧
    ((detecting l speed s).link l).ladder = (s.link l).ladder := by
  obtain ⟨_, _, e⟩ := link_sendBlock l (trainDown 1 speed) (modLink l (fun x =>
    { x with part0 := none, part1 := none, preset := 0, margins := [], swept := false, goodTrains := 0 })
    ((setLinkState l 1 s).setReg (0x4100 + l) 2 speed))
  rw [detecting, e, link_modLink_same]
  exact ⟨rfl, rfl, rfl⟩

theorem enterDetect_eq (l speed : Nat) (s : State) :
    enterDetect l speed s =
      if (s.link l).upLock then enterLock l (detecting l speed s) else detecting l speed s := by
  obtain ⟨rx, -, -⟩ := link_detecting l speed s
  have lock : ((detecting l speed s).link l).upLock = (s.link l).upLock := by rw [Link.upLock, rx]; rfl
  rw [← lock]
  rfl

theorem linkState_detecting (l speed : Nat) (s : State) : linkState (detecting l speed s) l = 1 := by
  rw [detecting, linkState_sendBlock, linkState_modLink, linkState_setReg (by decide) (by decide),
    linkState_setLinkState_same]

theorem reg_detecting {l x y : Nat} (hy : y < 256) (other : x = 0x4100 + l → y ≠ 1 ∧ y ≠ 2) (speed : Nat) (s : State) :
    (detecting l speed s).reg x y = s.reg x y := by
  rw [detecting, reg_sendBlock, modLink_reg, reg_setReg_at (by decide) hy, if_neg (by omega), setLinkState,
    reg_setReg_at (by decide) hy, if_neg (by omega)]

theorem speed_detecting (l speed : Nat) (s : State) : (detecting l speed s).reg (0x4100 + l) 2 = speed := by
  rw [detecting, reg_sendBlock, modLink_reg, reg_setReg_same]

theorem linkState_enterDetect (l speed : Nat) (s : State) :
    linkState (enterDetect l speed s) l = if (s.link l).upLock then 2 else 1 := by
  rw [enterDetect_eq]
  split
  · exact linkState_enterLock ..
  · exact linkState_detecting ..

theorem speed_enterDetect (l speed : Nat) (s : State) : (enterDetect l speed s).reg (0x4100 + l) 2 = speed := by
  rw [enterDetect_eq]
  split
  · rw [reg_enterLock (by decide) (by decide), speed_detecting]
  · exact speed_detecting ..

/-- Entering DETECT writes the state and the speed of the link alone. -/
theorem reg_enterDetect {l x y : Nat} (hy : y < 256) (other : x = 0x4100 + l → y ≠ 1 ∧ y ≠ 2) (speed : Nat)
    (s : State) : (enterDetect l speed s).reg x y = s.reg x y := by
  rw [enterDetect_eq]
  split
  · rw [enterLock, reg_sendBlock, setLinkState, reg_setReg_at (by decide) hy, if_neg (by omega),
      reg_detecting hy other]
  · exact reg_detecting hy other ..

theorem enterDetect_unlocked {l : Nat} {s : State} (lost : (s.link l).upLock = false) (speed : Nat) :
    enterDetect l speed s = detecting l speed s := by
  rw [enterDetect_eq, lost]; rfl

theorem head_detecting (l speed : Nat) (s : State) :
    ((detecting l speed s).link l).sent.head? = some (trainDown 1 speed) := head_sendBlock ..

/-- A link that trains from DOWN starts afresh, at the target speed (R444, R449). -/
def fresh (l : Nat) (s : State) : State := modLink l (fun x => { x with attempts := 0, ladder := 0, passed := 0 }) s

theorem trainStart_eq (l : Nat) (s : State) : trainStart l s = enterDetect l (targetSpeed s) (fresh l s) := rfl

theorem upLock_fresh (l : Nat) (s : State) : ((fresh l s).link l).upLock = (s.link l).upLock := by
  rw [fresh, link_modLink_same]; rfl

theorem linkState_trainStart (l : Nat) (s : State) :
    linkState (trainStart l s) l = if (s.link l).upLock then 2 else 1 := by
  rw [trainStart_eq, linkState_enterDetect, upLock_fresh]

theorem speed_trainStart (l : Nat) (s : State) : (trainStart l s).reg (0x4100 + l) 2 = targetSpeed s :=
  speed_enterDetect ..

/-! ### Entering DOWN and ABSENT (R448, R450) -/

theorem reg_enterDown {l x y : Nat} (hy : y < 256) (other : x = 0x4100 + l → y ≠ 1 ∧ y ≠ 2) (s : State) :
    (enterDown l s).reg x y = s.reg x y := by
  rw [enterDown, modLink_reg, reg_setReg_at (by decide) hy, if_neg (by omega), setLinkState,
    reg_setReg_at (by decide) hy, if_neg (by omega)]

@[simp] theorem linkState_enterDown (l : Nat) (s : State) : linkState (enterDown l s) l = 0 := by
  rw [enterDown, linkState_modLink, linkState_setReg (by decide) (by decide), linkState_setLinkState_same]

theorem linkState_enterAbsent (l : Nat) (s : State) : linkState (enterAbsent l s) l = 7 :=
  linkState_setLinkState_same ..

theorem reg_enterAbsent {y : Nat} (hy : y < 256) (state : y ≠ 1) (speed : y ≠ 2) (l x : Nat) (s : State) :
    (enterAbsent l s).reg x y = s.reg x y := by
  rw [enterAbsent, setLinkState, reg_setReg_sub (by decide) hy state.symm, reg_enterDown hy fun _ => ⟨state, speed⟩]

end Sys2Proof.Machine
end

section
/-!
PROOF. Training of a link: each state's way on, failed attempts and the ladder (R444, R447 to R449, R466, R890).
-/
namespace Sys2Proof.Machine

/-! ### Failed attempts and the ladder (R444, R448) -/

/-- The link with one more attempt counted. -/
def attempted (l : Nat) (s : State) : State :=
  (modLink l (fun x => { x with attempts := x.attempts + 1 }) s).bump (0x4100 + l) 3

theorem link_attempted (l : Nat) (s : State) :
    (attempted l s).link l = { s.link l with attempts := (s.link l).attempts + 1 } := by
  rw [attempted, link_bump, link_modLink_same]

theorem speed_attempted (l : Nat) (s : State) : (attempted l s).reg (0x4100 + l) 2 = s.reg (0x4100 + l) 2 := by
  rw [attempted, reg_bump_at (by decide) (by decide), if_neg (by simp), modLink_reg]

theorem counted_attempted (l : Nat) (s : State) : counted s (attempted l s) (0x4100 + l) 3 := by
  rw [counted, attempted, reg_bump_at (by decide) (by decide), if_pos ⟨rfl, rfl⟩, modLink_reg]

theorem attemptFail_eq (l : Nat) (s : State) :
    attemptFail l s = if (s.link l).attempts < 2 then enterDetect l (s.reg (0x4100 + l) 2) (attempted l s)
      else ladder l (attempted l s) := by
  have again : attemptFail l s =
      if ((attempted l s).link l).attempts < 3 then
        enterDetect l ((attempted l s).reg (0x4100 + l) 2) (attempted l s)
      else ladder l (attempted l s) := rfl
  rw [again, link_attempted, speed_attempted]
  exact ite_congr (propext (by dsimp only; omega)) (fun _ => rfl) (fun _ => rfl)

/-- The link in a phase of the ladder, without an attempt at its speed. -/
def inPhase (phase l : Nat) (s : State) : State := modLink l (fun x => { x with ladder := phase, attempts := 0 }) s

/-- At the target speed the third failure starts the ladder at 2.5 Gbit/s (R448 step 1). -/
theorem ladder_first {l : Nat} {s : State} (phase : (s.link l).ladder = 0) :
    ladder l s = enterDetect l 1 (inPhase 1 l s) := by
  unfold ladder
  dsimp only
  rw [phase]
  rfl

/-- A link that fails at 2.5 Gbit/s before any speed has passed is ABSENT (R448). -/
theorem ladder_absent {l : Nat} {s : State} (phase : (s.link l).ladder = 1) (none : (s.link l).passed = 0) :
    ladder l s = enterAbsent l s := by
  unfold ladder
  dsimp only
  rw [phase]
  exact if_pos none

/-- The ladder writes the state and the speed of its link alone. -/
theorem reg_ladder {y : Nat} (hy : y < 256) (state : y ≠ 1) (speed : y ≠ 2) (l x : Nat) (s : State) :
    (ladder l s).reg x y = s.reg x y := by
  have detect (v : Nat) (t : State) : (enterDetect l v t).reg x y = t.reg x y :=
    reg_enterDetect hy (fun _ => ⟨state, speed⟩) ..
  have absent (t : State) : (enterAbsent l t).reg x y = t.reg x y := reg_enterAbsent hy state speed ..
  unfold ladder
  dsimp only
  split
  · exact detect ..
  · split
    · exact absent _
    · exact detect ..
  · split
    · exact absent _
    · exact detect ..

theorem counted_attemptFail (l : Nat) (s : State) : counted s (attemptFail l s) (0x4100 + l) 3 := by
  have once := counted_attempted l s
  rw [counted] at once ⊢
  rw [attemptFail_eq, ← once]
  split
  · exact reg_enterDetect (by decide) (by simp) ..
  · exact reg_ladder (by decide) (by decide) (by decide) ..

theorem trainTimer_training {l : Nat} {s : State} (low : 1 ≤ linkState s l) (high : linkState s l ≤ 5) :
    trainTimer l s = attemptFail l s := if_pos ⟨low, high⟩

theorem upLock_attempted (l : Nat) (s : State) : ((attempted l s).link l).upLock = (s.link l).upLock := by
  rw [link_attempted]; rfl

theorem attemptFail_again {l : Nat} {s : State} (lost : (s.link l).upLock = false) (few : (s.link l).attempts < 2) :
    attemptFail l s = detecting l (s.reg (0x4100 + l) 2) (attempted l s) := by
  rw [attemptFail_eq, if_pos few, enterDetect_unlocked (by rw [upLock_attempted, lost])]

theorem attemptFail_third {l : Nat} {s : State} (lost : (s.link l).upLock = false) (third : 2 ≤ (s.link l).attempts)
    (phase : (s.link l).ladder = 0) : attemptFail l s = detecting l 1 (inPhase 1 l (attempted l s)) := by
  have unlocked : ((inPhase 1 l (attempted l s)).link l).upLock = false := by
    rw [inPhase, link_modLink_same]
    exact (upLock_attempted l s).trans lost
  rw [attemptFail_eq, if_neg (by omega), ladder_first (by rw [link_attempted]; exact phase),
    enterDetect_unlocked unlocked]

theorem attemptFail_absent {l : Nat} {s : State} (third : 2 ≤ (s.link l).attempts) (phase : (s.link l).ladder = 1)
    (passed : (s.link l).passed = 0) : attemptFail l s = enterAbsent l (attempted l s) := by
  rw [attemptFail_eq, if_neg (by omega), ladder_absent (by rw [link_attempted]; exact phase)
    (by rw [link_attempted]; exact passed)]

/-! ### Lock of the upstream lane (R438, R466) -/

/-- What the receiver's lock changes before the state is looked at. -/
def lockGained (l : Nat) (s : State) : State :=
  let t := modLink l (fun x => { x with rx := x.rx.gain s.now, upLostAt := none, lost := false }) s
  t.setReg (0x4100 + l) 0x0B (clearBit (t.reg (0x4100 + l) 0x0B) 1)

theorem upLockGain_detect {l : Nat} {s : State} (detect : linkState s l = 1) :
    upLockGain l s = enterLock l (lockGained l s) := by
  have state : linkState (lockGained l s) l = 1 :=
    (linkState_setReg (by decide) (by decide) ..).trans detect
  unfold lockGained at state ⊢
  unfold upLockGain
  dsimp only at state ⊢
  simp only [state]

theorem upLock_lockGained (l : Nat) (s : State) : ((lockGained l s).link l).upLock = true := by
  rw [lockGained, link_setReg, link_modLink_same]
  exact Receiver.gain_locked ..

theorem speed_lockGained (l : Nat) (s : State) : (lockGained l s).reg (0x4100 + l) 2 = s.reg (0x4100 + l) 2 :=
  reg_setReg_sub (by decide) (by decide) (by decide) ..

theorem upLock_enterLock (l : Nat) (s : State) : ((enterLock l s).link l).upLock = (s.link l).upLock := by
  obtain ⟨_, _, e⟩ := link_sendBlock l (trainDown 2 (s.reg (0x4100 + l) 2)) (setLinkState l 2 s)
  rw [enterLock, e]; rfl

theorem upLockLoss_awake {l : Nat} {s : State} (locked : (s.link l).upLock = true)
    (awake : hasBit (s.reg (0x4100 + l) 0x0B) 1 = false) :
    upLockLoss l s =
      (modLink l (fun x => { x with rx := x.rx.loss, upLostAt := some s.now }) s).bump (0x4100 + l) 9 := by
  unfold upLockLoss
  exact if_neg (by simp [upAsleep, awake, locked])

/-! ### TRAIN and CAP_UP (R444, R447) -/

theorem trainReceive_exchange {l b : Nat} {s : State} (good : trainUpGood b = true) (step : bits b 11 8 ≠ 15)
    (lock : linkState s l = 2) (locked : hasBit b 12 = true) :
    trainReceive l b s = sendBlock l (trainDown 3 (s.reg (0x4100 + l) 2))
      (setLinkState l 3 ((hearBlock l s).setReg (0x4100 + l) 5 (bits b 21 16))) := by
  have state : linkState ((hearBlock l s).setReg (0x4100 + l) 5 (bits b 21 16)) l = 2 :=
    (linkState_setReg (by decide) (by decide) ..).trans lock
  have speed : ((hearBlock l s).setReg (0x4100 + l) 5 (bits b 21 16)).reg (0x4100 + l) 2 = s.reg (0x4100 + l) 2 :=
    reg_setReg_sub (by decide) (by decide) (by decide) ..
  unfold trainReceive
  simp only [good, Bool.not_true, Bool.false_eq_true, if_false, if_neg step]
  rw [state, ← speed]
  exact if_pos locked

theorem trainReceive_confirm {l b : Nat} {s : State} (good : trainUpGood b = true) (step : bits b 11 8 ≠ 15)
    (equalize : linkState s l = 4) (swept : (s.link l).swept = true) (fifteen : 15 ≤ (s.link l).goodTrains)
    (margin : s.reg 0x4200 2 ≤ bits b 21 16) :
    trainReceive l b s = enterConfirm l 65536 (setLinkState l 5
      (modLink l (fun x => { x with goodTrains := (s.link l).goodTrains + 1 })
        ((hearBlock l s).setReg (0x4100 + l) 5 (bits b 21 16)))) := by
  have state : linkState ((hearBlock l s).setReg (0x4100 + l) 5 (bits b 21 16)) l = 4 :=
    (linkState_setReg (by decide) (by decide) ..).trans equalize
  have link : ((hearBlock l s).setReg (0x4100 + l) 5 (bits b 21 16)).link l =
      { s.link l with rx := (s.link l).rx.hear s.now } := link_hearBlock l s
  have threshold : ((hearBlock l s).setReg (0x4100 + l) 5 (bits b 21 16)).reg 0x4200 2 = s.reg 0x4200 2 :=
    reg_setReg_sub (by decide) (by decide) (by decide) ..
  unfold trainReceive
  simp only [good, Bool.not_true, Bool.false_eq_true, if_false, if_neg step, state, link, threshold, swept,
    if_pos margin]
  exact if_pos (by omega)

theorem sent_enterConfirm (l count : Nat) (s : State) :
    ((enterConfirm l count s).link l).sent.take 2 = [testBlock count, trainDown 5 (s.reg (0x4100 + l) 2)] := by
  rw [enterConfirm, sendPattern, link_modLink_same]
  exact sent_sendBlock_sendBlock ..

theorem linkState_enterConfirm (l count m : Nat) (s : State) : linkState (enterConfirm l count s) m = linkState s m :=
  rfl

/-- The parts of CAP_UP and what they report of the driver, before they are tested. -/
def capHeard (l b p0 : Nat) (s : State) : State :=
  ((((modLink l (fun x => { x with part1 := some b }) (hearBlock l s)).setReg (0x4000 + l / 2) 3
    (bits p0 47 32 * 2 ^ 16 + bits b 31 16)).setReg (0x4000 + l / 2) 4 (bits p0 23 16)).setReg (0x4000 + l / 2) 5
    (bits b 43 32))

theorem reg_capHeard {l x y : Nat} (hy : y < 256) (other : x ≠ 0x4000 + l / 2) (b p0 : Nat) (s : State) :
    (capHeard l b p0 s).reg x y = s.reg x y := by
  rw [capHeard, reg_setReg_index (by decide) hy other.symm, reg_setReg_index (by decide) hy other.symm,
    reg_setReg_index (by decide) hy other.symm]
  rfl

theorem widePorts_capHeard (l b p0 : Nat) (s : State) : widePorts (capHeard l b p0 s) = widePorts s := by
  have live : (capHeard l b p0 s).dev.live = s.dev.live := rfl
  rw [widePorts, State.com, live]
  rfl

theorem capUpReceive_passes {l b p0 : Nat} {s : State} (hl : l < 256) (good : capUpGood b = true)
    (exchange : linkState s l = 3) (second : bits b 9 8 = 1) (first : (s.link l).part0 = some p0)
    (passes : capPasses s l p0 = true) (target : (s.link l).ladder ≠ 1) :
    capUpReceive l b s = enterEqualize l (capHeard l b p0 s) := by
  have link : (modLink l (fun x => { x with part1 := some b }) (hearBlock l s)).link l =
      { s.link l with rx := (s.link l).rx.hear s.now, part1 := some b } := by
    rw [link_modLink_same, link_hearBlock]
  have own : 0x4100 + l ≠ 0x4000 + l / 2 := by omega
  have passes' : capPasses (capHeard l b p0 s) l p0 = true := by
    rw [capPasses, reg_capHeard (by decide) own, widePorts_capHeard]
    exact passes
  have target' : ((capHeard l b p0 s).link l).ladder ≠ 1 := by
    rw [capHeard, link_setReg, link_setReg, link_setReg, link]
    exact target
  have tested : capUpReceive l b s =
      if capPasses (capHeard l b p0 s) l p0 then exchangePass l (capHeard l b p0 s)
      else attemptFail l (capHeard l b p0 s) := by
    unfold capUpReceive
    simp only [good, Bool.not_true, Bool.false_eq_true, if_false, linkState_hearBlock, exchange, ne_eq,
      not_true_eq_false, second, one_ne_zero, link, first]
    rfl
  rw [tested, if_pos passes']
  exact if_neg target'

/-- EQUALIZE begins with CAP and TRAIN of STEP 4 (R444). -/
theorem enterEqualize_spec (l : Nat) (s : State) :
    linkState (enterEqualize l s) l = 4 ∧
    ((enterEqualize l s).link l).sent.take 2 =
      [trainDown 4 (s.reg (0x4100 + l) 2), capBlock l (s.reg (0x4100 + l) 2) (widePorts s)] :=
  ⟨linkState_setLinkState_same .., sent_sendBlock_sendBlock ..⟩

theorem reg_enterEqualize {y : Nat} (hy : y < 256) (other : y ≠ 1) (l x : Nat) (s : State) :
    (enterEqualize l s).reg x y = s.reg x y := reg_setReg_sub (by decide) hy other.symm ..

/-! ### The sweep of presets (R890) -/

/-- The preset kept so far gives way to one with a higher margin. -/
def betterPreset (ms : List Nat) (b i : Nat) : Nat := if nth ms b < nth ms i then i else b

theorem bestPreset_eq (ms : List Nat) : bestPreset ms = (List.range 8).foldl (betterPreset ms) 0 := rfl

/-- The preset that a sweep keeps is as good as the first and as every one swept. -/
theorem foldl_betterPreset (ms : List Nat) (is : List Nat) (b : Nat) :
    nth ms b ≤ nth ms (is.foldl (betterPreset ms) b) ∧
    ∀ i ∈ is, nth ms i ≤ nth ms (is.foldl (betterPreset ms) b) := by
  induction is generalizing b with
  | nil => exact ⟨le_refl _, fun i hi => absurd hi List.not_mem_nil⟩
  | cons j is ih =>
    obtain ⟨first, rest⟩ := ih (betterPreset ms b j)
    have kept : nth ms b ≤ nth ms (betterPreset ms b j) := by
      unfold betterPreset
      split <;> omega
    have better : nth ms j ≤ nth ms (betterPreset ms b j) := by
      unfold betterPreset
      split <;> omega
    refine ⟨kept.trans first, fun i hi => ?_⟩
    rcases List.mem_cons.mp hi with rfl | later
    · exact better.trans first
    · exact rest i later

theorem bestPreset_best (ms : List Nat) {i : Nat} (h : i < 8) : nth ms i ≤ nth ms (bestPreset ms) := by
  rw [bestPreset_eq]
  exact (foldl_betterPreset ms _ 0).2 i (List.mem_range.mpr h)

theorem presetStep_sweeping {l : Nat} {s : State} (equalize : linkState s l = 4) (sweeps : (s.link l).swept = false) :
    (presetStep l s).link l =
      if (s.link l).preset < 7 then { s.link l with preset := (s.link l).preset + 1 }
      else { s.link l with preset := bestPreset (s.link l).margins, swept := true, goodTrains := 0 } := by
  unfold presetStep
  rw [if_neg (by simp [equalize, sweeps]), link_modLink_same]

/-! ### Confirmed (R444) -/

theorem resultReceive_confirmed {l b : Nat} {s : State} (good : resultGood b = true) (clean : bits b 39 8 = 0)
    (confirm : linkState s l = 5) : resultReceive l b s = enterActive l (hearBlock l s) := by
  unfold resultReceive
  simp only [good, Bool.not_true, Bool.false_eq_true, if_false, linkState_hearBlock, confirm]
  exact if_pos clean

theorem enterActive_spec (l : Nat) (s : State) :
    linkState (enterActive l s) l = 6 ∧ ((enterActive l s).link l).seq = 0 ∧
    ((enterActive l s).link l).sent.head? = some (trainDown 6 (s.reg (0x4100 + l) 2)) := by
  refine ⟨linkState_setLinkState_same .., ?_, head_sendBlock ..⟩
  rw [enterActive]
  obtain ⟨_, _, e⟩ := link_sendBlock l (trainDown 6 (s.reg (0x4100 + l) 2)) (setLinkState l 6
    (modLink l (fun x => { x with
      seq := 0, lastSeq := none, tx := .idle, data := [], trained := s.reg (0x4100 + l) 2, activeAt := some s.now
      attempts := 0, ladder := 0, vigil := 0, lowMargin := 0, discards := [] }) s))
  refine (congrArg Link.seq e).trans ?_
  rw [link_setLinkState, link_modLink_same]

/-! ### The commands -/

/-- Settles O46: each command is its operation under its scope, and each clause is the operation's way from the state
named. -/
theorem linkTrainingCommands : Obligations.LinkTrainingCommands := by
  unfold Obligations.LinkTrainingCommands
  have range {s : State} {l : Nat} (here : l < nLinks s) : l < 256 := here.trans_le (nLinks_le s)
  refine ⟨?gain, ?loss, ?lost, ?train, ?caps, ?sweep, ?result, ?timer, ?retry⟩
  case gain =>
    intro s l here detect
    refine ⟨_, exec_upstreamLockGain l s (range here) here, ?_⟩
    rw [linkState_onDev (by decide), link_onDev (by decide), upLockGain_detect detect, upLock_enterLock,
      head_enterLock, speed_lockGained]
    exact ⟨linkState_enterLock .., upLock_lockGained .., rfl⟩
  case loss =>
    intro s l here locked awake
    refine ⟨_, exec_upstreamLockLoss l s (range here) here, ?_, counted_onDev (by decide) ?_⟩
    · rw [link_onDev (by decide), upLockLoss_awake locked awake, link_bump, link_modLink_same]
      exact Receiver.loss_unlocked _
    · rw [upLockLoss_awake locked awake, counted, reg_bump_at (by decide) (by decide), if_pos ⟨rfl, rfl⟩, modLink_reg]
  case lost =>
    intro s l here unlocked
    refine ⟨_, exec_upstreamLaneLost l s (range here) here, ?_⟩
    rw [link_onDev (by decide), upLaneLost, if_neg (by simp [unlocked]), link_modLink_same]
  case train =>
    intro s l b here good step
    refine ⟨fun lock locked => ⟨_, exec_trainReceive l b s (range here) here, ?_⟩,
      fun equalize swept fifteen margin => ⟨_, exec_trainReceive l b s (range here) here, ?_⟩⟩
    · rw [linkState_onDev (by decide), link_onDev (by decide), trainReceive_exchange good step lock locked]
      exact ⟨linkState_setLinkState_same .., head_sendBlock ..⟩
    · rw [linkState_onDev (by decide), link_onDev (by decide),
        trainReceive_confirm good step equalize swept fifteen margin, linkState_enterConfirm, sent_enterConfirm,
        setLinkState, reg_setReg_sub (by decide) (by decide) (by decide), modLink_reg,
        reg_setReg_sub (by decide) (by decide) (by decide)]
      exact ⟨reg_setReg_same .., rfl⟩
  case caps =>
    intro s l b p0 here good exchange second first passes target
    have own : 0x4100 + l ≠ 0x4000 + l / 2 := by have := range here; omega
    obtain ⟨state, sent⟩ := enterEqualize_spec l (capHeard l b p0 s)
    refine ⟨_, exec_capUpReceive l b s (range here) here, ?_⟩
    rw [linkState_onDev (by decide), link_onDev (by decide), onDev_reg (by decide), onDev_reg (by decide),
      capUpReceive_passes (range here) good exchange second first passes target,
      reg_enterEqualize (by decide) (by decide), reg_enterEqualize (by decide) (by decide)]
    refine ⟨state, ?_, ?_, reg_setReg_same ..⟩
    · rw [sent, reg_capHeard (by decide) own, widePorts_capHeard]
    · rw [capHeard, reg_setReg_sub (by decide) (by decide) (by decide), reg_setReg_same]
  case sweep =>
    intro s l here equalize sweeps
    refine ⟨_, exec_presetSweepStep l s (range here) here, ?_⟩
    rw [link_onDev (by decide), presetStep_sweeping equalize sweeps]
    refine ⟨fun early => ?_, fun last => ?_⟩
    · rw [if_pos early]
      exact ⟨rfl, sweeps⟩
    · rw [if_neg (by omega)]
      exact ⟨rfl, fun i hi => bestPreset_best _ hi⟩
  case result =>
    intro s l b here good clean confirm
    refine ⟨_, exec_testResultReceive l b s (range here) here, ?_⟩
    rw [linkState_onDev (by decide), link_onDev (by decide), resultReceive_confirmed good clean confirm]
    exact enterActive_spec ..
  case timer =>
    intro s l here low high lost
    refine ⟨_, exec_trainingTimerExpiry l s (range here) here, ?_⟩
    rw [linkState_onDev (by decide), link_onDev (by decide), onDev_reg (by decide), trainTimer_training low high]
    refine ⟨counted_onDev (by decide) ?_, fun few => ?_, fun third phase => ?_, fun third phase passed => ?_⟩
    · rw [trainTimer_training low high]
      exact counted_attemptFail ..
    · rw [attemptFail_again lost few]
      exact ⟨linkState_detecting .., speed_detecting .., head_detecting ..⟩
    · obtain ⟨-, -, kept⟩ := link_detecting l 1 (inPhase 1 l (attempted l s))
      rw [attemptFail_third lost third phase]
      refine ⟨linkState_detecting .., speed_detecting .., kept.trans ?_⟩
      rw [inPhase, link_modLink_same]
    · rw [attemptFail_absent third phase passed]
      exact linkState_enterAbsent ..
  case retry =>
    intro s l here absent unlocked
    have starts : absentRetry l s = detecting l (targetSpeed s) (fresh l s) := by
      rw [absentRetry, if_pos absent, trainStart_eq, enterDetect_unlocked (by rw [upLock_fresh, unlocked])]
    obtain ⟨-, kept, -⟩ := link_detecting l (targetSpeed s) (fresh l s)
    refine ⟨_, exec_linkAbsentRetry l s (range here) here, ?_⟩
    rw [linkState_onDev (by decide), link_onDev (by decide), onDev_reg (by decide), starts]
    refine ⟨linkState_detecting .., speed_detecting .., kept.trans ?_⟩
    rw [fresh, link_modLink_same]

end Sys2Proof.Machine
end

section
/-!
SUPPORT. What an operation on one link leaves alone: the registers of other links, of other ports and of what counts
its traffic, the receivers, and what its port keeps of violations (R450, R453, R456).
-/
namespace Sys2Proof.Machine

/-- Registers that leaving service, failing, testing or retraining of link `l` may write: state, speed, failures and
test of the link, and mode, test flag and falls of its port. -/
def LinkWrites (l x y : Nat) : Prop :=
  (x = 0x4100 + l ∧ (y = 1 ∨ y = 2 ∨ y = 6 ∨ y = 7 ∨ y = 0x0C ∨ y = 0x0D)) ∨
    (x = 0x4000 + l / 2 ∧ (y = 1 ∨ y = 2 ∨ y = 0x0B))

/-- From `s` to `t` an operation on link `l` has left alone what it may not write. -/
structure LinkKept (l : Nat) (s t : State) : Prop where
  reg : ∀ x y, y < 256 → x ≠ 0x6000 → ¬LinkWrites l x y → t.reg x y = s.reg x y
  blind : hasBit (t.reg (0x4000 + l / 2) 2) 0 = hasBit (s.reg (0x4000 + l / 2) 2) 0
  link : ∀ m, m ≠ l → t.link m = s.link m
  rx : (t.link l).rx = (s.link l).rx
  takenDown : ∀ p, (t.port p).takenDown = (s.port p).takenDown

theorem LinkKept.refl (l : Nat) (s : State) : LinkKept l s s where
  reg _ _ _ _ _ := rfl
  blind := rfl
  link _ _ := rfl
  rx := rfl
  takenDown _ := rfl

theorem LinkKept.trans {l : Nat} {s t u : State} (h : LinkKept l s t) (k : LinkKept l t u) : LinkKept l s u where
  reg x y hy hx w := (k.reg x y hy hx w).trans (h.reg x y hy hx w)
  blind := k.blind.trans h.blind
  link m hm := (k.link m hm).trans (h.link m hm)
  rx := k.rx.trans h.rx
  takenDown p := (k.takenDown p).trans (h.takenDown p)

theorem LinkKept.ite {l : Nat} {s t u : State} (c : Prop) [Decidable c] (h : LinkKept l s t) (k : LinkKept l s u) :
    LinkKept l s (if c then t else u) := by
  split
  · exact h
  · exact k

/-- The state of another link stays. -/
theorem LinkKept.linkState {l m : Nat} {s t : State} (h : LinkKept l s t) (hl : l < 256) (hm : m < 256)
    (other : m ≠ l) : linkState t m = linkState s m :=
  h.reg _ _ (by decide) (by omega) (by unfold LinkWrites; omega)

theorem LinkKept.upLock {l : Nat} {s t : State} (h : LinkKept l s t) (m : Nat) :
    (t.link m).upLock = (s.link m).upLock := by
  by_cases same : m = l
  · rw [same, Link.upLock, h.rx]; rfl
  · rw [h.link m same]

theorem LinkKept.hbmTrained {l : Nat} {s t : State} (h : LinkKept l s t) (hl : l < 256) :
    hbmTrained t = hbmTrained s := by
  rw [Machine.hbmTrained, h.reg _ _ (by decide) (by decide) (by unfold LinkWrites; omega)]
  rfl

theorem LinkKept.targetSpeed {l : Nat} {s t : State} (h : LinkKept l s t) (hl : l < 256) :
    targetSpeed t = targetSpeed s := by
  rw [Machine.targetSpeed, h.hbmTrained hl, h.reg 0x4200 1 (by decide) (by decide) (by unfold LinkWrites; omega)]
  rfl

/-! ### The small operations -/

theorem linkKept_setReg {l x y : Nat} (writes : LinkWrites l x y) (blind : x = 0x4000 + l / 2 → y ≠ 2) (v : Nat)
    (s : State) : LinkKept l s (s.setReg x y v) where
  reg x' y' hy' _ w := by
    have hy : y < 256 := by unfold LinkWrites at writes; omega
    rw [reg_setReg_at hy hy', if_neg]
    rintro ⟨rfl, rfl⟩
    exact w writes
  blind := by
    have hy : y < 256 := by unfold LinkWrites at writes; omega
    rw [reg_setReg_at hy (by decide), if_neg fun e => blind e.1 e.2]
  link _ _ := rfl
  rx := rfl
  takenDown _ := rfl

/-- A write of the port's flags that leaves BLIND as it is. -/
theorem linkKept_flags {l v : Nat} {s : State} (blind : hasBit v 0 = hasBit (s.reg (0x4000 + l / 2) 2) 0) :
    LinkKept l s (s.setReg (0x4000 + l / 2) 2 v) where
  reg x' y' hy' _ w := by
    rw [reg_setReg_at (by decide) hy', if_neg]
    rintro ⟨rfl, rfl⟩
    exact w (by unfold LinkWrites; omega)
  blind := by rw [reg_setReg_same, blind]
  link _ _ := rfl
  rx := rfl
  takenDown _ := rfl

theorem linkKept_modLink (l : Nat) (f : Link → Link) (s : State) (rx : ∀ x, (f x).rx = x.rx) :
    LinkKept l s (modLink l f s) where
  reg _ _ _ _ _ := rfl
  blind := rfl
  link m hm := by rw [link_modLink, if_neg hm.symm]
  rx := by rw [link_modLink_same, rx]
  takenDown _ := rfl

theorem linkKept_modPort (l p : Nat) (f : Port → Port) (s : State) (down : ∀ x, (f x).takenDown = x.takenDown) :
    LinkKept l s (modPort p f s) where
  reg _ _ _ _ _ := rfl
  blind := rfl
  link _ _ := rfl
  rx := rfl
  takenDown q := by
    rw [port_modPort]
    split
    · next same => rw [down, same]
    · rfl

theorem linkKept_logEvent {l : Nat} (hl : l < 256) (r c i j d : Nat) (s : State) :
    LinkKept l s (logEvent r c i j d s) where
  reg x y hy hx _ := reg_logEvent_index r c i j d s hx hy
  blind := by rw [reg_logEvent_index r c i j d s (by omega) (by decide)]
  link m _ := link_logEvent r c i j d m s
  rx := by rw [link_logEvent]
  takenDown p := by rw [port_logEvent]

/-! ### The operations on a link -/

theorem linkKept_setLinkState (l v : Nat) (s : State) : LinkKept l s (setLinkState l v s) :=
  linkKept_setReg (.inl ⟨rfl, .inl rfl⟩) (by simp) ..

theorem linkKept_sendBlock (l b : Nat) (s : State) : LinkKept l s (sendBlock l b s) :=
  linkKept_modLink l _ s fun _ => rfl

theorem linkKept_enterDown (l : Nat) (s : State) : LinkKept l s (enterDown l s) :=
by
  refine .trans (.trans (linkKept_setLinkState l 0 s) ?_) (linkKept_modLink l _ _ fun _ => rfl)
  exact linkKept_setReg (.inl ⟨rfl, .inr (.inl rfl)⟩) (by omega) ..

theorem linkKept_enterDetect (l speed : Nat) (s : State) : LinkKept l s (enterDetect l speed s) := by
  have detect : LinkKept l s (detecting l speed s) := by
    refine .trans (.trans ?_ (linkKept_modLink l _ _ ?_)) (linkKept_sendBlock ..)
    · exact (linkKept_setLinkState l 1 s).trans (linkKept_setReg (.inl ⟨rfl, .inr (.inl rfl)⟩) (by omega) ..)
    · exact fun _ => rfl
  rw [enterDetect_eq]
  exact .ite _ (detect.trans ((linkKept_setLinkState l 2 _).trans (linkKept_sendBlock ..))) detect

theorem linkKept_trainStart (l : Nat) (s : State) : LinkKept l s (trainStart l s) := by
  have start : LinkKept l s (fresh l s) := linkKept_modLink l _ s fun _ => rfl
  rw [trainStart_eq]
  exact start.trans (linkKept_enterDetect ..)

theorem linkKept_chooseNext (l p : Nat) (s : State) : LinkKept l s (chooseNext p s) := by
  unfold chooseNext
  split
  · exact .refl ..
  · exact linkKept_modPort l p _ s fun _ => rfl

theorem reg_chooseNext (p : Nat) (s : State) (x y : Nat) : (chooseNext p s).reg x y = s.reg x y := by
  unfold chooseNext
  split <;> rfl

/-! ### The end of a test (R470) -/

/-- The link's test is off and its errors are counted; the port's flag is still to fall. -/
def testCounted (l : Nat) (s : State) : State :=
  (s.bump (0x4100 + l) 0x0D (loopErrors s l)).setReg (0x4100 + l) 0x0C 0

theorem endTest_testing {l : Nat} {s : State} (test : linkState s l = 9) :
    endTest l s = if linkState (testCounted l s) (mate l) = 9 then testCounted l s
      else (testCounted l s).setReg (0x4000 + l / 2) 2
        (clearBit ((testCounted l s).reg (0x4000 + l / 2) 2) 1) := if_pos test

theorem endTest_other {l : Nat} {s : State} (h : linkState s l ≠ 9) : endTest l s = s := if_neg h

theorem linkKept_endTest (l : Nat) (s : State) : LinkKept l s (endTest l s) := by
  by_cases test : linkState s l = 9
  · have counts : LinkKept l s (testCounted l s) :=
      (linkKept_setReg (.inl ⟨rfl, by omega⟩) (by omega) _ s).trans
        (linkKept_setReg (.inl ⟨rfl, by omega⟩) (by omega) ..)
    rw [endTest_testing test]
    exact .ite _ counts (counts.trans (linkKept_flags (hasBit_clearBit_one _)))
  · rw [endTest_other test]
    exact .refl ..

/-- Ending a test writes the loop of its link, the errors counted and the port's flags alone. -/
theorem reg_endTest {y : Nat} (hy : y < 256) (flags : y ≠ 2) (loop : y ≠ 0x0C) (errors : y ≠ 0x0D) (l x : Nat)
    (s : State) : (endTest l s).reg x y = s.reg x y := by
  have counts : (testCounted l s).reg x y = s.reg x y := by
    rw [testCounted, reg_setReg_sub (by decide) hy loop.symm, State.bump, reg_setReg_sub (by decide) hy errors.symm]
  by_cases test : linkState s l = 9
  · rw [endTest_testing test]
    split
    · exact counts
    · rw [reg_setReg_sub (by decide) hy flags.symm, counts]
  · rw [endTest_other test]

theorem loop_endTest {l : Nat} {s : State} (test : linkState s l = 9) : (endTest l s).reg (0x4100 + l) 0x0C = 0 := by
  have off : (testCounted l s).reg (0x4100 + l) 0x0C = 0 := reg_setReg_same ..
  rw [endTest_testing test]
  split
  · exact off
  · rw [reg_setReg_sub (by decide) (by decide) (by decide), off]

/-! ### Leaving service (R450, R456) -/

/-- The link is down; a link that carried its port alone keeps the time. -/
def dropped (l : Nat) (s : State) : State :=
  enterDown l (if carriesAlone s l then modLink l (fun x => { x with aloneAt := some s.now }) s else s)

theorem dropLink_eq (gone : Bool) (l : Nat) (s : State) :
    dropLink gone l s = chooseNext (l / 2) (if gone && carries s l
      then (dropped l s).setReg (0x4000 + l / 2) 1 (wantedMode (dropped l s) (l / 2)) else dropped l s) := rfl

theorem linkKept_dropLink (gone : Bool) (l : Nat) (s : State) : LinkKept l s (dropLink gone l s) := by
  have down : LinkKept l s (dropped l s) := by
    refine .trans (.ite _ (linkKept_modLink l _ s ?_) (.refl l s)) (linkKept_enterDown ..)
    exact fun _ => rfl
  rw [dropLink_eq]
  exact (LinkKept.ite _ (down.trans (linkKept_setReg (.inr ⟨rfl, .inl rfl⟩) (fun _ => by decide) ..)) down).trans
    (linkKept_chooseNext ..)

theorem linkState_dropLink {l : Nat} (hl : l < 256) (gone : Bool) (s : State) :
    linkState (dropLink gone l s) l = 0 := by
  rw [dropLink_eq, linkState_def, reg_chooseNext]
  split
  · rw [reg_setReg_index (by decide) (by decide) (by omega)]
    exact linkState_enterDown ..
  · exact linkState_enterDown ..

/-- Leaving service writes the state and the speed of the link and the mode of its port alone. -/
theorem reg_dropLink {y : Nat} (hy : y < 256) (state : y ≠ 1) (speed : y ≠ 2) (gone : Bool) (l x : Nat) (s : State) :
    (dropLink gone l s).reg x y = s.reg x y := by
  have down : (dropped l s).reg x y = s.reg x y := by
    rw [dropped, reg_enterDown hy fun _ => ⟨state, speed⟩]
    split <;> rfl
  rw [dropLink_eq, reg_chooseNext]
  split
  · rw [reg_setReg_sub (by decide) hy state.symm, down]
  · exact down

/-! ### A link declared failed (R450, R453) -/

/-- Before it fails a link that retrains in the vigil counts as ACTIVE, and a test ends. -/
def serviceLeft (l : Nat) (s : State) : State := if linkState s l = 8 then setLinkState l 6 s else endTest l s

theorem serviceLeft_active {l : Nat} {s : State} (active : linkState s l = 6) : serviceLeft l s = s := by
  rw [serviceLeft, if_neg (by omega), endTest_other (by omega)]

/-- The failure is counted with its cause. -/
def failNoted (l cause now : Nat) (s : State) : State :=
  ((modLink l (fun x => { x with failedAt := some now }) s).bump (0x4100 + l) 6).setReg (0x4100 + l) 7 cause

/-- The link has failed and its port's fall is counted; the event is still to be written. -/
def linkFailed (l cause : Nat) (s : State) : State :=
  let t := dropLink true l (failNoted l cause s.now (serviceLeft l s))
  if modeRank (portMode (serviceLeft l s) (l / 2)) < modeRank (portMode t (l / 2)) then t.bump (0x4000 + l / 2) 0x0B
  else t

theorem linkFail_eq (l cause : Nat) (s : State) : linkFail l cause s =
    if carries (serviceLeft l s) l then
      logEvent 456 3 (0x4000 + l / 2) 0 (portMode (linkFailed l cause s) (l / 2) + 256 * cause) (linkFailed l cause s)
    else linkFailed l cause s := by
  unfold linkFail linkFailed serviceLeft failNoted
  dsimp only

theorem linkKept_serviceLeft (l : Nat) (s : State) : LinkKept l s (serviceLeft l s) :=
  .ite _ (linkKept_setLinkState ..) (linkKept_endTest ..)

theorem linkKept_failNoted (l cause now : Nat) (s : State) : LinkKept l s (failNoted l cause now s) := by
  refine .trans (.trans (linkKept_modLink l _ s ?_) (linkKept_setReg ?_ ?_ ..)) (linkKept_setReg ?_ ?_ ..)
  · exact fun _ => rfl
  · exact .inl ⟨rfl, by decide⟩
  · omega
  · exact .inl ⟨rfl, by decide⟩
  · omega

theorem linkKept_linkFailed (l cause : Nat) (s : State) : LinkKept l s (linkFailed l cause s) := by
  have left := ((linkKept_serviceLeft l s).trans (linkKept_failNoted l cause s.now _)).trans
    (linkKept_dropLink true l _)
  unfold linkFailed
  exact .ite _ (left.trans (linkKept_setReg (.inr ⟨rfl, by decide⟩) (fun _ => by decide) ..)) left

theorem linkKept_linkFail {l : Nat} (hl : l < 256) (cause : Nat) (s : State) : LinkKept l s (linkFail l cause s) := by
  rw [linkFail_eq]
  exact .ite _ ((linkKept_linkFailed ..).trans (linkKept_logEvent hl ..)) (linkKept_linkFailed ..)

/-- After a link has failed its own registers read as before the event. -/
theorem reg_linkFail {l : Nat} (hl : l < 256) {y : Nat} (hy : y < 256) (cause : Nat) (s : State) :
    (linkFail l cause s).reg (0x4100 + l) y = (linkFailed l cause s).reg (0x4100 + l) y := by
  rw [linkFail_eq]
  split
  · exact reg_logEvent_index _ _ _ _ _ _ (by omega) hy
  · rfl

/-- The fall of the port's mode is no register of the link. -/
theorem reg_linkFailed {l : Nat} (hl : l < 256) {y : Nat} (hy : y < 256) (cause : Nat) (s : State) :
    (linkFailed l cause s).reg (0x4100 + l) y =
      (dropLink true l (failNoted l cause s.now (serviceLeft l s))).reg (0x4100 + l) y := by
  unfold linkFailed
  dsimp only
  split
  · rw [reg_bump_at (by decide) hy, if_neg (by omega)]
  · rfl

theorem linkState_linkFail {l : Nat} (hl : l < 256) (cause : Nat) (s : State) :
    linkState (linkFail l cause s) l = 0 := by
  rw [linkState_def, reg_linkFail hl (by decide), reg_linkFailed hl (by decide)]
  exact linkState_dropLink hl ..

theorem cause_linkFail {l : Nat} (hl : l < 256) (cause : Nat) (s : State) :
    (linkFail l cause s).reg (0x4100 + l) 7 = cause := by
  rw [reg_linkFail hl (by decide), reg_linkFailed hl (by decide),
    reg_dropLink (by decide) (by decide) (by decide)]
  exact reg_setReg_same ..

theorem counted_linkFail {l : Nat} (hl : l < 256) (cause : Nat) (s : State) :
    counted s (linkFail l cause s) (0x4100 + l) 6 := by
  have kept : (serviceLeft l s).reg (0x4100 + l) 6 = s.reg (0x4100 + l) 6 := by
    rw [serviceLeft]
    split
    · exact reg_setReg_sub (by decide) (by decide) (by decide) ..
    · exact reg_endTest (by decide) (by decide) (by decide) (by decide) ..
  rw [counted, reg_linkFail hl (by decide), reg_linkFailed hl (by decide),
    reg_dropLink (by decide) (by decide) (by decide), failNoted, reg_setReg_sub (by decide) (by decide) (by decide),
    reg_bump_at (by decide) (by decide), if_pos ⟨rfl, rfl⟩, modLink_reg, kept]

/-! ### The event of a port that loses a link (R456) -/

/-- The log's next number and the buffer on chip are as they were. -/
def Silent (s t : State) : Prop := t.reg 0x6000 1 = s.reg 0x6000 1 ∧ t.dev.eventBuffer = s.dev.eventBuffer

theorem Silent.trans {s t u : State} (h : Silent s t) (k : Silent t u) : Silent s u :=
  ⟨k.1.trans h.1, k.2.trans h.2⟩

theorem silent_setReg {i j : Nat} (hj : j < 256) (hi : i ≠ 0x6000) (v : Nat) (s : State) : Silent s (s.setReg i j v) :=
  ⟨reg_setReg_index hj (by decide) hi .., rfl⟩

theorem silent_enterDown (l : Nat) (s : State) (hl : l < 256) : Silent s (enterDown l s) :=
  ⟨reg_enterDown (by decide) (by omega) s, rfl⟩

theorem silent_chooseNext (p : Nat) (s : State) : Silent s (chooseNext p s) := by
  unfold chooseNext
  split <;> exact ⟨rfl, rfl⟩

theorem silent_dropLink {l : Nat} (hl : l < 256) (gone : Bool) (s : State) : Silent s (dropLink gone l s) := by
  have alone : Silent s
      (if carriesAlone s l then modLink l (fun x => { x with aloneAt := some s.now }) s else s) := by
    split <;> exact ⟨rfl, rfl⟩
  have down : Silent s (dropped l s) := alone.trans (silent_enterDown l _ hl)
  rw [dropLink_eq]
  refine Silent.trans ?_ (silent_chooseNext ..)
  split
  · exact down.trans (silent_setReg (by decide) (by omega) ..)
  · exact down

theorem silent_failNoted {l : Nat} (hl : l < 256) (cause now : Nat) (s : State) :
    Silent s (failNoted l cause now s) := by
  refine Silent.trans (t := (modLink l _ s).bump (0x4100 + l) 6) ?_ (silent_setReg (by decide) (by omega) ..)
  exact silent_setReg (by decide) (by omega) _ (modLink l _ s)

/-- A link that carries its port in service fails with an event (R456). -/
theorem eventLogged_linkFail {l : Nat} (hl : l < 256) (cause : Nat) {s : State} (carried : carries s l = true)
    (room : canLog s) : eventLogged 456 s (linkFail l cause s) := by
  have active : linkState s l = 6 := by
    have both := carried
    unfold carries carriesIn at both
    exact beq_iff_eq.mp (Bool.and_eq_true_iff.mp both).1
  have left := serviceLeft_active active
  rw [linkFail_eq, left, if_pos carried]
  have dropped : Silent s (dropLink true l (failNoted l cause s.now s)) :=
    (silent_failNoted hl cause s.now s).trans (silent_dropLink hl true _)
  have silent : Silent s (linkFailed l cause s) := by
    unfold linkFailed
    dsimp only
    rw [left]
    split
    · exact dropped.trans (silent_setReg (by decide) (by omega) ..)
    · exact dropped
  exact eventLogged_after silent.1
    ((linkKept_linkFailed l cause s).reg _ _ (by decide) (by decide) (by unfold LinkWrites; omega)) silent.2 room ..

end Sys2Proof.Machine
end

section
/-!
PROOF. Links in service: STATUS, telemetry, violations, failures, sleep, retraining and test loops (R436, R450 to R470,
R897).
-/
namespace Sys2Proof.Machine

/-- A loop that brings something about for each of its elements, and whose rounds keep it, has done so for all. -/
theorem each_reaches_of_mem {α : Type} {P : α → State → Prop} {f : α → State → State} {xs : List α}
    (brings : ∀ x ∈ xs, ∀ t, P x (f x t)) (keeps : ∀ x ∈ xs, ∀ y ∈ xs, ∀ t, P x t → P x (f y t)) (s : State) :
    ∀ x ∈ xs, P x (s.each xs f) := by
  intro x hx
  obtain ⟨before, after, rfl⟩ := List.append_of_mem hx
  rw [State.each, List.foldl_append, List.foldl_cons]
  have reached := brings x hx (before.foldl (fun t x => f x t) s)
  revert reached
  generalize f x _ = t
  have inner : ∀ y ∈ after, ∀ t, P x t → P x (f y t) := fun y hy => keeps x hx y (by simp [hy])
  clear brings keeps hx
  induction after generalizing t with
  | nil => exact id
  | cons y ys ih =>
    exact fun reached => ih _ (fun z hz => inner z (List.mem_cons_of_mem y hz)) (inner y List.mem_cons_self t reached)

/-! ### Failures -/

/-- Link `l` is out of service, and its last failure had this cause. -/
def FailedWith (cause l : Nat) (s : State) : Prop := linkState s l = 0 ∧ s.reg (0x4100 + l) 7 = cause

theorem failedWith_linkFail {l : Nat} (hl : l < 256) (cause : Nat) (s : State) :
    FailedWith cause l (linkFail l cause s) := ⟨linkState_linkFail hl cause s, cause_linkFail hl cause s⟩

theorem LinkKept.failedWith {l m cause : Nat} {s t : State} (h : LinkKept l s t) (hl : l < 256) (hm : m < 256)
    (other : m ≠ l) (failed : FailedWith cause m s) : FailedWith cause m t :=
  ⟨(h.linkState hl hm other).trans failed.1,
    (h.reg _ _ (by decide) (by omega) (by unfold LinkWrites; omega)).trans failed.2⟩

/-! ### STATUS (R436, R453) -/

/-- An ACTIVE link is declared failed where there is reason to (R453). -/
def failActive (reason : Bool) (l cause : Nat) (s : State) : State :=
  if reason && linkState s l == 6 then linkFail l cause s else s

theorem linkKept_failActive {l : Nat} (hl : l < 256) (reason : Bool) (cause : Nat) (s : State) :
    LinkKept l s (failActive reason l cause s) := .ite _ (linkKept_linkFail hl ..) (.refl ..)

theorem failedWith_failActive {l : Nat} (hl : l < 256) (cause : Nat) {s : State} (active : linkState s l = 6) :
    FailedWith cause l (failActive true l cause s) := by
  rw [failActive, if_pos (by simp [active])]
  exact failedWith_linkFail hl ..

/-- A link that has failed is not declared failed again, nor does another one's failure change that. -/
theorem FailedWith.failActive {l m cause : Nat} (hl : l < 256) (hm : m < 256) {s : State}
    (failed : FailedWith cause m s) (reason : Bool) (c : Nat) : FailedWith cause m (failActive reason l c s) := by
  by_cases same : m = l
  · rw [Machine.failActive, if_neg (by simp [← same, failed.1])]
    exact failed
  · exact (linkKept_failActive hl reason c s).failedWith hl hm same failed

/-- What a STATUS reports is recorded: BLIND ends, EMIT, frame-end misses, margin and discards (R436, R453, R464). -/
def statusTaken (l b : Nat) (s : State) : State :=
  let p := l / 2
  let s := s.setReg (0x4000 + p) 2 (clearBit (s.reg (0x4000 + p) 2) 0)
  let s := s.setReg (0x4000 + p) 7 (bit b 12)
  let s := if hasBit b 11 then s.bump (0x4000 + p) 0x0A else s
  (s.setReg (0x4100 + l) 5 (bits b 21 16)).bump (0x4100 + l) 8 (bits b 47 40)

/-- Registers that an intact STATUS does not write. -/
theorem reg_statusTaken {l x y : Nat} (hy : y < 256) (port : x = 0x4000 + l / 2 → y ≠ 2 ∧ y ≠ 7 ∧ y ≠ 0x0A)
    (link : x = 0x4100 + l → y ≠ 5 ∧ y ≠ 8) (b : Nat) (s : State) : (statusTaken l b s).reg x y = s.reg x y := by
  unfold statusTaken
  dsimp only
  rw [reg_bump_at (by decide) hy, if_neg (by omega), reg_setReg_at (by decide) hy, if_neg (by omega)]
  split
  · rw [reg_bump_at (by decide) hy, if_neg (by omega), reg_setReg_at (by decide) hy, if_neg (by omega),
      reg_setReg_at (by decide) hy, if_neg (by omega)]
  · rw [reg_setReg_at (by decide) hy, if_neg (by omega), reg_setReg_at (by decide) hy, if_neg (by omega)]

/-- What an intact STATUS records of its port and its link. -/
theorem statusTaken_records {l : Nat} (hl : l < 256) (b : Nat) (s : State) :
    hasBit ((statusTaken l b s).reg (0x4000 + l / 2) 2) 0 = false ∧
    (statusTaken l b s).reg (0x4000 + l / 2) 7 = bit b 12 ∧ (statusTaken l b s).reg (0x4100 + l) 5 = bits b 21 16 := by
  have own : 0x4100 + l ≠ 0x4000 + l / 2 := by omega
  unfold statusTaken
  dsimp only
  refine ⟨?_, ?_, ?_⟩
  · rw [reg_bump_at (by decide) (by decide), if_neg (by omega), reg_setReg_at (by decide) (by decide),
      if_neg (by omega)]
    split
    · rw [reg_bump_at (by decide) (by decide), if_neg (by omega), reg_setReg_at (by decide) (by decide),
        if_neg (by omega), reg_setReg_same, hasBit_clearBit_same]
    · rw [reg_setReg_at (by decide) (by decide), if_neg (by omega), reg_setReg_same, hasBit_clearBit_same]
  · rw [reg_bump_at (by decide) (by decide), if_neg (by omega), reg_setReg_at (by decide) (by decide),
      if_neg (by omega)]
    split
    · rw [reg_bump_at (by decide) (by decide), if_neg (by omega), reg_setReg_same]
    · rw [reg_setReg_same]
  · rw [reg_bump_at (by decide) (by decide), if_neg (by omega), reg_setReg_same]

/-- The failures that a STATUS on link `l` brings: of the lower and the upper link without lock, and of the link itself
after discards. -/
def statusFailures (l : Nat) (lower upper many : Bool) (s : State) : State :=
  failActive many l 3 (failActive upper (2 * (l / 2) + 1) 2 (failActive lower (2 * (l / 2)) 2 s))

/-- An intact STATUS with no SEQ beyond the last one sent is recorded; then the links without lock fail, and the link
itself where too many packets were discarded. -/
theorem statusReceive_intact {l b : Nat} {s : State} (good : statusGood l b = true)
    (seq : ((s.link l).lastSeq.any fun q => later 16 q (bits b 39 24)) = false) :
    ∃ f many, statusReceive l b s = statusFailures l (!hasBit b 8) (!hasBit b 9) many
      (modLink l f (statusTaken l b (hearBlock l s))) := by
  have last : ((hearBlock l s).link l).lastSeq = (s.link l).lastSeq := by rw [link_hearBlock]
  rw [← last] at seq
  unfold statusReceive statusFailures failActive statusTaken
  simp only [good, seq, Bool.not_true, Bool.false_eq_true, if_false]
  -- the model looks at the state before the sum of discards
  rw [Bool.and_comm]
  exact ⟨_, _, rfl⟩

section Failures
variable {l : Nat} (hl : l < 256) (lower upper many : Bool) (s : State)
include hl

/-- Failures write what leaving service writes, on either link of the port. -/
theorem reg_statusFailures {x y : Nat} (hy : y < 256) (log : x ≠ 0x6000)
    (free : ∀ m, m / 2 = l / 2 → ¬LinkWrites m x y) :
    (statusFailures l lower upper many s).reg x y = s.reg x y := by
  rw [statusFailures, (linkKept_failActive hl ..).reg x y hy log (free _ rfl),
    (linkKept_failActive (by omega) ..).reg x y hy log (free _ (by omega)),
    (linkKept_failActive (by omega) ..).reg x y hy log (free _ (by omega))]

theorem blind_statusFailures : hasBit ((statusFailures l lower upper many s).reg (0x4000 + l / 2) 2) 0 =
    hasBit (s.reg (0x4000 + l / 2) 2) 0 := by
  have first := (linkKept_failActive (l := 2 * (l / 2)) (by omega) lower 2 s).blind
  have second := (linkKept_failActive (l := 2 * (l / 2) + 1) (by omega) upper 2
    (failActive lower (2 * (l / 2)) 2 s)).blind
  rw [show 2 * (l / 2) / 2 = l / 2 by omega] at first
  rw [show (2 * (l / 2) + 1) / 2 = l / 2 by omega] at second
  rw [statusFailures, (linkKept_failActive hl ..).blind, second, first]

theorem failedWith_lower (active : linkState s (2 * (l / 2)) = 6) :
    FailedWith 2 (2 * (l / 2)) (statusFailures l true upper many s) := by
  have failed := failedWith_failActive (l := 2 * (l / 2)) (by omega) 2 active
  exact (failed.failActive (l := 2 * (l / 2) + 1) (by omega) (by omega) upper 2).failActive hl (by omega) many 3

theorem failedWith_upper (active : linkState s (2 * (l / 2) + 1) = 6) :
    FailedWith 2 (2 * (l / 2) + 1) (statusFailures l lower true many s) := by
  have first := linkKept_failActive (l := 2 * (l / 2)) (by omega) lower 2 s
  have still := (first.linkState (by omega) (by omega) (by omega)).trans active
  exact (failedWith_failActive (by omega) 2 still).failActive hl (by omega) many 3

end Failures

/-- What an intact STATUS brings about: its records, and each ACTIVE link of the port whose lock bit is 0 fails. -/
theorem statusReceive_spec {l b : Nat} (hl : l < 256) {s : State} (good : statusGood l b = true)
    (seq : ((s.link l).lastSeq.any fun q => later 16 q (bits b 39 24)) = false) :
    hasBit ((statusReceive l b s).reg (0x4000 + l / 2) 2) 0 = false ∧
    (statusReceive l b s).reg (0x4000 + l / 2) 7 = bit b 12 ∧ (statusReceive l b s).reg (0x4100 + l) 5 = bits b 21 16 ∧
    ∀ k, k < 2 → hasBit b (8 + k) = false → linkState s (2 * (l / 2) + k) = 6 →
      FailedWith 2 (2 * (l / 2) + k) (statusReceive l b s) := by
  obtain ⟨f, many, e⟩ := statusReceive_intact good seq
  obtain ⟨blind, emit, margin⟩ := statusTaken_records hl b (hearBlock l s)
  rw [e]
  refine ⟨?_, ?_, ?_, fun k hk lost up => ?_⟩
  · rw [blind_statusFailures hl, modLink_reg, blind]
  · rw [reg_statusFailures hl _ _ _ _ (by decide) (by omega) (fun m _ => by unfold LinkWrites; omega), modLink_reg,
      emit]
  · rw [reg_statusFailures hl _ _ _ _ (by decide) (by omega) (fun m _ => by unfold LinkWrites; omega), modLink_reg,
      margin]
  · have active : linkState (modLink l f (statusTaken l b (hearBlock l s))) (2 * (l / 2) + k) = 6 := by
      rw [linkState_modLink, linkState_def, reg_statusTaken (by decide) (by simp) (by simp)]
      exact up
    obtain rfl | rfl : k = 0 ∨ k = 1 := by omega
    · rw [lost]
      exact failedWith_lower hl _ _ _ active
    · rw [lost]
      exact failedWith_upper hl _ _ _ active

/-! ### TELEM and SLEEP (R437, R463) -/

theorem telemReceive_selected {l b : Nat} {s : State} (good : telemGood l b = true)
    (selected : bits b 15 8 = (s.port (l / 2)).item) :
    telemReceive l b s = (hearBlock l s).setReg (0x4000 + l / 2) 9 (bits b 47 16) := by
  unfold telemReceive
  simp only [good, Bool.not_true, Bool.false_eq_true, if_false]
  exact if_neg (not_not.mpr selected)

theorem telemReceive_other {l b : Nat} {s : State} (good : telemGood l b = true)
    (other : bits b 15 8 ≠ (s.port (l / 2)).item) : telemReceive l b s = upViolation l (hearBlock l s) := by
  unfold telemReceive
  simp only [good, Bool.not_true, Bool.false_eq_true, if_false]
  exact if_pos other

theorem sleepReceive_sleep (l : Nat) (s : State) : sleepReceive l (sleepBlock l) s =
    (hearBlock l s).setReg (0x4100 + l) 0x0B (setBit ((hearBlock l s).reg (0x4100 + l) 0x0B) 1) := by
  obtain ⟨good, type, reserved⟩ := sleepBlock_good l
  unfold sleepReceive
  exact if_neg (by simp [good, type, reserved])

/-! ### Violations and take-downs (R464) -/

/-- The link leaves service for a take-down (R450, R464). -/
def tookDown (l : Nat) (s : State) : State :=
  if linkState s l = 7 ∨ linkState s l = 0 then enterDown l s else linkFail l 6 s

theorem takeDown_eq (p : Nat) (s : State) : takeDown p s = tookDown (2 * p + 1) (tookDown (2 * p) s) := rfl

theorem linkKept_tookDown {l : Nat} (hl : l < 256) (s : State) : LinkKept l s (tookDown l s) :=
  .ite _ (linkKept_enterDown ..) (linkKept_linkFail hl ..)

theorem linkState_tookDown {l : Nat} (hl : l < 256) (s : State) : linkState (tookDown l s) l = 0 := by
  unfold tookDown
  split
  · exact linkState_enterDown ..
  · exact linkState_linkFail hl ..

theorem linkState_takeDown {p k : Nat} (hp : p < 128) (hk : k < 2) (s : State) :
    linkState (takeDown p s) (2 * p + k) = 0 := by
  rw [takeDown_eq]
  obtain rfl | rfl : k = 0 ∨ k = 1 := by omega
  · rw [(linkKept_tookDown (by omega) _).linkState (by omega) (by omega) (by omega)]
    exact linkState_tookDown (by omega) s
  · exact linkState_tookDown (by omega) _

/-- A take-down writes what leaving service writes on both links. -/
theorem reg_takeDown {p x y : Nat} (hp : p < 128) (hy : y < 256) (log : x ≠ 0x6000) (lower : ¬LinkWrites (2 * p) x y)
    (upper : ¬LinkWrites (2 * p + 1) x y) (s : State) : (takeDown p s).reg x y = s.reg x y := by
  rw [takeDown_eq, (linkKept_tookDown (by omega) _).reg x y hy log upper,
    (linkKept_tookDown (by omega) s).reg x y hy log lower]

theorem takenDown_takeDown {p : Nat} (hp : p < 128) (s : State) (q : Nat) :
    ((takeDown p s).port q).takenDown = (s.port q).takenDown := by
  rw [takeDown_eq, (linkKept_tookDown (by omega) _).takenDown, (linkKept_tookDown (by omega) s).takenDown]

/-- Violations of the link's port within the last second, the present one among them. -/
def recentViolations (l : Nat) (s : State) : List Nat := s.now :: within1s s.now (s.port (l / 2)).violations

/-- The violation is counted. -/
def violated (l : Nat) (s : State) : State :=
  modPort (l / 2) (fun x => { x with violations := recentViolations l s })
    ((s.bump (0x4100 + l) 0x0A).bump (0x4000 + l / 2) 0x0C)

/-- The port is counted as taken down. -/
def portFallen (l : Nat) (s : State) : State :=
  modPort (l / 2) (fun x => { x with takenDown := true, violations := [] })
    ((violated l s).bump (0x4000 + l / 2) 0x0D)

theorem takenDown_violated (l : Nat) (s : State) :
    ((violated l s).port (l / 2)).takenDown = (s.port (l / 2)).takenDown := by
  rw [violated, port_modPort_same]
  rfl

theorem upViolation_eq (l : Nat) (s : State) : upViolation l s =
    if 255 ≤ (within1s s.now (s.port (l / 2)).violations).length ∧ (s.port (l / 2)).takenDown = false then
      logEvent 464 6 (0x4000 + l / 2) 0 l (takeDown (l / 2) (portFallen l s))
    else violated l s := by
  have fall : (256 ≤ (recentViolations l s).length ∧ ((violated l s).port (l / 2)).takenDown = false) =
      (255 ≤ (within1s s.now (s.port (l / 2)).violations).length ∧ (s.port (l / 2)).takenDown = false) := by
    rw [takenDown_violated, recentViolations, List.length_cons]
    exact propext (and_congr_left' (by omega))
  exact if_congr (iff_of_eq fall) rfl rfl

/-- Registers that a violation does not write: all but the links' own, the port's mode and the counts. -/
theorem reg_portFallen {l x y : Nat} (hy : y < 256) (other : y ≠ 0x0D) (s : State) :
    (portFallen l s).reg x y = (violated l s).reg x y := by
  rw [portFallen, modPort_reg, reg_bump_at (by decide) hy, if_neg (by omega)]

theorem counted_violated (l : Nat) (s : State) :
    counted s (violated l s) (0x4100 + l) 0x0A ∧ counted s (violated l s) (0x4000 + l / 2) 0x0C := by
  constructor
  · rw [counted, violated, modPort_reg, reg_bump_at (by decide) (by decide), if_neg (by omega),
      reg_bump_at (by decide) (by decide), if_pos ⟨rfl, rfl⟩]
  · rw [counted, violated, modPort_reg, reg_bump_at (by decide) (by decide), if_pos ⟨rfl, rfl⟩,
      reg_bump_at (by decide) (by decide), if_neg (by omega)]

theorem counted_portFallen (l : Nat) (s : State) :
    counted s (portFallen l s) (0x4000 + l / 2) 0x0D := by
  rw [counted, portFallen, modPort_reg, reg_bump_at (by decide) (by decide), if_pos ⟨rfl, rfl⟩, violated, modPort_reg,
    reg_bump_at (by decide) (by decide), if_neg (by omega), reg_bump_at (by decide) (by decide), if_neg (by omega)]

theorem linkState_violated (l m : Nat) (s : State) : linkState (violated l s) m = linkState s m := by
  rw [linkState_def, violated, modPort_reg, reg_bump_at (by decide) (by decide), if_neg (by omega),
    reg_bump_at (by decide) (by decide), if_neg (by omega)]
  rfl

/-- A counter of the link's or the port's violations reads the same after the take-down and its event. -/
theorem reg_fallen {l x y : Nat} (hl : l < 256) (log : x ≠ 0x6000)
    (count : (x = 0x4100 + l ∧ y = 0x0A) ∨ (x = 0x4000 + l / 2 ∧ (y = 0x0C ∨ y = 0x0D))) (s : State) :
    (logEvent 464 6 (0x4000 + l / 2) 0 l (takeDown (l / 2) (portFallen l s))).reg x y = (portFallen l s).reg x y := by
  have hy : y < 256 := by omega
  rw [reg_logEvent_index _ _ _ _ _ _ log hy,
    reg_takeDown (by omega) hy log (by unfold LinkWrites; omega) (by unfold LinkWrites; omega)]

theorem counted_upViolation {l : Nat} (hl : l < 256) (s : State) :
    counted s (upViolation l s) (0x4100 + l) 0x0A ∧ counted s (upViolation l s) (0x4000 + l / 2) 0x0C := by
  obtain ⟨link, port⟩ := counted_violated l s
  rw [upViolation_eq]
  split
  · rw [counted, counted, reg_fallen hl (by omega) (by simp), reg_fallen hl (by omega) (by simp),
      reg_portFallen (by decide) (by decide), reg_portFallen (by decide) (by decide)]
    exact ⟨link, port⟩
  · exact ⟨link, port⟩

/-- With HBM trained the newest event is the log's last. -/
theorem last_logEvent (r c i j d : Nat) {s : State} (trained : hbmTrained s = true) :
    (logEvent r c i j d s).dev.events.getLast?.map (·.rule) = some r := by
  unfold logEvent
  simp only [trained, if_true, modDev_dev]
  rw [List.getLast?_append]
  rfl

theorem upViolation_few {l : Nat} {s : State} (few : (within1s s.now (s.port (l / 2)).violations).length < 255) :
    upViolation l s = violated l s := by
  rw [upViolation_eq, if_neg (by omega)]

/-- The 256th violation within 1 s takes the port and both its links down, and logs it last. -/
theorem upViolation_many {l : Nat} (hl : l < 256) {s : State}
    (many : 255 ≤ (within1s s.now (s.port (l / 2)).violations).length) (up : (s.port (l / 2)).takenDown = false) :
    ((upViolation l s).port (l / 2)).takenDown = true ∧ counted s (upViolation l s) (0x4000 + l / 2) 0x0D ∧
    (∀ k, k < 2 → linkState (upViolation l s) (2 * (l / 2) + k) = 0) ∧
    (hbmTrained s = true → (upViolation l s).dev.events.getLast?.map (·.rule) = some 464) := by
  have hp : l / 2 < 128 := by omega
  rw [upViolation_eq, if_pos ⟨many, up⟩]
  refine ⟨?_, ?_, fun k hk => ?_, fun trained => last_logEvent _ _ _ _ _ ?_⟩
  · rw [port_logEvent, takenDown_takeDown hp, portFallen, port_modPort_same]
  · rw [counted, reg_fallen hl (by omega) (by simp)]
    exact counted_portFallen l s
  · rw [linkState_logEvent _ _ _ _ _ _ (by omega)]
    exact linkState_takeDown hp hk _
  · rw [hbmTrained, reg_takeDown hp (by decide) (by decide) (by unfold LinkWrites; omega) (by unfold LinkWrites; omega),
      reg_portFallen (by decide) (by decide), violated, modPort_reg, reg_bump_at (by decide) (by decide),
      if_neg (by omega), reg_bump_at (by decide) (by decide), if_neg (by omega)]
    exact trained

/-! ### BLIND (R464) -/

theorem portBlind_awake {p : Nat} {s : State} (seen : hasBit (s.reg (0x4000 + p) 2) 0 = false)
    (awake : (upAsleep s (2 * p) && upAsleep s (2 * p + 1)) = false) :
    portBlind p s = logEvent 464 6 (0x4000 + p) 0 0 (s.setReg (0x4000 + p) 2 (setBit (s.reg (0x4000 + p) 2) 0)) := by
  rw [portBlind, if_neg (by simp [seen, awake])]

theorem portBlind_spec {p : Nat} (hp : p < 128) {s : State} (seen : hasBit (s.reg (0x4000 + p) 2) 0 = false)
    (awake : (upAsleep s (2 * p) && upAsleep s (2 * p + 1)) = false) :
    hasBit ((portBlind p s).reg (0x4000 + p) 2) 0 = true ∧ (canLog s → eventLogged 464 s (portBlind p s)) := by
  rw [portBlind_awake seen awake]
  refine ⟨?_, fun room => eventLogged_after (s := s) (u := s.setReg _ _ _) ?_ ?_ rfl room ..⟩
  · rw [reg_logEvent_index _ _ _ _ _ _ (by omega) (by decide), reg_setReg_same, hasBit_setBit_same]
  · exact reg_setReg_index (by decide) (by decide) (by omega) ..
  · exact reg_setReg_index (by decide) (by decide) (by omega) ..

/-! ### Declared failures (R445, R453, R897) -/

/-- From `s` to `u` link `l` is declared failed: it is out of service, the failure is counted with its cause, and the
port it carried has its event (R453, R456). -/
def DeclaredFailed (l cause : Nat) (s u : State) : Prop :=
  linkState u l = 0 ∧ counted s u (0x4100 + l) 6 ∧ u.reg (0x4100 + l) 7 = cause ∧
    (carries s l = true → canLog s → eventLogged 456 s u)

theorem declaredFailed_linkFail {l : Nat} (hl : l < 256) (cause : Nat) (s : State) :
    DeclaredFailed l cause s (linkFail l cause s) :=
  ⟨linkState_linkFail hl .., counted_linkFail hl .., cause_linkFail hl .., eventLogged_linkFail hl cause⟩

theorem DeclaredFailed.onDev {l cause : Nat} {ps : List DevPart} (od : .od ∈ ps) (events : .events ∈ ps)
    (buffer : .eventBuffer ∈ ps) {f : State → State} {s : State} (h : DeclaredFailed l cause s (f s)) :
    DeclaredFailed l cause s (onDev ps f s) := by
  obtain ⟨down, count, reason, event⟩ := h
  refine ⟨?_, counted_onDev od count, ?_, fun carried room => eventLogged_onDev events buffer (event carried room)⟩
  · rw [linkState_onDev od, down]
  · rw [onDev_reg od, reason]

theorem trainReqReceive_service {l : Nat} {s : State} (service : linkState s l = 6 ∨ linkState s l = 8) :
    trainReqReceive l s = linkFail l 5 (hearBlock l s) := if_pos service

/-- The links of a quadrant (R897). -/
theorem refclockLoss_spec {q : Nat} (hq : q < 4) (s : State) {i : Nat} (hi : i < nLinks s / 4) :
    FailedWith 1 (q * (nLinks s / 4) + i) (refclockLoss q s) := by
  have below (m : Nat) (hm : m ∈ (List.range (nLinks s / 4)).map (q * (nLinks s / 4) + ·)) : m < 256 := by
    obtain ⟨j, hj, rfl⟩ := List.mem_map.mp hm
    have last := List.mem_range.mp hj
    have quarter : nLinks s / 4 ≤ 64 := Nat.div_le_of_le_mul (nLinks_le s)
    have start : q * (nLinks s / 4) ≤ 3 * (nLinks s / 4) := Nat.mul_le_mul_right _ (by omega)
    omega
  refine each_reaches_of_mem (P := FailedWith 1) (fun m hm t => failedWith_linkFail (below m hm) 1 t) ?_ s _
    (List.mem_map_of_mem (List.mem_range.mpr hi))
  intro m hm n hn t failed
  by_cases same : m = n
  · rw [same]
    exact failedWith_linkFail (below n hn) 1 t
  · exact (linkKept_linkFail (below n hn) 1 t).failedWith (below n hn) (below m hm) same failed

/-! ### Training again (R452, R464) -/

/-- Link `l` trains again at the speed, in DETECT or already in LOCK. -/
def Retrains (l : Nat) (lock : Bool) (speed : Nat) (s : State) : Prop :=
  linkState s l = (if lock then 2 else 1) ∧ s.reg (0x4100 + l) 2 = speed

theorem retrains_trainStart (l : Nat) (s : State) :
    Retrains l (s.link l).upLock (targetSpeed s) (trainStart l s) := ⟨linkState_trainStart .., speed_trainStart ..⟩

/-- A link that is down trains again. -/
def retrainDown (l : Nat) (s : State) : State := if linkState s l = 0 then trainStart l s else s

theorem linkKept_retrainDown (l : Nat) (s : State) : LinkKept l s (retrainDown l s) :=
  .ite _ (linkKept_trainStart ..) (.refl ..)

theorem retrains_retrainDown {l : Nat} {s : State} (down : linkState s l = 0) :
    Retrains l (s.link l).upLock (targetSpeed s) (retrainDown l s) := by
  rw [retrainDown, if_pos down]
  exact retrains_trainStart l s

theorem takedownRetrain_eq {p : Nat} {s : State} (down : (s.port p).takenDown = true) :
    takedownRetrain p s = retrainDown (2 * p + 1) (retrainDown (2 * p)
      (modPort p (fun x => { x with takenDown := false }) s)) :=
  if_pos down

theorem takedownRetrain_spec {p : Nat} (hp : p < 128) {s : State} (down : (s.port p).takenDown = true) :
    ((takedownRetrain p s).port p).takenDown = false ∧ ∀ k, k < 2 → linkState s (2 * p + k) = 0 →
      Retrains (2 * p + k) (s.link (2 * p + k)).upLock (targetSpeed s) (takedownRetrain p s) := by
  rw [takedownRetrain_eq down]
  generalize start : modPort p (fun x => { x with takenDown := false }) s = s₀
  have up : (s₀.port p).takenDown = false := by rw [← start, port_modPort_same]
  have link (m : Nat) : s₀.link m = s.link m := by rw [← start]; rfl
  have state (m : Nat) : linkState s₀ m = linkState s m := by rw [← start]; rfl
  have speed : targetSpeed s₀ = targetSpeed s := by rw [← start]; rfl
  have lower := linkKept_retrainDown (2 * p) s₀
  have upper := linkKept_retrainDown (2 * p + 1) (retrainDown (2 * p) s₀)
  refine ⟨by rw [upper.takenDown, lower.takenDown, up], fun k hk down => ?_⟩
  rw [← link, ← speed]
  obtain rfl | rfl : k = 0 ∨ k = 1 := by omega
  · obtain ⟨detect, fast⟩ := retrains_retrainDown ((state _).trans down)
    exact ⟨(upper.linkState (by omega) (by omega) (by omega)).trans detect,
      (upper.reg _ _ (by decide) (by omega) (by unfold LinkWrites; omega)).trans fast⟩
  · rw [← lower.upLock, ← lower.targetSpeed (by omega)]
    exact retrains_retrainDown ((lower.linkState (by omega) (by omega) (by omega)).trans ((state _).trans down))

/-- A link below the target speed trains again while its port is carried by the other one. -/
theorem retrains_speedRaise {l : Nat} (hl : l < 256) {s : State} (active : linkState s l = 6)
    (slow : s.reg (0x4100 + l) 2 < targetSpeed s) (alone : carries s (mate l) = true) (half : portMode s (l / 2) ≠ 0) :
    Retrains l (s.link l).upLock (targetSpeed s) (speedRaise l s) := by
  have left := linkKept_dropLink false l s
  have raise : speedRaise l s = trainStart l (dropLink false l s) := if_pos (by simp [active, slow, alone, half])
  rw [raise, ← left.upLock, ← left.targetSpeed hl]
  exact retrains_trainStart ..

/-! ### Sleep (R460) -/

theorem laneSleep_spec {l : Nat} {s : State} (may : maySleep s l = true) :
    hasBit ((laneSleep l s).reg (0x4100 + l) 0x0B) 0 = true ∧
    ((laneSleep l s).link l).sent.head? = some (sleepBlock l) := by
  unfold laneSleep
  rw [if_pos may]
  refine ⟨?_, head_sendBlock ..⟩
  rw [reg_sendBlock, reg_setReg_same, hasBit_setBit_same]

/-! ### Test loops (R467, R469, R470) -/

/-- The registers of a loop: its code, the port's flag, the state and the speed. -/
def looping (l code speed : Nat) (s : State) : State :=
  let s := s.setReg (0x4100 + l) 0x0C code
  (setLinkState l 9 (s.setReg (0x4000 + l / 2) 2 (setBit (s.reg (0x4000 + l / 2) 2) 1))).setReg (0x4100 + l) 2 speed

theorem looping_spec {l : Nat} (hl : l < 256) (code speed : Nat) (s : State) :
    linkState (looping l code speed s) l = 9 ∧ (looping l code speed s).reg (0x4100 + l) 0x0C = code ∧
    hasBit ((looping l code speed s).reg (0x4000 + l / 2) 2) 1 = true := by
  have own : 0x4100 + l ≠ 0x4000 + l / 2 := by omega
  unfold looping
  dsimp only
  refine ⟨?_, ?_, ?_⟩
  · rw [linkState_setReg (by decide) (by decide), linkState_setLinkState_same]
  · rw [reg_setReg_sub (by decide) (by decide) (by decide), setLinkState,
      reg_setReg_sub (by decide) (by decide) (by decide), reg_setReg_sub (by decide) (by decide) (by decide),
      reg_setReg_same]
  · rw [reg_setReg_index (by decide) (by decide) own, setLinkState, reg_setReg_index (by decide) (by decide) own,
      reg_setReg_same, hasBit_setBit_same]

/-- The speed of a loop (R467). -/
def loopSpeed (s : State) (l code : Nat) : Nat :=
  if code = 2 then 1
  else if s.reg (0x4100 + l) 2 ≠ 0 then s.reg (0x4100 + l) 2
  else if (s.link l).trained ≠ 0 then (s.link l).trained else targetSpeed s

/-- A loop that is allowed starts once the link has left service; the blocks sent write no register. -/
theorem reg_testLoop {l : Nat} {s : State} (allowed : testAllowed s l = true) (code x y : Nat) :
    (testLoop l code s).reg x y = (looping l code (loopSpeed s l code) (dropLink false l (endTest l s))).reg x y := by
  unfold testLoop
  simp only [allowed, Bool.not_true, Bool.false_eq_true, if_false]
  by_cases pattern : code = 3
  · rw [if_pos pattern]
    rfl
  · rw [if_neg pattern]
    rfl

theorem testLoop_spec {l : Nat} (hl : l < 256) {s : State} (allowed : testAllowed s l = true) (code : Nat) :
    linkState (testLoop l code s) l = 9 ∧ (testLoop l code s).reg (0x4100 + l) 0x0C = code ∧
    hasBit ((testLoop l code s).reg (0x4000 + l / 2) 2) 1 = true := by
  rw [linkState_def, reg_testLoop allowed, reg_testLoop allowed, reg_testLoop allowed]
  exact looping_spec hl ..

theorem testOff_spec {l : Nat} {s : State} (test : linkState s l = 9) :
    linkState (testOff l s) l = 0 ∧ (testOff l s).reg (0x4100 + l) 0x0C = 0 := by
  rw [testOff, if_pos test, reg_enterDown (by decide) (by simp)]
  exact ⟨linkState_enterDown .., loop_endTest test⟩

/-! ### The statement -/

/-- Settles O47: each command through the law of its operation. A TELEM is selected when it carries the item in force
since the last calends (log 148), and a quadrant is a quarter of the links in order of number (log 16). -/
theorem linkServiceCommands : Obligations.LinkServiceCommands := by
  unfold Obligations.LinkServiceCommands
  have range {s : State} {l : Nat} (here : l < nLinks s) : l < 256 := lt_of_lt_of_le here (nLinks_le s)
  have portRange {s : State} {p : Nat} (here : p < nPorts s) : p < 128 := lt_of_lt_of_le here (nPorts_le s)
  refine ⟨?status, ?telem, ?sleep, ?violation, ?blind, ?failure, ?refclock, ?retrain, ?raise, ?rest, ?wake, ?loop, ?off⟩
  case status =>
    intro s l b here good seq
    refine ⟨_, exec_statusReceive l b s (range here) here, ?_⟩
    simp only [linkState_onDev, onDev_reg, List.mem_cons, true_or]
    exact statusReceive_spec (range here) good seq
  case telem =>
    intro s l b here good
    refine ⟨_, exec_telemReceive l b s (range here) here, fun selected => ?_, fun other => counted_onDev (by decide) ?_⟩
    · rw [onDev_reg (by decide), telemReceive_selected good selected]
      exact reg_setReg_same ..
    · rw [telemReceive_other good other]
      exact (counted_upViolation (range here) (hearBlock l s)).1
  case sleep =>
    intro s l here
    refine ⟨_, exec_upstreamSleepReceive l _ s (range here) here, ?_⟩
    rw [onDev_reg (by decide), sleepReceive_sleep, reg_setReg_same, hasBit_setBit_same]
  case violation =>
    intro s l here
    refine ⟨_, exec_upstreamViolation l s (range here) here, ?_⟩
    have hl := range here
    obtain ⟨link, port⟩ := counted_upViolation hl (hearBlock l s)
    rw [port_onDev (by decide)]
    simp only [linkState_onDev, List.mem_cons, true_or]
    refine ⟨counted_onDev (by decide) link, counted_onDev (by decide) port, fun few => ?_, fun many up => ?_⟩
    · rw [violationReceive, upViolation_few (s := hearBlock l s) few, takenDown_violated, linkState_violated]
      exact ⟨rfl, rfl⟩
    · obtain ⟨down, falls, links, last⟩ := upViolation_many hl (s := hearBlock l s) many up
      refine ⟨down, counted_onDev (by decide) falls, links, fun trained => ?_⟩
      rw [onDev_dev, partsOf_events (by decide)]
      exact last trained
  case blind =>
    intro s p here seen awake
    obtain ⟨blind, event⟩ := portBlind_spec (portRange here) seen awake
    refine ⟨_, exec_portBlindTimeout p s (portRange here) here, ?_,
      fun room => eventLogged_onDev (by decide) (by decide) (event room)⟩
    rw [onDev_reg (by decide)]
    exact blind
  case failure =>
    intro s l cause c here fails
    rcases fails with ⟨rfl, rfl⟩ | ⟨rfl, rfl, service⟩
    · exact ⟨_, exec_linkTransmitFault l s (range here) here,
        (declaredFailed_linkFail (range here) 1 s).onDev (by decide) (by decide) (by decide)⟩
    · have failed : DeclaredFailed l 5 s (trainReqReceive l s) := by
        rw [trainReqReceive_service service]
        exact declaredFailed_linkFail (range here) 5 (hearBlock l s)
      exact ⟨_, exec_trainReqReceive l s (range here) here, failed.onDev (by decide) (by decide) (by decide)⟩
  case refclock =>
    intro s q hq
    refine ⟨_, exec_refclockLoss q s hq, fun i hi => ?_⟩
    rw [linkState_onDev (by decide), onDev_reg (by decide)]
    exact refclockLoss_spec hq s hi
  case retrain =>
    intro s p here down
    refine ⟨_, exec_portTakedownRetrain p s (portRange here) here, ?_⟩
    simp only [port_onDev, linkState_onDev, onDev_reg, List.mem_cons, true_or, or_true]
    exact takedownRetrain_spec (portRange here) down
  case raise =>
    intro s l here active slow alone half
    refine ⟨_, exec_linkSpeedRaise l s (range here) here, ?_⟩
    rw [linkState_onDev (by decide), onDev_reg (by decide)]
    exact retrains_speedRaise (range here) active slow alone half
  case rest =>
    intro s l here may
    refine ⟨_, exec_laneSleepEnter l s (range here) here, ?_⟩
    rw [onDev_reg (by decide), link_onDev (by decide)]
    exact laneSleep_spec may
  case wake =>
    intro s l here
    refine ⟨_, exec_laneWake l s (range here) here, ?_⟩
    rw [onDev_reg (by decide), laneWake, reg_setReg_same, hasBit_clearBit_same]
  case loop =>
    intro s l code c here allowed
    have started {ps : List DevPart} (od : .od ∈ ps) : linkState (onDev ps (testLoop l code) s) l = 9 ∧
        (onDev ps (testLoop l code) s).reg (0x4100 + l) 0x0C = code ∧
        hasBit ((onDev ps (testLoop l code) s).reg (0x4000 + l / 2) 2) 1 = true := by
      rw [linkState_onDev od, onDev_reg od, onDev_reg od]
      exact testLoop_spec (range here) allowed code
    rintro (⟨rfl, rfl⟩ | ⟨rfl, rfl⟩ | ⟨rfl, rfl⟩)
    · exact ⟨_, exec_testLoopNear l s (range here) here, started (by decide)⟩
    · exact ⟨_, exec_testLoopFar l s (range here) here, started (by decide)⟩
    · exact ⟨_, exec_testLoopPattern l s (range here) here, started (by decide)⟩
  case off =>
    intro s l here test
    refine ⟨_, exec_testLoopOff l s (range here) here, ?_⟩
    rw [linkState_onDev (by decide), onDev_reg (by decide)]
    exact testOff_spec test

end Sys2Proof.Machine
end

section
/-!
SUPPORT. The column driver of a port: what an operation on one lane changes, what STATUS reports and clears, and what
the commands of a calends leave alone (R416, R429, R435, R436).
-/
namespace Sys2Proof.Machine

/-! ### Lanes -/

/-- A driver without its lanes. -/
def bare (d : Driver) : Driver := { d with lower := {}, upper := {} }

theorem driver_drawFree (s : State) (p : Nat) : (drawFree s).driver p = s.driver p := rfl

theorem laneOf_drawFree (s : State) (k : Nat) : laneOf (drawFree s) k = laneOf s k := rfl

theorem lower_eq_laneOf (s : State) (p : Nat) : (s.driver p).lower = laneOf s (2 * p) := by
  rw [laneOf, if_pos (by omega), show 2 * p / 2 = p by omega]

theorem upper_eq_laneOf (s : State) (p : Nat) : (s.driver p).upper = laneOf s (2 * p + 1) := by
  rw [laneOf, if_neg (by omega), show (2 * p + 1) / 2 = p by omega]

theorem laneOf_modLane (l : Nat) (f : DriverLane → DriverLane) (s : State) (k : Nat) :
    laneOf (modLane l f s) k = if k = l then f (laneOf s l) else laneOf s k := by
  unfold laneOf modLane
  rw [driver_modDriver]
  by_cases same : k = l
  · subst same
    rw [if_pos rfl, if_pos rfl]
    by_cases even : k % 2 = 0
    · simp only [even, if_true]
    · simp only [even, if_false]
  · rw [if_neg same]
    by_cases port : l / 2 = k / 2
    · rw [if_pos port, port]
      obtain ⟨even, odd⟩ | ⟨even, odd⟩ : (l % 2 = 0 ∧ k % 2 ≠ 0) ∨ (l % 2 ≠ 0 ∧ k % 2 = 0) := by omega
      · simp only [even, odd, if_true, if_false]
      · simp only [even, odd, if_true, if_false]
    · rw [if_neg port]

@[simp] theorem laneOf_modLane_same (l : Nat) (f : DriverLane → DriverLane) (s : State) :
    laneOf (modLane l f s) l = f (laneOf s l) := by rw [laneOf_modLane, if_pos rfl]

theorem laneOf_modLane_other {l k : Nat} (other : k ≠ l) (f : DriverLane → DriverLane) (s : State) :
    laneOf (modLane l f s) k = laneOf s k := by rw [laneOf_modLane, if_neg other]

/-- A change of a lane leaves the rest of the driver alone. -/
theorem bare_modLane (l : Nat) (f : DriverLane → DriverLane) (s : State) (p : Nat) :
    bare ((modLane l f s).driver p) = bare (s.driver p) := by
  rw [modLane, driver_modDriver]
  split
  · next port =>
    rw [port]
    split <;> rfl
  · rfl

/-- A change of the driver that leaves its lanes alone. -/
theorem laneOf_modDriver {f : Driver → Driver} (lower : ∀ d, (f d).lower = d.lower) (upper : ∀ d, (f d).upper = d.upper)
    (p : Nat) (s : State) (k : Nat) : laneOf (modDriver p f s) k = laneOf s k := by
  unfold laneOf
  rw [driver_modDriver]
  by_cases port : p = k / 2
  · rw [if_pos port, port, lower, upper]
  · rw [if_neg port]

section Scope
variable {ps : List DevPart}

theorem driver_onDev (drivers : .drivers ∈ ps) (f : State → State) (s : State) (p : Nat) :
    (onDev ps f s).driver p = (f s).driver p := by
  simp only [State.driver, onDev_dev, partsOf_drivers drivers]

theorem laneOf_onDev (drivers : .drivers ∈ ps) (f : State → State) (s : State) (l : Nat) :
    laneOf (onDev ps f s) l = laneOf (f s) l := by
  simp only [laneOf, driver_onDev drivers]

end Scope

/-! ### Blocks sent and heard -/

/-- Sending a block changes what the lane has sent, nothing else of it. -/
theorem laneOf_upSend (l b : Nat) (s : State) : ∃ w, laneOf (upSend l b s) l =
    { laneOf s l with out := (b :: (laneOf s l).out).take 16, wire := w } := ⟨_, laneOf_modLane_same ..⟩

theorem laneOf_upSend_other {l k : Nat} (other : k ≠ l) (b : Nat) (s : State) :
    laneOf (upSend l b s) k = laneOf s k := laneOf_modLane_other other ..

theorem bare_upSend (l b : Nat) (s : State) (p : Nat) : bare ((upSend l b s).driver p) = bare (s.driver p) :=
  bare_modLane ..

@[simp] theorem out_upSend (l b : Nat) (s : State) :
    (laneOf (upSend l b s) l).out = (b :: (laneOf s l).out).take 16 := by
  obtain ⟨_, e⟩ := laneOf_upSend l b s
  rw [e]

theorem head_upSend (l b : Nat) (s : State) : (laneOf (upSend l b s) l).out.head? = some b := by simp

theorem step_upSend (l b : Nat) (s : State) : (laneOf (upSend l b s) l).step = (laneOf s l).step := by
  obtain ⟨_, e⟩ := laneOf_upSend l b s
  rw [e]

theorem laneOf_hearDown (l : Nat) (s : State) :
    laneOf (hearDown l s) l = { laneOf s l with rx := (laneOf s l).rx.hear s.now } := laneOf_modLane_same ..

/-- A block heard on one lane changes receivers alone. -/
theorem laneOf_hearDown_any (l k : Nat) (s : State) : ∃ rx, laneOf (hearDown l s) k = { laneOf s k with rx := rx } := by
  by_cases same : k = l
  · rw [same]
    exact ⟨_, laneOf_hearDown l s⟩
  · exact ⟨_, laneOf_modLane_other same ..⟩

theorem bare_hearDown (l : Nat) (s : State) (p : Nat) : bare ((hearDown l s).driver p) = bare (s.driver p) :=
  bare_modLane ..

/-! ### STATUS (R435, R436) -/

/-- The STATUS that link `l`'s lane would send. -/
def statusOf (l margin : Nat) (urgent : Bool) (s : State) : Nat :=
  statusBlock (laneOf s l).link (s.driver (l / 2)).lower.lock (s.driver (l / 2)).upper.lock urgent
    (s.driver (l / 2)).feMiss (s.driver (l / 2)).emit margin (laneOf s l).accepted (laneOf s l).discards

/-- STATUS is sent, the lane is awake and its discards are reported. -/
theorem laneOf_sendStatus (l margin : Nat) (urgent : Bool) (s : State) : ∃ w,
    laneOf (sendStatus l margin urgent s) l =
      { laneOf s l with out := (statusOf l margin urgent s :: (laneOf s l).out).take 16, wire := w, discards := 0
                        upAsleep := false } := by
  obtain ⟨w, e⟩ := laneOf_upSend l (statusOf l margin urgent s) s
  refine ⟨w, ?_⟩
  unfold sendStatus
  dsimp only
  rw [laneOf_modDriver (f := fun d => { d with feMiss := false }) (fun _ => rfl) (fun _ => rfl), laneOf_modLane_same]
  change { laneOf (upSend l (statusOf l margin urgent s) s) l with discards := 0, upAsleep := false } = _
  rw [e]

theorem laneOf_sendStatus_other {l k : Nat} (other : k ≠ l) (margin : Nat) (urgent : Bool) (s : State) :
    laneOf (sendStatus l margin urgent s) k = laneOf s k := by
  unfold sendStatus
  dsimp only
  rw [laneOf_modDriver (f := fun d => { d with feMiss := false }) (fun _ => rfl) (fun _ => rfl),
    laneOf_modLane_other other, laneOf_upSend_other other]

/-- Beside the lane STATUS clears FE_MISS alone. -/
theorem bare_sendStatus (l margin : Nat) (urgent : Bool) (s : State) :
    bare ((sendStatus l margin urgent s).driver (l / 2)) = { bare (s.driver (l / 2)) with feMiss := false } := by
  have lanes : bare ((modLane l (fun x => { x with discards := 0, upAsleep := false })
      (upSend l (statusOf l margin urgent s) s)).driver (l / 2)) = bare (s.driver (l / 2)) :=
    (bare_modLane ..).trans (bare_upSend ..)
  rw [← lanes]
  exact congrArg bare (driver_modDriver_same ..)

/-- An urgent STATUS goes out on a lane that is trained (R435). -/
def urgentOn (l : Nat) (s : State) : State :=
  if (laneOf s l).step = 0 then sendStatus l (freeValue s % 64) true s else s

theorem urgentStatus_eq (p : Nat) (s : State) :
    urgentStatus p s = drawFree (urgentOn (2 * p + 1) (urgentOn (2 * p) s)) := by
  unfold urgentOn
  rw [← lower_eq_laneOf, ← upper_eq_laneOf]
  rfl

theorem laneOf_urgentOn_other {l k : Nat} (other : k ≠ l) (s : State) : laneOf (urgentOn l s) k = laneOf s k := by
  unfold urgentOn
  split
  · exact laneOf_sendStatus_other other ..
  · rfl

/-- An urgent STATUS leaves lane and receiver in training and lock as they were. -/
theorem kept_urgentOn (l k : Nat) (s : State) :
    (laneOf (urgentOn l s) k).rx = (laneOf s k).rx ∧ (laneOf (urgentOn l s) k).step = (laneOf s k).step := by
  by_cases same : k = l
  · subst same
    unfold urgentOn
    split
    · obtain ⟨_, e⟩ := laneOf_sendStatus k (freeValue s % 64) true s
      rw [e]
      exact ⟨rfl, rfl⟩
    · exact ⟨rfl, rfl⟩
  · rw [laneOf_urgentOn_other same]
    exact ⟨rfl, rfl⟩

/-- Beside the lanes an urgent STATUS changes FE_MISS alone. -/
theorem bare_urgentOn (l : Nat) (s : State) : ∃ miss,
    bare ((urgentOn l s).driver (l / 2)) = { bare (s.driver (l / 2)) with feMiss := miss } := by
  unfold urgentOn
  split
  · exact ⟨_, bare_sendStatus ..⟩
  · exact ⟨_, rfl⟩

theorem bare_urgentStatus (p : Nat) (s : State) : ∃ miss,
    bare ((urgentStatus p s).driver p) = { bare (s.driver p) with feMiss := miss } := by
  obtain ⟨_, first⟩ := bare_urgentOn (2 * p) s
  obtain ⟨_, second⟩ := bare_urgentOn (2 * p + 1) (urgentOn (2 * p) s)
  rw [show 2 * p / 2 = p by omega] at first
  rw [show (2 * p + 1) / 2 = p by omega, first] at second
  rw [urgentStatus_eq, driver_drawFree, second]
  exact ⟨_, rfl⟩

theorem rx_urgentStatus (p k : Nat) (s : State) : (laneOf (urgentStatus p s) k).rx = (laneOf s k).rx := by
  rw [urgentStatus_eq, laneOf_drawFree, (kept_urgentOn ..).1, (kept_urgentOn ..).1]

theorem head_urgentOn {l : Nat} {s : State} (trained : (laneOf s l).step = 0) :
    (laneOf (urgentOn l s) l).out.head? = some (statusOf l (freeValue s % 64) true s) := by
  obtain ⟨_, e⟩ := laneOf_sendStatus l (freeValue s % 64) true s
  rw [urgentOn, if_pos trained, e]
  rfl

/-- The lanes' locks and EMIT that a STATUS reports are not changed by a STATUS on the other lane. -/
theorem head_urgentStatus {p k : Nat} {s : State} (port : k / 2 = p) (trained : (laneOf s k).step = 0) :
    ∃ fe m, (laneOf (urgentStatus p s) k).out.head? = some (statusBlock (laneOf s k).link (s.driver p).lower.lock
      (s.driver p).upper.lock true fe (s.driver p).emit m (laneOf s k).accepted (laneOf s k).discards) := by
  rw [urgentStatus_eq, laneOf_drawFree]
  obtain rfl | rfl : k = 2 * p ∨ k = 2 * p + 1 := by omega
  · rw [laneOf_urgentOn_other (by omega), head_urgentOn trained, statusOf, port]
    exact ⟨_, _, rfl⟩
  · have lane : laneOf (urgentOn (2 * p) s) (2 * p + 1) = laneOf s (2 * p + 1) := laneOf_urgentOn_other (by omega) s
    obtain ⟨miss, rest⟩ := bare_urgentOn (2 * p) s
    rw [show 2 * p / 2 = p by omega] at rest
    have emit : ((urgentOn (2 * p) s).driver p).emit = (s.driver p).emit := (congrArg Driver.emit rest :)
    have lower : ((urgentOn (2 * p) s).driver p).lower.rx = (s.driver p).lower.rx := by
      rw [lower_eq_laneOf, lower_eq_laneOf, (kept_urgentOn ..).1]
    have upper : ((urgentOn (2 * p) s).driver p).upper.rx = (s.driver p).upper.rx := by
      rw [upper_eq_laneOf, upper_eq_laneOf, (kept_urgentOn ..).1]
    rw [head_urgentOn (by rw [lane, trained]), statusOf, port, lane, emit, DriverLane.lock, DriverLane.lock, lower,
      upper]
    exact ⟨_, _, rfl⟩

/-! ### The commands of a calends (R429, R432) -/

/-- CURRENT_LIMIT and EMIT after a command. -/
theorem driverCommand_settings (d : Driver) (c : Nat × Nat) :
    (driverCommand d c).current = (if c.1 = 1 then c.2 % 4096 else d.current) ∧
    (driverCommand d c).emit = (if c.1 = 3 then hasBit c.2 0 else d.emit) := by
  unfold driverCommand
  split
  case h_1 one => simp [one]
  case h_2 two => simp [two]
  case h_3 three => simp [three]
  case h_4 four => simp [four]
  case h_5 five => simp [five]
  case h_6 one _ three _ _ => exact ⟨(if_neg one).symm, (if_neg three).symm⟩

/-- CURRENT_LIMIT and EMIT after commands depend on what they were before, not on rows or lanes. -/
theorem commands_settings (cs : List (Nat × Nat)) {d e : Driver} (current : d.current = e.current)
    (emit : d.emit = e.emit) : (cs.foldl driverCommand d).current = (cs.foldl driverCommand e).current ∧
      (cs.foldl driverCommand d).emit = (cs.foldl driverCommand e).emit := by
  induction cs generalizing d e with
  | nil => exact ⟨current, emit⟩
  | cons c cs ih =>
    obtain ⟨dCurrent, dEmit⟩ := driverCommand_settings d c
    obtain ⟨eCurrent, eEmit⟩ := driverCommand_settings e c
    refine ih ?_ ?_
    · rw [dCurrent, eCurrent, current]
    · rw [dEmit, eEmit, emit]

/-- What shows lines: rows, the lines shown in HALF, and the lanes' SEQs. -/
def shows (d : Driver) : AMap (List Nat) × List (Nat × Bool) × Option Nat × Option Nat × Nat × Nat :=
  (d.rows, d.halfLines, d.lower.seq, d.upper.seq, d.lower.accepted, d.upper.accepted)

theorem shows_driverCommand (d : Driver) (c : Nat × Nat) : shows (driverCommand d c) = shows d := by
  unfold driverCommand
  split <;> rfl

theorem shows_commands (cs : List (Nat × Nat)) (d : Driver) : shows (cs.foldl driverCommand d) = shows d := by
  induction cs generalizing d with
  | nil => rfl
  | cons c cs ih => rw [List.foldl_cons, ih, shows_driverCommand]

theorem shows_wakeUp (d : Driver) : shows (wakeUp d) = shows d := by
  unfold wakeUp
  split <;> rfl

end Sys2Proof.Machine
end

section
/-!
PROOF. The column driver of a port: power-up, lines, keeps, commands, training, and what it reports (R416 to R438, R445,
R446, R462, R467).
-/
namespace Sys2Proof.Machine

/-! ### Power-up, lock and training (R426, R438, R445, R446) -/

theorem driverPowerUp_bare (p : Nat) (s : State) : bare ((driverPowerUp p s).driver p) = bare {} := by
  rw [driverPowerUp, bare_upSend, bare_upSend, driver_modDriver_same]

/-- Both lanes of a driver just powered up ask for training. -/
theorem driverPowerUp_lanes {p k : Nat} (hk : k < 2) (s : State) :
    (laneOf (driverPowerUp p s) (2 * p + k)).step = 15 ∧
    (laneOf (driverPowerUp p s) (2 * p + k)).out.head? = some (trainUp 15 false 0) := by
  have new : laneOf (modDriver p (fun _ => {}) s) (2 * p + k) = {} := by
    rw [laneOf, show (2 * p + k) / 2 = p by omega, driver_modDriver_same, ite_self]
  unfold driverPowerUp
  obtain rfl | rfl : k = 0 ∨ k = 1 := by omega
  · rw [laneOf_upSend_other (by omega)]
    exact ⟨by rw [Nat.add_zero] at new; rw [Nat.add_zero, step_upSend, new], head_upSend ..⟩
  · rw [step_upSend, laneOf_upSend_other (by omega), new]
    exact ⟨rfl, head_upSend ..⟩

theorem downLockLoss_unlocked {l : Nat} {s : State} (awake : (laneOf s l).asleep = false)
    (locked : (laneOf s l).lock = true) : (laneOf (downLockLoss l s) l).lock = false := by
  rw [downLockLoss, if_neg (by simp [awake, locked]), DriverLane.lock, rx_urgentStatus, laneOf_modLane_same]
  exact Receiver.loss_unlocked _

theorem downLockGain_locked (l : Nat) (s : State) :
    (laneOf (downLockGain l s) l).lock = true ∧ (laneOf (downLockGain l s) l).asleep = false := by
  rw [downLockGain, laneOf_modLane_same]
  exact ⟨Receiver.gain_locked .., rfl⟩

/-- A lane without lock asks for training (R445). -/
def requestTraining (l : Nat) (s : State) : State :=
  if (laneOf s l).lock then s
  else upSend l (trainUp 15 false 0) (modLane l (fun x => { x with step := 15, seq := none, cap := false }) s)

theorem lockLossTimeout_eq (p : Nat) (s : State) :
    lockLossTimeout p s = requestTraining (2 * p + 1) (requestTraining (2 * p) s) := rfl

theorem laneOf_requestTraining_other {l k : Nat} (other : k ≠ l) (s : State) :
    laneOf (requestTraining l s) k = laneOf s k := by
  unfold requestTraining
  split
  · rfl
  · rw [laneOf_upSend_other other, laneOf_modLane_other other]

theorem requestTraining_unlocked {l : Nat} {s : State} (lost : (laneOf s l).lock = false) :
    (laneOf (requestTraining l s) l).step = 15 ∧
    (laneOf (requestTraining l s) l).out.head? = some (trainUp 15 false 0) := by
  rw [requestTraining, if_neg (by simp [lost]), step_upSend, laneOf_modLane_same]
  exact ⟨rfl, head_upSend ..⟩

theorem lockLossTimeout_unlocked {p k : Nat} (hk : k < 2) {s : State} (lost : (laneOf s (2 * p + k)).lock = false) :
    (laneOf (lockLossTimeout p s) (2 * p + k)).step = 15 ∧
    (laneOf (lockLossTimeout p s) (2 * p + k)).out.head? = some (trainUp 15 false 0) := by
  rw [lockLossTimeout_eq]
  obtain rfl | rfl : k = 0 ∨ k = 1 := by omega
  · rw [laneOf_requestTraining_other (by omega)]
    exact requestTraining_unlocked lost
  · exact requestTraining_unlocked (by rw [laneOf_requestTraining_other (by omega), lost])

/-- A TRAIN gives the lane its STEP; STEP 6 ends training, and the next SEQ passes. -/
theorem driverTrain_step {l b : Nat} {s : State} (good : trainDownGood b = true) (low : 1 ≤ bits b 11 8)
    (high : bits b 11 8 ≤ 6) :
    (laneOf (driverTrain l b s) l).step = (if bits b 11 8 = 6 then 0 else bits b 11 8) ∧
    (bits b 11 8 = 6 → (laneOf (driverTrain l b s) l).seq = none) := by
  unfold driverTrain
  dsimp only
  rw [if_pos ⟨good, low, high⟩, laneOf_modLane_same]
  exact ⟨rfl, fun six => if_pos six⟩

theorem driverTrain_cap {l b : Nat} {s : State} (bad : trainDownGood b = false) (good : capGood b = true) :
    (laneOf (driverTrain l b s) l).link = bits b 15 8 ∧ ((driverTrain l b s).driver (l / 2)).wide = hasBit b 17 := by
  unfold driverTrain
  dsimp only
  rw [if_neg (by simp [bad]), if_pos good, driver_modDriver_same,
    laneOf_modDriver (f := fun d => { d with wide := hasBit b 17 }) (fun _ => rfl) (fun _ => rfl), laneOf_modLane_same]
  exact ⟨rfl, rfl⟩

/-! ### What the driver sends (R435 to R437, R446, R467) -/

theorem driverStatus_spec {l margin : Nat} {s : State} (trained : (laneOf s l).step = 0) :
    (laneOf (driverStatus l margin s) l).discards = 0 ∧ ((driverStatus l margin s).driver (l / 2)).feMiss = false ∧
    (laneOf (driverStatus l margin s) l).out.head? = some (statusOf l margin false s) := by
  obtain ⟨_, e⟩ := laneOf_sendStatus l margin false s
  have rest := bare_sendStatus l margin false s
  rw [driverStatus, if_pos trained, e]
  exact ⟨rfl, (congrArg Driver.feMiss rest :), rfl⟩

theorem driverTelem_selected {l value : Nat} {s : State} (trained : (laneOf s l).step = 0)
    (low : 1 ≤ (s.driver (l / 2)).telem) (high : (s.driver (l / 2)).telem ≤ 8) :
    driverTelem l value s =
      (let t := upSend l (telemBlock (laneOf s l).link (s.driver (l / 2)).telem value) s
       if (s.driver (l / 2)).upSleep then
         upSend l (sleepBlock (laneOf s l).link) (modLane l (fun x => { x with upAsleep := true }) t)
       else t) := if_pos ⟨trained, low, high⟩

theorem driverTelem_spec {l value : Nat} {s : State} (trained : (laneOf s l).step = 0)
    (low : 1 ≤ (s.driver (l / 2)).telem) (high : (s.driver (l / 2)).telem ≤ 8) :
    ((s.driver (l / 2)).upSleep = false → (laneOf (driverTelem l value s) l).out.head? =
      some (telemBlock (laneOf s l).link (s.driver (l / 2)).telem value)) ∧
    ((s.driver (l / 2)).upSleep = true → (laneOf (driverTelem l value s) l).upAsleep = true ∧
      (laneOf (driverTelem l value s) l).out.take 2 =
        [sleepBlock (laneOf s l).link, telemBlock (laneOf s l).link (s.driver (l / 2)).telem value]) := by
  rw [driverTelem_selected trained low high]
  refine ⟨fun awake => ?_, fun sleeps => ?_⟩
  · rw [awake]
    exact head_upSend ..
  · rw [sleeps]
    dsimp only
    obtain ⟨_, first⟩ := laneOf_upSend l (telemBlock (laneOf s l).link (s.driver (l / 2)).telem value) s
    obtain ⟨_, second⟩ := laneOf_upSend l (sleepBlock (laneOf s l).link)
      (modLane l (fun x => { x with upAsleep := true })
        (upSend l (telemBlock (laneOf s l).link (s.driver (l / 2)).telem value) s))
    rw [if_pos rfl, second, laneOf_modLane_same, first]
    exact ⟨rfl, by simp⟩

theorem driverTelem_reserved {l value : Nat} {s : State} (reserved : 8 < (s.driver (l / 2)).telem) :
    driverTelem l value s = s := if_neg (by omega)

theorem driverTrainSend_train {l margin : Nat} {s : State} (training : (laneOf s l).step ≠ 0)
    (due : (laneOf s l).step = 3 → (laneOf s l).cap = true ∨ ((laneOf s l).trains + 1) % 4 ≠ 0) :
    (laneOf (driverTrainSend l margin s) l).out.head? = some (trainUp (laneOf s l).step (laneOf s l).lock margin) := by
  unfold driverTrainSend
  dsimp only
  rw [if_neg training]
  split
  · next request =>
    rw [request]
    exact head_upSend ..
  · have none : ¬((laneOf s l).step = 3 ∧ (laneOf s l).cap = false ∧ ((laneOf s l).trains + 1) % 4 = 0) := by
      rintro ⟨three, missing, fourth⟩
      exact (due three).elim (by simp [missing]) (· fourth)
    rw [if_neg none, laneOf_modLane_same]
    exact head_upSend ..

theorem driverTrainSend_caps {l margin : Nat} {s : State} (three : (laneOf s l).step = 3)
    (missing : (laneOf s l).cap = false) (fourth : ((laneOf s l).trains + 1) % 4 = 0) :
    (laneOf (driverTrainSend l margin s) l).out.take 3 =
      (capUpBlocks (l / 2)).reverse ++ [trainUp 3 (laneOf s l).lock margin] := by
  obtain ⟨first, second, parts⟩ : ∃ first second, capUpBlocks (l / 2) = [first, second] := ⟨_, _, rfl⟩
  unfold driverTrainSend
  dsimp only
  rw [if_neg (by omega), if_neg (by omega), if_pos ⟨three, missing, fourth⟩, parts, three]
  simp [State.each]

theorem patternEnd_confirm {l errors : Nat} {s : State} (confirm : (laneOf s l).step = 5) :
    (laneOf (patternEnd l errors s) l).out.head? = some (resultBlock errors) := by
  have step : (laneOf (hearDown l s) l).step = 5 := by rw [laneOf_hearDown, confirm]
  rw [patternEnd, if_pos step]
  exact head_upSend ..

theorem patternResult_loop {l errors : Nat} {s : State} (test : s.reg (0x4100 + l) 1 = 9)
    (loop : s.reg (0x4100 + l) 0x0C = 3) :
    (laneOf (patternResult l errors s) l).out.head? = some (resultBlock errors) := by
  rw [patternResult, if_pos ⟨test, loop⟩]
  exact head_upSend ..

/-! ### Frame ends and the calends (R432, R433) -/

/-- The first intact copy of a frame end gives the commands. -/
theorem frameEndReceive_intact {l head : Nat} {cmds : List Nat} {s : State}
    (good : blockGood (laneOf s l).link head = true) (type : blockType head = 0x55) (reserved : bits head 47 46 = 0)
    (count : bits head 43 40 = cmds.length)
    (each : ∀ c ∈ cmds, blockGood (laneOf s l).link c = true ∧ blockType c = 0x66)
    (first : (s.driver (l / 2)).commands = none) :
    ((frameEndReceive l head cmds s).driver (l / 2)).commands =
      some (cmds.map fun c => (bits c 15 8, bits c 47 16)) := by
  have link : (laneOf (hearDown l s) l).link = (laneOf s l).link := by rw [laneOf_hearDown]
  have none : ((hearDown l s).driver (l / 2)).commands = Option.none :=
    ((congrArg Driver.commands (bare_hearDown l s (l / 2)) :)).trans first
  have all : (cmds.all fun c => blockGood (laneOf s l).link c && blockType c == 0x66) = true := by
    simpa [List.all_eq_true] using each
  unfold frameEndReceive
  simp only [link, none, all, good, type, reserved, count, beq_self_eq_true, Bool.and_self, Option.isNone_none, if_true]
  rw [driver_modDriver_same]

/-- Where LINE 0 marks the calends (R416). -/
def marksCalends (l line : Nat) (d : Driver) : Prop :=
  line = 0 ∧ ((l % 2 = 0 ∧ d.lower.lock) ∨ (l % 2 = 1 ∧ d.lower.lock = false))

/-- A driver at the calends: stored commands take effect, or their lack is noted (R432). -/
def atCalends (d : Driver) : Driver :=
  match d.commands with
  | none => { d with halfLines := [], feMiss := true }
  | some cs => wakeUp { cs.foldl driverCommand { d with halfLines := [] } with commands := none }

theorem driverCalends_marked {l line : Nat} {s : State} (marks : marksCalends l line (s.driver (l / 2))) :
    (driverCalends l line s).driver (l / 2) = atCalends (s.driver (l / 2)) := by
  unfold marksCalends at marks
  unfold driverCalends
  dsimp only
  rw [if_pos marks, driver_modDriver_same]
  rfl

theorem driverCalends_unmarked {l line : Nat} {s : State} (other : ¬marksCalends l line (s.driver (l / 2))) :
    driverCalends l line s = s := if_neg other

theorem shows_atCalends (d : Driver) : shows (atCalends d) = shows { d with halfLines := [] } := by
  unfold atCalends
  split
  · rfl
  · next cs _ => exact (shows_wakeUp _).trans (shows_commands cs { d with halfLines := [] })

/-- A calends leaves rows and the lanes' SEQs alone, and notes no line as shown in HALF. -/
theorem driverCalends_kept (l line : Nat) (s : State) :
    ((driverCalends l line s).driver (l / 2)).rows = (s.driver (l / 2)).rows ∧
    (laneOf (driverCalends l line s) l).seq = (laneOf s l).seq ∧
    ∀ x, (s.driver (l / 2)).halfLines.contains x = false →
      ((driverCalends l line s).driver (l / 2)).halfLines.contains x = false := by
  by_cases marks : marksCalends l line (s.driver (l / 2))
  · have same := shows_atCalends (s.driver (l / 2))
    simp only [shows, Prod.mk.injEq] at same
    obtain ⟨rows, half, lower, upper, -, -⟩ := same
    unfold laneOf
    rw [driverCalends_marked marks]
    refine ⟨rows, ?_, fun x _ => ?_⟩
    · split
      · exact lower
      · exact upper
    · rw [half]
      rfl
  · rw [driverCalends_unmarked marks]
    exact ⟨rfl, rfl, fun _ => id⟩

theorem atCalends_stored {d : Driver} {cs : List (Nat × Nat)} (stored : d.commands = some cs) :
    atCalends d = wakeUp { cs.foldl driverCommand { d with halfLines := [] } with commands := none } := by
  unfold atCalends
  split
  · next missing => exact absurd (stored.symm.trans missing) (by simp)
  · next _ same => rw [Option.some.inj (same.symm.trans stored)]

/-- What a calends with commands puts in force. -/
theorem atCalends_commands {d e : Driver} {cs : List (Nat × Nat)} (stored : d.commands = some cs)
    (current : d.current = e.current) (emit : d.emit = e.emit) :
    (atCalends d).commands = none ∧ (atCalends d).current = (cs.foldl driverCommand e).current ∧
    (atCalends d).emit = (cs.foldl driverCommand e).emit := by
  obtain ⟨limit, lit⟩ := commands_settings cs (d := { d with halfLines := [] }) (e := e) current emit
  rw [atCalends_stored stored, wakeUp]
  split
  · exact ⟨rfl, limit, lit⟩
  · exact ⟨rfl, limit, lit⟩

theorem atCalends_none {d : Driver} (missing : d.commands = none) : (atCalends d).feMiss = true := by
  unfold atCalends
  rw [missing]

/-! ### Keeps (R422, R423) -/

/-- SEQ of an intact SOL or KEEP is the last one seen. -/
def seqSeen (l seq : Nat) (s : State) : State := modLane l (fun x => { x with seq := some seq }) (hearDown l s)

theorem seeSeq_none {l seq : Nat} {s : State} (none : skipped (laneOf s l) seq = 0) :
    seeSeq l seq (hearDown l s) = seqSeen l seq s := by
  have same : skipped (laneOf (hearDown l s) l) seq = 0 := by rw [laneOf_hearDown]; exact none
  exact if_pos same

theorem laneOf_seqSeen (l seq : Nat) (s : State) :
    laneOf (seqSeen l seq s) l = { laneOf s l with rx := (laneOf s l).rx.hear s.now, seq := some seq } := by
  rw [seqSeen, laneOf_modLane_same, laneOf_hearDown]

theorem bare_seqSeen (l seq : Nat) (s : State) (p : Nat) : bare ((seqSeen l seq s).driver p) = bare (s.driver p) :=
  (bare_modLane ..).trans (bare_hearDown ..)

/-- The state of an accepted KEEP before the calends is looked at. -/
def keptLine (l seq : Nat) (s : State) : State := modLane l (fun x => { x with accepted := seq }) (seqSeen l seq s)

theorem keepReceive_accepted {l b : Nat} {s : State} (good : blockGood (laneOf s l).link b = true)
    (type : blockType b = 0x3C) (reserved : bits b 31 24 = 0) (line : bits b 23 8 ≤ 17279)
    (passes : seqPasses (laneOf s l) (bits b 47 32) = true) (none : skipped (laneOf s l) (bits b 47 32) = 0) :
    keepReceive l b s = driverCalends l (bits b 23 8) (keptLine l (bits b 47 32) s) := by
  have link : (laneOf (hearDown l s) l).link = (laneOf s l).link := by rw [laneOf_hearDown]
  have seq : seqPasses (laneOf (hearDown l s) l) (bits b 47 32) = true := by rw [laneOf_hearDown]; exact passes
  unfold keepReceive
  simp only [link, seq, good, type, reserved, not_lt.mpr line, seeSeq_none none, beq_self_eq_true, Bool.and_self,
    Bool.not_true, decide_false, Bool.or_self, Bool.false_eq_true, if_false]
  rfl

theorem bare_keptLine (l seq : Nat) (s : State) (p : Nat) : bare ((keptLine l seq s).driver p) = bare (s.driver p) :=
  (bare_modLane ..).trans (bare_seqSeen ..)

theorem laneOf_keptLine (l seq : Nat) (s : State) : laneOf (keptLine l seq s) l =
    { laneOf s l with rx := (laneOf s l).rx.hear s.now, seq := some seq, accepted := seq } := by
  rw [keptLine, laneOf_modLane_same, laneOf_seqSeen]

/-- A KEEP of line 0 on the lower link in lock marks the calends. -/
theorem keptLine_marks {l seq : Nat} {s : State} (lower : l % 2 = 0) (locked : (laneOf s l).lock = true) :
    marksCalends l 0 ((keptLine l seq s).driver (l / 2)) := by
  have lane : ((keptLine l seq s).driver (l / 2)).lower = laneOf (keptLine l seq s) l := by
    rw [lower_eq_laneOf, show 2 * (l / 2) = l by omega]
  refine ⟨rfl, .inl ⟨lower, ?_⟩⟩
  rw [lane, laneOf_keptLine]
  exact Receiver.hear_locked s.now locked

/-- The calends that an accepted KEEP marks, in terms of the driver before it. -/
theorem keepCalends_spec {l seq : Nat} {s : State} (lower : l % 2 = 0) (locked : (laneOf s l).lock = true) :
    (∀ cs, (s.driver (l / 2)).commands = some cs →
      ((driverCalends l 0 (keptLine l seq s)).driver (l / 2)).commands = none ∧
      ((driverCalends l 0 (keptLine l seq s)).driver (l / 2)).current =
        (cs.foldl driverCommand (s.driver (l / 2))).current ∧
      ((driverCalends l 0 (keptLine l seq s)).driver (l / 2)).emit = (cs.foldl driverCommand (s.driver (l / 2))).emit) ∧
    ((s.driver (l / 2)).commands = none → ((driverCalends l 0 (keptLine l seq s)).driver (l / 2)).feMiss = true) := by
  have rest := bare_keptLine l seq s (l / 2)
  have commands : ((keptLine l seq s).driver (l / 2)).commands = _ := (congrArg Driver.commands rest :)
  rw [driverCalends_marked (keptLine_marks lower locked)]
  exact ⟨fun cs stored =>
      atCalends_commands (commands.trans stored) (congrArg Driver.current rest :) (congrArg Driver.emit rest :),
    fun missing => atCalends_none (commands.trans missing)⟩

/-! ### Lines (R417 to R424) -/

/-- A packet covers its own half-row, or both (R405). -/
theorem shownCodes_halves (wide : Bool) (depth half replicate payload : Nat) :
    (shownCodes wide depth half replicate payload).map Prod.fst = if depth = 0 then [half] else [0, 1] := by
  match depth with
  | 0 => rfl
  | 1 => rfl
  | _ + 2 => rfl

theorem shownCodes_half_lt {wide : Bool} {depth half replicate payload : Nat} (hh : half < 2) {r : Nat × List Nat}
    (hr : r ∈ shownCodes wide depth half replicate payload) : r.1 < 2 := by
  have mem := List.mem_map_of_mem (f := Prod.fst) hr
  rw [shownCodes_halves] at mem
  split at mem
  · rw [List.mem_singleton.mp mem]
    exact hh
  · simp only [List.mem_cons, List.not_mem_nil, or_false] at mem
    omega

/-- Writes at different half-rows are all there at the end. -/
theorem amGet_foldl_amPut_mem {α : Type} {xs : List (Nat × α)} (distinct : (xs.map Prod.fst).Nodup) (base : Nat)
    (m : AMap α) : ∀ r ∈ xs, amGet (xs.foldl (fun m r => amPut m (base + r.1) r.2) m) (base + r.1) = some r.2 := by
  induction xs using List.reverseRecOn with
  | nil => simp
  | append_singleton xs x ih =>
    rw [List.map_append, List.nodup_append] at distinct
    obtain ⟨before, -, apart⟩ := distinct
    intro r hr
    rw [List.foldl_append, List.foldl_cons, List.foldl_nil]
    rcases List.mem_append.mp hr with hr | hr
    · have other : x.1 ≠ r.1 := (apart r.1 (List.mem_map_of_mem hr) x.1 (by simp)).symm
      rw [amGet_amPut_other _ _ (by omega)]
      exact ih before r hr
    · rw [List.mem_singleton.mp hr, amGet_amPut_same]

theorem amGet_foldl_amPut_other {α : Type} {xs : List (Nat × α)} {base k : Nat} (other : ∀ r ∈ xs, base + r.1 ≠ k)
    (m : AMap α) : amGet (xs.foldl (fun m r => amPut m (base + r.1) r.2) m) k = amGet m k := by
  induction xs generalizing m with
  | nil => rfl
  | cons x xs ih =>
    rw [List.foldl_cons, ih fun r hr => other r (List.mem_cons_of_mem x hr),
      amGet_amPut_other _ _ (other x List.mem_cons_self)]

/-- The payload of the data part of a packet. -/
def packetPayload (wide : Bool) (depth : Nat) (data : List Nat) : Nat :=
  leNat ((packLE 8 data).take (dataBytes wide depth - 4))

/-- A driver after a line packet has been shown. -/
def lineShown (l line depth : Nat) (wide : Bool) (data : List Nat) (d : Driver) : Driver :=
  { d with rows := (shownCodes wide depth (l % 2) (max 1 d.replicate) (packetPayload wide depth data)).foldl
             (fun m r => amPut m (2 * line + r.1) r.2) d.rows
           halfLines := if depth = 1 then (line, l % 2 == 1) :: d.halfLines else d.halfLines }

/-- The state of a packet that is accepted, before its line is shown. -/
def lineAccepted (l line seq : Nat) (s : State) : State :=
  modLane l (fun x => { x with accepted := seq }) (driverCalends l line (seqSeen l seq s))

theorem lineAccepted_kept (l line seq : Nat) (s : State) :
    ((lineAccepted l line seq s).driver (l / 2)).rows = (s.driver (l / 2)).rows ∧
    ∀ x, (s.driver (l / 2)).halfLines.contains x = false →
      ((lineAccepted l line seq s).driver (l / 2)).halfLines.contains x = false := by
  obtain ⟨rows, -, half⟩ := driverCalends_kept l line (seqSeen l seq s)
  have lanes := bare_modLane l (fun x => { x with accepted := seq }) (driverCalends l line (seqSeen l seq s)) (l / 2)
  have seen := bare_seqSeen l seq s (l / 2)
  have halfLanes : ((lineAccepted l line seq s).driver (l / 2)).halfLines = _ := (congrArg Driver.halfLines lanes :)
  have halfSeen : ((seqSeen l seq s).driver (l / 2)).halfLines = _ := (congrArg Driver.halfLines seen :)
  refine ⟨((congrArg Driver.rows lanes :).trans rows).trans (congrArg Driver.rows seen :), fun x free => ?_⟩
  rw [halfLanes]
  exact half x (by rw [halfSeen]; exact free)

theorem solReceive_accepted {l sol : Nat} {data : List Nat} {wide : Bool} {s : State}
    (good : blockGood (laneOf s l).link sol = true) (type : blockType sol = 0x2D) (reserved : bits sol 31 26 = 0)
    (depth : bits sol 25 24 ≤ 2) (line : bits sol 23 8 ≤ 17279)
    (passes : seqPasses (laneOf s l) (bits sol 47 32) = true) (none : skipped (laneOf s l) (bits sol 47 32) = 0)
    (ports : (s.driver (l / 2)).wide = wide) (length : (packLE 8 data).length = dataBytes wide (bits sol 25 24))
    (check : fieldLE (packLE 8 data) (dataBytes wide (bits sol 25 24) - 4) 4 =
      crc32c ((laneOf s l).link * 2 ^ 16 + bits sol 23 8)
        (slice (natLE sol 8) 1 5 ++ (packLE 8 data).take (dataBytes wide (bits sol 25 24) - 4)))
    (free : bits sol 25 24 = 0 →
      (s.driver (l / 2)).halfLines.contains (bits sol 23 8, !(l % 2 == 1)) = false) :
    solReceive l sol data s = modDriver (l / 2) (lineShown l (bits sol 23 8) (bits sol 25 24) wide data)
      (lineAccepted l (bits sol 23 8) (bits sol 47 32) s) := by
  have link : (laneOf (hearDown l s) l).link = (laneOf s l).link := by rw [laneOf_hearDown]
  have seq : seqPasses (laneOf (hearDown l s) l) (bits sol 47 32) = true := by rw [laneOf_hearDown]; exact passes
  have kind : ((hearDown l s).driver (l / 2)).wide = wide :=
    ((congrArg Driver.wide (bare_hearDown l s (l / 2)) :)).trans ports
  have place : ¬(bits sol 25 24 = 3 ∨ 17279 < bits sol 23 8) := by omega
  obtain ⟨-, shown⟩ := lineAccepted_kept l (bits sol 23 8) (bits sol 47 32) s
  have missing : ¬(bits sol 25 24 = 0 ∧ ((lineAccepted l (bits sol 23 8) (bits sol 47 32) s).driver
      (l / 2)).halfLines.contains (bits sol 23 8, !(l % 2 == 1)) = true) := by
    rintro ⟨full, other⟩
    rw [shown _ (free full)] at other
    exact Bool.false_ne_true other
  unfold lineAccepted at missing
  unfold solReceive lineAccepted
  simp only [link, seq, kind, good, type, reserved, if_neg place, seeSeq_none none, length, check, beq_self_eq_true,
    Bool.and_self, Bool.not_true, Bool.false_eq_true, if_false]
  rw [if_neg missing]
  rfl

/-- What a line packet that passes every check brings about. -/
theorem lineShown_spec {l line depth : Nat} (wide : Bool) (data : List Nat) (s : State) :
    (∀ r ∈ shownCodes wide depth (l % 2) (max 1 ((modDriver (l / 2) (lineShown l line depth wide data) s).driver
        (l / 2)).replicate) (packetPayload wide depth data),
      amGet ((modDriver (l / 2) (lineShown l line depth wide data) s).driver (l / 2)).rows (2 * line + r.1) =
        some r.2) ∧
    ∀ k, k / 2 ≠ line → amGet ((modDriver (l / 2) (lineShown l line depth wide data) s).driver (l / 2)).rows k =
      amGet (s.driver (l / 2)).rows k := by
  rw [driver_modDriver_same]
  have halves := shownCodes_halves wide depth (l % 2) (max 1 (s.driver (l / 2)).replicate)
    (packetPayload wide depth data)
  refine ⟨amGet_foldl_amPut_mem ?_ (2 * line) _, fun k other => amGet_foldl_amPut_other (fun r hr => ?_) _⟩
  · rw [lineShown, halves]
    split <;> simp
  · have half := shownCodes_half_lt (Nat.mod_lt l (by decide)) hr
    omega

theorem lineShown_accepted (l line depth seq : Nat) (wide : Bool) (data : List Nat) (s : State) :
    (laneOf (modDriver (l / 2) (lineShown l line depth wide data) (lineAccepted l line seq s)) l).accepted = seq := by
  rw [laneOf_modDriver (f := lineShown l line depth wide data) (fun _ => rfl) (fun _ => rfl), lineAccepted,
    laneOf_modLane_same]

/-- An SOL that fails check 1 changes no row, and each trained lane of the port reports at once (R417, R435). -/
theorem solReceive_bad {l sol : Nat} {data : List Nat} {s : State} (bad : blockGood (laneOf s l).link sol = false) :
    solReceive l sol data s = urgentStatus (l / 2) (hearDown l s) := by
  have link : (laneOf (hearDown l s) l).link = (laneOf s l).link := by rw [laneOf_hearDown]
  unfold solReceive
  exact if_pos (by simp [link, bad])

theorem solReceive_bad_rows {l sol : Nat} {data : List Nat} {s : State}
    (bad : blockGood (laneOf s l).link sol = false) :
    ((solReceive l sol data s).driver (l / 2)).rows = (s.driver (l / 2)).rows := by
  obtain ⟨_, rest⟩ := bare_urgentStatus (l / 2) (hearDown l s)
  rw [solReceive_bad bad]
  exact (congrArg Driver.rows rest :).trans (congrArg Driver.rows (bare_hearDown l s (l / 2)) :)

theorem solReceive_bad_status {l sol k : Nat} {data : List Nat} {s : State}
    (bad : blockGood (laneOf s l).link sol = false) (port : k / 2 = l / 2) (trained : (laneOf s k).step = 0) :
    ∃ fe m, (laneOf (solReceive l sol data s) k).out.head? = some (statusBlock (laneOf s k).link
      ((hearDown l s).driver (l / 2)).lower.lock ((hearDown l s).driver (l / 2)).upper.lock true fe
      (s.driver (l / 2)).emit m (laneOf s k).accepted (laneOf s k).discards) := by
  obtain ⟨rx, lane⟩ := laneOf_hearDown_any l k s
  obtain ⟨fe, m, sent⟩ := head_urgentStatus (s := hearDown l s) port (by rw [lane]; exact trained)
  have emit : ((hearDown l s).driver (l / 2)).emit = (s.driver (l / 2)).emit :=
    (congrArg Driver.emit (bare_hearDown l s (l / 2)) :)
  rw [lane, emit] at sent
  exact ⟨fe, m, by rw [solReceive_bad bad]; exact sent⟩

/-! ### The statement -/

/-- Settles O48: each command through the law of its operation. The SLEEP after a TELEM is log 149, and the margin of an
urgent STATUS is free (log 15). -/
theorem driverCommands : Obligations.DriverCommands := by
  unfold Obligations.DriverCommands
  have range {s : State} {l : Nat} (here : l < nLinks s) : l < 256 := lt_of_lt_of_le here (nLinks_le s)
  have portRange {s : State} {p : Nat} (here : p < nPorts s) : p < 128 := lt_of_lt_of_le here (nPorts_le s)
  refine ⟨?powerUp, ?line, ?badLine, ?keep, ?frameEnd, ?loss, ?gain, ?timeout, ?status, ?telem, ?train, ?sendTrain,
    ?result⟩
  case powerUp =>
    intro s p here
    have rest := driverPowerUp_bare p s
    refine ⟨_, exec_driverPowerUp p s (portRange here) here, ?_⟩
    simp only [driver_onDev, laneOf_onDev, List.mem_singleton]
    exact ⟨(congrArg Driver.rows rest :), (congrArg Driver.emit rest :), (congrArg Driver.current rest :),
      (congrArg Driver.commands rest :), fun k hk => driverPowerUp_lanes hk s⟩
  case line =>
    rintro s l sol _ _ _ wide data here good type reserved rfl depth rfl line rfl passes none ports length check free
    refine ⟨_, exec_driverSolReceive l sol data s (range here) here, ?_⟩
    simp only [driver_onDev, laneOf_onDev, List.mem_cons, true_or]
    obtain ⟨shown, others⟩ := lineShown_spec (l := l) (line := bits sol 23 8) (depth := bits sol 25 24) wide data
      (lineAccepted l (bits sol 23 8) (bits sol 47 32) s)
    obtain ⟨rows, -⟩ := lineAccepted_kept l (bits sol 23 8) (bits sol 47 32) s
    rw [solReceive_accepted good type reserved depth line passes none ports length check free]
    exact ⟨lineShown_accepted .., shown, fun k other => by rw [others k other, rows]⟩
  case badLine =>
    intro s l sol data here bad
    refine ⟨_, exec_driverSolReceive l sol data s (range here) here, ?_⟩
    simp only [driver_onDev, laneOf_onDev, List.mem_cons, true_or]
    exact ⟨solReceive_bad_rows bad, fun k port trained => solReceive_bad_status bad port trained⟩
  case keep =>
    rintro s l b _ _ here good type reserved rfl line rfl passes none
    refine ⟨_, exec_driverKeepReceive l b s (range here) here, ?_⟩
    simp only [driver_onDev, laneOf_onDev, List.mem_cons, true_or]
    obtain ⟨rows, seq, -⟩ := driverCalends_kept l (bits b 23 8) (keptLine l (bits b 47 32) s)
    rw [keepReceive_accepted good type reserved line passes none]
    refine ⟨by rw [seq, laneOf_keptLine], ?_, fun first lower locked => ?_⟩
    · exact rows.trans (congrArg Driver.rows (bare_keptLine l (bits b 47 32) s (l / 2)) :)
    · rw [first]
      exact keepCalends_spec lower locked
  case frameEnd =>
    intro s l head cmds here good type reserved count each first
    refine ⟨_, exec_driverFrameEndReceive l head cmds s (range here) here, ?_⟩
    rw [driver_onDev (by decide)]
    exact frameEndReceive_intact good type reserved count each first
  case loss =>
    intro s l here awake locked
    refine ⟨_, exec_driverDownstreamLockLoss l s (range here) here, ?_⟩
    rw [laneOf_onDev (by decide)]
    exact downLockLoss_unlocked awake locked
  case gain =>
    intro s l here
    refine ⟨_, exec_driverDownstreamLockGain l s (range here) here, ?_⟩
    rw [laneOf_onDev (by decide)]
    exact downLockGain_locked l s
  case timeout =>
    intro s p k here hk lost
    refine ⟨_, exec_driverLockLossTimeout p s (portRange here) here, ?_⟩
    rw [laneOf_onDev (by decide)]
    exact lockLossTimeout_unlocked hk lost
  case status =>
    intro s l margin here hm trained
    refine ⟨_, exec_driverStatusSend l margin s (range here) hm here, ?_⟩
    rw [laneOf_onDev (by decide), driver_onDev (by decide)]
    exact driverStatus_spec trained
  case telem =>
    intro s l value here hv trained
    refine ⟨_, exec_driverTelemSend l value s (range here) hv here, fun low high => ?_, fun reserved => ?_⟩
    · rw [laneOf_onDev (by decide)]
      exact driverTelem_spec trained low high
    · rw [onDev_dev, partsOf_drivers (by decide), driverTelem_reserved reserved]
  case train =>
    intro s l b here
    refine ⟨fun good low high => ⟨_, exec_driverTrainReceive l b s (range here) here, ?_⟩,
      fun bad good => ⟨_, exec_driverTrainReceive l b s (range here) here, ?_⟩⟩
    · rw [laneOf_onDev (by decide)]
      exact driverTrain_step good low high
    · rw [laneOf_onDev (by decide), driver_onDev (by decide)]
      exact driverTrain_cap bad good
  case sendTrain =>
    intro s l margin here hm training
    refine ⟨_, exec_driverTrainSend l margin s (range here) hm here, ?_⟩
    rw [laneOf_onDev (by decide)]
    exact ⟨driverTrainSend_train training, driverTrainSend_caps⟩
  case result =>
    intro s l errors c here sends
    rcases sends with ⟨rfl, confirm⟩ | ⟨rfl, test, loop⟩
    · refine ⟨_, exec_driverPatternEnd l errors s (range here) here, ?_⟩
      rw [laneOf_onDev (by decide)]
      exact patternEnd_confirm confirm
    · refine ⟨_, exec_patternTestResultSend l errors s (range here) here, ?_⟩
      rw [laneOf_onDev (by decide)]
      exact patternResult_loop test loop

end Sys2Proof.Machine
end

section
/-!
SUPPORT. The timing generator and the rate that it runs at (0x3801:01): what the first calends does after it has set them
leaves them alone (R538, R843). The updates below keep them, and so do choices and loops of what keeps them.
-/
namespace Sys2Proof.Machine

/-- The timing generator of a state, and its frame rate. -/
def clockwork (s : State) : Timing × Nat := (s.dev.timing, s.reg 0x3801 1)

theorem timing_of_clockwork {s : State} {t : Timing} {hz : Nat} (h : clockwork s = (t, hz)) :
    s.dev.timing = t ∧ s.reg 0x3801 1 = hz := Prod.mk.inj h

/-! ### Updates of the state -/

/-- A change of the device that touches neither the timing nor the dictionary. -/
@[simp] theorem clockwork_modDev (f : Dev → Dev) (s : State)
    (timing : ∀ d, (f d).timing = d.timing := by exact fun _ => rfl)
    (od : ∀ d, (f d).od = d.od := by exact fun _ => rfl) : clockwork (s.modDev f) = clockwork s := by
  simp only [clockwork, State.reg, State.modDev, timing, od]

@[simp] theorem clockwork_setReg {i j : Nat} (other : i ≠ 0x3801) (hj : j < 256) (v : Nat) (s : State) :
    clockwork (s.setReg i j v) = clockwork s :=
  Prod.ext rfl (reg_setReg_index hj (by decide) other v s)

@[simp] theorem clockwork_bump {i j : Nat} (other : i ≠ 0x3801) (hj : j < 256) (n : Nat) (s : State) :
    clockwork (s.bump i j n) = clockwork s := clockwork_setReg other hj ..

@[simp] theorem clockwork_bumpSeq {i j : Nat} (other : i ≠ 0x3801) (hj : j < 256) (n : Nat) (s : State) :
    clockwork (s.bumpSeq i j n) = clockwork s := clockwork_setReg other hj ..

@[simp] theorem clockwork_modSynth (f : Synth → Synth) (s : State) : clockwork (modSynth f s) = clockwork s :=
  clockwork_modDev _ s
@[simp] theorem clockwork_modLens (f : Lens → Lens) (s : State) : clockwork (modLens f s) = clockwork s :=
  clockwork_modDev _ s
@[simp] theorem clockwork_modHost (f : HostIf → HostIf) (s : State) : clockwork (modHost f s) = clockwork s :=
  clockwork_modDev _ s
@[simp] theorem clockwork_modLink (l : Nat) (f : Link → Link) (s : State) : clockwork (modLink l f s) = clockwork s :=
  clockwork_modDev _ s
@[simp] theorem clockwork_modTile (t : Nat) (f : TilePort → TilePort) (s : State) :
    clockwork (modTile t f s) = clockwork s := clockwork_modDev _ s
@[simp] theorem clockwork_modPlayer (p : Nat) (f : Player → Player) (s : State) :
    clockwork (modPlayer p f s) = clockwork s := clockwork_modDev _ s
@[simp] theorem clockwork_modQueue (q : Nat) (f : Queue → Queue) (s : State) :
    clockwork (modQueue q f s) = clockwork s := clockwork_modDev _ s
@[simp] theorem clockwork_putHold (h : Nat) (n : Option Nat) (s : State) : clockwork (putHold h n s) = clockwork s :=
  clockwork_modDev _ s
@[simp] theorem clockwork_addJob (j : Job) (s : State) : clockwork (addJob j s) = clockwork s := clockwork_modDev _ s
@[simp] theorem clockwork_noteDue (layer n : Nat) (s : State) : clockwork (noteDue layer n s) = clockwork s :=
  clockwork_modDev _ s
@[simp] theorem clockwork_drawFree (s : State) : clockwork (drawFree s) = clockwork s := clockwork_modDev _ s

/-! ### Choices and loops -/

@[simp] theorem clockwork_ite (c : Prop) {d : Decidable c} (s t : State) :
    clockwork (if c then s else t) = if c then clockwork s else clockwork t := apply_ite clockwork c s t

@[simp] theorem clockwork_iff {c : Bool} {f : State → State} {s : State} (h : clockwork (f s) = clockwork s) :
    clockwork (s.iff c f) = clockwork s := iff_keeps clockwork c f s h

@[simp] theorem clockwork_each {α : Type} {f : α → State → State} (h : ∀ x t, clockwork (f x t) = clockwork t)
    (xs : List α) (s : State) : clockwork (s.each xs f) = clockwork s := each_keeps clockwork f h xs s

/-! ### Memory, the store and the event log -/

theorem memoryServed.clockwork {s t : State} (h : memoryServed s t) : clockwork t = clockwork s := by
  obtain ⟨⟨_, _, _, _, rfl⟩, low⟩ := h
  exact Prod.ext rfl (low _ _ (by decide) (by decide))

theorem MemoryNoted.clockwork {s t : State} (h : MemoryNoted s t) : clockwork t = clockwork s := by
  obtain ⟨⟨_, _, _, _, _, rfl⟩, low⟩ := h
  exact Prod.ext rfl (low _ _ (by decide) (by decide))

@[simp] theorem clockwork_logEvent (r c i j d : Nat) (s : State) : clockwork (logEvent r c i j d s) = clockwork s :=
  (memoryNoted_logEvent ..).clockwork

@[simp] theorem clockwork_pcUncorrectable (i : Nat) (s : State) : clockwork (pcUncorrectable i s) = clockwork s :=
  (memoryNoted_pcUncorrectable ..).clockwork

@[simp] theorem clockwork_hbmAsk (src : Nat) (write : Bool) (off len : Nat) (s : State) :
    clockwork (hbmAsk src write off len s) = clockwork s := (memoryServed_hbmAsk ..).clockwork

@[simp] theorem clockwork_hbmWrite (off : Nat) (bs : List Byte) (s : State) :
    clockwork (hbmWrite off bs s) = clockwork s := (memoryServed_hbmWrite ..).clockwork

@[simp] theorem clockwork_mirrorRead (off len : Nat) (s : State) : clockwork (mirrorRead off len s) = clockwork s :=
  (memoryServed_mirrorRead ..).clockwork

@[simp] theorem clockwork_domainWake (d : Nat) (s : State) : clockwork (domainWake d s) = clockwork s :=
  (memoryServed_domainWake d s).clockwork

@[simp] theorem clockwork_openSlot (layer slot n : Nat) (s : State) :
    clockwork (openSlot layer slot n s) = clockwork s := (memoryServed_openSlot layer slot n s).clockwork

@[simp] theorem clockwork_putDesc (src layer slot n frame lease b cells count : Nat) (s : State) :
    clockwork (putDesc src layer slot n frame lease b cells count s) = clockwork s :=
  (memoryServed_putDesc ..).clockwork

@[simp] theorem clockwork_writeRing (r : Nat) (payload : List Byte) (use : StoreUse) (s : State) :
    clockwork (writeRing r payload use s) = clockwork s := by
  unfold writeRing storeRequest
  refine Prod.ext ?_ (reg_storeStart _ _ _ (by decide))
  obtain ⟨_, _, e⟩ := storeOnly_storeStart (modNv _ s)
  rw [clockwork, e]; rfl

/-! ### Completions and the ends of items (R613) -/

@[simp] theorem clockwork_postCompletion (r : Nat) (c : Completion) (s : State) :
    clockwork (postCompletion r c s) = clockwork s := by
  have written (t : State) : clockwork (ringWrite r c t) = clockwork t := by simp [ringWrite]
  have told (t : State) : clockwork (ringMessage r t) = clockwork t := by simp [ringMessage]
  simp [postCompletion, ringPut, written, told]

@[simp] theorem clockwork_dropJob (num : Nat) (s : State) : clockwork (dropJob num s) = clockwork s := by
  have idle : clockwork (s.each (List.range 32) (releaseDecoder num)) = clockwork s := by
    refine each_keeps_of_mem clockwork _ _ (fun de hde t => ?_) s
    have range := List.mem_range.mp hde
    exact clockwork_iff (clockwork_setReg (by decide) (by omega) ..)
  simp [dropJob, releaseDecoders_eq, idle]

@[simp] theorem clockwork_endItem (i : Item) (status detail : Nat) (s : State) :
    clockwork (endItem i status detail s) = clockwork s := by
  unfold endItem
  dsimp only
  split <;> simp [postFinal]

@[simp] theorem clockwork_noteLost (i : Item) (s : State) : clockwork (noteLost i s) = clockwork s := by
  unfold noteLost
  split <;> simp

@[simp] theorem clockwork_loseItem (i : Item) (status detail : Nat) (s : State) :
    clockwork (loseItem i status detail s) = clockwork s := by
  simp [loseItem, abandonGroup, abandonItems]

/-! ### The decode window (R114, R134 to R136, R157, R262) -/

@[simp] theorem clockwork_addCopy (c : CopyJob) (s : State) : clockwork (addCopy c s) = clockwork s := by
  simp [addCopy]

@[simp] theorem clockwork_startCopy (layer n : Nat) (restore : Bool) (s : State) :
    clockwork (startCopy layer n restore s) = clockwork s := by
  unfold startCopy
  dsimp only
  split <;> simp

@[simp] theorem clockwork_jobFail (j : Job) (detail seq : Nat) (read late : Bool) (s : State) :
    clockwork (jobFail j detail seq read late s) = clockwork s := by
  unfold jobFail
  extract_lets logged lost item counted restored
  have kept : clockwork restored = clockwork s := by simp [restored, counted, lost, logged]
  split
  · simp [kept]
  · cases item <;> simp [kept]

@[simp] theorem clockwork_clipEnters (early : Bool) (num : Nat) (p : Player) (n f : Nat) (x : Nat × Nat × Nat)
    (s : State) : clockwork (clipEnters early num p n f x s) = clockwork s := by
  unfold clipEnters
  dsimp only
  split <;> simp

@[simp] theorem clockwork_openClip (n : Nat) (x : Nat × Player) (s : State) :
    clockwork (openClip n x s) = clockwork s := by
  unfold openClip
  dsimp only
  split
  · rfl
  · split <;> simp [clipUpdate, clearLayer]

@[simp] theorem clockwork_holdCopies (n : Nat) (s : State) : clockwork (holdCopies n s) = clockwork s := by
  refine clockwork_each (fun i t => ?_) _ s
  split <;> simp

@[simp] theorem clockwork_openWindow (n : Nat) (s : State) : clockwork (openWindow n s) = clockwork s := by
  simp [openWindow, windowCopy, forgetClips]

/-! ### The first line and its frame (R281, R362, R509, R843) -/

@[simp] theorem clockwork_rewriteFirst (off : Nat) (bad : Bool) (s : State) :
    clockwork (rewriteFirst off bad s) = clockwork s := by
  unfold rewriteFirst
  split
  · exact (clockwork_hbmWrite ..).trans (clockwork_bump (by omega) (by decide) ..)
  · simp

@[simp] theorem clockwork_protectedRead (k b : Nat) (bad0 bad1 : Bool) (s : State) :
    clockwork (protectedRead k b bad0 bad1 s) = clockwork s := by
  unfold protectedRead
  split
  · rfl
  extract_lets note good base clean asked tiles noted spoilt
  have noting (j : Nat) (bad : Bool) (t : State) : clockwork (note j bad t) = clockwork t := by
    dsimp only [note]
    split <;> simp
  have rewritten (t : State) : clockwork (clean (tiles t)) = clockwork t := by simp [clean, tiles]
  have h_asked : clockwork asked = clockwork s := by simp [asked]
  have h_noted : clockwork noted = clockwork s := by simp [noted, noting, h_asked]
  have h_spoilt : clockwork spoilt = clockwork s := by simp [spoilt, noting, h_noted]
  split
  · simp [rewritten, h_asked]
  split
  · simp [rewritten, h_noted]
  split <;> simp [h_spoilt]

@[simp] theorem clockwork_protectedReads (k : Nat) (q : Patch) (s : State) :
    clockwork (protectedReads k q s) = clockwork s := by
  unfold protectedReads
  split <;> simp

@[simp] theorem clockwork_readLine (n line : Nat) (mode : Nat → Nat) (s : State) :
    clockwork (readLine n line mode s) = clockwork s := by
  simp [readLine, proxyReads, proxyFetches]

@[simp] theorem clockwork_bringupModes (s : State) : clockwork (bringupModes s) = clockwork s := by
  have carried (p : Nat) (t : State) : clockwork (t.setReg (0x4000 + p) 1 3) = clockwork t :=
    clockwork_setReg (by omega) (by decide) ..
  simp [bringupModes, carried]

@[simp] theorem clockwork_proxyFrame (s : State) : clockwork (proxyFrame s) = clockwork s := by
  simp [proxyFrame]

/-! ### The wall and the lens -/

@[simp] theorem clockwork_wallAfter (s : State) : clockwork (wallAfter s) = clockwork s := by
  refine clockwork_each (fun t u => ?_) _ s
  extract_lets since half timed a1 f lane0 sent
  have kept : clockwork sent = clockwork u := by simp [sent, timed, sendTile]
  simp [timed, kept]

@[simp] theorem clockwork_lensTake (zs : List Nat) (m : Nat) (s : State) :
    clockwork (lensTake zs m s) = clockwork s := by
  have started (t : State) : clockwork (journalStart t) = clockwork t := by simp [journalStart, updateRuns]
  unfold lensTake
  split
  · rfl
  · extract_lets l old counted n updated held tr driven
    have kept : clockwork driven = clockwork s := by simp [driven, updated, counted]
    split
    · exact kept
    · split <;> simp [kept, started]

@[simp] theorem clockwork_lensCalends (s : State) : clockwork (lensCalends s) = clockwork s := by
  simp [lensCalends]

end Sys2Proof.Machine
end

section
/-!
SUPPORT. Configuration images that pass their checks: each entry names an imageable object of the part (R802), so what a
reset takes from the store's image writes no count or cause of the resets.
-/
namespace Sys2Proof.Machine

theorem fieldLE_byte_lt (bs : List Byte) (off : Nat) : fieldLE bs off 1 < 256 := by
  have short : (slice bs off 1).length ≤ 1 := by rw [slice, List.length_take]; omega
  exact Nat.lt_of_lt_of_le (leNat_lt _) (Nat.pow_le_pow_right (by decide) short)

theorem rawEntries_sub_lt (n : Nat) {bs : List Byte} {es : List RawEntry} {k : Nat}
    (read : rawEntries n bs = some (es, k)) : ∀ e ∈ es, e.sub < 256 := by
  induction n generalizing bs es k with
  | zero =>
    obtain ⟨rfl, _⟩ := Prod.mk.inj (Option.some.inj read)
    exact fun e he => nomatch he
  | succ n ih =>
    unfold rawEntries at read
    dsimp only at read
    split at read
    · cases read
    · obtain ⟨⟨rest, j⟩, tail, h⟩ := Option.map_eq_some_iff.mp read
      obtain ⟨rfl, _⟩ := Prod.mk.inj h
      intro e he
      rcases List.mem_cons.mp he with rfl | he
      · exact fieldLE_byte_lt ..
      · exact ih tail e he

theorem sectionEntries_sub_lt {bs : List Byte} {m : Nat} {e : RawEntry}
    (he : e ∈ (sectionEntries bs m).getD []) : e.sub < 256 := by
  unfold sectionEntries at he
  split at he
  next es k read =>
    split at he
    · exact rawEntries_sub_lt _ read e he
    · cases he
  · cases he

/-- The entries of each section of an image that passes its checks are named (detail 0x07 of R802). -/
theorem entryNamed_of_image {s : State} {serial : Bool} {bs : List Byte} (pass : imageFails s serial bs = none) {m : Nat}
    (hm : m ≤ imageN bs) {e : RawEntry} (he : e ∈ (sectionEntries bs m).getD []) : entryNamed s e = true := by
  by_contra unnamed
  have fails : (allEntries bs).any (fun x => !(x.all (entryNamed s)) || !rising (x.map fun e => key e.index e.sub)) =
      true := by
    refine List.any_eq_true.mpr ⟨_, List.mem_map.mpr ⟨m, List.mem_range.mpr (by omega), rfl⟩, ?_⟩
    rw [Bool.or_eq_true, Bool.not_eq_true', List.all_eq_false]
    exact .inl ⟨e, he, unnamed⟩
  unfold imageFails at pass
  simp only [fails, if_true] at pass
  split_ifs at pass

/-- An object that no image may carry (R765). -/
def notImageable (index sub : Nat) : Prop := sub ≠ 0 ∧ ∀ r ∈ objRow index sub, r.imageable = false

theorem notImageable_cause : notImageable 0x6010 2 := ⟨by decide, by decide⟩

theorem notImageable_count : notImageable 0x6010 3 := ⟨by decide, by decide⟩

/-- A named entry is not one of an object that no image may carry. -/
theorem key_of_entryNamed {s : State} {e : RawEntry} (named : entryNamed s e = true) (he : e.sub < 256)
    {index sub : Nat} (hs : sub < 256) (out : notImageable index sub) : key e.index e.sub ≠ key index sub := by
  intro same
  obtain ⟨rfl, rfl⟩ := key_inj he hs same
  obtain ⟨value, rows⟩ := out
  unfold entryNamed objHere at named
  rw [if_neg value] at named
  by_cases here : instanceHere s e.index e.sub = true
  · rw [if_pos here] at named
    cases row : objRow e.index e.sub with
    | none => simp [row] at named
    | some r => simp [row, rows r row] at named
  · simp [if_neg here] at named

/-- An entry of no object but those that an image may carry. -/
def entryAllowed (e : ImageEntry) : Prop :=
  ∀ index sub, sub < 256 → notImageable index sub → e.key ≠ key index sub

def entriesAllowed (es : List ImageEntry) : Prop := ∀ e ∈ es, entryAllowed e

theorem entriesAllowed_nil : entriesAllowed [] := fun _ he => nomatch he

theorem entriesAllowed_append {xs ys : List ImageEntry} (hx : entriesAllowed xs) (hy : entriesAllowed ys) :
    entriesAllowed (xs ++ ys) := fun e he => (List.mem_append.mp he).elim (hx e) (hy e)

/-- An image whose sections carry no object but those that an image may carry. -/
def imageAllowed (im : Image) : Prop := entriesAllowed im.base.entries ∧ ∀ x ∈ im.overlays, entriesAllowed x.entries

/-- Every section of an image that passes its checks is allowed. -/
theorem imageAllowed_imageOf {s : State} {serial : Bool} {bs : List Byte} (pass : imageFails s serial bs = none) :
    imageAllowed (imageOf bs) := by
  have allowed (m : Nat) (hm : m ≤ imageN bs) : entriesAllowed (((sectionEntries bs m).getD []).map fun e =>
      { key := key e.index e.sub, typ := e.typ, value := cleaned e.index e.sub (leNat e.bytes) }) := by
    intro e he index sub hs out
    obtain ⟨raw, hraw, rfl⟩ := List.mem_map.mp he
    exact key_of_entryNamed (entryNamed_of_image pass hm hraw) (sectionEntries_sub_lt hraw) hs out
  refine ⟨allowed 0 (Nat.zero_le _), fun x hx => ?_⟩
  obtain ⟨m, hm, rfl⟩ := List.mem_map.mp hx
  exact allowed (m + 1) (List.mem_range.mp hm)

theorem imageAllowed_namedImage {s : State} {im : Image} (h : namedImage s = some im) : imageAllowed im := by
  unfold namedImage at h
  split at h
  · cases h
  · dsimp only at h
    split at h
    next good =>
      cases h
      exact imageAllowed_imageOf (Option.isNone_iff_eq_none.mp (Bool.and_eq_true_iff.mp good).1)
    · cases h

theorem imageAllowed_otherImage {s : State} {im : Image} (h : otherImage s = some im) : imageAllowed im := by
  unfold otherImage at h
  split at h
  · cases h
  · dsimp only at h
    split at h
    next good =>
      cases h
      exact imageAllowed_imageOf (Option.isNone_iff_eq_none.mp good.2)
    · cases h

theorem entriesAllowed_overlayOf {im : Image} (h : imageAllowed im) (m : Nat) :
    entriesAllowed (overlayOf im m).entries := by
  obtain ⟨base, overlays⟩ := h
  unfold overlayOf
  split
  · exact base
  · rw [List.getD_eq_getElem?_getD]
    cases found : im.overlays[m - 1]? with
    | none => exact entriesAllowed_nil
    | some x => exact overlays x (List.mem_of_getElem? found)

end Sys2Proof.Machine
end

section
/-!
SUPPORT. What the steps of power-up leave of the main die: its memories, its host interface, its reset state, the
ceilings and the gain map's switch. The updates below keep it, and so do choices and loops of what keeps it (R843, R849,
R859, R860).
-/
namespace Sys2Proof.Machine

/-- The memories, fuses, ceilings and store pages of a block, its host interface, sessions and drivers' rows, whether the
main die is in reset or waits for the store, the cause (0x6010:02) and count (0x6010:03) of its resets, and gain-map
enable (0x3410:01), committed and shadow. -/
structure MainDie where
  fuses : Fuses
  ceilings : CeilingRecords
  hbm : List Host.Cell
  bank : List Host.Cell
  pages : AMap (List Byte)
  host : HostIf
  ncp : Ncp
  drivers : AMap Driver
  inReset : Bool
  selecting : Bool
  cause : Nat
  count : Nat
  gain : Nat
  gainShadow : Nat

/-- The main die of a state. -/
def mainDie (s : State) : MainDie :=
  { fuses := s.fuses, ceilings := s.ceilings, hbm := s.hbm, bank := s.bank, pages := s.nv.pages, host := s.dev.host
    ncp := s.dev.ncp, drivers := s.dev.drivers, inReset := s.dev.bringup.inReset, selecting := s.dev.bringup.selecting
    cause := s.reg 0x6010 2, count := s.reg 0x6010 3, gain := s.dev.live.obj 0x3410 1, gainShadow := s.shad 0x3410 1 }

/-- The main die of `s` is `d`, part by part. -/
structure DieIs (d : MainDie) (s : State) : Prop where
  ceilings : s.ceilings = d.ceilings
  hbm : s.hbm = d.hbm
  bank : s.bank = d.bank
  pages : s.nv.pages = d.pages
  host : s.dev.host = d.host
  ncp : s.dev.ncp = d.ncp
  drivers : s.dev.drivers = d.drivers
  inReset : s.dev.bringup.inReset = d.inReset
  selecting : s.dev.bringup.selecting = d.selecting
  cause : s.reg 0x6010 2 = d.cause
  count : s.reg 0x6010 3 = d.count
  gain : s.dev.live.obj 0x3410 1 = d.gain
  gainShadow : s.shad 0x3410 1 = d.gainShadow

theorem dieIs {s : State} {d : MainDie} (h : mainDie s = d) : DieIs d s := by
  subst h
  exact ⟨rfl, rfl, rfl, rfl, rfl, rfl, rfl, rfl, rfl, rfl, rfl, rfl, rfl⟩

/-! ### Updates of the state -/

/-- A change of links, thermal state, images or lens keeps the main die. -/
@[simp] theorem mainDie_modDev (f : Dev → Dev) (s : State)
    (host : ∀ d, (f d).host = d.host := by exact fun _ => rfl)
    (ncp : ∀ d, (f d).ncp = d.ncp := by exact fun _ => rfl)
    (drivers : ∀ d, (f d).drivers = d.drivers := by exact fun _ => rfl)
    (bringup : ∀ d, (f d).bringup = d.bringup := by exact fun _ => rfl)
    (od : ∀ d, (f d).od = d.od := by exact fun _ => rfl)
    (live : ∀ d, (f d).live.objs = d.live.objs := by exact fun _ => rfl)
    (shadow : ∀ d, (f d).shadow = d.shadow := by exact fun _ => rfl) : mainDie (s.modDev f) = mainDie s := by
  simp only [mainDie, State.reg, State.shad, Committed.obj, State.modDev, host, ncp, drivers, bringup, od, live, shadow]

/-- A write of any register but the cause and the count of resets keeps the main die. -/
theorem mainDie_setReg_key {i j : Nat} (cause : key i j ≠ key 0x6010 2) (count : key i j ≠ key 0x6010 3) (v : Nat)
    (s : State) : mainDie (s.setReg i j v) = mainDie s := by
  have h2 : (s.setReg i j v).reg 0x6010 2 = s.reg 0x6010 2 := by rw [reg_setReg, if_neg cause]
  have h3 : (s.setReg i j v).reg 0x6010 3 = s.reg 0x6010 3 := by rw [reg_setReg, if_neg count]
  simp only [mainDie, h2, h3]
  rfl

@[simp] theorem mainDie_setReg {i j : Nat} (other : i ≠ 0x6010) (hj : j < 256) (v : Nat) (s : State) :
    mainDie (s.setReg i j v) = mainDie s :=
  mainDie_setReg_key (fun e => other (key_inj hj (by decide) e).1) (fun e => other (key_inj hj (by decide) e).1) v s

@[simp] theorem mainDie_bump {i j : Nat} (other : i ≠ 0x6010) (hj : j < 256) (n : Nat) (s : State) :
    mainDie (s.bump i j n) = mainDie s := mainDie_setReg other hj ..

@[simp] theorem mainDie_bumpSeq {i j : Nat} (other : i ≠ 0x6010) (hj : j < 256) (n : Nat) (s : State) :
    mainDie (s.bumpSeq i j n) = mainDie s := mainDie_setReg other hj ..

@[simp] theorem mainDie_modLens (f : Lens → Lens) (s : State) : mainDie (modLens f s) = mainDie s := mainDie_modDev _ s
@[simp] theorem mainDie_modThermal (f : Thermal → Thermal) (s : State) : mainDie (modThermal f s) = mainDie s :=
  mainDie_modDev _ s
@[simp] theorem mainDie_modImages (f : Images → Images) (s : State) : mainDie (modImages f s) = mainDie s :=
  mainDie_modDev _ s
@[simp] theorem mainDie_modLink (l : Nat) (f : Link → Link) (s : State) : mainDie (modLink l f s) = mainDie s :=
  mainDie_modDev _ s

@[simp] theorem mainDie_modBringup {f : Bringup → Bringup} (inReset : ∀ b, (f b).inReset = b.inReset)
    (selecting : ∀ b, (f b).selecting = b.selecting) (s : State) : mainDie (modBringup f s) = mainDie s := by
  simp only [mainDie, modBringup_dev, inReset, selecting]
  rfl

@[simp] theorem mainDie_modNv {f : NvStore → NvStore} (pages : ∀ nv, (f nv).pages = nv.pages) (s : State) :
    mainDie (modNv f s) = mainDie s := by
  simp only [mainDie, modNv_nv, pages]
  rfl

/-! ### Choices and loops -/

@[simp] theorem mainDie_ite (c : Prop) {d : Decidable c} (s t : State) :
    mainDie (if c then s else t) = if c then mainDie s else mainDie t := apply_ite mainDie c s t

@[simp] theorem mainDie_iff {c : Bool} {f : State → State} {s : State} (h : mainDie (f s) = mainDie s) :
    mainDie (s.iff c f) = mainDie s := iff_keeps mainDie c f s h

/-! ### The event log, domains and the store -/

@[simp] theorem mainDie_logEvent (r c i j d : Nat) (s : State) : mainDie (logEvent r c i j d s) = mainDie s := by
  have h2 := reg_logEvent_index r c i j d s (x := 0x6010) (y := 2) (by decide) (by decide)
  have h3 := reg_logEvent_index r c i j d s (x := 0x6010) (y := 3) (by decide) (by decide)
  obtain ⟨_, _, _, _, e⟩ := logEvent_eq r c i j d s
  rw [e] at h2 h3 ⊢
  simp only [mainDie, h2, h3]
  rfl

@[simp] theorem mainDie_domainOff {d : Nat} (hd : d < 255) (s : State) : mainDie (domainOff d s) = mainDie s := by
  simp [domainOff, mainDie_setReg (i := 0x5430) (by decide) (Nat.add_lt_of_lt_sub hd : d + 1 < 256)]

@[simp] theorem mainDie_storeStart (s : State) : mainDie (storeStart s) = mainDie s := by
  obtain e | ⟨_, r, _, page, bytes, e⟩ := storeStart_cases s
  · rw [e]
  · rw [e]; simp

@[simp] theorem mainDie_storeRequest (r : StoreReq) (s : State) : mainDie (storeRequest r s) = mainDie s := by
  simp [storeRequest]

@[simp] theorem mainDie_writeRecord (r : Nat) (payload : List Byte) (use : StoreUse) (s : State) :
    mainDie (writeRecord r payload use s) = mainDie s := mainDie_storeRequest ..

@[simp] theorem mainDie_writeRing (r : Nat) (payload : List Byte) (use : StoreUse) (s : State) :
    mainDie (writeRing r payload use s) = mainDie s := mainDie_storeRequest ..

/-! ### What the records give (R690, R730 to R748, R819, R825, R838) -/

/-- The ceilings that the records hold, or the defaults (R838). -/
def recordCeilings (s : State) : CeilingRecords :=
  { rec1 := ((recordPayload s 1).map ceilingsOf).getD {}, rec2 := ((recordPayload s 2).map ceilingsOf).getD {} }

theorem mainDie_ceilingsLoad (s : State) : mainDie (ceilingsLoad s) = { mainDie s with ceilings := recordCeilings s } := by
  unfold ceilingsLoad
  extract_lets rec' t
  have loaded : mainDie t = { mainDie s with ceilings := recordCeilings s } := rfl
  split
  · exact loaded
  · exact (mainDie_setReg (by decide) (by decide) ..).trans loaded

@[simp] theorem mainDie_repairLoad (s : State) : mainDie (repairLoad s) = mainDie s := by
  refine each_keeps_of_mem mainDie _ _ (fun b hb t => ?_) s
  have range := List.mem_range.mp hb
  have kept (j v : Nat) (hj : j < 256) (u : State) : mainDie (u.setReg (0x5100 + b) j v) = mainDie u :=
    mainDie_setReg (by omega) hj ..
  split <;> simp [kept]

@[simp] theorem mainDie_sensorStatesLoad (s : State) : mainDie (sensorStatesLoad s) = mainDie s := by
  unfold sensorStatesLoad
  split
  · rfl
  next p _ =>
    extract_lets failed retired marked
    have kept : mainDie marked = mainDie s := by
      refine each_keeps_of_mem mainDie _ _ (fun i hi t => ?_) s
      have range := List.mem_range.mp hi
      have state (v : Nat) : mainDie (t.setReg 0x5401 (i + 1) v) = mainDie t :=
        mainDie_setReg (by decide) (by omega) ..
      simp [state]
    simp [kept]

@[simp] theorem mainDie_recordsLoad (s : State) : mainDie (recordsLoad s) = mainDie s := by
  have anchor (t : State) : mainDie (anchorLoad t) = mainDie t := by
    unfold anchorLoad
    split <;> simp
  have statistics (t : State) : mainDie (statisticsLoad t) = mainDie t := by
    unfold statisticsLoad
    dsimp only
    split <;> split <;> simp
  simp [recordsLoad, lifeRepair, offsetsLoad, anchor, statistics]

@[simp] theorem mainDie_erasureResume (s : State) : mainDie (erasureResume s) = mainDie s := by
  have next (t : State) : mainDie (erasureNext t) = mainDie t := by
    unfold erasureNext
    split <;> simp
  simp [erasureResume, erasureStart, next]

/-! ### The image (R809, R810, R849) -/

/-- A value of an allowed entry writes neither the cause nor the count of resets, nor gain-map enable (R849). -/
theorem mainDie_takeValue {e : ImageEntry} (allowed : entryAllowed e) (s : State) :
    mainDie (takeValue e s) = mainDie s := by
  unfold takeValue
  by_cases gain : e.key = key 0x3410 1
  · simp [if_pos gain]
  rw [if_neg gain]
  split
  · have kept (m : AMap Nat) : amGet (amPut m e.key e.value) (key 0x3410 1) = amGet m (key 0x3410 1) :=
      amGet_amPut_other m _ gain
    simp only [mainDie, State.modDev, State.reg, State.shad, Committed.obj, kept]
  · have whole : key (e.key / 256) (e.key % 256) = e.key := Nat.div_add_mod ..
    refine mainDie_setReg_key ?_ ?_ ..
    · rw [whole]; exact allowed _ _ (by decide) notImageable_cause
    · rw [whole]; exact allowed _ _ (by decide) notImageable_count

theorem mainDie_takeValues {es : List ImageEntry} (allowed : entriesAllowed es) (s : State) :
    mainDie (s.each es takeValue) = mainDie s :=
  each_keeps_of_mem mainDie takeValue es (fun e he t => mainDie_takeValue (allowed e he) t) s

@[simp] theorem mainDie_loadImage (s : State) : mainDie (loadImage s) = mainDie s := by
  unfold loadImage
  extract_lets pick live named logged
  have kept : mainDie logged = mainDie s := by simp [logged, named]
  have picked : ∀ im, pick.2 = some im → imageAllowed im := by
    intro im h
    dsimp only [pick] at h
    split at h
    · cases h
    split at h
    next named => cases h; exact imageAllowed_namedImage named
    split at h
    next other => cases h; exact imageAllowed_otherImage other
    · cases h
  split
  · simp [kept]
  next im h =>
    extract_lets m taken moded
    have sound := picked im h
    have upper : entriesAllowed (if m = 0 then [] else (overlayOf im m).entries) := by
      split
      · exact entriesAllowed_nil
      · exact entriesAllowed_overlayOf sound m
    have values : mainDie taken = mainDie logged := mainDie_takeValues (entriesAllowed_append sound.1 upper) logged
    exact (mainDie_setReg (by decide) (by decide) ..).trans <| (mainDie_setReg (by decide) (by decide) ..).trans <|
      (mainDie_modDev _ taken).trans (values.trans kept)

/-! ### Links and the proxy image (R843) -/

theorem mainDie_trainStart {l : Nat} (hl : l < 256) (s : State) : mainDie (trainStart l s) = mainDie s := by
  have entered (j v : Nat) (hj : j < 256) (t : State) : mainDie (t.setReg (0x4100 + l) j v) = mainDie t :=
    mainDie_setReg (by omega) hj ..
  simp [trainStart, enterDetect, enterLock, setLinkState, sendBlock, entered]

@[simp] theorem mainDie_linksUp (s : State) : mainDie (linksUp s) = mainDie s := by
  refine each_keeps_of_mem mainDie _ _ (fun l hl t => ?_) s
  have range := List.mem_range.mp hl
  have few := nLinks_le s
  simp [mainDie_trainStart (l := l) (by omega)]

@[simp] theorem mainDie_proxyRead (s : State) : mainDie (proxyRead s) = mainDie s := by
  simp [proxyRead, proxyCheck]

/-- Steps 3 to 6 of power-up load the ceilings, and keep the main die otherwise (R843). -/
theorem mainDie_mainSteps (s : State) : mainDie (mainSteps s) = { mainDie s with ceilings := recordCeilings s } := by
  simp [mainSteps, mainDie_ceilingsLoad]

/-! ### The lens (R475, R507, R508) -/

@[simp] theorem mainDie_lensTake (zs : List Nat) (m : Nat) (s : State) : mainDie (lensTake zs m s) = mainDie s := by
  have started (t : State) : mainDie (journalStart t) = mainDie t := by simp [journalStart, updateRuns]
  unfold lensTake
  split
  · rfl
  · extract_lets l old counted n updated held tr driven
    have kept : mainDie driven = mainDie s := by simp [driven, updated, counted]
    split
    · exact kept
    · split <;> simp [kept, started]

@[simp] theorem mainDie_redriveStart (s : State) : mainDie (redriveStart s) = mainDie s := mainDie_modLens ..

@[simp] theorem mainDie_restartTake (s : State) : mainDie (restartTake s) = mainDie s :=
  (mainDie_modLens ..).trans (mainDie_lensTake ..)

@[simp] theorem mainDie_lensReset (s : State) : mainDie (lensReset s) = mainDie s := by
  unfold lensReset
  extract_lets stopped bi high opened map band number affected reached changed lens numbered source status t
  have h_numbered : mainDie numbered = mainDie s := by simp [numbered, lens]
  have h_status : mainDie status = mainDie s := by simp [status, source, h_numbered]
  have h_t : mainDie t = mainDie s := by
    dsimp only [t]
    split
    · simp [h_status]
    · simp [h_status]
  simp [h_t]

@[simp] theorem mainDie_updatePause (s : State) : mainDie (updatePause s) = mainDie s := by
  simp [updatePause]

@[simp] theorem mainDie_lensPause (s : State) : mainDie (lensPause s) = mainDie s := by
  simp [lensPause]

@[simp] theorem mainDie_lensResume (s : State) : mainDie (lensResume s) = mainDie s := by
  unfold lensResume
  split
  · extract_lets running
    have h_running : mainDie running = mainDie s := mainDie_modLens ..
    simp [h_running]
  · rfl

@[simp] theorem mainDie_zonesRead (s : State) : mainDie (zonesRead s) = mainDie s := mainDie_modLens ..

end Sys2Proof.Machine
end

section
/-!
PROOF. Power-on, the steps of power-up, and the resets of the main die (R538, R656, R709, R711, R726, R839, R843, R849,
R851, R859, R860, R880).
-/
namespace Sys2Proof.Machine

/-! ### Scopes -/

theorem onDev_of_fixed {ps : List DevPart} {f : State → State} {s : State} (h : f s = s) : onDev ps f s = s := by
  simp only [onDev, partsOf, h, within_self]

theorem onCeil_of_fixed {ps : List DevPart} {f : State → State} {s : State} (h : f s = s) : onCeil ps f s = s := by
  simp only [onCeil, partsOf, h, within_self]

theorem onMemNv_of_fixed {ps : List DevPart} {f : State → State} {s : State} (h : f s = s) : onMemNv ps f s = s := by
  simp only [onMemNv, partsOf, h, within_self]

theorem onAll_shad (f : State → State) (s : State) (i j : Nat) : (onAll f s).shad i j = (f s).shad i j := rfl

/-! ### The dictionary over a reset (R859) -/

/-- Of a table filtered by its keys, the keys that pass are found as before. -/
theorem amGet_filter_key {α : Type} (p : Nat → Bool) (m : AMap α) (k : Nat) :
    amGet (m.filter fun e => p e.1) k = if p k then amGet m k else none := by
  induction m with
  | nil => simp [amGet]
  | cons e m ih =>
    obtain ⟨j, v⟩ := e
    by_cases hj : j = k
    · subst hj
      cases hp : p j <;> simp [amGet, hp, ih]
    · cases hp : p j <;> simp [amGet, hp, ih, hj]

/-- `t` is `s` but for the states of the power domains (R754). -/
def domainsOnly (s t : State) : Prop :=
  (∃ od, t = { s with dev := { s.dev with od := od } }) ∧ ∀ x y, x ≠ 0x5430 → y < 256 → t.reg x y = s.reg x y

theorem domainsOnly_domainOn {d : Nat} (hd : d < 255) {s t : State} (h : domainsOnly s t) :
    domainsOnly s (domainOn d t) := by
  unfold domainOn
  split
  · obtain ⟨⟨_, rfl⟩, regs⟩ := h
    exact ⟨⟨_, rfl⟩, fun x y hx hy => (reg_setReg_index (by omega) hy hx.symm ..).trans (regs x y hx hy)⟩
  · exact h

theorem domainsOnly_each {ds : List Nat} (hd : ∀ d ∈ ds, d < 255) (s : State) : domainsOnly s (s.each ds domainOn) :=
  List.foldlRecOn (motive := domainsOnly s) _ _ ⟨⟨_, rfl⟩, fun _ _ _ _ => rfl⟩ fun _ h d hds =>
    domainsOnly_domainOn (hd d hds) h

theorem domainsOnly_domainsUp (s : State) : domainsOnly s (domainsUp s) := domainsOnly_each (by decide) s

theorem domainsOnly.mainDie {s t : State} (h : domainsOnly s t) : mainDie t = mainDie s := by
  obtain ⟨⟨_, rfl⟩, regs⟩ := h
  have h2 := regs 0x6010 2 (by decide) (by decide)
  have h3 := regs 0x6010 3 (by decide) (by decide)
  simp only [Machine.mainDie, h2, h3]
  rfl

/-! ### Power-on (R843) -/

/-- Registers outside the drive die's and the domains' hold their defaults after power-on. -/
theorem reg_powerOn (s : State) {i k : Nat} (hk : k < 256) (out : i < 0x4400 ∨ 0x5432 ≤ i) :
    (powerOn s).reg i k = State.reset.reg i k := by
  have gone : layerObject (key i k) = false := by
    simp only [layerObject, key, Bool.or_eq_false_iff, beq_eq_false_iff_ne]
    omega
  refine ((domainsOnly_domainsUp _).2 i k (by omega) hk).trans ?_
  simp only [reg_def, State.reset, amGet_filter_key layerObject, gone]
  rfl

theorem pages_storeCut {s : State} (idle : s.nv.writing = none) : (storeCut s).nv.pages = s.nv.pages := by
  simp [storeCut, drawFree, idle]

/-- Power-on clears all but the fuses, the store's pages and what the drive die keeps of its layer (R843, R859). -/
structure PoweredOn (s t : State) : Prop where
  hbm : t.hbm = []
  bank : t.bank = []
  queue : t.nv.queue = []
  writing : t.nv.writing = none
  pages : s.nv.writing = none → t.nv.pages = s.nv.pages
  selecting : t.dev.bringup.selecting = true
  firmware : t.dev.bringup.firmwareRuns = false
  items : t.dev.host.items = []
  sessions : t.dev.ncp.sessions = []
  live : t.dev.live = {}

theorem powerOn_cleared (s : State) : PoweredOn s (powerOn s) := by
  unfold powerOn
  extract_lets now d cut
  obtain ⟨⟨_, e⟩, -⟩ := domainsOnly_domainsUp
    { cut with dev := { d with drawn := cut.dev.drawn }, hbm := [], bank := [], ceilings := {}
               nv := { pages := cut.nv.pages, worn := cut.nv.worn, torn := cut.nv.torn } }
  rw [e]
  exact ⟨rfl, rfl, rfl, rfl, pages_storeCut, rfl, rfl, rfl, rfl, rfl⟩

/-! ### Calends 0, the stacks and light-field ready (R538, R656, R843, R851) -/

theorem firstCalends_idle {s : State}
    (h : s.dev.timing.started = true ∨ s.dev.bringup.inReset = true ∨ s.dev.bringup.selecting = true) :
    firstCalends s = s := if_pos (by simpa [or_assoc] using h)

/-- The timing generator as calends 0 at local time `now` sets it (R538, R843 step 7). -/
def calendsZero (now : Nat) (t : Timing) : Timing :=
  { t with started := true, count := 0, line := 0, calendsAt := now }

/-- Calends 0 starts count 0 now at the base rate, and what follows leaves the clockwork alone (R538, R843 step 7). -/
theorem clockwork_firstCalends {s : State} (coming : s.dev.timing.started = false)
    (out : s.dev.bringup.inReset = false) (selected : s.dev.bringup.selecting = false) :
    clockwork (firstCalends s) = (calendsZero s.now s.dev.timing, max 1 (baseHz s)) := by
  unfold firstCalends
  rw [if_neg (by simp [coming, out, selected])]
  extract_lets now hz timed rated noted logged read
  have begun : clockwork rated = (calendsZero s.now s.dev.timing, hz) := by
    refine (clockwork_setReg (by decide) (by decide) ..).trans (Prod.ext rfl ?_)
    dsimp only [clockwork]
    rw [reg_setReg_sub (by decide) (by decide) (by decide), reg_setReg_sub (by decide) (by decide) (by decide),
      reg_setReg_same]
  simp [read, logged, noted, begun, hz]

theorem hbmRelease_idle {s : State}
    (h : s.dev.memory.releasedAt ≠ none ∨ s.dev.bringup.inReset = true ∨ s.dev.bringup.selecting = true) :
    hbmRelease s = s := if_pos (by simpa [or_assoc, Option.isSome_iff_ne_none] using h)

theorem hbmRelease_releases {s : State} (held : s.dev.memory.releasedAt = none)
    (out : s.dev.bringup.inReset = false) (selected : s.dev.bringup.selecting = false) :
    (hbmRelease s).dev.memory.releasedAt = some s.now ∧ (hbmRelease s).reg 0x5090 1 = 1 ∧
      (hbmRelease s).reg 0x6011 1 = 2 := by
  unfold hbmRelease
  rw [if_neg (by simp [held, out, selected])]
  refine ⟨rfl, ?_, ?_⟩
  · rw [modMemory_reg, reg_setReg_index (by decide) (by decide) (by decide), reg_setReg_same]
  · rw [modMemory_reg, reg_setReg_same]

theorem lightFieldReady_idle {s : State} (h : s.dev.bringup.ready = true ∨ readyNow s = false) :
    lightFieldReady s = s := if_pos (by simpa using h)

/-- Light-field ready takes its time and its event (R851). -/
theorem lightFieldReady_ready {s : State} (coming : s.dev.bringup.ready = false) (now : readyNow s = true) :
    (lightFieldReady s).dev.bringup.ready = true ∧
      (lightFieldReady s).reg 0x6011 3 = min 65535 ((s.now - s.dev.bringup.t0) / 10 ^ 9) ∧
      (lightFieldReady s).reg 0x6011 1 = max 3 (s.reg 0x6011 1) ∧
      (canLog s → eventLogged 851 s (lightFieldReady s)) := by
  unfold lightFieldReady
  rw [if_neg (by simp [coming, now])]
  extract_lets ms timed
  refine ⟨?_, ?_, ?_, fun room => ?_⟩
  · obtain ⟨_, _, _, _, e⟩ := logEvent_eq 851 0 0x6011 3 ms (modBringup (fun b => { b with ready := true }) timed)
    rw [e]; rfl
  · rw [reg_logEvent_index _ _ _ _ _ _ (by decide) (by decide), modBringup_reg]
    dsimp only [timed]
    rw [reg_setReg_same]
    simp [ms]
  · rw [reg_logEvent_index _ _ _ _ _ _ (by decide) (by decide), modBringup_reg]
    exact (reg_setReg_sub (by decide) (by decide) (by decide) ..).trans (reg_setReg_same ..)
  · have kept {x y : Nat} (hy : y < 256) (hx : x ≠ 0x6011) : timed.reg x y = s.reg x y :=
      (reg_setReg_index (by decide) hy hx.symm ..).trans (reg_setReg_index (by decide) hy hx.symm ..)
    refine eventLogged_after ?seq ?trained ?buffer room ..
    case buffer => rfl
    all_goals rw [modBringup_reg, kept (by decide) (by decide)]

/-! ### Resets of the main die (R507, R709, R711, R859, R860) -/

/-- The main die after a reset with a cause. -/
def MainDie.reset (cause : Nat) (s : State) : MainDie :=
  { mainDie s with
    hbm := [], bank := [], host := { memory := s.dev.host.memory }, ncp := { drawn := s.dev.ncp.drawn }, inReset := true
    cause := cause, count := (s.reg 0x6010 3 + 1) % 2 ^ 32, gain := 0, gainShadow := 0 }

/-- What a reset with a cause makes of the main die, before the lens section pauses: requests beyond the store's 64 places
and the answers owed to the others are lost (R709, R711). -/
structure MainCleared (cause : Nat) (s t : State) : Prop where
  die : mainDie t = MainDie.reset cause s
  lens : t.dev.lens = s.dev.lens
  queue : t.nv.queue = (s.nv.queue.take 64).map fun q => { q with answers := [] }
  records : t.nv.records = s.nv.records

theorem mainReset_cleared (cause : Nat) (s : State) :
    ∃ t, MainCleared cause s t ∧ mainReset cause s = t.iff (hasLens s) lensPause := by
  unfold mainReset
  extract_lets b nv d stored up
  have count : (amGet d.od (key 0x6010 3)).getD (objDefault 0x6010 3) = s.reg 0x6010 3 := by
    simp only [d, amGet_filter_key keptOverReset]
    rfl
  have die : mainDie up = MainDie.reset cause s := by
    refine (domainsOnly_domainsUp _).mainDie.trans ?_
    simp only [mainDie, MainDie.reset]
    congr 1
    case e_cause => rw [reg_bumpSeq, if_neg (by decide), reg_setReg_same]
    case e_count =>
      rw [reg_bumpSeq, if_pos rfl, reg_setReg_sub (by decide) (by decide) (by decide), ← count]
      rfl
  obtain ⟨⟨_, e⟩, -⟩ := domainsOnly_domainsUp (((
    { s with dev := d, nv := stored, hbm := [], bank := [] } : State).setReg 0x6010 2 cause).bumpSeq 0x6010 3)
  have raised : up = _ := e
  have here : hasLens up = hasLens s := by rw [raised]; rfl
  refine ⟨up, ⟨die, ?_, ?_, ?_⟩, by rw [here]⟩
  all_goals rw [raised]; rfl

/-- A bistable update that has begun and is in no pulse phase (R507). -/
def betweenPhases (l : Lens) : Bool := l.bistable && l.phase != .idle && l.phase != .pulsing

theorem lens_updatePause (s : State) : (updatePause s).dev.lens = { s.dev.lens with paused := true } := by
  unfold updatePause
  dsimp only
  split <;> rfl

/-- A reset pauses an update between phases, and changes nothing else of the lens section (R507). -/
theorem lens_lensPause (s : State) :
    (lensPause s).dev.lens = { s.dev.lens with paused := s.dev.lens.paused || betweenPhases s.dev.lens } := by
  unfold lensPause
  dsimp only
  split
  next between => rw [lens_updatePause, betweenPhases, between, Bool.or_true]
  next other => rw [betweenPhases, Bool.eq_false_of_not_eq_true other, Bool.or_false]

theorem nv_lensPause (s : State) : (lensPause s).nv = s.nv := by
  unfold lensPause updatePause
  dsimp only
  split
  · split <;> rfl
  · rfl

theorem mainDie_mainReset (cause : Nat) (s : State) : mainDie (mainReset cause s) = MainDie.reset cause s := by
  obtain ⟨t, cleared, e⟩ := mainReset_cleared cause s
  rw [e, mainDie_iff (mainDie_lensPause t), cleared.die]

/-- A reset of the main die pauses an update between phases, and changes nothing else of the lens section (R507). -/
theorem mainReset_lens (cause : Nat) (s : State) : (mainReset cause s).dev.lens =
    { s.dev.lens with paused := s.dev.lens.paused || (hasLens s && betweenPhases s.dev.lens) } := by
  obtain ⟨t, cleared, e⟩ := mainReset_cleared cause s
  rw [e, ← cleared.lens]
  cases hasLens s
  · rw [Bool.false_and, Bool.or_false]; rfl
  · exact lens_lensPause t

theorem mainReset_nv (cause : Nat) (s : State) :
    (mainReset cause s).nv.queue = (s.nv.queue.take 64).map (fun q => { q with answers := [] }) ∧
      (mainReset cause s).nv.records = s.nv.records := by
  obtain ⟨t, cleared, e⟩ := mainReset_cleared cause s
  have paused : (t.iff (hasLens s) lensPause).nv = t.nv := iff_keeps (·.nv) _ lensPause t (nv_lensPause t)
  rw [e, paused]
  exact ⟨cleared.queue, cleared.records⟩

/-! ### The main die comes out of reset (R839, R849, R860) -/

theorem recordCeilings_congr {s t : State} (h : t.nv.records = s.nv.records) : recordCeilings t = recordCeilings s := by
  simp only [recordCeilings, recordPayload, h]

theorem mainResume_idle {s : State} (h : s.dev.bringup.inReset = false) : mainResume s = s := if_pos (by simp [h])

/-- Out of reset, with the records selected, the ceilings are those of the store, and all else of the main die stands. -/
theorem mainDie_mainResume {s : State} (h : s.dev.bringup.inReset = true) : mainDie (mainResume s) =
    { mainDie s with
      inReset := false
      ceilings := if s.dev.bringup.selecting then s.ceilings else recordCeilings s } := by
  unfold mainResume
  rw [if_neg (by simp [h])]
  extract_lets out steps
  have selecting : out.dev.bringup.selecting = s.dev.bringup.selecting := rfl
  rw [selecting]
  by_cases waits : s.dev.bringup.selecting = true
  · rw [if_pos waits, if_pos waits]; rfl
  · rw [if_neg waits, if_neg waits]
    refine (mainDie_iff ?_).trans (mainDie_mainSteps out)
    simp

/-- The reset command: a reset with cause 2, at once out of it (R859, R861). -/
theorem mainDie_mainDieReset (s : State) : mainDie (mainDieReset s) =
    { MainDie.reset 2 s with
      inReset := false
      ceilings := if s.dev.bringup.selecting then s.ceilings else recordCeilings s } := by
  have die := mainDie_mainReset 2 s
  have reset := dieIs die
  have inReset : (mainReset 2 s).dev.bringup.inReset = true := reset.inReset
  have selecting : (mainReset 2 s).dev.bringup.selecting = s.dev.bringup.selecting := reset.selecting
  have ceilings : (mainReset 2 s).ceilings = s.ceilings := reset.ceilings
  rw [mainDieReset, mainDie_mainResume inReset, die, selecting, ceilings, recordCeilings_congr (mainReset_nv 2 s).2]

/-- Steps 3 to 6 of power-up, with the lens section's start before them, keep the reset state (R475, R843). -/
theorem mainDie_selected (t : State) : mainDie (mainSteps (erasureResume (t.iff (hasLens t) lensReset))) =
    { mainDie t with ceilings := recordCeilings (erasureResume (t.iff (hasLens t) lensReset)) } := by
  rw [mainDie_mainSteps, mainDie_erasureResume, mainDie_iff (mainDie_lensReset t)]

/-- The end of the selection begins steps 3 to 6 of power-up (R726, R843). -/
theorem selectionComplete_selected {s : State} (h : s.dev.bringup.selecting = true) :
    (selectionComplete s).dev.bringup.selecting = false := by
  have waits : ¬(!s.dev.bringup.selecting) = true := by simp [h]
  have steps := mainDie_selected (modBringup (fun b => { b with selecting := false }) (storeSelect s))
  have e : selectionComplete s = _ := if_neg waits
  rw [← e] at steps
  exact (dieIs steps).selecting

theorem selectionComplete_idle {s : State} (h : s.dev.bringup.selecting = false) : selectionComplete s = s :=
  if_pos (by simp [h])

/-! ### The statement -/

/-- Settles O59: power-on and the resets start over from an empty main die, and what the steps of power-up do after that
keeps it, but for the ceilings that they load; calends 0, the stacks and light-field ready each take their own step. -/
theorem bringupAndResetCommands : Obligations.BringupAndResetCommands := by
  unfold Obligations.BringupAndResetCommands
  refine ⟨?power, ?selection, ?starts, ?idle, ?ready, ?resets, ?release⟩
  case power =>
    intro s
    have on := powerOn_cleared s
    refine ⟨_, exec_powerOn s, ?_⟩
    simp only [onAll_fuses, onAll_hbm, onAll_bank, onAll_nv, onAll_dev, onAll_reg]
    exact ⟨trivial, on.hbm, on.bank, on.queue, on.writing, on.pages, on.selecting, on.firmware, on.items, on.sessions,
      on.live, fun i k hk out => reg_powerOn s hk out⟩
  case selection =>
    intro s
    refine ⟨fun h => ?_, fun h => ⟨_, exec_storeSelectionComplete s, ?_, onCeil_fuses ..⟩⟩
    · rw [exec_storeSelectionComplete, onCeil_of_fixed (selectionComplete_idle h)]
    · rw [onCeil_dev, partsOf_bringup (by decide)]
      exact selectionComplete_selected h
  case starts =>
    intro s out selected
    refine ⟨fun coming => ⟨_, exec_firstCalends s, ?_⟩, fun held => ⟨_, exec_hbmRelease s, ?_⟩⟩
    · obtain ⟨timing, rate⟩ := timing_of_clockwork (clockwork_firstCalends coming out selected)
      rw [onMemNv_reg (by decide), onMemNv_dev, partsOf_timing (by decide), timing]
      exact ⟨rfl, rfl, rfl, rfl, rate⟩
    · rw [onDev_reg (by decide), onDev_reg (by decide), onDev_dev, partsOf_memory (by decide)]
      exact hbmRelease_releases held out selected
  case idle =>
    intro s
    refine ⟨fun h => ?_, fun h => ?_⟩
    · rw [exec_firstCalends, onMemNv_of_fixed (firstCalends_idle h)]
    · rw [exec_hbmRelease, onDev_of_fixed (hbmRelease_idle h)]
  case ready =>
    intro s
    refine ⟨fun h => ?_, fun coming now => ⟨_, exec_lightFieldReady s, ?_⟩⟩
    · rw [exec_lightFieldReady, onDev_of_fixed (lightFieldReady_idle h)]
    · obtain ⟨ready, time, step, logged⟩ := lightFieldReady_ready coming now
      rw [onDev_reg (by decide), onDev_reg (by decide), onDev_dev, partsOf_bringup (by decide)]
      exact ⟨ready, time, step, fun room => eventLogged_onDev (by decide) (by decide) (logged room)⟩
  case resets =>
    intro s c which
    by_cases command : c = .mainDieResetCommand
    · subst command
      have die := dieIs (mainDie_mainDieReset s)
      refine ⟨_, exec_mainDieResetCommand s, ?_⟩
      simp only [onAll_fuses, onAll_ceilings, onAll_hbm, onAll_bank, onAll_nv, onAll_dev, onAll_reg, onAll_shad, die.host,
        die.ncp]
      refine ⟨die.count, die.hbm, die.bank, rfl, rfl, trivial, die.drivers, die.pages, fun h => absurd rfl h,
        fun _ => ⟨die.inReset, die.cause, die.gain, die.gainShadow, fun selected => ?_⟩⟩
      rw [die.ceilings, selected]; rfl
    · have held : exec c s = .next (onAll (mainReset 1) s) := by
        rcases which with rfl | rfl | rfl
        · exact exec_sysReset s
        · exact exec_railBad s
        · exact absurd rfl command
      have die := dieIs (mainDie_mainReset 1 s)
      refine ⟨_, held, ?_⟩
      simp only [onAll_fuses, onAll_ceilings, onAll_hbm, onAll_bank, onAll_nv, onAll_dev, onAll_reg, die.host, die.ncp,
        mainReset_lens]
      refine ⟨die.count, die.hbm, die.bank, rfl, rfl, trivial, die.drivers, die.pages,
        fun _ => ⟨die.inReset, die.cause, die.ceilings, trivial, ?_, (mainReset_nv 1 s).1⟩, fun h => absurd h command⟩
      simp [betweenPhases, and_assoc]
  case release =>
    intro s
    refine ⟨fun h => ?_, fun h => ⟨_, exec_sysResetRelease s, ?_⟩⟩
    · rw [exec_sysResetRelease, onCeil_of_fixed (mainResume_idle h)]
    · have die := dieIs (mainDie_mainResume h)
      rw [onCeil_dev, partsOf_bringup (by decide), partsOf_live (by decide), onCeil_ceilings]
      refine ⟨die.inReset, onCeil_fuses .., onCeil_hbm .., fun selected => ⟨?_, fun off => die.gain.trans off⟩⟩
      rw [die.ceilings, selected]; rfl

end Sys2Proof.Machine
end

section
/-!
SUPPORT. The lens section: what each of its small operations leaves of the registers and of the lens state (R477, R482,
R487, R489, R498, R507, R514).
-/
namespace Sys2Proof.Machine

/-! ### Tables and lists -/

/-- A table whose values alone change. -/
theorem amGet_map_values {α β : Type} (g : Nat → α → β) (m : AMap α) (k : Nat) :
    amGet (m.map fun e => (e.1, g e.1 e.2)) k = (amGet m k).map (g k) := by
  induction m with
  | nil => rfl
  | cons e m ih =>
    obtain ⟨j, v⟩ := e
    by_cases hj : j = k
    · subst hj
      simp [amGet]
    · simp [amGet, hj, ih]

/-! ### Registers and the lens under the operations -/

theorem reg_pumpSet {x y : Nat} (hy : y < 256) (pump : x = 0x4403 → y ≠ 2) (s : State) :
    (pumpSet s).reg x y = s.reg x y := by
  rw [pumpSet, reg_setReg, if_neg fun e => ?_]
  obtain ⟨rfl, rfl⟩ := key_inj (by decide) hy e
  exact pump rfl rfl

/-- The pump factor for V4 of the band in force, or none where the part has no pump (R477). -/
def pumpNow (s : State) : Nat := if s.dev.lens.pump then pumpFactor (v4Setting s) s.dev.lens.v33 else 0

@[simp] theorem lens_pumpSet (s : State) : (pumpSet s).dev.lens = s.dev.lens := rfl

@[simp] theorem lens_domainOff (d : Nat) (s : State) : (domainOff d s).dev.lens = s.dev.lens := by
  unfold domainOff
  split <;> rfl

@[simp] theorem lens_domainWake (d : Nat) (s : State) : (domainWake d s).dev.lens = s.dev.lens := by
  unfold domainWake
  split <;> rfl

@[simp] theorem lens_updateRuns (s : State) : (updateRuns s).dev.lens = s.dev.lens := by
  unfold updateRuns
  split <;> rfl

@[simp] theorem lens_logEvent (r c i j d : Nat) (s : State) : (logEvent r c i j d s).dev.lens = s.dev.lens := by
  obtain ⟨_, _, _, _, e⟩ := logEvent_eq r c i j d s
  rw [e]

@[simp] theorem lens_storeStart (s : State) : (storeStart s).dev.lens = s.dev.lens := by
  obtain ⟨_, _, e⟩ := storeOnly_storeStart s
  rw [e]

@[simp] theorem lens_writeRing (r : Nat) (p : List Byte) (use : StoreUse) (s : State) :
    (writeRing r p use s).dev.lens = s.dev.lens := lens_storeStart _

@[simp] theorem live_updateRuns (s : State) : (updateRuns s).dev.live = s.dev.live := by
  unfold updateRuns
  split <;> rfl

theorem lens_onDev {ps : List DevPart} (lens : .lens ∈ ps) (f : State → State) (s : State) :
    (onDev ps f s).dev.lens = (f s).dev.lens := by rw [onDev_dev, partsOf_lens lens]

theorem lens_onNv {ps : List DevPart} (lens : .lens ∈ ps) (f : State → State) (s : State) :
    (onNv ps f s).dev.lens = (f s).dev.lens := by rw [onNv_dev, partsOf_lens lens]

/-! ### Settings of the band in force (R477, R486, R488) -/

/-- Two states whose drives have one kind of layer, band and tables, one committed state and one set of ceilings. -/
structure SameDrive (s t : State) : Prop where
  bistable : t.dev.lens.bistable = s.dev.lens.bistable
  band : t.dev.lens.band = s.dev.lens.band
  mono : t.dev.lens.mono = s.dev.lens.mono
  bi : t.dev.lens.bi = s.dev.lens.bi
  live : t.dev.live = s.dev.live
  ceilings : t.ceilings = s.ceilings

theorem SameDrive.of_lens {s t : State} (lens : t.dev.lens = s.dev.lens) (live : t.dev.live = s.dev.live)
    (ceilings : t.ceilings = s.ceilings) : SameDrive s t := by
  refine ⟨?_, ?_, ?_, ?_, live, ceilings⟩
  all_goals rw [lens]

theorem SameDrive.v4Setting {s t : State} (h : SameDrive s t) : v4Setting t = v4Setting s := by
  simp only [Machine.v4Setting, monoTable, biTable, State.com, h.bistable, h.band, h.mono, h.bi, h.live, h.ceilings]

theorem SameDrive.biRepeats {s t : State} (h : SameDrive s t) : biRepeats t = biRepeats s := by
  simp only [Machine.biRepeats, biTable, State.com, h.band, h.bi, h.live]

theorem SameDrive.overdriveFrames {s t : State} (h : SameDrive s t) : overdriveFrames t = overdriveFrames s := by
  simp only [Machine.overdriveFrames, monoTable, State.com, h.band, h.mono, h.live]

/-- The scope of a command keeps the drive's settings where its function leaves the committed state and the ceilings. -/
theorem sameDrive_onDev {f : State → State} {s : State} (live : (f s).dev.live = s.dev.live)
    (ceilings : (f s).ceilings = s.ceilings) : SameDrive (f s) (onDev [.od, .lens] f s) :=
  .of_lens (lens_onDev (by decide) f s) live.symm ceilings.symm

theorem sameDrive_onNv {f : State → State} {s : State} (live : (f s).dev.live = s.dev.live)
    (ceilings : (f s).ceilings = s.ceilings) : SameDrive (f s) (onNv [.od, .lens] f s) :=
  .of_lens (lens_onNv (by decide) f s) live.symm ceilings.symm

/-- The factor lies within 2 to 8, and below 8 it reaches V4 / (0.9 V33) (R477). -/
theorem pumpFactor_bounds {v4 v33 : Nat} (on : v33 ≠ 0) : 2 ≤ pumpFactor v4 v33 ∧ pumpFactor v4 v33 ≤ 8 ∧
    (pumpFactor v4 v33 < 8 → 10 * v4 ≤ 9 * v33 * pumpFactor v4 v33) := by
  unfold pumpFactor
  refine ⟨by omega, by omega, fun below => ?_⟩
  have up : 10 * v4 ≤ 9 * v33 * ((10 * v4 + 9 * v33 - 1) / (9 * v33)) := by
    have := Nat.lt_mul_div_succ (10 * v4 + 9 * v33 - 1) (show 0 < 9 * v33 by omega)
    rw [Nat.mul_add, Nat.mul_one] at this
    omega
  exact up.trans (Nat.mul_le_mul_left _ (by omega))

end Sys2Proof.Machine
end

section
/-!
PROOF. The lens is driven: drive frames, reports, the bias source, pulse phases, measurements and bands (R477, R480 to
R482, R486 to R489, R497 to R499, R502, R507, R512, R514).
-/
namespace Sys2Proof.Machine

/-! ### Drive frames (R482, R486, R497) -/

/-- The lens section as a drive frame begins: the band that waits and the committed table apply (R486, R492, R512). -/
def frameLens (s : State) : Lens :=
  { s.dev.lens with
    band := s.dev.lens.nextBand.getD s.dev.lens.band, nextBand := none, mono := s.com 0x4401 1
    frames := s.dev.lens.frames + 1, inverted := s.dev.lens.inverted == turnedAt s.dev.lens 48, flips := []
    phaseAt := s.now, held := [] }

/-- The state as a drive frame begins, before its zones count on. -/
def frameBegun (s : State) : State :=
  pumpSet ((updateRuns (modLens (fun _ => frameLens s) s)).setReg 0x4400 6 (frameLens s).band)

/-- A zone's overdrive starts with `n` frames, or counts down (R497). -/
def overdriven (n ms : Nat) (t : Transition) : Transition :=
  { t with
    overdrive := match t.overdrive with
      | none => some n
      | some k => some (k - 1)
    settle := max t.settle ms }

theorem driveFrame_eq {s : State} (mono : s.dev.lens.bistable = false) (on : s.dev.lens.bias = 1)
    (supplied : s.dev.lens.onHold = false) : driveFrame s =
      modLens (fun l => { l with transitions := l.transitions.map fun e =>
        (e.1, overdriven (overdriveFrames (frameBegun s)) (settleMs (frameBegun s) (frameLens s).band) e.2) })
        (frameBegun s) :=
  if_neg (by simp [mono, on, supplied])

theorem lens_frameBegun (s : State) : (frameBegun s).dev.lens = frameLens s := by
  simp [frameBegun]

theorem live_frameBegun (s : State) : (frameBegun s).dev.live = s.dev.live := live_updateRuns _

theorem ceilings_frameBegun (s : State) : (frameBegun s).ceilings = s.ceilings := by
  unfold frameBegun updateRuns
  split <;> rfl

theorem reg_frameBegun_band (s : State) : (frameBegun s).reg 0x4400 6 = (frameLens s).band := by
  rw [frameBegun, reg_pumpSet (by decide) (by decide), reg_setReg_same]

/-! ### Targets and reports (R497 to R499) -/

theorem hasBit_putBit_same (n i : Nat) (b : Bool) : hasBit (putBit n i b) i = b := by
  cases b
  · exact hasBit_clearBit_same n i
  · exact hasBit_setBit_same n i

theorem lens_updateStatus (s : State) : (updateStatus s).dev.lens = s.dev.lens := by
  unfold updateStatus
  split <;> rfl

theorem lens_zoneReached {s : State} {z : Nat} {t : Transition} (way : amGet s.dev.lens.transitions z = some t)
    (past : t.overdrive = some 0) (works : zoneDead s z = false) : (zoneReached z s).dev.lens =
      { s.dev.lens with
        reached := putBit s.dev.lens.reached z t.to2D, transitions := amErase s.dev.lens.transitions z
        reports := s.dev.lens.reports ++ [(z, t.to2D)] } := by
  unfold zoneReached
  rw [way]
  dsimp only
  rw [if_pos ⟨past, by simp [works]⟩, lens_updateStatus]
  rfl

theorem lens_zoneReport {s : State} {z : Nat} {r : Nat × Bool}
    (found : (s.dev.lens.reports.find? fun r => r.1 == z) = some r) (out : s.dev.bringup.inReset = false) :
    (zoneReport z s).dev.lens =
      { s.dev.lens with reports := s.dev.lens.reports.erase r, arrived := s.dev.lens.arrived ++ [r] } := by
  unfold zoneReport
  rw [found]
  dsimp only
  rw [if_neg (by simp [out])]
  rfl

/-! ### The bias source starts (R477, R489) -/

theorem reg_pumpSet_same (s : State) : (pumpSet s).reg 0x4403 2 = pumpNow s := reg_setReg_same ..

/-- What R477 says of the pump in a state: its factor where the part has a pump, none elsewhere. -/
def pumpGood (v33 : Nat) (pump : Bool) (s : State) : Prop :=
  (pump = true → 2 ≤ s.reg 0x4403 2 ∧ s.reg 0x4403 2 ≤ 8 ∧
    (s.reg 0x4403 2 < 8 → 10 * v4Setting s ≤ 9 * v33 * s.reg 0x4403 2)) ∧
  (pump = false → s.reg 0x4403 2 = 0)

theorem pumpGood_of {s t : State} (drive : SameDrive s t) (reg : t.reg 0x4403 2 = pumpNow s)
    (on : s.dev.lens.v33 ≠ 0) : pumpGood s.dev.lens.v33 s.dev.lens.pump t := by
  rw [pumpGood, reg, drive.v4Setting, pumpNow]
  cases s.dev.lens.pump
  · exact ⟨fun h => absurd h (by decide), fun _ => rfl⟩
  · exact ⟨fun _ => pumpFactor_bounds on, fun h => absurd h (by decide)⟩

/-- The source is on at a supply of `v33` mV, with PD38 (R477). -/
def sourceOn (v33 : Nat) (s : State) : State :=
  let s := pumpSet (modLens (fun l => { l with v33 := v33, outOfRange := [], bias := 1 }) s)
  domainOn 38 (if domainState s 38 = 0 then s.bump 0x5431 39 else s)

theorem biasStart_eq {s : State} {v33 : Nat} (may : biasMayStart s = true) (on : v33 ≠ 0) : biasStart v33 s =
    if !s.dev.lens.bistable then sourceOn v33 s
    else nextCommon (modLens (fun l => { l with commons := commonList l.mask }) (sourceOn v33 s)) :=
  if_neg (by simp [may, on])

theorem biasStart_idle {s : State} {v33 : Nat} (may : biasMayStart s = false) : biasStart v33 s = s :=
  if_pos (by simp [may])

/-- What the start of the source leaves, of the lens section, the supplies and the registers (R477). -/
structure SourceOn (v33 : Nat) (s t : State) : Prop where
  lens : t.dev.lens = { s.dev.lens with v33 := v33, outOfRange := [], bias := 1 }
  live : t.dev.live = s.dev.live
  ceilings : t.ceilings = s.ceilings
  domain : domainState t 38 = 2
  pump : t.reg 0x4403 2 = pumpNow t

theorem sourceOn_spec {s : State} (v33 : Nat) (present : hasLens s = true) : SourceOn v33 s (sourceOn v33 s) := by
  unfold sourceOn
  extract_lets t
  have here : ∀ x : State, x.fuses = s.fuses → domainOn 38 x = x.setReg 0x5430 39 2 := fun x fuses =>
    if_pos (by simp [domainHere, show hasLens x = true by rw [hasLens, fuses]; exact present])
  split
  · rw [here (t.bump 0x5431 39) rfl]
    refine ⟨rfl, rfl, rfl, reg_setReg_same .., ?_⟩
    rw [reg_setReg_index (by decide) (by decide) (by decide), reg_bump, if_neg (by decide)]
    exact reg_pumpSet_same _
  · rw [here t rfl]
    refine ⟨rfl, rfl, rfl, reg_setReg_same .., ?_⟩
    rw [reg_setReg_index (by decide) (by decide) (by decide)]
    exact reg_pumpSet_same _

/-! ### Pulse phases (R486 to R489, R512) -/

/-- The lens section as a pulse phase begins (R486, R512). -/
def phaseLens (s : State) : Lens :=
  { s.dev.lens with
    band := s.dev.lens.nextBand.getD s.dev.lens.band, nextBand := none, bi := s.com 0x4401 2, phase := .pulsing
    phaseAt := s.now, held := [] }

theorem lens_phaseBegin (s : State) : (phaseBegin s).dev.lens = phaseLens s := rfl

theorem lens_nextCommon (s : State) :
    (nextCommon s).dev.lens = { phaseLens s with repeats := biRepeats (phaseBegin s) } := rfl

theorem live_nextCommon (s : State) : (nextCommon s).dev.live = s.dev.live := rfl

theorem ceilings_nextCommon (s : State) : (nextCommon s).ceilings = s.ceilings := rfl

theorem sameDrive_phaseBegin (s : State) : SameDrive (phaseBegin s) (nextCommon s) := ⟨rfl, rfl, rfl, rfl, rfl, rfl⟩

/-- A phase that begins sets the pump for its band (R477). -/
theorem reg_nextCommon_pump (s : State) : (nextCommon s).reg 0x4403 2 = pumpNow (phaseBegin s) := by
  rw [nextCommon, modLens_reg]
  exact reg_pumpSet_same _

theorem reg_nextCommon {x y : Nat} (hy : y < 256) (pump : x = 0x4403 → y ≠ 2) (band : x ≠ 0x4400) (s : State) :
    (nextCommon s).reg x y = s.reg x y := by
  rw [nextCommon, modLens_reg, phaseBegin, reg_pumpSet hy pump, reg_setReg_index (by decide) hy band.symm]
  exact modLens_reg ..

/-- The source of a monostable layer is on and drives it. -/
theorem biasStart_monostable {s : State} {v33 : Nat} (may : biasMayStart s = true)
    (on : v33 ≠ 0) (mono : s.dev.lens.bistable = false) : biasStart v33 s = sourceOn v33 s := by
  rw [biasStart_eq may on, mono]; rfl

/-- The source of a bistable layer is on, and the first common of the update is due (R489). -/
theorem biasStart_bistable {s : State} {v33 : Nat} (may : biasMayStart s = true) (on : v33 ≠ 0)
    (bi : s.dev.lens.bistable = true) : biasStart v33 s =
      nextCommon (modLens (fun l => { l with commons := commonList l.mask }) (sourceOn v33 s)) := by
  rw [biasStart_eq may on, bi]; rfl

/-- What BIAS_SOURCE_START leaves where the source may start (R477, R489). -/
structure SourceStarted (v33 : Nat) (s t : State) : Prop where
  live : t.dev.live = s.dev.live
  ceilings : t.ceilings = s.ceilings
  domain : domainState t 38 = 2
  pump : pumpGood v33 s.dev.lens.pump t
  bias : t.dev.lens.bias = 1
  first : s.dev.lens.bistable = true →
    t.dev.lens.phase = .pulsing ∧ t.dev.lens.commons = commonList s.dev.lens.mask ∧ t.dev.lens.repeats = biRepeats t

theorem biasStart_started {s : State} {v33 : Nat} (present : hasLens s = true) (may : biasMayStart s = true)
    (on : v33 ≠ 0) : SourceStarted v33 s (biasStart v33 s) := by
  have source := sourceOn_spec v33 present
  cases kind : s.dev.lens.bistable
  case false =>
    rw [biasStart_monostable may on kind]
    have pump := pumpGood_of (.of_lens rfl rfl rfl) source.pump (by rw [source.lens]; exact on)
    rw [source.lens] at pump
    exact ⟨source.live, source.ceilings, source.domain, pump, by rw [source.lens], fun h => absurd (h.symm.trans kind) (by decide)⟩
  case true =>
    rw [biasStart_bistable may on kind]
    generalize first : modLens (fun l => { l with commons := commonList l.mask }) (sourceOn v33 s) = t
    have lens : t.dev.lens =
        { s.dev.lens with v33 := v33, outOfRange := [], bias := 1, commons := commonList s.dev.lens.mask } := by
      rw [← first, modLens_dev, source.lens]
    have begun : (phaseBegin t).dev.lens.v33 = v33 ∧ (phaseBegin t).dev.lens.pump = s.dev.lens.pump := by
      rw [lens_phaseBegin, phaseLens, lens]; exact ⟨rfl, rfl⟩
    have pump := pumpGood_of (sameDrive_phaseBegin t) (reg_nextCommon_pump t) (by rw [begun.1]; exact on)
    rw [begun.1, begun.2] at pump
    refine ⟨?_, ?_, ?_, pump, ?_, fun _ => ⟨?_, ?_, ?_⟩⟩
    · rw [live_nextCommon, ← first]
      exact source.live
    · rw [ceilings_nextCommon, ← first]
      exact source.ceilings
    · rw [domainState, reg_nextCommon (by decide) (by decide) (by decide), ← first, modLens_reg]
      exact source.domain
    · rw [lens_nextCommon, phaseLens, lens]
    · rfl
    · rw [lens_nextCommon, phaseLens, lens]
    · rw [(sameDrive_phaseBegin t).biRepeats]; rfl

/-! ### Phases that end (R487, R488, R498, R502, R507) -/

theorem lens_phaseOff (s : State) : (phaseOff s).dev.lens = { s.dev.lens with bias := 0 } := lens_domainOff ..

theorem lens_orPause (s : State) :
    (orPause s).dev.lens = { s.dev.lens with paused := s.dev.lens.paused || s.dev.bringup.inReset } := by
  unfold orPause
  cases s.dev.bringup.inReset
  · rw [Bool.or_false]; rfl
  · rw [Bool.or_true]; exact lens_updatePause s

/-- The lens section once the drive has released what it held to the end of a phase. -/
def released (s : State) : State := modLens (fun l => { l with held := [] }) s

/-- The last phase of common `c` has ended, and its zones settle (R498). -/
def commonDone (c : Nat) (cs : List Nat) (s : State) : State :=
  settleCommon c (modLens (fun l => { l with commons := cs }) (released s))

theorem live_commonDone (c : Nat) (cs : List Nat) (s : State) : (commonDone c cs s).dev.live = s.dev.live := by
  simp only [commonDone, settleCommon, released, modLens_dev]

theorem ceilings_commonDone (c : Nat) (cs : List Nat) (s : State) : (commonDone c cs s).ceilings = s.ceilings := by
  simp only [commonDone, settleCommon, released, modLens_ceilings]

/-- The update pauses before the commons `cs`, with the source off (R507). -/
def pausedBefore (cs : List Nat) (s : State) : State :=
  updatePause (phaseOff (modLens (fun l => { l with phase := .starting, mask := cs.foldl setBit 0 }) s))

/-- A phase ends with no newer update and on the supply: the next repeat begins; after the last one the next common is due,
and after the last common the source turns off and LENS_END is queued. In a reset the update pauses instead. -/
theorem pulseEnd_eq {s : State} {c : Nat} {cs : List Nat} (phase : s.dev.lens.phase = .pulsing)
    (commons : s.dev.lens.commons = c :: cs) (supplied : s.dev.lens.onHold = false) (alone : s.dev.lens.queued = false) :
    pulseEnd s =
      if 1 < s.dev.lens.repeats then
        if s.dev.bringup.inReset then pausedBefore (c :: cs) (released s)
        else modLens (fun l => { l with repeats := l.repeats - 1 }) (phaseBegin (released s))
      else if cs.isEmpty then
        orPause (writeRing 1 (natLE s.dev.lens.writing 4) .journalEnd
          (phaseOff (modLens (fun l => { l with phase := .writingEnd }) (commonDone c cs s))))
      else if s.dev.bringup.inReset then pausedBefore cs (commonDone c cs s)
      else nextCommon (commonDone c cs s) := by
  unfold pulseEnd
  dsimp only
  rw [phase, commons]
  dsimp only
  rw [if_neg (by simp [supplied]), if_neg (by simp [alone])]
  rfl

theorem lens_pausedBefore (cs : List Nat) (s : State) : (pausedBefore cs s).dev.lens =
    { s.dev.lens with phase := .starting, mask := cs.foldl setBit 0, bias := 0, paused := true } := by
  rw [pausedBefore, lens_updatePause, lens_phaseOff]
  rfl

/-- A request is in the store's queue, or it is the one being written (R709). -/
def requested (r : StoreReq) (s : State) : Prop := r ∈ s.nv.queue ∨ s.nv.writing.map (·.req) = some r

/-- The start of the next write forgets no request (R705, R709). -/
theorem requested_storeStart {r : StoreReq} {s : State} (waits : r ∈ s.nv.queue) : requested r (storeStart s) := by
  obtain e | ⟨_, q, _, page, bytes, e⟩ := storeStart_cases s
  · rw [e]
    exact .inl waits
  · rw [e]
    by_cases same : r = q
    · exact .inr (by simp [same])
    · exact .inl ((List.mem_erase_of_ne same).mpr waits)

theorem requested_writeRing (n : Nat) (payload : List Byte) (use : StoreUse) (s : State) :
    requested { target := .ring n, bytes := payload, use := use } (writeRing n payload use s) :=
  requested_storeStart (List.mem_append_right _ List.mem_cons_self)

theorem nv_orPause (s : State) : (orPause s).nv = s.nv := by
  refine iff_keeps (·.nv) _ updatePause s ?_
  unfold updatePause
  dsimp only
  split <;> rfl

/-! ### Faults of the source (R480, R481, R514) -/

/-- A running or paused update has failed (R514). -/
def updateOff (s : State) : State :=
  if s.reg 0x4420 2 = 1 ∨ s.reg 0x4420 2 = 3 ∨ s.reg 0x4420 2 = 5 then s.setReg 0x4420 2 4 else s

/-- The source and its outputs are off, and its update has failed (R514). -/
def sourceOff (s : State) : State := domainOff 38 ((updateOff s).setReg 0x4403 2 0)

/-- The source turns off with code `b`: its outputs and its update first, then the lens section, which keeps its counts of
measurements. -/
theorem biasOff_eq (b : Nat) (s : State) : ∃ f : Lens → Lens, biasOff b s = modLens f (sourceOff s) ∧
    (∀ l, (f l).bias = b) ∧ ∀ l, (f l).outOfRange = l.outOfRange := by
  unfold biasOff
  extract_lets l off st failed source changed
  split
  · exact ⟨_, rfl, fun _ => rfl, fun _ => rfl⟩
  · exact ⟨_, rfl, fun _ => rfl, fun _ => rfl⟩

theorem lens_updateOff (s : State) : (updateOff s).dev.lens = s.dev.lens := by
  unfold updateOff
  split <;> rfl

theorem reg_updateOff {x y : Nat} (hy : y < 256) (update : x ≠ 0x4420) (s : State) :
    (updateOff s).reg x y = s.reg x y := by
  unfold updateOff
  split
  · exact reg_setReg_index (by decide) hy update.symm ..
  · rfl

/-- What the source's end leaves: no register but the pump factor, the update's status and PD38 (R514). -/
structure SourceOff (b : Nat) (s t : State) : Prop where
  bias : t.dev.lens.bias = b
  outOfRange : t.dev.lens.outOfRange = s.dev.lens.outOfRange
  buffer : t.dev.eventBuffer = s.dev.eventBuffer
  pump : t.reg 0x4403 2 = 0
  failed : s.reg 0x4420 2 = 1 ∨ s.reg 0x4420 2 = 3 ∨ s.reg 0x4420 2 = 5 → t.reg 0x4420 2 = 4
  regs : ∀ x y, y < 256 → x ≠ 0x4420 → x ≠ 0x5430 → (x = 0x4403 → y ≠ 2) → t.reg x y = s.reg x y

theorem biasOff_off (b : Nat) (s : State) : SourceOff b s (biasOff b s) := by
  obtain ⟨f, e, bias, counts⟩ := biasOff_eq b s
  rw [e]
  refine ⟨bias _, ?_, ?_, ?_, fun running => ?_, fun x y hy update power pump => ?_⟩
  · rw [modLens_dev, counts, sourceOff, lens_domainOff, setReg_dev, lens_updateOff]
  · have kept : (sourceOff s).dev.eventBuffer = s.dev.eventBuffer := by
      unfold sourceOff domainOff updateOff
      split <;> split <;> rfl
    exact kept
  · rw [modLens_reg, sourceOff, reg_domainOff (by decide) (by decide) (by decide), reg_setReg_same]
  · rw [modLens_reg, sourceOff, reg_domainOff (by decide) (by decide) (by decide),
      reg_setReg_index (by decide) (by decide) (by decide), updateOff, if_pos running, reg_setReg_same]
  · rw [modLens_reg, sourceOff, reg_domainOff (by decide) power hy, reg_setReg, if_neg fun e => ?_,
      reg_updateOff hy update]
    obtain ⟨rfl, rfl⟩ := key_inj (by decide) hy e
    exact pump rfl rfl

/-- What the source's end leaves once the counter `i`:`j` has counted it and the log has it (R493, R514). -/
structure Stopped (b rule i j : Nat) (s t : State) : Prop where
  bias : t.dev.lens.bias = b
  outOfRange : t.dev.lens.outOfRange = s.dev.lens.outOfRange
  pump : t.reg 0x4403 2 = 0
  measured : t.reg 0x4403 1 = s.reg 0x4403 1
  failed : s.reg 0x4420 2 = 1 ∨ s.reg 0x4420 2 = 3 ∨ s.reg 0x4420 2 = 5 → t.reg 0x4420 2 = 4
  counted : counted s t i j
  logged : canLog s → eventLogged rule s t

theorem stopped_biasOff (b rule cls data : Nat) {i j : Nat} (lens : i = 0x4402 ∨ i = 0x4403) (hj : j < 256)
    (pump : j ≠ 2) (measured : j ≠ 1) (s : State) :
    Stopped b rule i j s (logEvent rule cls i j data ((biasOff b s).bump i j)) := by
  have off := biasOff_off b s
  have bumped {x y : Nat} (hy : y < 256) (other : x = i → j ≠ y) :
      ((biasOff b s).bump i j).reg x y = (biasOff b s).reg x y := by
    rw [reg_bump, if_neg fun e => ?_]
    obtain ⟨same, sub⟩ := key_inj hj hy e
    exact other same.symm sub
  have reg {x y : Nat} (log : x ≠ 0x6000) (hy : y < 256) (other : x = i → j ≠ y) :
      (logEvent rule cls i j data ((biasOff b s).bump i j)).reg x y = (biasOff b s).reg x y := by
    rw [reg_logEvent_index _ _ _ _ _ _ log hy, bumped hy other]
  refine ⟨?_, ?_, ?_, ?_, fun running => ?_, ?_, fun room => ?_⟩
  · rw [lens_logEvent, bump_dev, off.bias]
  · rw [lens_logEvent, bump_dev, off.outOfRange]
  · rw [reg (by decide) (by decide) fun _ => pump, off.pump]
  · rw [reg (by decide) (by decide) fun _ => measured, off.regs _ _ (by decide) (by decide) (by decide) (by decide)]
  · rw [reg (by decide) (by decide) fun e => by omega, off.failed running]
  · rw [Machine.counted, reg_logEvent_index _ _ _ _ _ _ (by omega) hj, reg_bump, if_pos rfl,
      off.regs _ _ hj (by omega) (by omega) fun _ => pump]
  · refine eventLogged_after ?_ ?_ (by rw [bump_dev, off.buffer]) room ..
    all_goals rw [bumped (by decide) fun e => by omega, off.regs _ _ (by decide) (by decide) (by decide) (by decide)]

/-- A bias fault turns the source off with code 2, counted and logged (R514). -/
theorem stopped_biasFault (s : State) : Stopped 2 514 0x4403 4 s (biasFault s) :=
  stopped_biasOff 2 514 5 0 (.inr rfl) (by decide) (by decide) (by decide) s

/-! ### Measurements (R480, R481) -/

/-- Measurements in a row out of range, after one that found `ms` (R481). -/
def rangeCounts (ms : List Nat) (s : State) : List Nat :=
  (List.range 5).map fun k =>
    if outside3 (nth ms k) (nth (biasLevels s) k) then nth s.dev.lens.outOfRange k + 1 else 0

theorem nth_rangeCounts (ms : List Nat) (s : State) {k : Nat} (hk : k < 5) : nth (rangeCounts ms s) k =
    if outside3 (nth ms k) (nth (biasLevels s) k) then nth s.dev.lens.outOfRange k + 1 else 0 := by
  simp [nth, rangeCounts, hk]

/-- Ten measurements in a row out of range are one more than nine (R481). -/
theorem rangeCounts_ten (ms : List Nat) (s : State) : (rangeCounts ms s).any (decide <| 10 ≤ ·) = true ↔
    ∃ k, k < 5 ∧ outside3 (nth ms k) (nth (biasLevels s) k) = true ∧ 9 ≤ nth s.dev.lens.outOfRange k := by
  simp only [rangeCounts, List.any_map, List.any_eq_true, List.mem_range, Function.comp, decide_eq_true_eq]
  refine exists_congr fun k => and_congr_right fun _ => ?_
  by_cases out : outside3 (nth ms k) (nth (biasLevels s) k) = true
  · rw [if_pos out]
    exact ⟨fun ten => ⟨out, by omega⟩, fun ⟨_, nine⟩ => by omega⟩
  · rw [if_neg out]
    exact ⟨fun ten => by omega, fun ⟨back, _⟩ => absurd back out⟩

/-- The measured levels are recorded (R481). -/
def measured (v4 v0 v1 v2 v3 : Nat) (s : State) : State :=
  (s.setReg 0x4403 1 (v4 % 65536)).setReg 0x4403 3 (leNat (packLE 2 [v0, v1, v2, v3]))

theorem reg_measured_v4 {v4 : Nat} (hv : v4 < 65536) (v0 v1 v2 v3 : Nat) (s : State) :
    (measured v4 v0 v1 v2 v3 s).reg 0x4403 1 = v4 := by
  rw [measured, reg_setReg_sub (by decide) (by decide) (by decide), reg_setReg_same, Nat.mod_eq_of_lt hv]

theorem reg_measured {x y : Nat} (hy : y < 256) (other : x = 0x4403 → y ≠ 1 ∧ y ≠ 3) (v4 v0 v1 v2 v3 : Nat)
    (s : State) : (measured v4 v0 v1 v2 v3 s).reg x y = s.reg x y := by
  rw [measured, reg_setReg, if_neg fun e => ?_, reg_setReg, if_neg fun e => ?_]
  · obtain ⟨rfl, rfl⟩ := key_inj (by decide) hy e
    exact (other rfl).1 rfl
  · obtain ⟨rfl, rfl⟩ := key_inj (by decide) hy e
    exact (other rfl).2 rfl

/-- A measurement of a source that is off is recorded. -/
theorem biasMeasure_off {v4 v0 v1 v2 v3 : Nat} {s : State} (off : s.dev.lens.bias ≠ 1) :
    biasMeasure v4 v0 v1 v2 v3 s = measured v4 v0 v1 v2 v3 s := if_pos off

/-- A measurement of a source that is on counts each level out of range, and the tenth in a row is a fault (R481). -/
theorem biasMeasure_on {v4 v0 v1 v2 v3 : Nat} {s : State} (on : s.dev.lens.bias = 1) :
    biasMeasure v4 v0 v1 v2 v3 s =
      let t := modLens (fun l => { l with outOfRange := rangeCounts [v0, v1, v2, v3, v4] s }) (measured v4 v0 v1 v2 v3 s)
      if (rangeCounts [v0, v1, v2, v3, v4] s).any (decide <| 10 ≤ ·) then biasFault t else t :=
  if_neg (not_not_intro on)

/-- What a measurement leaves of a source that is on (R481). -/
structure Measured (v4 : Nat) (ms : List Nat) (s t : State) : Prop where
  counts : ∀ k, k < 5 → nth t.dev.lens.outOfRange k =
    if outside3 (nth ms k) (nth (biasLevels s) k) then nth s.dev.lens.outOfRange k + 1 else 0
  good : (∀ k, k < 5 → outside3 (nth ms k) (nth (biasLevels s) k) = true → nth s.dev.lens.outOfRange k < 9) →
    t.dev.lens.bias = 1
  fault : (∃ k, k < 5 ∧ outside3 (nth ms k) (nth (biasLevels s) k) = true ∧ 9 ≤ nth s.dev.lens.outOfRange k) →
    t.dev.lens.bias = 2 ∧ counted s t 0x4403 4 ∧ (canLog s → eventLogged 514 s t)

theorem biasMeasure_measured {v4 v0 v1 v2 v3 : Nat} {s : State} (on : s.dev.lens.bias = 1) :
    Measured v4 [v0, v1, v2, v3, v4] s (biasMeasure v4 v0 v1 v2 v3 s) := by
  rw [biasMeasure_on on]
  generalize counting : modLens (fun l => { l with outOfRange := rangeCounts [v0, v1, v2, v3, v4] s })
    (measured v4 v0 v1 v2 v3 s) = t
  have counts : t.dev.lens.outOfRange = rangeCounts [v0, v1, v2, v3, v4] s := by rw [← counting]; rfl
  have bias : t.dev.lens.bias = 1 := by rw [← counting]; exact on
  have regs {x y : Nat} (hy : y < 256) (other : x = 0x4403 → y ≠ 1 ∧ y ≠ 3) : t.reg x y = s.reg x y := by
    rw [← counting, modLens_reg, reg_measured hy other]
  have buffer : t.dev.eventBuffer = s.dev.eventBuffer := by rw [← counting]; rfl
  dsimp only
  by_cases ten : (rangeCounts [v0, v1, v2, v3, v4] s).any (decide <| 10 ≤ ·) = true
  · rw [if_pos ten]
    have fault := stopped_biasFault t
    refine ⟨fun k hk => ?_, fun few => ?_, fun _ => ⟨fault.bias, ?_, fun room => ?_⟩⟩
    · rw [fault.outOfRange, counts, nth_rangeCounts _ s hk]
    · obtain ⟨k, hk, out, nine⟩ := (rangeCounts_ten _ s).mp ten
      exact absurd (few k hk out) (by omega)
    · rw [counted, fault.counted, regs (by decide) (by decide)]
    · have logged := fault.logged (by rwa [canLog, hbmTrained, regs (by decide) (by decide), buffer])
      rwa [eventLogged, regs (by decide) (by decide)] at logged
  · rw [if_neg ten]
    refine ⟨fun k hk => ?_, fun _ => bias, fun many => absurd ((rangeCounts_ten _ s).mpr many) ten⟩
    rw [counts, nth_rangeCounts _ s hk]

theorem reg_biasMeasure_v4 {v4 : Nat} (hv : v4 < 65536) (v0 v1 v2 v3 : Nat) (s : State) :
    (biasMeasure v4 v0 v1 v2 v3 s).reg 0x4403 1 = v4 := by
  by_cases on : s.dev.lens.bias = 1
  · rw [biasMeasure_on on]
    dsimp only
    split
    · rw [(stopped_biasFault _).measured, modLens_reg, reg_measured_v4 hv]
    · rw [modLens_reg, reg_measured_v4 hv]
  · rw [biasMeasure_off on, reg_measured_v4 hv]

theorem overVoltage_on {s : State} (on : s.dev.lens.bias = 1) : overVoltage s = biasFault s := if_pos on

/-! ### Bands (R512) -/

/-- A band that is due waits for the next boundary (R512). -/
theorem lensBandChange_waits (s : State) : (lensBandChange s).dev.lens.band = s.dev.lens.band ∧
    (lensBandChange s).dev.lens.nextBand.getD (lensBandChange s).dev.lens.band =
      bandNext (s.dev.lens.nextBand.getD s.dev.lens.band) (lensTemperature s) := by
  unfold lensBandChange
  dsimp only [modLens_dev]
  refine ⟨rfl, ?_⟩
  split
  next same => exact same.symm
  next => rfl

/-! ### The statement -/

/-- Settles O49: each command of the drive writes its own part of the lens section; a fault turns the source off before
it is counted and logged. -/
theorem lensDriveCommands : Obligations.LensDriveCommands := by
  unfold Obligations.LensDriveCommands
  refine ⟨?frame, ?reached, ?report, ?start, ?idle, ?phase, ?measure, ?trip, ?band⟩
  case frame =>
    intro s present mono on supplied
    refine ⟨_, exec_driveFrameBoundary s present, ?_⟩
    have lens := lens_onDev (ps := [.od, .lens]) (by decide) driveFrame s
    rw [driveFrame_eq mono on supplied, modLens_dev, lens_frameBegun] at lens
    have frames : overdriveFrames (onDev [.od, .lens] driveFrame s) = overdriveFrames (frameBegun s) := by
      refine SameDrive.overdriveFrames ⟨?_, ?_, ?_, ?_, (live_frameBegun s).symm, (ceilings_frameBegun s).symm⟩
      all_goals rw [lens, lens_frameBegun]
    rw [onDev_reg (by decide), frames, lens]
    refine ⟨?_, rfl, rfl, rfl, fun z t way => ?_⟩
    · rw [driveFrame_eq mono on supplied, modLens_reg]
      exact reg_frameBegun_band s
    · have next := amGet_map_values (fun _ => overdriven (overdriveFrames (frameBegun s))
        (settleMs (frameBegun s) (frameLens s).band)) s.dev.lens.transitions z
      rw [way] at next
      refine (congrArg (Option.map (·.overdrive)) next).trans ?_
      cases kind : t.overdrive <;> simp [overdriven, kind]
  case reached =>
    intro s z t present hz way past works
    refine ⟨_, exec_zoneTargetReached z s hz present, ?_⟩
    rw [lens_onDev (by decide), lens_zoneReached way past works]
    exact ⟨hasBit_putBit_same .., rfl⟩
  case report =>
    intro s z r present hz found out
    refine ⟨_, exec_zoneReportReceive z s hz present, ?_⟩
    rw [lens_onDev (by decide), lens_zoneReport found out]
    exact ⟨rfl, rfl⟩
  case start =>
    intro s v33 present off supplied out running on kind
    refine ⟨_, exec_biasSourceStart v33 s present, ?_⟩
    have may : biasMayStart s = true := by
      cases bi : s.dev.lens.bistable
      · simp [biasMayStart, off, supplied, out, running, bi]
      · simp [biasMayStart, off, supplied, out, running, kind bi]
    have started := biasStart_started present may on
    have drive := sameDrive_onDev started.live started.ceilings
    obtain ⟨pumped, unpumped⟩ := started.pump
    rw [domainState, onDev_reg (by decide), onDev_reg (by decide), drive.v4Setting, drive.biRepeats,
      lens_onDev (by decide)]
    exact ⟨started.domain, pumped, unpumped, fun _ => started.bias, fun bi => ⟨started.bias, started.first bi⟩⟩
  case idle =>
    intro s v33 present bi other
    refine ⟨_, exec_biasSourceStart v33 s present, ?_⟩
    rw [lens_onDev (by decide), biasStart_idle (by simp [biasMayStart, bi, other])]
  case phase =>
    intro s c cs present phase commons supplied alone
    refine ⟨_, exec_pulsePhaseEnd s present, ?_⟩
    have ends := pulseEnd_eq phase commons supplied alone
    refine ⟨fun more out => ?_, fun more held => ?_, fun last left out => ?_, fun last done => ?_⟩
    · rw [if_pos more, if_neg (by simp [out])] at ends
      rw [lens_onNv (by decide), ends]
      exact ⟨rfl, commons, rfl⟩
    · rw [if_pos more, if_pos held] at ends
      rw [lens_onNv (by decide), ends, lens_pausedBefore]
      exact ⟨rfl, rfl⟩
    · rw [if_neg (by omega), if_neg (by simpa using left), if_neg (by simp [out])] at ends
      have drive : SameDrive (pulseEnd s) (onNv [.od, .lens] pulseEnd s) :=
        sameDrive_onNv (by rw [ends, live_nextCommon, live_commonDone])
          (by rw [ends, ceilings_nextCommon, ceilings_commonDone])
      rw [drive.biRepeats, lens_onNv (by decide), ends, (sameDrive_phaseBegin _).biRepeats, lens_nextCommon]
      exact ⟨rfl, rfl, rfl⟩
    · rw [if_neg (by omega), if_pos (by simp [done])] at ends
      rw [lens_onNv (by decide), onNv_nv, ends, lens_orPause, lens_writeRing, lens_phaseOff, nv_orPause]
      have waits := requested_writeRing 1 (natLE s.dev.lens.writing 4) .journalEnd
        (phaseOff (modLens (fun l => { l with phase := .writingEnd }) (commonDone c cs s)))
      exact ⟨rfl, rfl, _, rfl, rfl, rfl, waits⟩
  case measure =>
    intro s v4 v0 v1 v2 v3 present hv
    refine ⟨_, exec_biasMeasure v4 v0 v1 v2 v3 s present, ?_⟩
    rw [lens_onDev (by decide), onDev_reg (by decide)]
    refine ⟨reg_biasMeasure_v4 hv .., fun on => ?_⟩
    obtain ⟨counts, good, fault⟩ := biasMeasure_measured (v4 := v4) (v0 := v0) (v1 := v1) (v2 := v2) (v3 := v3) on
    refine ⟨counts, good, fun many => ?_⟩
    obtain ⟨bias, count, logged⟩ := fault many
    exact ⟨bias, counted_onDev (by decide) count, fun room => eventLogged_onDev (by decide) (by decide) (logged room)⟩
  case trip =>
    intro s present on
    refine ⟨_, exec_biasOvervoltageTrip s present, ?_⟩
    have fault := stopped_biasFault s
    rw [← overVoltage_on on] at fault
    rw [lens_onDev (by decide), onDev_reg (by decide), onDev_reg (by decide)]
    exact ⟨fault.bias, counted_onDev (by decide) fault.counted, fault.pump, fault.failed,
      fun room => eventLogged_onDev (by decide) (by decide) (fault.logged room)⟩
  case band =>
    intro s present
    refine ⟨_, exec_lensBandChange s present, ?_⟩
    rw [lens_onDev (by decide)]
    exact lensBandChange_waits s

end Sys2Proof.Machine
end

section
/-!
PROOF. The DC-balance monitor, faults of outputs and of the source, restarts and hold-up (R491 to R493, R506, R514, R882,
R885, R905).
-/
namespace Sys2Proof.Machine

/-! ### Committed targets (R495, R905) -/

/-- Two states of one part with one committed state and one course of bring-up: their zones and committed targets are the
same. -/
structure SameZones (s t : State) : Prop where
  fuses : t.fuses = s.fuses
  live : t.dev.live = s.dev.live
  bringup : t.dev.bringup = s.dev.bringup

theorem SameZones.zonesHere {s t : State} (h : SameZones s t) : zonesHere t = zonesHere s := by
  simp only [Machine.zonesHere, hasLens, halfTile, State.com, h.fuses, h.live]
  rfl

theorem SameZones.wantedMap {s t : State} (h : SameZones s t) : wantedMap t = wantedMap s := by
  simp only [Machine.wantedMap, committedMap, all2D, h.zonesHere, h.live, h.bringup]

theorem SameZones.zonesDiffering {s t : State} (h : SameZones s t) (a b : Nat) :
    zonesDiffering t a b = zonesDiffering s a b := by
  simp only [Machine.zonesDiffering, h.zonesHere]

theorem SameZones.trans {s t u : State} (h : SameZones s t) (k : SameZones t u) : SameZones s u :=
  ⟨k.fuses.trans h.fuses, k.live.trans h.live, k.bringup.trans h.bringup⟩

theorem sameZones_modLens (f : Lens → Lens) (s : State) : SameZones s (modLens f s) := ⟨rfl, rfl, rfl⟩

theorem sameZones_pumpSet (s : State) : SameZones s (pumpSet s) := ⟨rfl, rfl, rfl⟩

theorem sameZones_domainWake (d : Nat) (s : State) : SameZones s (domainWake d s) := by
  unfold domainWake
  split
  · exact ⟨rfl, rfl, rfl⟩
  · exact ⟨rfl, rfl, rfl⟩

theorem reg_domainWake {d x y : Nat} (hd : d < 255) (hy : y < 256) (state : x ≠ 0x5430) (wakes : x ≠ 0x5431)
    (s : State) : (domainWake d s).reg x y = s.reg x y := by
  unfold domainWake
  split
  · rw [reg_bump, if_neg fun e => absurd (key_inj (by omega) hy e).1 wakes.symm, reg_setReg_index (by omega) hy state.symm]
  · rfl

/-! ### A new update (R496, R500) -/

theorem lens_journalStart (s : State) : (journalStart s).dev.lens =
    { s.dev.lens with
      phase := .writingBegin, queued := false, writing := s.reg 0x4420 1, mask := commonsOf (undone s.dev.lens)
      commons := [] } := by
  rw [journalStart, lens_writeRing, modLens_dev, lens_updateRuns]

/-- The journal leaves the number of the update and a status RUNNING. -/
theorem reg_journalStart {y : Nat} (hy : y < 256) {s : State} (runs : s.reg 0x4420 2 ≠ 3) :
    (journalStart s).reg 0x4420 y = s.reg 0x4420 y := by
  rw [journalStart, writeRing, storeRequest, reg_storeStart _ _ _ fun e => absurd (key_inj (by decide) hy e).1 (by decide)]
  rw [updateRuns, if_neg runs]
  rfl

/-- The registers of an update that supersedes none: its number, the status RUNNING and the count of updates. -/
def updateTaken (s : State) : State :=
  ((s.setReg 0x4420 1 ((s.reg 0x4420 1 + 1) % 2 ^ 32)).setReg 0x4420 2 1).bumpSeq 0x4420 6

theorem reg_updateTaken_number (s : State) : (updateTaken s).reg 0x4420 1 = (s.reg 0x4420 1 + 1) % 2 ^ 32 := by
  rw [updateTaken, reg_bumpSeq, if_neg (by decide), reg_setReg_sub (by decide) (by decide) (by decide), reg_setReg_same]

theorem reg_updateTaken_status (s : State) : (updateTaken s).reg 0x4420 2 = 1 := by
  rw [updateTaken, reg_bumpSeq, if_neg (by decide), reg_setReg_same]

/-- What an update that supersedes none leaves of the source and the update's registers. -/
structure Taken (s t : State) : Prop where
  bias : t.dev.lens.bias = s.dev.lens.bias
  retries : t.dev.lens.retries = s.dev.lens.retries
  number : t.reg 0x4420 1 = (s.reg 0x4420 1 + 1) % 2 ^ 32
  status : t.reg 0x4420 2 = 1

theorem taken_updateTaken (s : State) : Taken s (updateTaken s) :=
  ⟨rfl, rfl, reg_updateTaken_number s, reg_updateTaken_status s⟩

theorem Taken.modLens {s t : State} (h : Taken s t) {f : Lens → Lens} (bias : ∀ l, (f l).bias = l.bias)
    (retries : ∀ l, (f l).retries = l.retries) : Taken s (modLens f t) :=
  ⟨(bias _).trans h.bias, (retries _).trans h.retries, h.number, h.status⟩

theorem Taken.journalStart {s t : State} (h : Taken s t) : Taken s (journalStart t) := by
  have runs : t.reg 0x4420 2 ≠ 3 := by rw [h.status]; decide
  refine ⟨?_, ?_, ?_, ?_⟩
  · rw [lens_journalStart]; exact h.bias
  · rw [lens_journalStart]; exact h.retries
  · rw [reg_journalStart (by decide) runs]; exact h.number
  · rw [reg_journalStart (by decide) runs]; exact h.status

/-- A list of zones is taken while none is on its way: no update is superseded, and a bistable layer's journal starts or
waits. -/
theorem lensTake_taken {zs : List Nat} {s : State} (some : zs ≠ []) (still : s.dev.lens.transitions = []) (m : Nat) :
    Taken s (lensTake zs m s) := by
  unfold lensTake
  rw [if_neg (by simpa using some)]
  extract_lets l old s1 n s2 held tr s3
  have none : old = [] := by simp [old, l, still, amGet]
  have same : s1 = s := by simp [s1, none, State.iff]
  have registers : s2 = updateTaken s := by simp [s2, n, same, none, updateTaken]
  have here : Taken s s3 := .modLens (registers ▸ taken_updateTaken s) (fun _ => rfl) fun _ => rfl
  split
  · exact here
  · split
    · exact here.journalStart
    · exact here.journalStart
    · exact here.modLens (fun _ => rfl) fun _ => rfl

/-! ### Restarts (R514, R905) -/

/-- The lens section as its source restarts (R905). -/
def restartedLens (l : Lens) : Lens :=
  { l with bias := if l.bistable then 0 else 1, outOfRange := [], transitions := [] }

/-- The source of a monostable layer is on again; that of a bistable layer waits for its start. -/
def sourceAgain (s : State) : State :=
  (modLens restartedLens s).iff (!s.dev.lens.bistable) fun s => pumpSet (domainWake 38 s)

theorem lens_sourceAgain (s : State) : (sourceAgain s).dev.lens = restartedLens s.dev.lens := by
  refine iff_keeps (·.dev.lens) _ _ (modLens restartedLens s) ?_
  rw [lens_pumpSet, lens_domainWake]

theorem lensRestart_eq (s : State) : lensRestart s =
    if s.dev.lens.redrive then redriveStart (sourceAgain s) else restartTake (sourceAgain s) := by
  unfold lensRestart
  extract_lets t u
  have again : u = sourceAgain s := rfl
  have kept : u.dev.lens.redrive = s.dev.lens.redrive := by
    rw [again, lens_sourceAgain, restartedLens]
  rw [kept, again]

theorem sameZones_sourceAgain (s : State) : SameZones s (sourceAgain s) := by
  refine (sameZones_modLens restartedLens s).trans ?_
  unfold sourceAgain
  cases s.dev.lens.bistable
  · exact (sameZones_domainWake 38 _).trans (sameZones_pumpSet _)
  · exact ⟨rfl, rfl, rfl⟩

theorem reg_sourceAgain {y : Nat} (hy : y < 256) (s : State) : (sourceAgain s).reg 0x4420 y = s.reg 0x4420 y := by
  refine iff_keeps (·.reg 0x4420 y) _ _ (modLens restartedLens s) ?_
  rw [reg_pumpSet hy fun e => absurd e (by decide), reg_domainWake (by decide) hy (by decide) (by decide)]

/-- What a restart leaves of the source, the `n` retries, the targets and the update's registers (R514, R905). -/
structure Restarted (n : Nat) (s t : State) : Prop where
  bias : t.dev.lens.bias = if s.dev.lens.bistable then 0 else 1
  retries : t.dev.lens.retries = n
  target : s.dev.lens.redrive = false → t.dev.lens.target = wantedMap s
  update : s.dev.lens.redrive = false → zonesDiffering s s.dev.lens.reached (wantedMap s) ≠ [] →
    t.reg 0x4420 1 = (s.reg 0x4420 1 + 1) % 2 ^ 32 ∧ t.reg 0x4420 2 = 1

/-- The zones whose reported state differs are one new update, and with none of them nothing but the targets changes. -/
theorem restartTake_cases {s : State} (still : s.dev.lens.transitions = []) :
    Taken s (restartTake s) ∨ zonesDiffering s s.dev.lens.reached (wantedMap s) = [] ∧
      restartTake s = modLens (fun l => { l with target := wantedMap s }) s := by
  by_cases none : zonesDiffering s s.dev.lens.reached (wantedMap s) = []
  · exact .inr ⟨none, by rw [restartTake, none]; rfl⟩
  · exact .inl ((lensTake_taken none still _).modLens (f := fun l => { l with target := wantedMap s })
      (fun _ => rfl) fun _ => rfl)

theorem target_restartTake (s : State) : (restartTake s).dev.lens.target = wantedMap s := rfl

theorem lensRestart_restarted (s : State) : Restarted s.dev.lens.retries s (lensRestart s) := by
  have zones := sameZones_sourceAgain s
  have lens := lens_sourceAgain s
  rw [lensRestart_eq]
  cases redrive : s.dev.lens.redrive
  case true =>
    rw [if_pos rfl]
    refine ⟨?_, ?_, fun ended => absurd ended (by simp [redrive]), fun ended => absurd ended (by simp [redrive])⟩
    · rw [redriveStart, modLens_dev, lens, restartedLens]
    · rw [redriveStart, modLens_dev, lens, restartedLens]
  case false =>
    rw [if_neg (by decide)]
    have wanted := zones.wantedMap
    have differing := zones.zonesDiffering s.dev.lens.reached (wantedMap s)
    have reached : (sourceAgain s).dev.lens.reached = s.dev.lens.reached := by rw [lens, restartedLens]
    obtain taken | ⟨none, e⟩ := restartTake_cases (s := sourceAgain s) (by rw [lens, restartedLens])
    · refine ⟨?_, ?_, fun _ => ?_, fun _ _ => ⟨?_, taken.status⟩⟩
      · rw [taken.bias, lens, restartedLens]
      · rw [taken.retries, lens, restartedLens]
      · rw [target_restartTake, wanted]
      · rw [taken.number, reg_sourceAgain (by decide)]
    · rw [reached, wanted, differing] at none
      refine ⟨?_, ?_, fun _ => ?_, fun _ some => absurd none some⟩
      · rw [e, modLens_dev, lens, restartedLens]
      · rw [e, modLens_dev, lens, restartedLens]
      · rw [target_restartTake, wanted]

/-- A restart after which `n` retries are counted. -/
def restartedAt (n : Nat) (s : State) : State := lensRestart (modLens (fun l => { l with retries := n }) s)

theorem restartedAt_restarted (n : Nat) (s : State) : Restarted n s (restartedAt n s) := by
  have again := lensRestart_restarted (modLens (fun l => { l with retries := n }) s)
  have zones := sameZones_modLens (fun l => { l with retries := n }) s
  refine ⟨again.bias, again.retries, fun ended => ?_, fun ended differ => ?_⟩
  · rw [restartedAt, again.target ended, zones.wantedMap]
  · refine again.update ended ?_
    rw [zones.wantedMap, zones.zonesDiffering]
    exact differ

theorem biasRetry_eq {s : State} (fault : s.dev.lens.bias = 2) (few : s.dev.lens.retries < 3) :
    biasRetry s = restartedAt (s.dev.lens.retries + 1) s := if_pos ⟨fault, few⟩

theorem biasRetry_spent {s : State} (spent : 3 ≤ s.dev.lens.retries) : biasRetry s = s := if_neg (by omega)

theorem layerRestart_eq {s : State} (off : 2 ≤ s.dev.lens.bias) : layerRestart s = restartedAt 0 s := if_pos off

/-- A restart in the scope of its command. -/
theorem Restarted.onNv {n : Nat} {s : State} {f : State → State} (h : Restarted n s (f s)) :
    Restarted n s (onNv [.od, .lens] f s) := by
  obtain ⟨bias, retries, target, update⟩ := h
  rw [← lens_onNv (ps := [.od, .lens]) (by decide) f s] at bias retries target
  refine ⟨bias, retries, target, ?_⟩
  rw [onNv_reg (by decide), onNv_reg (by decide)]
  exact update

/-! ### The DC-balance monitor (R491 to R493) -/

/-- A sample of a driven layer is added to the integral of its output. -/
theorem integrals_dcSample {s : State} (driven : layerDriven s = true) (out : Nat) (v : Int) :
    (dcSample out v s).dev.lens.integrals = amMod s.dev.lens.integrals out 0 (· + (2 * v - v4Setting s)) := by
  rw [dcSample, if_neg (by simp [driven])]
  rfl

/-- An integral above the limit turns the polarity of a monostable layer from the next turn on, and is counted. -/
theorem forcedInversion_over {s : State} {out : Nat} (mono : s.dev.lens.bistable = false)
    (above : 2000 * s.reg 0x4402 1 < (amGetD s.dev.lens.integrals out 0).natAbs) : forcedInversion out s =
      (modLens (fun l => { l with flips := nextTurn s :: l.flips }) s).bump 0x4402 2 :=
  if_pos (by simp [integralOver, mono, above])

/-- At 4 times the limit the layer stops with code 3, counted and logged. -/
theorem stopped_dcStop {s : State} {out : Nat} (runs : s.dev.lens.bias ≠ 3)
    (above : 2000 * (4 * s.reg 0x4402 1) ≤ (amGetD s.dev.lens.integrals out 0).natAbs) :
    Stopped 3 493 0x4402 5 s (dcStop out s) := by
  rw [dcStop, if_pos (by simp [runs, above])]
  exact stopped_biasOff 3 493 5 out (.inl rfl) (by decide) (by decide) (by decide) s

/-! ### Faults of outputs, and hold-up (R514, R882, R885) -/

/-- What a fault of output `out` leaves: high impedance, counted, latched and logged (R514). -/
structure OutputFaulted (out : Nat) (s t : State) : Prop where
  hiZ : t.dev.lens.hiZ.contains out = true
  counted : counted s t 0x4403 5
  latched : hasBit (t.reg 0x6030 3) 2 = true
  logged : canLog s → eventLogged 514 s t

/-- Output `out` is at high impedance, its fault counted and latched. -/
def outputOff (out : Nat) (s : State) : State :=
  latch 2 ((modLens (fun l => { l with hiZ := l.hiZ ++ [out] }) s).bump 0x4403 5)

theorem outputFault_eq {s : State} {out : Nat} (works : s.dev.lens.hiZ.contains out = false) :
    outputFault out s = logEvent 514 4 0x4403 5 out (outputOff out s) :=
  if_neg (Bool.not_eq_true _ ▸ works)

theorem hiZ_outputOff (out : Nat) (s : State) : (outputOff out s).dev.lens.hiZ = s.dev.lens.hiZ ++ [out] := rfl

theorem buffer_outputOff (out : Nat) (s : State) : (outputOff out s).dev.eventBuffer = s.dev.eventBuffer := rfl

theorem reg_outputOff {x y : Nat} (hy : y < 256) (latched : x ≠ 0x6030) (out : Nat) (s : State) :
    (outputOff out s).reg x y = if key 0x4403 5 = key x y then min (s.reg 0x4403 5 + 1) 0xFFFFFFFF else s.reg x y := by
  rw [outputOff, latch, reg_setReg_index (by decide) hy latched.symm, reg_bump, modLens_reg, modLens_reg]

theorem outputFault_faulted {s : State} {out : Nat} (works : s.dev.lens.hiZ.contains out = false) :
    OutputFaulted out s (outputFault out s) := by
  rw [outputFault_eq works]
  refine ⟨?_, ?_, ?_, fun room => ?_⟩
  · rw [lens_logEvent, hiZ_outputOff]
    simp
  · rw [counted, reg_logEvent_index _ _ _ _ _ _ (by decide) (by decide), reg_outputOff (by decide) (by decide),
      if_pos rfl]
  · rw [reg_logEvent_index _ _ _ _ _ _ (by decide) (by decide), outputOff, latch, reg_setReg_same]
    exact hasBit_setBit_same _ _
  · refine eventLogged_after ?_ ?_ (buffer_outputOff out s) room ..
    all_goals rw [reg_outputOff (by decide) (by decide), if_neg (by decide)]

/-- What a loss of V33 outside a pulse phase leaves (R882). -/
structure HeldUp (t : State) : Prop where
  onHold : t.dev.lens.onHold = true
  v33Low : t.dev.bringup.v33Low = true
  bias : t.dev.lens.bias = 0
  pump : t.reg 0x4403 2 = 0

/-- V33 is low, and the lens section runs from VHOLD. -/
def supplyLost (s : State) : State :=
  modBringup (fun b => { b with v33Low := true }) (modLens (fun l => { l with onHold := true }) s)

/-- Outside a pulse phase the source turns off with the supply. -/
theorem holdupSwitch_off {s : State} (phase : s.dev.lens.phase ≠ .pulsing) :
    holdupSwitch s = phaseOff (supplyLost s) := if_neg phase

theorem reg_phaseOff_pump (s : State) : (phaseOff s).reg 0x4403 2 = 0 := by
  rw [phaseOff, reg_domainOff (by decide) (by decide) (by decide), reg_setReg_same]

theorem bringup_phaseOff (s : State) : (phaseOff s).dev.bringup = s.dev.bringup := by
  unfold phaseOff domainOff
  split <;> rfl

theorem holdupSwitch_heldUp {s : State} (phase : s.dev.lens.phase ≠ .pulsing) : HeldUp (holdupSwitch s) := by
  rw [holdupSwitch_off phase]
  refine ⟨?_, ?_, ?_, reg_phaseOff_pump _⟩
  · rw [lens_phaseOff]; rfl
  · rw [bringup_phaseOff]; rfl
  · rw [lens_phaseOff]

/-! ### The statement -/

/-- Settles O50: each command of the monitor and of the faults writes its own part of the lens section; a restart clears
what is on its way, so that its update supersedes none. -/
theorem lensFaultCommands : Obligations.LensFaultCommands := by
  unfold Obligations.LensFaultCommands
  refine ⟨?sample, ?inversion, ?stop, ?restart, ?exhausted, ?output, ?hold, ?low⟩
  case sample =>
    intro s out v present hout driven
    refine ⟨_, exec_dcMonitorSample out v s hout present, ?_⟩
    rw [lens_onDev (by decide), integrals_dcSample driven]
    refine ⟨?_, fun o other => ?_⟩
    · rw [amGetD_amMod_same]
    · rw [amGetD_amMod, if_neg other.symm]
  case inversion =>
    intro s out present hout above mono
    refine ⟨_, exec_forcedInversion out s hout present, ?_⟩
    have count : counted s (forcedInversion out s) 0x4402 2 := by
      rw [counted, forcedInversion_over mono above, reg_bump, if_pos rfl, modLens_reg]
    have here := counted_onDev (ps := [.od, .lens]) (by decide) count
    refine ⟨?_, ?_, here⟩
    · rw [lens_onDev (by decide), forcedInversion_over mono above]; rfl
    · rw [lens_onDev (by decide), forcedInversion_over mono above]; rfl
  case stop =>
    intro s out present hout above runs
    refine ⟨_, exec_dcStop out s hout present, ?_⟩
    have stop := stopped_dcStop runs above
    rw [lens_onDev (by decide), onDev_reg (by decide)]
    exact ⟨stop.bias, stop.pump, counted_onDev (by decide) stop.counted,
      fun room => eventLogged_onDev (by decide) (by decide) (stop.logged room)⟩
  case restart =>
    intro s c present why
    obtain ⟨rfl, fault, few⟩ | ⟨rfl, off⟩ := why
    · have again : Restarted (s.dev.lens.retries + 1) s (biasRetry s) :=
        biasRetry_eq fault few ▸ restartedAt_restarted _ s
      obtain ⟨bias, retries, target, update⟩ := again.onNv
      exact ⟨_, exec_biasRetry s present, bias, fun _ => retries, fun other => (nomatch other), target, update⟩
    · have again : Restarted 0 s (layerRestart s) := layerRestart_eq off ▸ restartedAt_restarted 0 s
      obtain ⟨bias, retries, target, update⟩ := again.onNv
      exact ⟨_, exec_layerRestart s present, bias, fun other => (nomatch other), fun _ => retries, target, update⟩
  case exhausted =>
    intro s present fault spent
    refine ⟨_, exec_biasRetry s present, ?_⟩
    rw [onNv_of_fixed (biasRetry_spent spent)]
    exact fault
  case output =>
    intro s out present hout works
    refine ⟨_, exec_outputFault out s hout present, ?_⟩
    have fault := outputFault_faulted works
    rw [lens_onDev (by decide), onDev_reg (by decide)]
    exact ⟨fault.hiZ, counted_onDev (by decide) fault.counted, fault.latched,
      fun room => eventLogged_onDev (by decide) (by decide) (fault.logged room)⟩
  case hold =>
    intro s phase
    refine ⟨_, exec_holdupSwitch s, ?_⟩
    have held := holdupSwitch_heldUp phase
    rw [lens_onDev (by decide), onDev_reg (by decide), onDev_dev, partsOf_bringup (by decide)]
    exact ⟨held.onHold, held.v33Low, held.bias, held.pump⟩
  case low =>
    intro s mv low v33 room
    refine ⟨_, exec_vholdLowLog mv s, ?_⟩
    have logs : vholdLow mv s = logEvent 885 2 0 0 mv s := if_pos ⟨low, v33⟩
    exact eventLogged_onDev (by decide) (by decide) (logs ▸ logEvent_logged 885 2 0 0 mv s room)

end Sys2Proof.Machine
end

section
/-!
SUPPORT. The parts of time, the ports and the wall, read through a scope, after an event and after a write of a register
(R516 to R571).
-/
namespace Sys2Proof.Machine

/-! ### Through a scope -/

section Scope
variable {ps : List DevPart}

theorem source_onDev (sources : .sources ∈ ps) (f : State → State) (s : State) (c : Nat) :
    (onDev ps f s).source c = (f s).source c := by
  simp only [State.source, onDev_dev, partsOf_sources sources]

theorem eth_onDev (eth : .eth ∈ ps) (f : State → State) (s : State) (p : Nat) :
    (onDev ps f s).eth p = (f s).eth p := by
  simp only [State.eth, onDev_dev, partsOf_eth eth]

theorem tile_onDev (tiles : .tiles ∈ ps) (f : State → State) (s : State) (t : Nat) :
    (onDev ps f s).tile t = (f s).tile t := by
  simp only [State.tile, onDev_dev, partsOf_tiles tiles]

theorem pinIn_onDev (timeIn : .timeIn ∈ ps) (f : State → State) (s : State) (j : Nat) :
    (onDev ps f s).pinIn j = (f s).pinIn j := by
  simp only [State.pinIn, onDev_dev, partsOf_timeIn timeIn]

theorem pinOut_onDev (timeOut : .timeOut ∈ ps) (f : State → State) (s : State) (j : Nat) :
    (onDev ps f s).pinOut j = (f s).pinOut j := by
  simp only [State.pinOut, onDev_dev, partsOf_timeOut timeOut]

theorem frameLock_onDev (od : .od ∈ ps) (f : State → State) (s : State) :
    frameLock (onDev ps f s) = frameLock (f s) := onDev_reg od ..

theorem tileState_onDev (od : .od ∈ ps) (f : State → State) (s : State) (t : Nat) :
    tileState (onDev ps f s) t = tileState (f s) t := onDev_reg od ..

end Scope

/-! ### After an event -/

@[simp] theorem source_logEvent (r c i j d x : Nat) (s : State) : (logEvent r c i j d s).source x = s.source x := by
  obtain ⟨_, _, _, _, e⟩ := logEvent_eq r c i j d s
  rw [e]; rfl

@[simp] theorem eth_logEvent (r c i j d p : Nat) (s : State) : (logEvent r c i j d s).eth p = s.eth p := by
  obtain ⟨_, _, _, _, e⟩ := logEvent_eq r c i j d s
  rw [e]; rfl

@[simp] theorem tile_logEvent (r c i j d t : Nat) (s : State) : (logEvent r c i j d s).tile t = s.tile t := by
  obtain ⟨_, _, _, _, e⟩ := logEvent_eq r c i j d s
  rw [e]; rfl

@[simp] theorem ncp_logEvent (r c i j d : Nat) (s : State) : (logEvent r c i j d s).dev.ncp = s.dev.ncp := by
  obtain ⟨_, _, _, _, e⟩ := logEvent_eq r c i j d s
  rw [e]

/-! ### After a write of a register -/

@[simp] theorem source_setReg (i j v c : Nat) (s : State) : (s.setReg i j v).source c = s.source c := rfl
@[simp] theorem eth_setReg (i j v p : Nat) (s : State) : (s.setReg i j v).eth p = s.eth p := rfl
@[simp] theorem pinIn_setReg (i j v k : Nat) (s : State) : (s.setReg i j v).pinIn k = s.pinIn k := rfl
@[simp] theorem source_bump (i j n c : Nat) (s : State) : (s.bump i j n).source c = s.source c := rfl
@[simp] theorem eth_bump (i j n p : Nat) (s : State) : (s.bump i j n).eth p = s.eth p := rfl
@[simp] theorem tile_bump (i j n t : Nat) (s : State) : (s.bump i j n).tile t = s.tile t := rfl

end Sys2Proof.Machine
end

section
/-!
PROOF. The epoch, the anchor and RELOCK (R536, R537).
-/
namespace Sys2Proof.Machine

theorem anythingTargeted_iff {s : State} : anythingTargeted s = true ↔
    s.dev.host.items ≠ [] ∨ s.dev.commitPending ≠ none ∨ s.dev.commitCaptured ≠ none ∨ s.dev.bandUpdates ≠ [] := by
  simp [anythingTargeted, Option.isSome_iff_ne_none, or_assoc]

theorem relock_targeted {s : State} (targeted : anythingTargeted s = true) : relock s = (abInUse, s) :=
  if_pos targeted

/-- The pins are no part of frame lock. -/
theorem frameLock_pinsIdle (s : State) : frameLock (pinsIdle s) = frameLock s := by
  refine each_keeps frameLock _ (fun j t => ?_) _ s
  split <;> rfl

theorem relock_free {s : State} (free : anythingTargeted s = false) :
    (relock s).1 = 0 ∧ frameLock (relock s).2 = 0 := by
  rw [relock, if_neg (by simp [free])]
  refine ⟨rfl, ?_⟩
  rw [frameLock_pinsIdle, frameLock, modTiming_reg, reg_setReg_sub (by decide) (by decide) (by decide),
    reg_setReg_same]

theorem epochWrite_locked {s : State} (sub v : Nat) (locked : frameLock s ≠ 0) : epochWrite sub v s = (abInUse, s) :=
  if_pos locked

/-- In FREE_RUN a value in range is taken (R532, R536). -/
theorem epochWrite_free {s : State} {sub v : Nat} (low : 1 ≤ sub) (high : sub ≤ 3) (free : frameLock s = 0)
    (count : sub = 2 → v < 2 ^ 64) (time : sub ≠ 2 → time80Good v = true) :
    (epochWrite sub v s).1 = 0 ∧ (epochWrite sub v s).2.reg 0x4820 sub = v := by
  rw [epochWrite, if_neg (by simp [free])]
  obtain rfl | rfl | rfl : sub = 1 ∨ sub = 2 ∨ sub = 3 := by omega
  · simp [time (by decide), reg_setReg_sub]
  · rw [if_pos rfl, if_pos (count rfl)]
    exact ⟨rfl, reg_setReg_same ..⟩
  · simp [time (by decide)]

/-- Settles O45: RELOCK and the epoch's writes test what forbids them first, and then write frame lock or their object
last of all that could. -/
theorem epochAndRelockNeedFreeRun : Obligations.EpochAndRelockNeedFreeRun := by
  unfold Obligations.EpochAndRelockNeedFreeRun
  refine ⟨?taken, ?locked, ?free, ?targeted⟩
  case taken =>
    intro s sub v low high free count time
    obtain ⟨answer, value⟩ := epochWrite_free low high free count time
    exact ⟨_, exec_frameEpochWrite sub v s low high, (onDev_reg (by decide) ..).trans value, answer⟩
  case locked =>
    intro s sub v low high locked
    have refused := epochWrite_locked (s := s) sub v locked
    rw [exec_frameEpochWrite sub v s low high, onDev_of_fixed (by simp only [refused]), refused]
    exact ⟨rfl, rfl⟩
  case free =>
    intro s items pending captured bands
    have free : anythingTargeted s = false := by simp [anythingTargeted, items, pending, captured, bands]
    obtain ⟨answer, lock⟩ := relock_free free
    exact ⟨_, exec_relock s, (frameLock_onDev (by decide) ..).trans lock, answer⟩
  case targeted =>
    intro s targeted
    have refused := relock_targeted (anythingTargeted_iff.mpr targeted)
    rw [exec_relock s, onDev_of_fixed (by simp only [refused]), refused]
    exact ⟨rfl, rfl⟩

end Sys2Proof.Machine
end

section
/-!
PROOF. The time pins (R565 to R570).
-/
namespace Sys2Proof.Machine

/-! ### TIME_OUT (R565, R568) -/

theorem pinOut_modPinOut_same (j : Nat) (f : TimeOut → TimeOut) (s : State) :
    (modPinOut j f s).pinOut j = f (s.pinOut j) := amGetD_amMod_same ..

theorem pinIn_modPinIn_same (j : Nat) (f : TimeIn → TimeIn) (s : State) :
    (modPinIn j f s).pinIn j = f (s.pinIn j) := amGetD_amMod_same ..

/-- A pin that may not be driven is inactive. -/
theorem pulseEdge_idle {s : State} {j : Nat} (edge : Bool) (idle : pinLive s j = false) :
    pulseEdge j edge s = modPinOut j (fun p => { p with active := false }) s := by simp [pulseEdge, idle]

/-- In FRAME mode an edge that is due drives the pin. -/
theorem pulseEdge_frame {s : State} {j : Nat} {edge : Bool} (mode : pinMode s j = 1) (lock : frameLock s ≠ 0)
    (due : edge = false ∨ framePulse s j = true) :
    pulseEdge j edge s = modPinOut j (fun p => { p with active := edge }) s := by
  have live : pinLive s j = true := by simp [pinLive, mode, lock]
  have due : (!edge || framePulse s j) = true := by simpa using due
  simp [pulseEdge, live, mode, due]

/-- In SCHEDULED mode a starting edge where pulse `k` falls due gives it. -/
theorem pulseEdge_scheduled {s : State} {j k : Nat} (mode : pinMode s j = 2) (due : scheduledPulse s j = some k) :
    pulseEdge j true s = modPinOut j (fun p => { p with active := true, given := k + 1 }) s := by
  have live : pinLive s j = true := by simp [pinLive, mode]
  simp [pulseEdge, live, mode, due]

/-! ### TIME_IN (R569, R570) -/

/-- An edge stamped now: its entry is the last of the queue and the count object follows. -/
def edgeStamped (j : Nat) (rising : Bool) (s : State) : State :=
  (modPinIn j (fun x => { x with queue := x.queue ++ [captureEntry s rising], lastAt := some s.now,
                                 priorAt := x.lastAt }) s).setReg (0x48D0 + j) 4 ((s.pinIn j).queue.length + 1)

theorem edgeIn_stamped {s : State} {j width : Nat} {rising : Bool}
    (chosen : hasBit (s.reg (0x48D0 + j) 1) (if rising then 0 else 1) = true) (wide : s.reg (0x48D0 + j) 2 ≤ width)
    (apart : ∀ a, (s.pinIn j).lastAt = some a → a + 100000 ≤ s.now) (room : (s.pinIn j).queue.length < 16) :
    edgeIn j rising width s = edgeStamped j rising s := by
  have long : decide (width < s.reg (0x48D0 + j) 2) = false := by simpa using wide
  have soon (a : Nat) (last : (s.pinIn j).lastAt = some a) : decide (s.now < a + 100000) = false := by
    simpa using apart a last
  unfold edgeIn
  simp only [long, Bool.false_and, if_neg Bool.false_ne_true, chosen, Bool.not_true, Bool.or_self,
    if_neg (Nat.not_le.mpr room)]
  cases last : (s.pinIn j).lastAt with
  | none => rfl
  | some a => exact if_neg (by simp [soon a last])

/-- Settles O25: an edge of TIME_OUT that is due sets the pin and no other part; an edge of TIME_IN that passes the
three tests is stamped, and a read drops the first entry. -/
theorem timePinCommands : Obligations.TimePinCommands := by
  unfold Obligations.TimePinCommands
  refine ⟨?frame, ?scheduled, ?freeRun, ?stamped, ?read⟩
  case frame =>
    intro s j edge hj mode lock due
    refine ⟨_, exec_timeOutPulse j edge s hj, ?_⟩
    rw [pinOut_onDev (by decide), pulseEdge_frame mode lock due, pinOut_modPinOut_same]
  case scheduled =>
    intro s j k hj mode due
    refine ⟨_, exec_timeOutPulse j true s hj, ?_⟩
    rw [pinOut_onDev (by decide), pulseEdge_scheduled mode due, pinOut_modPinOut_same]
    exact ⟨rfl, rfl⟩
  case freeRun =>
    intro s j edge hj mode free
    have idle : pinLive s j = false := by simp [pinLive, mode, free]
    refine ⟨_, exec_timeOutPulse j edge s hj, ?_⟩
    rw [pinOut_onDev (by decide), pulseEdge_idle edge idle, pinOut_modPinOut_same]
  case stamped =>
    intro s j rising width hj chosen wide apart room
    refine ⟨_, exec_timeInEdge j rising width s hj, ?_⟩
    rw [pinIn_onDev (by decide), onDev_reg (by decide), edgeIn_stamped chosen wide apart room, edgeStamped,
      pinIn_setReg, pinIn_modPinIn_same, reg_setReg_same]
    exact ⟨rfl, rfl, rfl⟩
  case read =>
    intro s j hj
    refine ⟨_, exec_captureEntryRead j s hj, ?_⟩
    rw [pinIn_onDev (by decide), onDev_reg (by decide), captureRead, pinIn_setReg, pinIn_modPinIn_same,
      reg_setReg_same, List.length_drop]
    exact ⟨rfl, rfl⟩

end Sys2Proof.Machine
end

section
/-!
PROOF. Sources that become invalid: what a hand-over and HOLDOVER leave alone, and which of them follows (R519, R523 to
R527, R543).
-/
namespace Sys2Proof.Machine

/-! ### One source (R523) -/

/-- Source `c` is invalid, and nothing has handed over yet. -/
def sourceDropped (c : Nat) (s : State) : State :=
  let s := modSource c (fun x => { x with valid := false, offsets := [], jumps := 0 }) s
  s.iff (s.reg (0x4800 + c) 6 == 4) (·.setReg (0x4800 + c) 6 3)

/-- The port state of source `c` leaves SLAVE. -/
def slaveLeft (c : Nat) (s : State) : State := s.iff (decide (2 ≤ s.reg (0x4800 + c) 6)) (·.setReg (0x4800 + c) 6 1)

/-- Source `a` was active: the other takes over where it is valid, and local time enters HOLDOVER otherwise. -/
def handOver (a : Nat) (s : State) : State :=
  if (s.source (otherSource a)).valid then switchTo (otherSource a) s else enterHoldover s

theorem sourcesLost_eq (cs : List Nat) (s : State) : sourcesLost cs s =
    if cs.contains ((s.each cs sourceDropped).reg 0x4802 1)
    then handOver ((s.each cs sourceDropped).reg 0x4802 1) (s.each cs sourceDropped)
    else s.each cs sourceDropped := rfl

theorem leaveSlaves_eq (cs : List Nat) (s : State) : leaveSlaves cs s = (sourcesLost cs s).each cs slaveLeft := rfl

theorem source_sourceDropped (c x : Nat) (s : State) : (sourceDropped c s).source x =
    if c = x then { s.source c with valid := false, offsets := [], jumps := 0 } else s.source x := by
  unfold sourceDropped State.iff
  dsimp only
  split
  · rw [source_setReg]
    exact source_modSource ..
  · exact source_modSource ..

theorem reg_sourceDropped {c x y : Nat} (hy : y < 256) (other : x = 0x4800 + c → y ≠ 6) (s : State) :
    (sourceDropped c s).reg x y = s.reg x y := by
  unfold sourceDropped State.iff
  dsimp only
  split
  · rw [reg_setReg_at (by decide) hy, if_neg fun e => other e.1.symm e.2.symm]
    rfl
  · rfl

theorem dev_sourceDropped (c : Nat) (s : State) : (sourceDropped c s).dev =
    { s.dev with od := (sourceDropped c s).dev.od, sources := (sourceDropped c s).dev.sources } := by
  unfold sourceDropped State.iff
  dsimp only
  split <;> rfl

@[simp] theorem source_slaveLeft (c x : Nat) (s : State) : (slaveLeft c s).source x = s.source x :=
  iff_keeps (·.source x) _ _ s rfl

theorem reg_slaveLeft {c x y : Nat} (hy : y < 256) (other : x = 0x4800 + c → y ≠ 6) (s : State) :
    (slaveLeft c s).reg x y = s.reg x y :=
  iff_keeps (·.reg x y) _ _ s (by rw [reg_setReg_at (by decide) hy, if_neg fun e => other e.1.symm e.2.symm])

theorem events_slaveLeft (c : Nat) (s : State) : (slaveLeft c s).dev.events = s.dev.events :=
  iff_keeps (·.dev.events) _ _ s rfl

theorem eventBuffer_slaveLeft (c : Nat) (s : State) : (slaveLeft c s).dev.eventBuffer = s.dev.eventBuffer :=
  iff_keeps (·.dev.eventBuffer) _ _ s rfl

/-- A port state that has left SLAVE is LISTENING or OFF. -/
theorem portState_slaveLeft (c : Nat) (s : State) : (slaveLeft c s).reg (0x4800 + c) 6 ≤ 1 := by
  unfold slaveLeft State.iff
  split
  · rw [reg_setReg_same]
  · next low => simp only [decide_eq_true_eq] at low; omega

/-! ### The hand-over (R525) and HOLDOVER (R527, R543) -/

@[simp] theorem source_synchronise (c x : Nat) (s : State) : (synchronise c s).source x = s.source x := by
  unfold synchronise
  dsimp only
  split <;> rfl

/-- Network time has no source, before frame lock follows. -/
def sourceless (s : State) : State := (s.setReg 0x4802 1 2).iff (s.reg 0x4802 2 == 1) (·.setReg 0x4802 2 2)

theorem enterHoldover_eq (s : State) : enterHoldover s =
    if frameLock (sourceless s) = 1 ∨ frameLock (sourceless s) = 2 then (sourceless s).setReg 0x4821 1 3
    else sourceless s := rfl

@[simp] theorem source_enterHoldover (x : Nat) (s : State) : (enterHoldover s).source x = s.source x := by
  have less : (sourceless s).source x = s.source x := iff_keeps (·.source x) _ _ _ rfl
  rw [enterHoldover_eq]
  split <;> exact less

theorem reg_sourceless {x y : Nat} (hy : y < 256) (hx : x ≠ 0x4802) (s : State) :
    (sourceless s).reg x y = s.reg x y := by
  rw [sourceless, iff_keeps (·.reg x y) _ _ _ (reg_setReg_index (by decide) hy hx.symm ..),
    reg_setReg_index (by decide) hy hx.symm]

theorem reg_enterHoldover {x y : Nat} (hy : y < 256) (hx : x ≠ 0x4802) (lock : x ≠ 0x4821) (s : State) :
    (enterHoldover s).reg x y = s.reg x y := by
  rw [enterHoldover_eq]
  split
  · rw [reg_setReg_index (by decide) hy lock.symm, reg_sourceless hy hx]
  · exact reg_sourceless hy hx s

/-- Source `c` is the active one now, and the other a former one (R525, R526). -/
def rolesSwapped (c : Nat) (s : State) : State :=
  modSource c (fun x => { x with former := false }) (modSource (otherSource c) (fun x => { x with former := true }) s)

/-- The source that takes over, before local time is synchronised to it: the clock is reckoned from now on, and δ_s and
its count stand in their objects. -/
def takenOver (c : Nat) (s : State) : State :=
  (((rolesSwapped c s).modDev fun v => { v with clock := { v.clock.rebase s.now with decayAt := s.now } }).setReg 0x4802 3
    (ofSigned 32 (saturate 32 (if (s.source c).former then 0 else deltaFor s c)))).bump 0x4802 4

theorem switchTo_eq (c : Nat) (s : State) :
    switchTo c s = logEvent 525 1 0x4802 0 c (synchronise c (takenOver c s)) := rfl

theorem valid_rolesSwapped (c x : Nat) (s : State) : ((rolesSwapped c s).source x).valid = (s.source x).valid := by
  rw [rolesSwapped, source_modSource, source_modSource, source_modSource]
  split
  · next same => subst same; split <;> simp_all
  · split <;> simp_all

theorem source_takenOver (c x : Nat) (s : State) : (takenOver c s).source x = (rolesSwapped c s).source x := by
  rw [takenOver, source_bump, source_setReg]
  rfl

theorem valid_switchTo (c x : Nat) (s : State) : ((switchTo c s).source x).valid = (s.source x).valid := by
  rw [switchTo_eq, source_logEvent, source_synchronise, source_takenOver, valid_rolesSwapped]

theorem valid_handOver (a x : Nat) (s : State) : ((handOver a s).source x).valid = (s.source x).valid := by
  unfold handOver
  split
  · exact valid_switchTo ..
  · rw [source_enterHoldover]

/-- Outside frame lock and the objects of network time the registers are as before. -/
theorem reg_synchronise {c x y : Nat} (hy : y < 256) (hx : x ≠ 0x4802) (hl : x ≠ 0x4821) (s : State) :
    (synchronise c s).reg x y = s.reg x y := by
  unfold synchronise
  dsimp only
  split
  · rw [modTiming_reg, reg_setReg_index (by decide) hy hl.symm, reg_setReg_index (by decide) hy hx.symm,
      reg_setReg_index (by decide) hy hx.symm]
  · rw [reg_setReg_index (by decide) hy hx.symm, reg_setReg_index (by decide) hy hx.symm]

theorem reg_synchronise_time {y : Nat} (hy : y < 256) (s : State) (c : Nat) :
    (synchronise c s).reg 0x4802 y = if y = 1 then c else if y = 2 then 1 else s.reg 0x4802 y := by
  have set : ((s.setReg 0x4802 1 c).setReg 0x4802 2 1).reg 0x4802 y =
      if y = 1 then c else if y = 2 then 1 else s.reg 0x4802 y := by
    rw [reg_setReg_at (by decide) hy, reg_setReg_at (by decide) hy]
    grind
  unfold synchronise
  dsimp only
  split
  · rw [modTiming_reg, reg_setReg_index (by decide) hy (by decide), set]
  · exact set

theorem reg_takenOver {c x y : Nat} (hy : y < 256) (hx : x = 0x4802 → y ≠ 3 ∧ y ≠ 4) (s : State) :
    (takenOver c s).reg x y = s.reg x y := by
  unfold takenOver
  dsimp only
  rw [reg_bump_at (by decide) hy, if_neg (by rintro ⟨rfl, rfl⟩; simp at hx), reg_setReg_at (by decide) hy,
    if_neg (by rintro ⟨rfl, rfl⟩; simp at hx)]
  rfl

theorem eventBuffer_synchronise (c : Nat) (s : State) : (synchronise c s).dev.eventBuffer = s.dev.eventBuffer := by
  unfold synchronise
  dsimp only
  split <;> rfl

/-! ### Sources that are lost at one time -/

theorem valid_sourceDropped (c x : Nat) (s : State) :
    ((sourceDropped c s).source x).valid = if c = x then false else (s.source x).valid := by
  rw [source_sourceDropped]
  split <;> rfl

/-- Every source lost is invalid. -/
theorem sourcesLost_invalid {cs : List Nat} {c : Nat} (lost : c ∈ cs) (s : State) :
    ((sourcesLost cs s).source c).valid = false := by
  have dropped : ((s.each cs sourceDropped).source c).valid = false :=
    each_reaches (P := fun c t => (t.source c).valid = false)
      (fun x t => by rw [valid_sourceDropped, if_pos rfl])
      (fun x y t h => by rw [valid_sourceDropped]; split <;> simp [h]) cs s c lost
  rw [sourcesLost_eq]
  split
  · rw [valid_handOver, dropped]
  · exact dropped

theorem leaveSlaves_invalid {cs : List Nat} {c : Nat} (lost : c ∈ cs) (s : State) :
    ((leaveSlaves cs s).source c).valid = false := by
  rw [leaveSlaves_eq, each_keeps (·.source c) slaveLeft (fun x t => source_slaveLeft ..), sourcesLost_invalid lost]

/-- Every source lost has left SLAVE. -/
theorem leaveSlaves_left {cs : List Nat} {c : Nat} (lost : c ∈ cs) (s : State) :
    (leaveSlaves cs s).reg (0x4800 + c) 6 ≤ 1 := by
  rw [leaveSlaves_eq]
  refine each_reaches (P := fun c t => t.reg (0x4800 + c) 6 ≤ 1) portState_slaveLeft (fun x y t h => ?_) cs _ c lost
  by_cases same : x = y
  · exact same ▸ portState_slaveLeft ..
  · rwa [reg_slaveLeft (by decide) (by omega)]

/-- The loss of sources reaches time's own registers and the log's alone. -/
theorem reg_sourcesLost {x y : Nat} (hy : y < 256) (hx : 0x4802 < x) (lock : x ≠ 0x4821) (log : x ≠ 0x6000)
    {cs : List Nat} (two : ∀ c ∈ cs, c < 2) (s : State) : (sourcesLost cs s).reg x y = s.reg x y := by
  have dropped : (s.each cs sourceDropped).reg x y = s.reg x y :=
    each_keeps_of_mem (·.reg x y) _ cs (fun c hc t => reg_sourceDropped hy (by have := two c hc; omega) t) s
  rw [sourcesLost_eq]
  split
  · unfold handOver
    split
    · rw [switchTo_eq, reg_logEvent_index _ _ _ _ _ _ log hy, reg_synchronise hy (by omega) lock,
        reg_takenOver hy (by omega), dropped]
    · rw [reg_enterHoldover hy (by omega) lock, dropped]
  · exact dropped

theorem reg_leaveSlaves {x y : Nat} (hy : y < 256) (hx : 0x4802 < x) (lock : x ≠ 0x4821) (log : x ≠ 0x6000)
    {cs : List Nat} (two : ∀ c ∈ cs, c < 2) (s : State) : (leaveSlaves cs s).reg x y = s.reg x y := by
  rw [leaveSlaves_eq, each_keeps_of_mem (·.reg x y) slaveLeft cs
    (fun c hc t => reg_slaveLeft hy (by have := two c hc; omega) t), reg_sourcesLost hy hx lock log two]

end Sys2Proof.Machine
end

section
/-!
PROOF. The network ports, the transmit cap and the transmit stamps (R516 to R519, R528 to R531).
-/
namespace Sys2Proof.Machine

/-! ### Link (R516) -/

/-- Source `c` begins to listen when it is enabled, on port `p`, and off. -/
def listenRound (p c : Nat) (s : State) : State :=
  s.iff (s.reg (0x4800 + c) 1 == 1 && s.reg (0x4800 + c) 3 == p && s.reg (0x4800 + c) 6 == 0) (·.setReg (0x4800 + c) 6 1)

theorem reg_listenRound {p c x y : Nat} (hy : y < 256) (other : x = 0x4800 + c → y ≠ 6) (s : State) :
    (listenRound p c s).reg x y = s.reg x y :=
  iff_keeps (·.reg x y) _ _ s (by rw [reg_setReg_at (by decide) hy, if_neg fun e => other e.1.symm e.2.symm])

theorem listenRound_listens {p c : Nat} {s : State} (on : s.reg (0x4800 + c) 1 = 1) (port : s.reg (0x4800 + c) 3 = p)
    (off : s.reg (0x4800 + c) 6 = 0) : (listenRound p c s).reg (0x4800 + c) 6 = 1 := by
  simp [listenRound, State.iff, on, port, off]

/-- An unlinked port links at the rate it tries; then its sources listen, one after the other. -/
theorem ethUp_links {p : Nat} {tenG : Bool} {s : State} (down : s.reg (0x4812 + p) 1 = 0) (tried : (s.eth p).try1G = !tenG) :
    ethUp p tenG s = listenRound p 1 (listenRound p 0 (s.setReg (0x4812 + p) 1 (if tenG then 2 else 1))) := by
  rw [ethUp, if_neg (by cases tenG <;> simp [down, tried])]
  rfl

theorem ethUp_kept {p : Nat} {tenG : Bool} {s : State} (h : s.reg (0x4812 + p) 1 ≠ 0 ∨ (s.eth p).try1G = tenG) :
    ethUp p tenG s = s := if_pos (h.imp_right Eq.symm)

theorem ethUp_rate {p : Nat} {tenG : Bool} {s : State} (down : s.reg (0x4812 + p) 1 = 0)
    (tried : (s.eth p).try1G = !tenG) : (ethUp p tenG s).reg (0x4812 + p) 1 = if tenG then 2 else 1 := by
  rw [ethUp_links down tried, reg_listenRound (by decide) (by omega), reg_listenRound (by decide) (by omega),
    reg_setReg_same]

theorem ethUp_listens {p c : Nat} {tenG : Bool} {s : State} (down : s.reg (0x4812 + p) 1 = 0)
    (tried : (s.eth p).try1G = !tenG) (hc : c < 2) (on : s.reg (0x4800 + c) 1 = 1) (port : s.reg (0x4800 + c) 3 = p)
    (off : s.reg (0x4800 + c) 6 = 0) : (ethUp p tenG s).reg (0x4800 + c) 6 = 1 := by
  have rated (y : Nat) (hy : y < 256) :
      (s.setReg (0x4812 + p) 1 (if tenG then 2 else 1)).reg (0x4800 + c) y = s.reg (0x4800 + c) y :=
    reg_setReg_index (by decide) hy (by omega) ..
  rw [ethUp_links down tried]
  obtain rfl | rfl : c = 0 ∨ c = 1 := by omega
  · rw [reg_listenRound (by decide) (by omega)]
    exact listenRound_listens ((rated 1 (by decide)).trans on) ((rated 3 (by decide)).trans port)
      ((rated 6 (by decide)).trans off)
  · have first (y : Nat) (hy : y < 256) := reg_listenRound (p := p) (c := 0) (x := 0x4800 + 1) hy (by omega)
      (s.setReg (0x4812 + p) 1 (if tenG then 2 else 1))
    exact listenRound_listens ((first 1 (by decide)).trans ((rated 1 (by decide)).trans on))
      ((first 3 (by decide)).trans ((rated 3 (by decide)).trans port))
      ((first 6 (by decide)).trans ((rated 6 (by decide)).trans off))

/-! ### Loss of link (R519) -/

/-- The sources on port `p`. -/
def sourcesOn (p : Nat) (s : State) : List Nat := [0, 1].filter fun c => s.reg (0x4800 + c) 3 == p

theorem mem_sourcesOn {p c : Nat} {s : State} : c ∈ sourcesOn p s ↔ c < 2 ∧ s.reg (0x4800 + c) 3 = p := by
  simp only [sourcesOn, List.mem_filter, List.mem_cons, List.not_mem_nil, or_false, beq_iff_eq]
  exact and_congr_left fun _ => by omega

/-- The port has lost its link; its sources are still to be lost. -/
def linkLost (p : Nat) (s : State) : State := modEth p (fun e => { e with try1G := false }) (s.setReg (0x4812 + p) 1 0)

theorem reg_linkLost_index {p x y : Nat} (hy : y < 256) (hx : x < 0x4812) (s : State) :
    (linkLost p s).reg x y = s.reg x y := by
  rw [linkLost, modEth_reg, reg_setReg_index (by decide) hy (by omega)]

theorem ethDown_eq (p : Nat) (s : State) : ethDown p s = leaveSlaves (sourcesOn p (linkLost p s)) (linkLost p s) := rfl

theorem mem_sourcesOn_linkLost {p c : Nat} {s : State} : c ∈ sourcesOn p (linkLost p s) ↔
    c < 2 ∧ s.reg (0x4800 + c) 3 = p := by
  rw [mem_sourcesOn]
  exact and_congr_right fun hc => by rw [reg_linkLost_index (by decide) (by omega)]

theorem ethDown_unlinked {p : Nat} (hp : p < 2) (s : State) : (ethDown p s).reg (0x4812 + p) 1 = 0 := by
  rw [ethDown_eq, reg_leaveSlaves (by decide) (by omega) (by omega) (by omega) (fun c hc => (mem_sourcesOn.mp hc).1),
    linkLost, modEth_reg, reg_setReg_same]

/-! ### The transmit cap (R518) -/

theorem ethDrain_idle {p : Nat} {s : State} (idle : (s.eth p).waiting = []) : ethDrain p s = s := by
  simp [ethDrain, idle]

@[simp] theorem eth_framesLeave (p x : Nat) (fs : List EthFrame) (s : State) :
    (framesLeave p fs s).eth x = s.eth x := by
  unfold framesLeave
  dsimp only
  split <;> rfl

@[simp] theorem reg_framesLeave (p : Nat) (fs : List EthFrame) (s : State) (x y : Nat) :
    (framesLeave p fs s).reg x y = s.reg x y := by
  unfold framesLeave
  dsimp only
  split <;> rfl

/-- The port keeps only what it has sent within the 1 ms that ends now. -/
def sentTrimmed (p : Nat) (s : State) : State := modEth p (fun e => { e with sent := sentLately s p }) s

theorem eth_sentTrimmed (p : Nat) (s : State) : (sentTrimmed p s).eth p = { s.eth p with sent := sentLately s p } :=
  eth_modEth_same ..

theorem sentLately_sentTrimmed (p : Nat) (s : State) : sentLately (sentTrimmed p s) p = sentLately s p := by
  rw [sentLately, eth_sentTrimmed, show (sentTrimmed p s).now = s.now from rfl]
  simp only [sentLately, List.filter_filter, Bool.and_self]

theorem capLeft_sentTrimmed (p : Nat) (s : State) : capLeft (sentTrimmed p s) p = capLeft s p := by
  rw [capLeft, sentLately_sentTrimmed]
  rfl

theorem frameOut_eq (p : Nat) (f : EthFrame) (s : State) : frameOut p f s =
    (let t := sentTrimmed p (ethDrain p s)
     if (t.eth p).waiting.isEmpty && decide (8 * f.size ≤ capLeft t p) then
       framesLeave p [f] (modEth p (fun e => { e with sent := e.sent ++ [(s.now, 8 * f.size)] }) t)
     else if (((t.eth p).waiting.map (·.size)).foldl (· + ·) 0) + f.size ≤ 65536 then
       modEth p (fun e => { e with waiting := e.waiting ++ [f] }) t
     else t.bump (0x4812 + p) 3) := rfl

/-- With nothing waiting a frame that the cap leaves room for leaves at once. -/
theorem frameOut_leaves {p : Nat} {f : EthFrame} {s : State} (idle : (s.eth p).waiting = [])
    (room : 8 * f.size ≤ capLeft s p) : frameOut p f s = framesLeave p [f]
      (modEth p (fun e => { e with sent := e.sent ++ [(s.now, 8 * f.size)] }) (sentTrimmed p s)) := by
  rw [frameOut_eq, ethDrain_idle idle]
  dsimp only
  rw [if_pos (by simp [eth_sentTrimmed, idle, capLeft_sentTrimmed, room])]

/-- With nothing waiting a frame that the cap has no room for waits, where the queue has room. -/
theorem frameOut_waits {p : Nat} {f : EthFrame} {s : State} (idle : (s.eth p).waiting = [])
    (full : capLeft s p < 8 * f.size) (fits : f.size ≤ 65536) :
    frameOut p f s = modEth p (fun e => { e with waiting := e.waiting ++ [f] }) (sentTrimmed p s) := by
  rw [frameOut_eq, ethDrain_idle idle]
  dsimp only
  rw [if_neg (by simp [capLeft_sentTrimmed, full]), if_pos (by simp [eth_sentTrimmed, idle, fits])]

/-- Frames still wait once the cap has let others leave: the port keeps those. -/
theorem eth_ethDrain {p : Nat} {s : State} {left : List EthFrame} {sent : List (Nat × Nat)}
    (drains : drainFrames s.now s.ceilings.rec2.transmitCap (s.eth p).waiting (sentLately s p) = (left, sent))
    (some' : left ≠ []) : (ethDrain p s).eth p = { s.eth p with waiting := left, sent := sent } := by
  have busy : (s.eth p).waiting ≠ [] := by
    intro idle
    rw [idle, drainFrames] at drains
    exact some' (Prod.mk.inj drains).1.symm
  unfold ethDrain
  dsimp only
  rw [if_neg (by simpa using busy), drains]
  dsimp only
  rw [eth_framesLeave, eth_modEth_same]

theorem reg_ethDrain (p : Nat) (s : State) (x y : Nat) : (ethDrain p s).reg x y = s.reg x y := by
  unfold ethDrain
  dsimp only
  split
  · rfl
  · rw [reg_framesLeave, modEth_reg]

/-- A frame that the queue has no room for is dropped and counted. -/
theorem frameOut_drops {p : Nat} {f : EthFrame} {s : State} {left : List EthFrame} {sent : List (Nat × Nat)}
    (drains : drainFrames s.now s.ceilings.rec2.transmitCap (s.eth p).waiting (sentLately s p) = (left, sent))
    (some' : left ≠ []) (full : 65536 < (left.map (·.size)).foldl (· + ·) 0 + f.size) :
    frameOut p f s = (sentTrimmed p (ethDrain p s)).bump (0x4812 + p) 3 := by
  have waits : ((sentTrimmed p (ethDrain p s)).eth p).waiting = left := by
    rw [eth_sentTrimmed, eth_ethDrain drains some']
  rw [frameOut_eq]
  dsimp only
  rw [waits, if_neg (by simp [some']), if_neg (by omega)]

/-! ### Transmit stamps (R528 to R531) -/

/-- The stamps of a port and the objects of its queue are as before. -/
theorem eth_stamps_pdelayAnswer (p domain seqId : Nat) (tx : Int) (s : State) :
    ((pdelayAnswer p domain seqId tx s).eth p).stamps = (s.eth p).stamps := by
  rw [pdelayAnswer, eth_modEth_same]
  split <;> rfl

/-- The answer of a Pdelay_Resp, before the stamp (R520). -/
def stampPrepared (p msgtype domain seqId : Nat) (s : State) : State :=
  if msgtype = 3 then pdelayAnswer p domain seqId ((localTime s + phyLatency s p 1).fdiv 1000) s else s

theorem stamps_stampPrepared (p msgtype domain seqId : Nat) (s : State) :
    ((stampPrepared p msgtype domain seqId s).eth p).stamps = (s.eth p).stamps := by
  unfold stampPrepared
  split
  · exact eth_stamps_pdelayAnswer ..
  · rfl

theorem reg_stampPrepared (p msgtype domain seqId : Nat) (s : State) (x y : Nat) :
    (stampPrepared p msgtype domain seqId s).reg x y = s.reg x y := by
  unfold stampPrepared
  split <;> rfl

theorem entersStamp_stampPrepared (p msgtype domain seqId : Nat) (s : State) :
    entersStamp (stampPrepared p msgtype domain seqId s) msgtype = entersStamp s msgtype := by
  rw [entersStamp, reg_stampPrepared]
  rfl

/-- A stamp taken now enters the queue and the requests that await an answer, and the count object follows. -/
def stampTaken (p msgtype domain seqId : Nat) (time : Int) (s : State) : State :=
  let t := modEth p (fun x =>
    { x with stamps := x.stamps ++ [stampEntry (time80 time.toNat) msgtype domain seqId],
             asked := (⟨msgtype, domain, seqId, time.fdiv 1000⟩ :: x.asked).take 32 }) s
  t.setReg (0x4810 + p) 2 (t.eth p).stamps.length

theorem stampEnqueue_eq (p msgtype domain seqId : Nat) (s : State) : stampEnqueue p msgtype domain seqId s =
    (let t := stampPrepared p msgtype domain seqId s
     if !entersStamp t msgtype then t
     else if 32 ≤ (t.eth p).stamps.length then (t.bump (0x4810 + p) 3).setReg (0x4810 + p) 4 1
     else stampTaken p msgtype domain seqId (localTime s + phyLatency s p 1) t) := rfl

section Stamp
variable {p msgtype domain seqId : Nat} {s : State}

theorem stampEnqueue_none (enters : entersStamp s msgtype = false) :
    ((stampEnqueue p msgtype domain seqId s).eth p).stamps = (s.eth p).stamps := by
  rw [stampEnqueue_eq]
  dsimp only
  rw [entersStamp_stampPrepared, enters, if_pos (by rfl), stamps_stampPrepared]

theorem stampEnqueue_enters (enters : entersStamp s msgtype = true) (room : (s.eth p).stamps.length < 32) :
    ((stampEnqueue p msgtype domain seqId s).eth p).stamps = (s.eth p).stamps ++
        [stampEntry (time80 (localTime s + phyLatency s p 1).toNat) msgtype domain seqId] ∧
      (stampEnqueue p msgtype domain seqId s).reg (0x4810 + p) 2 = (s.eth p).stamps.length + 1 := by
  rw [stampEnqueue_eq]
  dsimp only
  rw [entersStamp_stampPrepared, enters, if_neg (by decide), stamps_stampPrepared, if_neg (by omega), stampTaken]
  rw [eth_setReg, eth_modEth_same, reg_setReg_same]
  simp only [stamps_stampPrepared, List.length_append, List.length_singleton, and_self]

theorem stampEnqueue_drops (enters : entersStamp s msgtype = true) (full : 32 ≤ (s.eth p).stamps.length) :
    ((stampEnqueue p msgtype domain seqId s).eth p).stamps = (s.eth p).stamps ∧
      counted s (stampEnqueue p msgtype domain seqId s) (0x4810 + p) 3 ∧
      (stampEnqueue p msgtype domain seqId s).reg (0x4810 + p) 4 = 1 := by
  rw [stampEnqueue_eq]
  dsimp only
  rw [entersStamp_stampPrepared, enters, if_neg (by decide), stamps_stampPrepared, if_pos full, eth_setReg, eth_bump,
    stamps_stampPrepared, counted, reg_setReg_sub (by decide) (by decide) (by decide), reg_bump, if_pos rfl,
    reg_stampPrepared, reg_setReg_same]
  exact ⟨rfl, rfl, rfl⟩

end Stamp

/-! ### The statement -/

/-- Settles O43: links, losses and stamps write their own port and its sources; a frame leaves, waits or is dropped by
the room that the cap and the queue leave. -/
theorem networkPortCommands : Obligations.NetworkPortCommands := by
  unfold Obligations.NetworkPortCommands
  refine ⟨?up, ?down, ?alternate, ?receive, ?transmit, ?dropped, ?stamped, ?read⟩
  case up =>
    intro s p tenG hp
    refine ⟨_, exec_epLinkUp p tenG s hp, fun down tried => ⟨?_, fun c hc on port off => ?_⟩, fun kept => ?_⟩
    · rw [onDev_reg (by decide), ethUp_rate down tried]
    · rw [onDev_reg (by decide), ethUp_listens down tried hc on port off]
    · rw [onDev_of_fixed (ethUp_kept kept)]
  case down =>
    intro s p hp
    refine ⟨_, exec_epLinkDown p s hp, ?_, fun c hc port => ?_⟩
    · rw [onDev_reg (by decide), ethDown_unlinked hp]
    · have lost := mem_sourcesOn_linkLost.mpr ⟨hc, port⟩
      rw [source_onDev (by decide), onDev_reg (by decide), ethDown_eq]
      exact ⟨leaveSlaves_invalid lost _, leaveSlaves_left lost _⟩
  case alternate =>
    intro s p hp down
    refine ⟨_, exec_epRateAlternate p s hp, ?_⟩
    rw [eth_onDev (by decide), ethAlternate, if_pos down, eth_modEth_same]
  case receive =>
    intro s p proto vlan hp
    refine ⟨_, exec_ethernetFrameReceive p proto vlan s hp, fun taken => ?_, fun other => ?_⟩
    · rw [onDev_of_fixed (f := frameReceive p proto vlan) (if_pos taken)]
    · refine counted_onDev (by decide) ?_
      rw [frameReceive, if_neg (by simp [other]), counted, reg_bump, if_pos rfl]
  case transmit =>
    intro s p bytes hp idle
    refine ⟨_, exec_ethernetTransmit p bytes s hp, fun room => ?_, fun full fits => ?_⟩
    · rw [eth_onDev (by decide), frameSend, frameOut_leaves idle room, eth_framesLeave, eth_modEth_same, eth_sentTrimmed]
      exact ⟨idle, rfl⟩
    · rw [eth_onDev (by decide), frameSend, frameOut_waits idle full fits, eth_modEth_same, eth_sentTrimmed, idle]
      exact ⟨rfl, rfl⟩
  case dropped =>
    intro s p bytes left sent hp drains some' full
    refine ⟨_, exec_ethernetTransmit p bytes s hp, ?_, counted_onDev (by decide) ?_⟩
    · rw [eth_onDev (by decide), frameSend, frameOut_drops drains some' full, eth_bump, eth_sentTrimmed,
        eth_ethDrain drains some']
    · rw [frameSend, frameOut_drops drains some' full, counted, reg_bump, if_pos rfl, sentTrimmed, modEth_reg, reg_ethDrain]
  case stamped =>
    intro s p msgtype domain seqId hp hm hd hs
    refine ⟨_, exec_transmitStampEnqueue p msgtype domain seqId s hp hm hd hs, fun none' => ?_, fun enters room => ?_,
      fun enters full => ?_⟩
    · rw [eth_onDev (by decide), stampEnqueue_none none']
    · rw [eth_onDev (by decide), onDev_reg (by decide)]
      exact stampEnqueue_enters enters room
    · obtain ⟨stamps, count, flag⟩ := stampEnqueue_drops (domain := domain) (seqId := seqId) enters full
      rw [eth_onDev (by decide), onDev_reg (by decide)]
      exact ⟨stamps, counted_onDev (by decide) count, flag⟩
  case read =>
    intro s p hp
    refine ⟨_, exec_transmitStampRead p s hp, ?_⟩
    rw [eth_onDev (by decide), onDev_reg (by decide), stampRead, eth_setReg, reg_setReg_same, eth_modEth_same,
      List.length_drop]
    exact ⟨rfl, rfl⟩

end Sys2Proof.Machine
end

section
/-!
SUPPORT. Tile ports: what a state, a block sent and a violation change, and what they leave alone (R548 to R553, R564).
-/
namespace Sys2Proof.Machine

/-- Tile ports are numbered below 8 (R1). -/
theorem nTiles_le (s : State) : nTiles s ≤ 8 := by
  unfold nTiles
  split <;> decide

/-! ### The state of a port (R552, R556) -/

/-- The port is in state `v`, before its marker-lock falls. -/
theorem setTileState_cases (t v : Nat) (s : State) :
    setTileState t v s = s.setReg (0x4880 + t) 1 v ∨
    setTileState t v s = modTile t (fun x => { x with good := 0, bad := 0, goodNow := false })
      ((s.setReg (0x4880 + t) 1 v).setReg (0x4880 + t) 7 0) := by
  unfold setTileState
  dsimp only
  split
  · exact .inl rfl
  · exact .inr rfl

/-- Entering a state writes the state and the marker-lock alone. -/
theorem reg_setTileState {t v x y : Nat} (hy : y < 256) (other : x = 0x4880 + t → y ≠ 1 ∧ y ≠ 7) (s : State) :
    (setTileState t v s).reg x y = s.reg x y := by
  have state : (s.setReg (0x4880 + t) 1 v).reg x y = s.reg x y := by
    rw [reg_setReg_at (by decide) hy, if_neg fun e => (other e.1.symm).1 e.2.symm]
  obtain e | e := setTileState_cases t v s <;> rw [e]
  · exact state
  · rw [modTile_reg, reg_setReg_at (by decide) hy, if_neg fun e => (other e.1.symm).2 e.2.symm, state]

@[simp] theorem tileState_setTileState (t v : Nat) (s : State) : tileState (setTileState t v s) t = v := by
  obtain e | e := setTileState_cases t v s <;> rw [e, tileState]
  · exact reg_setReg_same ..
  · rw [modTile_reg, reg_setReg_sub (by decide) (by decide) (by decide), reg_setReg_same]

theorem takenDown_setTileState (t v x : Nat) (s : State) :
    ((setTileState t v s).tile x).takenDown = (s.tile x).takenDown := by
  obtain e | e := setTileState_cases t v s <;> rw [e]
  · rfl
  · rw [tile_modTile]
    split
    · next same => rw [← same]; rfl
    · rfl

theorem eventBuffer_setTileState (t v : Nat) (s : State) :
    (setTileState t v s).dev.eventBuffer = s.dev.eventBuffer := by
  obtain e | e := setTileState_cases t v s <;> rw [e] <;> rfl

/-! ### Blocks sent (R548) -/

@[simp] theorem reg_sendTile (t b : Nat) (s : State) (x y : Nat) : (sendTile t b s).reg x y = s.reg x y := rfl

/-- The block is the one sent last. -/
@[simp] theorem head_sendTile (t b : Nat) (s : State) : ((sendTile t b s).tile t).sent.head? = some b := by
  rw [sendTile, tile_modTile_same]
  rfl

/-- Sending changes what the port has sent and how, nothing else. -/
theorem takenDown_sendTile (t b x : Nat) (s : State) : ((sendTile t b s).tile x).takenDown = (s.tile x).takenDown := by
  rw [sendTile, tile_modTile]
  split
  · next same => rw [← same]
  · rfl

theorem tile_sendTile_other {t x : Nat} (other : t ≠ x) (b : Nat) (s : State) :
    (sendTile t b s).tile x = s.tile x := by
  rw [sendTile, tile_modTile, if_neg other]

/-! ### Violations (R564) -/

/-- Violations of port `t` within the second that ends now, this one first. -/
def violationsNow (t : Nat) (s : State) : List Nat := s.now :: within1s s.now (s.tile t).violations

theorem length_violationsNow (t : Nat) (s : State) :
    (violationsNow t s).length = (within1s s.now (s.tile t).violations).length + 1 := List.length_cons

/-- A violation is noted and counted. -/
def violationNoted (t : Nat) (s : State) : State :=
  modTile t (fun x => { x with violations := violationsNow t s }) (s.bump (0x4880 + t) 8)

/-- The port is taken down, and its event is still to be written. -/
def portTakenDown (t : Nat) (s : State) : State :=
  setTileState t 0 (modTile t (fun x => { x with takenDown := true, violations := [] }) s)

theorem takenDown_violationNoted (t : Nat) (s : State) :
    ((violationNoted t s).tile t).takenDown = (s.tile t).takenDown := by
  rw [violationNoted, tile_modTile_same]
  rfl

theorem tileViolation_eq (t : Nat) (s : State) : tileViolation t s =
    if 256 ≤ (violationsNow t s).length ∧ ((violationNoted t s).tile t).takenDown = false then
      logEvent 564 6 (0x4880 + t) 0 0 (portTakenDown t (violationNoted t s))
    else violationNoted t s := rfl

theorem tileViolation_few {t : Nat} {s : State} (few : (within1s s.now (s.tile t).violations).length + 1 < 256) :
    tileViolation t s = violationNoted t s := by
  rw [tileViolation_eq, length_violationsNow, if_neg (by omega)]

theorem tileViolation_many {t : Nat} {s : State} (many : 256 ≤ (within1s s.now (s.tile t).violations).length + 1)
    (up : (s.tile t).takenDown = false) :
    tileViolation t s = logEvent 564 6 (0x4880 + t) 0 0 (portTakenDown t (violationNoted t s)) := by
  rw [tileViolation_eq, length_violationsNow, if_pos ⟨many, (takenDown_violationNoted t s).trans up⟩]

theorem reg_violationNoted {t x y : Nat} (hy : y < 256) (other : x = 0x4880 + t → y ≠ 8) (s : State) :
    (violationNoted t s).reg x y = s.reg x y := by
  rw [violationNoted, modTile_reg, reg_bump_at (by decide) hy, if_neg fun e => other e.1.symm e.2.symm]

theorem counted_violationNoted (t : Nat) (s : State) : counted s (violationNoted t s) (0x4880 + t) 8 := by
  rw [counted, violationNoted, modTile_reg, reg_bump, if_pos rfl]

theorem reg_portTakenDown {t x y : Nat} (hy : y < 256) (other : x = 0x4880 + t → y ≠ 1 ∧ y ≠ 7) (s : State) :
    (portTakenDown t s).reg x y = s.reg x y := by
  rw [portTakenDown, reg_setTileState hy other, modTile_reg]

theorem counted_tileViolation {t : Nat} (ht : t < 8) (s : State) : counted s (tileViolation t s) (0x4880 + t) 8 := by
  have noted := counted_violationNoted t s
  rw [tileViolation_eq]
  split
  · rwa [counted, reg_logEvent_index _ _ _ _ _ _ (by omega) (by decide), reg_portTakenDown (by decide) (by omega)]
  · exact noted

/-- The 256th violation within 1 s takes the port down (R564). -/
theorem tileViolation_takesDown {t : Nat} {s : State} (ht : t < 8)
    (many : 256 ≤ (within1s s.now (s.tile t).violations).length + 1) (up : (s.tile t).takenDown = false) :
    tileState (tileViolation t s) t = 0 ∧ ((tileViolation t s).tile t).takenDown = true ∧
      (canLog s → eventLogged 564 s (tileViolation t s)) := by
  rw [tileViolation_many many up]
  refine ⟨?_, ?_, fun room => eventLogged_after ?_ ?_ ?_ room ..⟩
  · rw [tileState, reg_logEvent_index _ _ _ _ _ _ (by omega) (by decide)]
    exact tileState_setTileState ..
  · rw [tile_logEvent, portTakenDown, takenDown_setTileState, tile_modTile_same]
  · rw [reg_portTakenDown (by decide) (by omega), reg_violationNoted (by decide) (by omega)]
  · rw [reg_portTakenDown (by decide) (by omega), reg_violationNoted (by decide) (by omega)]
  · exact eventBuffer_setTileState ..

end Sys2Proof.Machine
end

section
/-!
PROOF. Tile ports: lock, HELLO, the state it gives, and the take-down (R549 to R553, R564, R754).
-/
namespace Sys2Proof.Machine

/-! ### HELLO (R551, R552) -/

/-- HELLO names the port, the wall and this device's wall ID. -/
theorem helloBlock_congr {s u : State} (t : Nat) (id : u.reg 0x4830 1 = s.reg 0x4830 1)
    (wall : u.reg 0x4830 2 = s.reg 0x4830 2) : helloBlock u t = helloBlock s t := by
  rw [helloBlock, helloBlock, wallId, wallId, id, wall]

theorem helloSend_up {t : Nat} {s : State} (up : tileState s t ≠ 0) :
    helloSend t s = sendTile t (helloBlock s t) s := if_neg up

/-- A DOWN port that is enabled, not taken down and has a locked lane links and sends HELLO. -/
theorem tileLink_links {t : Nat} {s : State} (down : tileState s t = 0) (lane : s.reg (0x4880 + t) 2 ≠ 0)
    (enabled : s.reg (0x4880 + t) 9 = 1) (up : (s.tile t).takenDown = false) :
    tileLink t s = sendTile t (helloBlock (setTileState t 1 s) t) (setTileState t 1 s) := by
  rw [tileLink, if_pos (by simp [down, lane, enabled, up]), helloSend_up (by simp)]

/-- The take-down of port `t` has ended. -/
def portReleased (t : Nat) (s : State) : State := modTile t (fun x => { x with takenDown := false }) s

theorem takenDown_portReleased (t : Nat) (s : State) : ((portReleased t s).tile t).takenDown = false := by
  rw [portReleased, tile_modTile_same]

theorem tileTakeDownEnd_taken {t : Nat} {s : State} (taken : (s.tile t).takenDown = true) :
    tileTakeDownEnd t s = tileLink t (portReleased t s) := if_pos taken

theorem tileLink_kept {t : Nat} {s : State} (h : ¬(s.reg (0x4880 + t) 2 ≠ 0 ∧ s.reg (0x4880 + t) 9 = 1)) :
    tileLink t s = s := by
  rw [tileLink, if_neg]
  simp only [Bool.and_eq_true, bne_iff_ne, beq_iff_eq]
  exact fun e => h ⟨e.1.1.2, e.1.2⟩

/-- The neighbour's wall ID and wall are recorded. -/
def helloNoted (t b : Nat) (s : State) : State :=
  (s.setReg (0x4880 + t) 3 (bits b 19 8)).setReg (0x4880 + t) 4 (bits b 39 24)

/-- The port is in the state `k` that a HELLO gives it, with its count and event (R552, R553). -/
def helloPlaced (t k b : Nat) (s : State) : State :=
  if k = 3 then logEvent 552 6 (0x4880 + t) 0 (bits b 39 24) (setTileState t k s)
  else if k = 4 then logEvent 552 6 (0x4880 + t) 0 (bits b 19 8) ((setTileState t k s).bump 0x4830 3)
  else setTileState t k s

/-- The first intact HELLO places a port that is LINKING. -/
theorem helloReceive_linking {t b c : Nat} {s : State} (linking : tileState s t = 1)
    (first : firstIntact helloGood c = b) (good : helloGood b = true) (proto : bits b 47 40 = 1) :
    helloReceive t c s = helloPlaced t (classify s t (bits b 39 24) (bits b 19 8)) b (helloNoted t b s) := by
  unfold helloReceive
  rw [first, linking, if_neg (by decide), good, if_neg (by decide), if_neg (by omega), if_pos rfl]
  rfl

theorem classify_foreign {s : State} {t wall id : Nat} (foreign : wall ≠ s.reg 0x4830 2) : classify s t wall id = 3 :=
  if_pos foreign

theorem classify_conflict {s : State} {t wall id : Nat} (here : wall = s.reg 0x4830 2) (own : id = wallId s) :
    classify s t wall id = 4 := by
  rw [classify, if_neg (by simpa using here), if_pos own]

theorem classify_other {s : State} {t wall id : Nat} (here : wall = s.reg 0x4830 2) (other : id ≠ wallId s) :
    classify s t wall id = if isPairing s t then 5 else 2 := by
  rw [classify, if_neg (by simpa using here), if_neg other]

theorem reg_helloNoted {t x y : Nat} (hy : y < 256) (other : x = 0x4880 + t → y ≠ 3 ∧ y ≠ 4) (b : Nat) (s : State) :
    (helloNoted t b s).reg x y = s.reg x y := by
  rw [helloNoted, reg_setReg_at (by decide) hy, if_neg fun e => (other e.1.symm).2 e.2.symm,
    reg_setReg_at (by decide) hy, if_neg fun e => (other e.1.symm).1 e.2.symm]

/-- Placing a port leaves the neighbour's record as it is. -/
theorem reg_helloPlaced {t k b x y : Nat} (hy : y < 256) (log : x ≠ 0x6000) (count : x ≠ 0x4830)
    (other : x = 0x4880 + t → y ≠ 1 ∧ y ≠ 7) (s : State) : (helloPlaced t k b s).reg x y = s.reg x y := by
  unfold helloPlaced
  split
  · rw [reg_logEvent_index _ _ _ _ _ _ log hy, reg_setTileState hy other]
  · split
    · rw [reg_logEvent_index _ _ _ _ _ _ log hy, reg_bump_at (by decide) hy, if_neg fun e => count e.1.symm,
        reg_setTileState hy other]
    · exact reg_setTileState hy other s

theorem tileState_helloPlaced {t : Nat} (ht : t < 8) (k b : Nat) (s : State) : tileState (helloPlaced t k b s) t = k := by
  unfold helloPlaced
  split
  · rw [tileState, reg_logEvent_index _ _ _ _ _ _ (by omega) (by decide)]
    exact tileState_setTileState ..
  · split
    · rw [tileState, reg_logEvent_index _ _ _ _ _ _ (by omega) (by decide), reg_bump_at (by decide) (by decide),
        if_neg (by omega)]
      exact tileState_setTileState ..
    · exact tileState_setTileState ..

theorem counted_helloPlaced (t b : Nat) (s : State) : counted s (helloPlaced t 4 b s) 0x4830 3 := by
  rw [helloPlaced, if_neg (by decide), if_pos rfl, counted, reg_logEvent_index _ _ _ _ _ _ (by decide) (by decide),
    reg_bump, if_pos rfl, reg_setTileState (by decide) (by omega)]

/-- FOREIGN and CONFLICT are logged. -/
theorem eventLogged_helloPlaced {t k b : Nat} (told : k = 3 ∨ k = 4) {s u : State} (seq : u.reg 0x6000 1 = s.reg 0x6000 1)
    (trained : u.reg 0x5090 1 = s.reg 0x5090 1) (buffer : u.dev.eventBuffer = s.dev.eventBuffer) (ht : t < 8)
    (room : canLog s) : eventLogged 552 s (helloPlaced t k b u) := by
  have placed : (setTileState t k u).dev.eventBuffer = s.dev.eventBuffer :=
    (eventBuffer_setTileState ..).trans buffer
  obtain rfl | rfl := told
  · rw [helloPlaced, if_pos rfl]
    refine eventLogged_after ?_ ?_ placed room ..
    · rw [reg_setTileState (by decide) (by omega), seq]
    · rw [reg_setTileState (by decide) (by omega), trained]
  · rw [helloPlaced, if_neg (by decide), if_pos rfl]
    refine eventLogged_after (u := (setTileState t 4 u).bump 0x4830 3) ?_ ?_ placed room ..
    · rw [reg_bump_at (by decide) (by decide), if_neg (by decide), reg_setTileState (by decide) (by omega), seq]
    · rw [reg_bump_at (by decide) (by decide), if_neg (by decide), reg_setTileState (by decide) (by omega), trained]

/-! ### Lanes (R549, R552, R754) -/

theorem setBit_ne_zero (n i : Nat) : setBit n i ≠ 0 := fun h => by
  have set := hasBit_setBit_same n i
  rw [h] at set
  simp [hasBit, bit] at set

/-- A lane of port `t` is locked. -/
def laneLocked (t lane : Nat) (s : State) : State := s.setReg (0x4880 + t) 2 (setBit (s.reg (0x4880 + t) 2) lane)

/-- With PD31 on, the first lock of an enabled DOWN port links it. -/
theorem laneLock_links {t lane : Nat} {s : State} (on : domainState s 31 = 2) (down : tileState s t = 0)
    (enabled : s.reg (0x4880 + t) 9 = 1) (up : (s.tile t).takenDown = false) :
    laneLock t lane s = sendTile t (helloBlock (setTileState t 1 (laneLocked t lane s)) t)
      (setTileState t 1 (laneLocked t lane s)) := by
  rw [laneLock, if_pos on]
  refine tileLink_links (s := laneLocked t lane s) ?_ ?_ ?_ up
  · rw [tileState, laneLocked, reg_setReg_sub (by decide) (by decide) (by decide)]
    exact down
  · rw [laneLocked, reg_setReg_same]
    exact setBit_ne_zero _ _
  · rw [laneLocked, reg_setReg_sub (by decide) (by decide) (by decide), enabled]

/-- PD31 switches off once every port is disabled, and no lane holds its lock (R754). -/
theorem tileSerdesOff_off {s : State} (disabled : ∀ t, t < nTiles s → s.reg (0x4880 + t) 9 = 0) :
    tileSerdesOff s = domainOff 31 (s.each (List.range (nTiles s)) fun t s => s.setReg (0x4880 + t) 2 0) := by
  rw [tileSerdesOff, if_pos]
  simpa using disabled

theorem domainState_domainOff {d : Nat} {s : State} (works : domainState s d ≠ 3) : domainState (domainOff d s) d = 0 := by
  rw [domainOff, if_neg works]
  exact reg_setReg_same ..

/-! ### The statement -/

/-- Settles O41: a HELLO, a lock and a violation each write their own port, and what follows, a block sent, a state or an
event, leaves what they wrote. -/
theorem tilePortCommands : Obligations.TilePortCommands := by
  unfold Obligations.TilePortCommands
  refine ⟨?hello, ?send, ?gain, ?loss, ?timeout, ?violation, ?released, ?off⟩
  case hello =>
    intro s t b c here linking first good proto
    have ht := Nat.lt_of_lt_of_le here (nTiles_le s)
    refine ⟨_, exec_tilePortHello t c s ht here, ?_⟩
    rw [onDev_reg (by decide), onDev_reg (by decide), tileState_onDev (by decide),
      helloReceive_linking linking first good proto, tileState_helloPlaced ht,
      reg_helloPlaced (by decide) (by omega) (by omega) (by omega),
      reg_helloPlaced (by decide) (by omega) (by omega) (by omega)]
    have logs (told : classify s t (bits b 39 24) (bits b 19 8) = 3 ∨ classify s t (bits b 39 24) (bits b 19 8) = 4)
        (room : canLog s) : eventLogged 552 s (onDev [.od, .tiles, .events, .eventBuffer, .eventMessages]
          (helloReceive t c) s) := by
      refine eventLogged_onDev (by decide) (by decide) ?_
      rw [helloReceive_linking linking first good proto]
      exact eventLogged_helloPlaced told (reg_helloNoted (by decide) (by omega) b s)
        (reg_helloNoted (by decide) (by omega) b s) rfl ht room
    refine ⟨?_, ?_, fun foreign => ?_, fun wall own => ?_, fun wall other paired => ?_, fun wall other single => ?_⟩
    · rw [helloNoted, reg_setReg_sub (by decide) (by decide) (by decide), reg_setReg_same]
    · rw [helloNoted, reg_setReg_same]
    · have placed := classify_foreign (t := t) (id := bits b 19 8) foreign
      exact ⟨placed, logs (.inl placed)⟩
    · have placed := classify_conflict (t := t) wall own
      refine ⟨placed, counted_onDev (by decide) ?_, logs (.inr placed)⟩
      rw [helloReceive_linking linking first good proto, placed, counted, counted_helloPlaced,
        reg_helloNoted (by decide) (by omega)]
    · rw [classify_other wall other, paired]
      rfl
    · rw [classify_other wall other, single]
      rfl
  case send =>
    intro s t here up
    refine ⟨_, exec_helloSend t s (Nat.lt_of_lt_of_le here (nTiles_le s)) here, ?_, partsOf_same (p := .od) (by decide) ..⟩
    rw [tile_onDev (by decide), helloSend_up up, head_sendTile]
  case gain =>
    intro s t lane here hl on down enabled up
    have ht := Nat.lt_of_lt_of_le here (nTiles_le s)
    have wall (y : Nat) (hy : y < 256) :
        (setTileState t 1 (laneLocked t lane s)).reg 0x4830 y = s.reg 0x4830 y := by
      rw [reg_setTileState hy (by omega), laneLocked, reg_setReg_index (by decide) hy (by omega)]
    refine ⟨_, exec_tilePortLockGain t lane s ht hl here, ?_⟩
    rw [onDev_reg (by decide), tileState_onDev (by decide), tile_onDev (by decide),
      laneLock_links on down enabled up, head_sendTile, reg_sendTile]
    refine ⟨?_, tileState_setTileState .., ?_⟩
    · rw [reg_setTileState (by decide) (by omega), laneLocked, reg_setReg_same]
    · rw [helloBlock_congr t (wall 1 (by decide)) (wall 2 (by decide))]
  case loss =>
    intro s t lane here hl
    refine ⟨_, exec_tilePortLockLoss t lane s (Nat.lt_of_lt_of_le here (nTiles_le s)) hl here, ?_⟩
    rw [onDev_reg (by decide), tileState_onDev (by decide), laneUnlock, reg_setReg_same]
    exact ⟨rfl, reg_setReg_sub (by decide) (by decide) (by decide) ..⟩
  case timeout =>
    intro s t here unlocked
    refine ⟨_, exec_tilePortLockTimeout t s (Nat.lt_of_lt_of_le here (nTiles_le s)) here, ?_⟩
    rw [tileState_onDev (by decide), tileTimeout, if_pos unlocked, tileState_setTileState]
  case violation =>
    intro s t here
    have ht := Nat.lt_of_lt_of_le here (nTiles_le s)
    refine ⟨_, exec_tilePortViolation t s ht here, counted_onDev (by decide) (counted_tileViolation ht s), fun few => ?_,
      fun many up => ?_⟩
    · rw [tileState_onDev (by decide), tile_onDev (by decide), tileViolation_few few, takenDown_violationNoted]
      exact ⟨reg_violationNoted (by decide) (by omega) s, rfl⟩
    · obtain ⟨down, taken, logs⟩ := tileViolation_takesDown ht many up
      rw [tileState_onDev (by decide), tile_onDev (by decide)]
      exact ⟨down, taken, fun room => eventLogged_onDev (by decide) (by decide) (logs room)⟩
  case released =>
    intro s t here taken down
    refine ⟨_, exec_tilePortTakeDownEnd t s (Nat.lt_of_lt_of_le here (nTiles_le s)) here, ?_⟩
    rw [tileState_onDev (by decide), tile_onDev (by decide), tileTakeDownEnd_taken taken]
    have free := takenDown_portReleased t s
    by_cases links : s.reg (0x4880 + t) 2 ≠ 0 ∧ s.reg (0x4880 + t) 9 = 1
    · rw [tileLink_links (s := portReleased t s) down links.1 links.2 free, takenDown_sendTile, takenDown_setTileState,
        if_pos links]
      exact ⟨free, tileState_setTileState ..⟩
    · rw [tileLink_kept (s := portReleased t s) links, if_neg links]
      exact ⟨free, down⟩
  case off =>
    intro s disabled works
    refine ⟨_, exec_tileSerdesDomainOff s, ?_⟩
    have domain : domainState (s.each (List.range (nTiles s)) fun t s => s.setReg (0x4880 + t) 2 0) 31 =
        domainState s 31 :=
      each_keeps (domainState · 31) _ (fun t u => reg_setReg_sub (by decide) (by decide) (by decide) ..) _ s
    refine ⟨?_, fun t here => ?_⟩
    · refine (onDev_reg (by decide) ..).trans ?_
      rw [tileSerdesOff_off disabled]
      exact domainState_domainOff (domain ▸ works)
    · have ht := Nat.lt_of_lt_of_le here (nTiles_le s)
      rw [onDev_reg (by decide), tileSerdesOff_off disabled, reg_domainOff (by decide) (by omega) (by decide)]
      refine each_reaches (P := fun t u => u.reg (0x4880 + t) 2 = 0) (fun x u => reg_setReg_same ..)
        (fun x y u h => ?_) _ s t (List.mem_range.mpr here)
      rw [reg_setReg_at (by decide) (by decide)]
      split
      · rfl
      · exact h

end Sys2Proof.Machine
end

section
/-!
PROOF. Blocks between neighbours: markers, the delay and phase they give, and safety broadcasts (R548 to R563).
-/
namespace Sys2Proof.Machine

/-! ### MARKER (R554 to R556) -/

/-- What an intact MARKER records of the neighbour. -/
def markerNoted (t b stamp : Nat) (s : State) : State :=
  modTile t (fun x => { x with a4 := some (tileStamp stamp, bits b 39 8), followed := false,
                               setting := some (bits b 42 40, bit b 43, bits b 45 44) }) s

theorem markerReceive_intact {s : State} {t b c : Nat} (stamp : Nat) (joined : tileJoined s t = true)
    (good : tileGood s t b 0x87 47 46 = true) (first : firstIntact (fun x => tileGood s t x 0x87 47 46) c = b) :
    markerReceive t c stamp s = if strangeFrame s (bits b 39 8) (tileStamp stamp)
      then logEvent 556 2 (0x4880 + t) 0 (bits b 39 8) (markerNoted t b stamp s) else markerNoted t b stamp s := by
  unfold markerReceive
  rw [first, joined, if_neg (by decide), good, if_neg (by decide)]
  rfl

/-! ### MARKER_FOLLOW (R551, R554) -/

/-- With both MARKERs of a frame and lane 0, SEND_OFFSET and TURN go out. -/
theorem followSend_measured {s : State} {t a1 a4 f : Nat} (joined : tileJoined s t = true)
    (own : (s.tile t).a1 = some (a1, f)) (theirs : (s.tile t).a4 = some (a4, f))
    (lane : hasBit (s.reg (0x4880 + t) 2) 0 = true) (range : ((a1 : Int) - a4).natAbs < 2 ^ 23) :
    followSend t s = sendTile t (followBlock s ((a1 - s.dev.timing.calendsAt) % 2 ^ 16)
      (ofSigned 24 ((a1 : Int) - a4))) s := by
  unfold followSend
  simp only [own, theirs, joined, Bool.not_true, bne_self_eq_false, Bool.or_self, if_neg Bool.false_ne_true]
  rw [if_pos ⟨lane, range⟩]

/-- The delay `d` and the phase `phi` of port `t` stand in their objects. -/
def followMeasured (t : Nat) (d phi : Int) (s : State) : State :=
  let s := modTile t (fun x => { x with followed := true }) s
  let s := s.setReg (0x4880 + t) 5 (clamp 0 0xFFFFFFFF d).toNat
  let s := s.setReg (0x4880 + t) 6 (ofSigned 32 (saturate 32 phi))
  let s := s.iff (isPairing s t && pairingRole s == 2) (·.setReg 0x3840 2 (ofSigned 32 (saturate 32 phi)))
  modTile t (fun x => { x with goodNow := decide (phi.natAbs ≤ 1000000) }) s

theorem followReceive_measured {s : State} {t b c a1 a4 : Nat} (joined : tileJoined s t = true)
    (good : tileGood s t b 0x96 0 1 = true) (first : firstIntact (fun x => tileGood s t x 0x96 0 1) c = b)
    (own : (s.tile t).a1 = some (a1, frameNo s)) (theirs : (s.tile t).a4 = some (a4, frameNo s))
    (fresh : (s.tile t).followed = false) (turn : bits b 47 24 ≠ 0x800000)
    (lane : hasBit (s.reg (0x4880 + t) 2) 0 = true) :
    followReceive t c s = followMeasured t (((a4 : Int) - a1 - toSigned 24 (bits b 47 24)).tdiv 2)
      ((a4 : Int) - ((a4 : Int) - a1 - toSigned 24 (bits b 47 24)).tdiv 2 - bits b 23 8 - s.dev.timing.calendsAt) s := by
  unfold followReceive
  rw [first, joined, if_neg (by decide), good, if_neg (by decide)]
  simp only [own, theirs, fresh, if_neg Bool.false_ne_true]
  rw [if_neg]
  · rfl
  · rintro (other | other | unmeasured | unlocked)
    · exact other rfl
    · exact other rfl
    · exact turn unmeasured
    · exact Bool.false_ne_true (unlocked.symm.trans lane)

theorem reg_followMeasured (t : Nat) (d phi : Int) (s : State) {x y : Nat} (hy : y < 256) (hx : x ≠ 0x3840) :
    (followMeasured t d phi s).reg x y = (((s.setReg (0x4880 + t) 5 (clamp 0 0xFFFFFFFF d).toNat).setReg
      (0x4880 + t) 6 (ofSigned 32 (saturate 32 phi)))).reg x y := by
  unfold followMeasured
  dsimp only
  rw [modTile_reg, iff_keeps (·.reg x y) _ _ _ (reg_setReg_index (by decide) hy hx.symm ..)]
  rfl

/-- A delay that fits its object is held whole. -/
theorem clamp_delay {d : Int} (low : 0 ≤ d) (high : d < 2 ^ 32) : ((clamp 0 0xFFFFFFFF d).toNat : Int) = d := by
  unfold clamp
  omega

/-- A value that fits a signed 32-bit object is read back. -/
theorem toSigned_ofSigned_saturate {i : Int} (low : -2 ^ 31 ≤ i) (high : i < 2 ^ 31) :
    toSigned 32 (ofSigned 32 (saturate 32 i)) = i := by
  have inside : saturate 32 i = i := by
    unfold saturate
    omega
  rw [inside]
  unfold toSigned ofSigned
  split <;> omega

/-! ### EVE (R557, R559) -/

/-- What an intact EVE records of the neighbour. -/
def eveNoted (t b : Nat) (s : State) : State :=
  modTile t (fun x => { x with nextFrame := some (bits b 39 8), holdReady := hasBit b 40, eveAt := s.now }) s

theorem tile_settleHold (t : Nat) (s : State) : (settleHold s).tile t = s.tile t := rfl

theorem tile_eveReceive {s : State} {t b c : Nat} (joined : tileJoined s t = true)
    (good : tileGood s t b 0xA5 47 41 = true) (first : firstIntact (fun x => tileGood s t x 0xA5 47 41) c = b) :
    (eveReceive t c s).tile t = (eveNoted t b s).tile t := by
  unfold eveReceive
  rw [first, joined, if_neg (by decide), good, if_neg (by decide)]
  dsimp only
  split
  · exact tile_settleHold ..
  · rfl

/-! ### Broadcasts that go out (R560, R561) -/

theorem safetyBlock_congr {s u : State} (id : wallId u = wallId s) (image origin target : Nat) :
    safetyBlock u image origin target = safetyBlock s image origin target := by
  rw [safetyBlock, safetyBlock, id]

/-- The round of `safetySend` for one port. -/
def safetyRound (image origin target except t : Nat) (s : State) : State :=
  if tileJoined s t && t != except then sendTile t (safetyBlock s image origin target) s else s

theorem reg_safetyRound (image origin target except t : Nat) (s : State) (x y : Nat) :
    (safetyRound image origin target except t s).reg x y = s.reg x y := by
  unfold safetyRound
  split <;> rfl

theorem safety_safetyRound (image origin target except t : Nat) (s : State) :
    (safetyRound image origin target except t s).dev.safety = s.dev.safety := by
  unfold safetyRound
  split <;> rfl

theorem tile_safetyRound_except (image origin target except t : Nat) (s : State) :
    (safetyRound image origin target except t s).tile except = s.tile except := by
  unfold safetyRound
  split
  · next sends =>
    simp only [Bool.and_eq_true, bne_iff_ne] at sends
    exact tile_sendTile_other sends.2 ..
  · rfl

theorem tile_safetyRound_other {t x : Nat} (other : t ≠ x) (image origin target except : Nat) (s : State) :
    (safetyRound image origin target except t s).tile x = s.tile x := by
  unfold safetyRound
  split
  · exact tile_sendTile_other other ..
  · rfl

theorem reg_safetySend (image origin target except : Nat) (s : State) (x y : Nat) :
    (safetySend image origin target except s).reg x y = s.reg x y :=
  each_keeps (·.reg x y) _ (fun _ _ => reg_safetyRound ..) _ s

theorem safety_safetySend (image origin target except : Nat) (s : State) :
    (safetySend image origin target except s).dev.safety = s.dev.safety :=
  each_keeps (·.dev.safety) _ (fun _ _ => safety_safetyRound ..) _ s

theorem tile_safetySend_except (image origin target except : Nat) (s : State) :
    (safetySend image origin target except s).tile except = s.tile except :=
  each_keeps (·.tile except) _ (fun _ _ => tile_safetyRound_except ..) _ s

/-- Every joined port but one has sent the block last. -/
theorem safetySend_sends {s : State} {p except : Nat} (image origin target : Nat) (here : p < nTiles s)
    (joined : tileJoined s p = true) (sends : p ≠ except) :
    ((safetySend image origin target except s).tile p).sent.head? = some (safetyBlock s image origin target) := by
  have brings (q : Nat) (u : State) (same : ∀ x y, u.reg x y = s.reg x y) (joined : tileJoined s q = true)
      (other : q ≠ except) : ((safetyRound image origin target except q u).tile q).sent.head? =
        some (safetyBlock s image origin target) := by
    have here : tileJoined u q = true := by rwa [tileJoined, tileState, same]
    rw [safetyRound, if_pos (by simp [here, other]), head_sendTile, safetyBlock_congr (same 0x4830 1)]
  refine each_reaches (f := safetyRound image origin target except) (P := fun q u =>
      (∀ x y, u.reg x y = s.reg x y) → tileJoined s q = true → q ≠ except →
        (u.tile q).sent.head? = some (safetyBlock s image origin target)) ?_ ?_ (List.range (nTiles s)) s p
    (List.mem_range.mpr here) (reg_safetySend image origin target except s) joined sends
  · intro q u same
    exact brings q u fun x y => (reg_safetyRound ..).symm.trans (same x y)
  · intro q r u kept same joined other
    have before (x y : Nat) : u.reg x y = s.reg x y := (reg_safetyRound ..).symm.trans (same x y)
    by_cases this : r = q
    · exact this ▸ brings r u before (this ▸ joined) (this ▸ other)
    · rw [tile_safetyRound_other this]
      exact kept before joined other

/-! ### Origins (R560 to R563) -/

/-- Cancelling a release is all that a safety input does to the inputs. -/
theorem cancelRelease_eq (s : State) : ∃ r, cancelRelease s = modSafety (fun y => { y with release := r }) s := by
  unfold cancelRelease
  split
  · next none' => exact ⟨none, by rw [← none']; rfl⟩
  · split
    · exact ⟨none, rfl⟩
    · next kept _ => exact ⟨s.dev.safety.release, rfl⟩

/-- A dropped origin is no longer active. -/
theorem dropOrigin_dropped (id : Nat) (s : State) : ∀ o ∈ (dropOrigin id s).dev.safety.origins, o.id ≠ id := by
  intro o active
  unfold dropOrigin at active
  dsimp only at active
  split at active
  · have kept := (List.mem_filter.mp active).2
    simpa using kept
  · next none' =>
    intro own
    exact none' (List.any_eq_true.mpr ⟨o, active, by simp [own]⟩)

theorem reg_dropOrigin (id : Nat) (s : State) (x y : Nat) : (dropOrigin id s).reg x y = s.reg x y := by
  unfold dropOrigin
  dsimp only
  split <;> rfl

/-- The origin that a SAFETY of block `b` names, where it is active. -/
def originNamed (s : State) (b : Nat) : Option OriginState := s.dev.safety.origins.find? fun o => o.id == bits b 23 12

/-- A SAFETY comes after the eve before its target. -/
def safetyLate (s : State) (b : Nat) : Bool :=
  let target := safetyTarget s (bits b 39 24)
  decide (target ≤ s.dev.timing.count) || (decide (target ≤ nextCount s) && s.dev.timing.eveDone)

/-- A SAFETY of a new origin is counted when it is late, and cancels a release. -/
def safetyHeard (b : Nat) (s : State) : State :=
  let u := s.iff ((originNamed s b).isNone && safetyLate s b) (·.bump 0x4840 4)
  if (originNamed s b).isNone then cancelRelease u else u

/-- What a SAFETY makes of its origin: an echo of the own broadcast leaves image and target (R560, R562). -/
def originHeard (s : State) (b : Nat) : OriginState :=
  match if originates s && bits b 23 12 == wallId s then originNamed s b else none with
  | some o => { o with forwarded := s.dev.timing.count }
  | none => { id := bits b 23 12, image := bits b 9 8, target := safetyTarget s (bits b 39 24),
              forwarded := s.dev.timing.count }

theorem safetyHeard_cases (b : Nat) (s : State) : ∃ r, safetyHeard b s = modSafety (fun y => { y with release := r })
    (s.iff ((originNamed s b).isNone && safetyLate s b) (·.bump 0x4840 4)) := by
  unfold safetyHeard
  dsimp only
  split
  · exact cancelRelease_eq _
  · exact ⟨_, rfl⟩

theorem reg_safetyHeard {x y : Nat} (hy : y < 256) (other : x = 0x4840 → y ≠ 4) (b : Nat) (s : State) :
    (safetyHeard b s).reg x y = s.reg x y := by
  obtain ⟨r, e⟩ := safetyHeard_cases b s
  rw [e]
  exact iff_keeps (·.reg x y) _ _ s (by rw [reg_bump_at (by decide) hy, if_neg fun e => other e.1.symm e.2.symm])

theorem tile_safetyHeard (b t : Nat) (s : State) : (safetyHeard b s).tile t = s.tile t := by
  obtain ⟨r, e⟩ := safetyHeard_cases b s
  rw [e]
  exact iff_keeps (·.tile t) _ _ s rfl

theorem originating_safetyHeard (b : Nat) (s : State) :
    (safetyHeard b s).dev.safety.originating = s.dev.safety.originating := by
  obtain ⟨r, e⟩ := safetyHeard_cases b s
  rw [e]
  exact iff_keeps (·.dev.safety.originating) _ _ s rfl

theorem fuses_safetyHeard (b : Nat) (s : State) : (safetyHeard b s).fuses = s.fuses := by
  obtain ⟨r, e⟩ := safetyHeard_cases b s
  rw [e]
  exact iff_keeps (·.fuses) _ _ s rfl

theorem wallId_safetyHeard (b : Nat) (s : State) : wallId (safetyHeard b s) = wallId s :=
  reg_safetyHeard (by decide) (by decide) b s

theorem originates_safetyHeard (b : Nat) (s : State) : originates (safetyHeard b s) = originates s := by
  rw [originates, originating_safetyHeard, reg_safetyHeard (by decide) (by decide),
    reg_safetyHeard (by decide) (by decide)]
  rfl

/-- The origin of an intact SAFETY is active, and the broadcast has still to be forwarded. -/
def safetyTaken (b : Nat) (s : State) : State := putOrigin (originHeard s b) (safetyHeard b s)

/-- An intact SAFETY: its origin is active, and unless it was forwarded in this frame it goes out on the other ports. -/
theorem safetyReceive_intact {s : State} {t b c : Nat} (joined : tileJoined s t = true) (good : safetyGood s t b = true)
    (first : firstIntact (safetyGood s t) c = b) : safetyReceive t c s =
      if (originNamed s b).any (·.forwarded == s.dev.timing.count) then safetyTaken b s
      else (safetySend (bits b 9 8) (bits b 23 12) (bits b 39 24) t (safetyTaken b s)).bump 0x4840 3 := by
  have taken : safetyTaken b s = match (if originates (safetyHeard b s) && bits b 23 12 == wallId (safetyHeard b s)
      then originNamed s b else none) with
      | some o => putOrigin { o with forwarded := s.dev.timing.count } (safetyHeard b s)
      | none => putOrigin { id := bits b 23 12, image := bits b 9 8, target := safetyTarget s (bits b 39 24),
                            forwarded := s.dev.timing.count } (safetyHeard b s) := by
    rw [safetyTaken, originHeard, originates_safetyHeard, wallId_safetyHeard]
    split <;> rfl
  have again : (originNamed s b).any (·.forwarded == s.dev.timing.count) = match originNamed s b with
      | some o => o.forwarded == s.dev.timing.count
      | none => false := by cases originNamed s b <;> rfl
  unfold safetyReceive
  rw [first, joined, if_neg (by decide), good, if_neg (by decide), taken, again]
  rfl

theorem reg_safetyTaken {x y : Nat} (hy : y < 256) (other : x = 0x4840 → y ≠ 4) (b : Nat) (s : State) :
    (safetyTaken b s).reg x y = s.reg x y := reg_safetyHeard hy other b s

theorem originHeard_other {s : State} {b : Nat} (other : originates s = true → bits b 23 12 ≠ wallId s) :
    originHeard s b = { id := bits b 23 12, image := bits b 9 8, target := safetyTarget s (bits b 39 24),
                        forwarded := s.dev.timing.count } := by
  rw [originHeard, if_neg]
  simpa using other

theorem originHeard_echo {s : State} {b : Nat} {o : OriginState} (sends : originates s = true)
    (own : bits b 23 12 = wallId s) (active : (s.dev.safety.origins.find? fun o => o.id == wallId s) = some o) :
    originHeard s b = { o with forwarded := s.dev.timing.count } := by
  have named : originNamed s b = some o := by rw [originNamed, own, active]
  rw [originHeard, if_pos (by simp [sends, own]), named]

theorem mem_putOrigin (o : OriginState) (s : State) : o ∈ (putOrigin o s).dev.safety.origins := List.mem_cons_self

/-- A new origin's broadcast that is late is counted (R562). -/
theorem counted_safetyTaken {s : State} {b : Nat} (fresh : originNamed s b = none)
    (late : safetyTarget s (bits b 39 24) ≤ s.dev.timing.count) : counted s (safetyTaken b s) 0x4840 4 := by
  obtain ⟨r, e⟩ := safetyHeard_cases b s
  have counts : safetyHeard b s = modSafety (fun y => { y with release := r }) (s.bump 0x4840 4) := by
    rw [e, fresh]
    simp [safetyLate, late, State.iff]
  show (safetyHeard b s).reg 0x4840 4 = _
  rw [counts]
  exact reg_setReg_same ..

/-! ### The own broadcast (R560) -/

theorem sendOwn_active {s : State} {o : OriginState}
    (active : (s.dev.safety.origins.find? fun o => o.id == wallId s) = some o) :
    sendOwn s = safetySend (safetyImage s) (wallId s) o.target (nTiles s) s := by
  unfold sendOwn
  rw [active]

theorem safety_sendOwn (s : State) : (sendOwn s).dev.safety = s.dev.safety := by
  unfold sendOwn
  split
  · rfl
  · exact safety_safetySend ..

theorem reg_sendOwn (s : State) (x y : Nat) : (sendOwn s).reg x y = s.reg x y := by
  unfold sendOwn
  split
  · rfl
  · exact reg_safetySend ..

/-- The own origin as a start of the broadcast leaves it. -/
def ownOrigin (s : State) : OriginState :=
  { id := wallId s
    image := if s.reg 0x4840 2 = 0 then s.reg 0x3190 1 % 4 else (s.reg 0x4840 2 - 1) % 4
    target := match s.dev.safety.origins.find? fun o => o.id == wallId s with
      | some o => o.target
      | none => earliest s
    forwarded := s.dev.timing.count }

/-- The own origin is active, and its broadcast has still to go out. -/
def ownStarted (s : State) : State := putOrigin (ownOrigin s) (cancelRelease s)

theorem startOwn_eq (s : State) : startOwn s = sendOwn (ownStarted s) := rfl

theorem reg_ownStarted (s : State) (x y : Nat) : (ownStarted s).reg x y = s.reg x y := by
  obtain ⟨r, e⟩ := cancelRelease_eq s
  rw [ownStarted, e]
  rfl

theorem nTiles_ownStarted (s : State) : nTiles (ownStarted s) = nTiles s := by
  obtain ⟨r, e⟩ := cancelRelease_eq s
  rw [ownStarted, e]
  rfl

theorem ownStarted_active (s : State) :
    ((ownStarted s).dev.safety.origins.find? fun o => o.id == wallId (ownStarted s)) = some (ownOrigin s) := by
  have id : wallId (ownStarted s) = (ownOrigin s).id := reg_ownStarted ..
  rw [id]
  exact List.find?_cons_of_pos (by simp)

theorem originCommand_starts {v : Nat} {s : State} (low : 1 ≤ v) (high : v ≤ 4) :
    (originCommand v s).2 = sendOwn (ownStarted (s.setReg 0x4840 2 v)) := by
  rw [originCommand, if_neg (by omega), if_neg (by omega), startOwn_eq]

/-- Command 0 ends a broadcast that SAFE_SHOW_N does not ask for. -/
theorem originCommand_ends {s : State} (off : originates (s.setReg 0x4840 2 0) = false) :
    (originCommand 0 s).2 = dropOrigin (wallId s) (s.setReg 0x4840 2 0) := by
  rw [originCommand, if_neg (by decide), if_pos rfl, endOwn, off, if_neg Bool.false_ne_true, wallId, wallId,
    reg_setReg_index (by decide) (by decide) (by decide)]

/-- The image shown follows the origins and, without one, its object. -/
theorem safetyImage_congr {s u : State} (safety : u.dev.safety = s.dev.safety) (object : u.reg 0x3190 1 = s.reg 0x3190 1) :
    safetyImage u = safetyImage s := by
  rw [safetyImage, safetyImage, shownOrigin, shownOrigin, safety, object]

/-! ### The statement -/

/-- Settles O42: an intact block writes its own port's record, from which delay and phase are read; a broadcast goes out
round by round, and no round changes what another reads. -/
theorem wallBlockCommands : Obligations.WallBlockCommands := by
  unfold Obligations.WallBlockCommands
  refine ⟨?marker, ?followSend, ?followReceive, ?eve, ?safety, ?echo, ?again, ?start, ?stop, ?expiry⟩
  case marker =>
    intro s t b c stamp here joined good first
    refine ⟨_, exec_markerReceive t c stamp s (Nat.lt_of_lt_of_le here (nTiles_le s)) here, ?_⟩
    have noted : (markerReceive t c stamp s).tile t = (markerNoted t b stamp s).tile t := by
      rw [markerReceive_intact stamp joined good first]
      split
      · rw [tile_logEvent]
      · rfl
    rw [tile_onDev (by decide), noted, markerNoted, tile_modTile_same]
    refine ⟨rfl, rfl, fun strange room => eventLogged_onDev (by decide) (by decide) ?_⟩
    have strange : strangeFrame s (bits b 39 8) (tileStamp stamp) = true := strange
    rw [markerReceive_intact stamp joined good first, if_pos strange]
    exact eventLogged_after (u := markerNoted t b stamp s) rfl rfl rfl room ..
  case followSend =>
    intro s t a1 a4 f here joined own theirs lane range
    refine ⟨_, exec_markerFollowSend t s (Nat.lt_of_lt_of_le here (nTiles_le s)) here, ?_⟩
    rw [tile_onDev (by decide), followSend_measured joined own theirs lane range, head_sendTile]
  case followReceive =>
    intro s t b c a1 a4 d phi here joined good first own theirs fresh turn lane twice phase dLow dHigh pLow pHigh
    have half : ((a4 : Int) - a1 - toSigned 24 (bits b 47 24)).tdiv 2 = d := by
      rw [← twice]
      exact Int.mul_tdiv_cancel_left d (by decide)
    have away : (a4 : Int) - d - bits b 23 8 - s.dev.timing.calendsAt = phi := by omega
    refine ⟨_, exec_markerFollowReceive t c s (Nat.lt_of_lt_of_le here (nTiles_le s)) here, ?_⟩
    rw [onDev_reg (by decide), onDev_reg (by decide), followReceive_measured joined good first own theirs fresh turn lane,
      half, away, reg_followMeasured _ _ _ _ (by decide) (by omega), reg_followMeasured _ _ _ _ (by decide) (by omega),
      reg_setReg_sub (by decide) (by decide) (by decide), reg_setReg_same, reg_setReg_same]
    exact ⟨clamp_delay dLow dHigh, toSigned_ofSigned_saturate pLow pHigh⟩
  case eve =>
    intro s t b c here joined good first
    refine ⟨_, exec_eveBlockReceive t c s (Nat.lt_of_lt_of_le here (nTiles_le s)) here, ?_⟩
    rw [tile_onDev (by decide), tile_eveReceive joined good first, eveNoted, tile_modTile_same]
    exact ⟨rfl, rfl, rfl⟩
  case safety =>
    intro s t b c here joined good first other fresh
    have new : ¬(originNamed s b).any (·.forwarded == s.dev.timing.count) = true := by
      rw [Option.any_eq_true]
      rintro ⟨o, named, again⟩
      exact fresh o named (eq_of_beq again)
    have id : wallId (safetyTaken b s) = wallId s := reg_safetyTaken (by decide) (by decide) b s
    have tiles : nTiles (safetyTaken b s) = nTiles s := by
      rw [nTiles, isSmall, show (safetyTaken b s).fuses = s.fuses from fuses_safetyHeard b s]
      rfl
    refine ⟨_, exec_safetyReceive t c s (Nat.lt_of_lt_of_le here (nTiles_le s)) here, ?_⟩
    rw [onDev_dev, partsOf_safety (by decide), tile_onDev (by decide), counted, onDev_reg (by decide), counted,
      onDev_reg (by decide), safetyReceive_intact joined good first, if_neg new]
    refine ⟨?_, ?_, fun p hp other' joined' => ?_, ?_, fun none' late => ?_⟩
    · rw [bump_dev]
      show _ ∈ (safetySend _ _ _ _ _).dev.safety.origins
      rw [safety_safetySend, ← originHeard_other other]
      exact mem_putOrigin ..
    · rw [reg_bump, if_pos rfl, reg_safetySend, reg_safetyTaken (by decide) (by decide)]
    · have joined'' : tileJoined (safetyTaken b s) p = true := by
        rwa [tileJoined, tileState, reg_safetyTaken (by decide) (by omega)]
      rw [tile_onDev (by decide), safetyReceive_intact joined good first, if_neg new, tile_bump,
        safetySend_sends _ _ _ (tiles ▸ hp) joined'' other', safetyBlock_congr id]
    · rw [tile_bump, tile_safetySend_except]
      exact congrArg TilePort.sent (tile_safetyHeard b t s)
    · rw [reg_bump_at (by decide) (by decide), if_neg (by decide), reg_safetySend]
      exact counted_safetyTaken none' late
  case echo =>
    intro s t b c o here joined good first sends own active
    refine ⟨_, exec_safetyReceive t c s (Nat.lt_of_lt_of_le here (nTiles_le s)) here, ?_⟩
    have taken : (safetyReceive t c s).dev.safety = (safetyTaken b s).dev.safety := by
      rw [safetyReceive_intact joined good first]
      split
      · rfl
      · rw [bump_dev]
        exact safety_safetySend ..
    rw [onDev_dev, partsOf_safety (by decide), taken, ← originHeard_echo sends own active]
    exact mem_putOrigin ..
  case again =>
    intro s o sends active
    refine ⟨_, exec_safetyRepeat s, partsOf_same (p := .safety) (by decide) .., fun p hp joined => ?_⟩
    rw [tile_onDev (by decide), if_pos sends, sendOwn_active active,
      safetySend_sends _ _ _ hp joined (Nat.ne_of_lt hp)]
  case start =>
    intro s v low high
    have started := originCommand_starts (s := s) low high
    have same (x y : Nat) : (onDev [.od, .tiles, .safety] (fun t => (originCommand v t).2) s).reg x y =
        (ownStarted (s.setReg 0x4840 2 v)).reg x y := by rw [onDev_reg (by decide), started, reg_sendOwn]
    have safety : (onDev [.od, .tiles, .safety] (fun t => (originCommand v t).2) s).dev.safety =
        (ownStarted (s.setReg 0x4840 2 v)).dev.safety := by
      rw [onDev_dev, partsOf_safety (by decide), started, safety_sendOwn]
    have value : (ownStarted (s.setReg 0x4840 2 v)).reg 0x4840 2 = v := by rw [reg_ownStarted, reg_setReg_same]
    have object (x y : Nat) (hy : y < 256) (hx : x ≠ 0x4840) :
        (ownStarted (s.setReg 0x4840 2 v)).reg x y = s.reg x y := by
      rw [reg_ownStarted, reg_setReg_index (by decide) hy hx.symm]
    refine ⟨_, exec_safetyOriginCommand v s (by omega), ?_, ownOrigin (s.setReg 0x4840 2 v), ?_, ?_, ?_,
      fun p hp joined => ?_⟩
    · rw [same, value]
    · rw [safety]
      exact mem_putOrigin ..
    · exact reg_setReg_index (by decide) (by decide) (by decide) ..
    · rw [ownOrigin, reg_setReg_same]
      dsimp only
      rw [if_neg (by omega)]
      omega
    · have joined' : tileJoined (ownStarted (s.setReg 0x4840 2 v)) p = true := by
        rwa [tileJoined, tileState, object _ _ (by decide) (by omega)]
      have hp' : p < nTiles (ownStarted (s.setReg 0x4840 2 v)) := (nTiles_ownStarted _).symm ▸ hp
      rw [tile_onDev (by decide), started, sendOwn_active (ownStarted_active _),
        safetySend_sends _ _ _ hp' joined' (Nat.ne_of_lt hp'), safetyBlock_congr (same 0x4830 1),
        safetyImage_congr safety (same 0x3190 1), wallId, wallId, same]
  case stop =>
    intro s ends
    have off : originates (s.setReg 0x4840 2 0) = false := by
      rw [originates, reg_setReg_same, reg_setReg_sub (by decide) (by decide) (by decide)]
      obtain pin | object := ends
      · simp [pin]
      · simp [object]
    have ended := originCommand_ends off
    refine ⟨_, exec_safetyOriginCommand 0 s (by decide), ?_, ?_⟩
    · rw [onDev_reg (by decide), ended, reg_dropOrigin, reg_setReg_same]
    · rw [onDev_dev, partsOf_safety (by decide), ended]
      exact dropOrigin_dropped (wallId s) _
  case expiry =>
    intro s id hid own
    refine ⟨_, exec_safetyOriginExpiry id s hid, ?_⟩
    rw [onDev_dev, partsOf_safety (by decide), originExpiry, if_neg (by simpa using own)]
    exact dropOrigin_dropped id s

end Sys2Proof.Machine
end

section
/-!
PROOF. Precision time: violations, offsets, announcements and delays, and the source that takes over (R520 to R527,
R543).
-/
namespace Sys2Proof.Machine

/-! ### Which messages are taken (R520, R521) -/

theorem ptpReceive_lockedOut {s : State} {p : Nat} (m : PtpMsg) (lockout : (s.eth p).lockout = true) :
    ptpReceive p m s = s := by
  rw [ptpReceive, lockout, Bool.true_or, if_pos rfl]

section Taken
variable {s : State} {p : Nat} {m : PtpMsg} (free : (s.eth p).lockout = false) (runs : s.reg 0x6020 3 = 0)
include free runs

theorem ptpReceive_unsupported (bad : unsupported m = true) : ptpReceive p m s = ptpViolation p s := by
  rw [ptpReceive, free, runs, if_neg (by decide), if_pos bad]

theorem ptpReceive_taken {c : Nat} (good : unsupported m = false) (source : sourceOf s p m.domain m.transport = some c) :
    ptpReceive p m s = sourceReceive c p m s := by
  rw [ptpReceive, free, runs, if_neg (by decide), good, if_neg (by decide), source]

end Taken

/-! ### Violations (R521) -/

/-- The violation is counted among those of its port, which saturate. -/
def ptpCounted (p : Nat) (s : State) : State :=
  if (s.reg 0x4802 9 >>> (32 * p)) % 2 ^ 32 = 0xFFFFFFFF then s else s.setReg 0x4802 9 (s.reg 0x4802 9 + 2 ^ (32 * p))

/-- PTP of the port is locked out. -/
def ptpLockedOut (p : Nat) (s : State) : State := modEth p (fun e => { e with violations := [], lockout := true }) s

theorem eth_ptpCounted (p x : Nat) (s : State) : (ptpCounted p s).eth x = s.eth x := by
  unfold ptpCounted
  split <;> rfl

theorem reg_ptpCounted {x y : Nat} (hy : y < 256) (hx : x ≠ 0x4802) (p : Nat) (s : State) :
    (ptpCounted p s).reg x y = s.reg x y := by
  unfold ptpCounted
  split
  · rfl
  · exact reg_setReg_index (by decide) hy hx.symm ..

theorem eventBuffer_ptpCounted (p : Nat) (s : State) : (ptpCounted p s).dev.eventBuffer = s.dev.eventBuffer := by
  unfold ptpCounted
  split <;> rfl

theorem ptpCounted_counts {p : Nat} {s : State} (room : (s.reg 0x4802 9 >>> (32 * p)) % 2 ^ 32 ≠ 0xFFFFFFFF) :
    (ptpCounted p s).reg 0x4802 9 = s.reg 0x4802 9 + 2 ^ (32 * p) := by
  rw [ptpCounted, if_neg room, reg_setReg_same]

theorem ptpViolation_eq (p : Nat) (s : State) : ptpViolation p s =
    if 1000 < ((ptpCounted p s).now :: within1s (ptpCounted p s).now ((ptpCounted p s).eth p).violations).length then
      logEvent 521 6 (0x4812 + p) 0 0 (ptpLockedOut p (ptpCounted p s))
    else modEth p (fun e => { e with violations :=
      (ptpCounted p s).now :: within1s (ptpCounted p s).now ((ptpCounted p s).eth p).violations }) (ptpCounted p s) := rfl

theorem now_ptpCounted (p : Nat) (s : State) : (ptpCounted p s).now = s.now := by
  unfold ptpCounted
  split <;> rfl

theorem reg_ptpViolation_count (p : Nat) (s : State) :
    (ptpViolation p s).reg 0x4802 9 = (ptpCounted p s).reg 0x4802 9 := by
  rw [ptpViolation_eq]
  split
  · exact reg_logEvent_index _ _ _ _ _ _ (by decide) (by decide)
  · rfl

/-- The violation after 1,000 within 1 s locks PTP out. -/
theorem ptpViolation_many {p : Nat} {s : State} (many : 1000 ≤ (within1s s.now (s.eth p).violations).length) :
    ptpViolation p s = logEvent 521 6 (0x4812 + p) 0 0 (ptpLockedOut p (ptpCounted p s)) := by
  rw [ptpViolation_eq, if_pos]
  rw [now_ptpCounted, eth_ptpCounted, List.length_cons]
  omega

theorem lockout_ptpViolation_few {p : Nat} {s : State} (few : (within1s s.now (s.eth p).violations).length < 1000) :
    ((ptpViolation p s).eth p).lockout = (s.eth p).lockout := by
  rw [ptpViolation_eq, if_neg, eth_modEth_same, eth_ptpCounted]
  rw [now_ptpCounted, eth_ptpCounted, List.length_cons]
  omega

/-! ### Offsets (R523, R524, R527) -/

/-- Offsets in a row that jump by more than 1 ms, with `o` the next one. -/
def jumpsWith (x : Source) (o : Int) : Nat :=
  if x.offsets.head?.any fun a => decide (1000000 < (o - a).natAbs) then x.jumps + 1 else 0

/-- What a Sync records of source `c`, whose offset is `o`. -/
def offsetNoted (c : Nat) (sent rx o : Int) (jumps : Nat) (s : State) : State :=
  (modSource c (fun x =>
    { x with offsets := (o :: x.offsets).take 16
             recent := (s.now, o) :: x.recent.filter (fun r => decide (s.now ≤ r.1 + 64000000000000))
             jumps := jumps, t1 := sent, t2 := rx }) s).setReg (0x4800 + c) 7 (ofSigned 32 (saturate 32 o))

/-- The active source disciplines local time. -/
def disciplined (c : Nat) (o : Int) (s : State) : State :=
  if s.reg 0x4802 1 = c ∧ (s.source c).valid then disciplineTo o s else s

/-- What follows an offset: three jumps lose the source, and steady offsets make it valid. -/
def offsetSettled (c : Nat) (o : Int) (jumps : Nat) (s : State) : State :=
  if 3 ≤ jumps then sourceLost c s
  else disciplined c o (keepDelta
    (if !(s.source c).valid && offsetsSteady (s.source c).offsets then sourceGood c s else s))

theorem syncOffset_slave {s : State} {c : Nat} {sent rx o : Int} (slave : 3 ≤ s.reg (0x4800 + c) 6)
    (offset : o = sent + s.reg (0x4800 + c) 8 - rx) : syncOffset c sent rx s =
      offsetSettled c o (jumpsWith (s.source c) o) (offsetNoted c sent rx o (jumpsWith (s.source c) o) s) := by
  have jumps : jumpsWith (s.source c) o = if (match (s.source c).offsets.head? with
      | some a => decide (1000000 < (o - a).natAbs)
      | none => false) then (s.source c).jumps + 1 else 0 := by
    unfold jumpsWith
    cases (s.source c).offsets.head? <;> rfl
  unfold syncOffset
  rw [if_neg (by omega), ← offset, jumps]
  rfl

theorem jumpsWith_near {x : Source} {o : Int} (near : ∀ a, x.offsets.head? = some a → (o - a).natAbs ≤ 1000000) :
    jumpsWith x o = 0 := by
  refine if_neg fun jump => ?_
  obtain ⟨a, last, far⟩ := (Option.any_eq_true _ _).mp jump
  have := near a last
  simp only [decide_eq_true_eq] at far
  omega

theorem source_offsetNoted (c : Nat) (sent rx o : Int) (jumps : Nat) (s : State) :
    ((offsetNoted c sent rx o jumps s).source c).valid = (s.source c).valid ∧
      ((offsetNoted c sent rx o jumps s).source c).offsets.head? = some o := by
  rw [offsetNoted, source_setReg, source_modSource_same]
  exact ⟨rfl, rfl⟩

/-- An offset of a valid source without a jump only disciplines local time. -/
theorem offsetSettled_valid {s : State} {c : Nat} (valid : (s.source c).valid = true) (o : Int) :
    offsetSettled c o 0 s = disciplined c o (keepDelta s) := by
  rw [offsetSettled, if_neg (by decide), valid, Bool.not_true, Bool.false_and, if_neg Bool.false_ne_true]

theorem source_keepDelta (x : Nat) (s : State) : (keepDelta s).source x = s.source x := by
  unfold keepDelta
  split <;> rfl

theorem reg_keepDelta (s : State) (x y : Nat) : (keepDelta s).reg x y = s.reg x y := by
  unfold keepDelta
  split <;> rfl

theorem clock_keepDelta (s : State) : ∃ delta, (keepDelta s).dev.clock = { s.dev.clock with delta := delta } := by
  unfold keepDelta
  split
  · exact ⟨_, rfl⟩
  · exact ⟨s.dev.clock.delta, rfl⟩

theorem now_keepDelta (s : State) : (keepDelta s).now = s.now := by
  unfold keepDelta
  split <;> rfl

theorem source_disciplined (c : Nat) (o : Int) (x : Nat) (s : State) : (disciplined c o s).source x = s.source x := by
  unfold disciplined
  split <;> rfl

theorem reg_disciplined {x y : Nat} (hy : y < 256) (other : y ≠ 3) (c : Nat) (o : Int) (s : State) :
    (disciplined c o s).reg x y = s.reg x y := by
  unfold disciplined
  split
  · exact reg_setReg_sub (by decide) hy other.symm ..
  · rfl

theorem natAbs_clamp_le (limit : Nat) (i : Int) : (clamp (-limit) limit i).natAbs ≤ limit := by
  unfold clamp
  omega

/-- Local time moves by at most 100 us for each second since it was reckoned last (R527). -/
theorem adj_disciplined (c : Nat) (o : Int) (s : State) :
    ((disciplined c o s).dev.clock.adj - s.dev.clock.adj).natAbs ≤ (s.now - s.dev.clock.movedAt) / 10000 := by
  unfold disciplined
  split
  · have moves : ∃ i, (disciplineTo o s).dev.clock.adj = s.dev.clock.adj +
        clamp (-((s.now - s.dev.clock.movedAt) / 10000 : Nat)) ((s.now - s.dev.clock.movedAt) / 10000 : Nat) i := ⟨_, rfl⟩
    obtain ⟨i, e⟩ := moves
    rw [e, add_sub_cancel_left]
    exact natAbs_clamp_le ..
  · simp

/-- What an offset `o` of source `c` brings: it is the newest, its object holds it, and local time moves within R527. -/
structure OffsetTaken (c : Nat) (o : Int) (s u : State) : Prop where
  newest : (u.source c).offsets.head? = some o
  object : u.reg (0x4800 + c) 7 = ofSigned 32 (saturate 32 o)
  moved : (u.dev.clock.adj - s.dev.clock.adj).natAbs ≤ (s.now - s.dev.clock.movedAt) / 10000

theorem syncOffset_taken {s : State} {c : Nat} {sent rx o : Int} (slave : 3 ≤ s.reg (0x4800 + c) 6)
    (valid : (s.source c).valid = true) (offset : o = sent + s.reg (0x4800 + c) 8 - rx)
    (near : ∀ a, (s.source c).offsets.head? = some a → (o - a).natAbs ≤ 1000000) :
    OffsetTaken c o s (syncOffset c sent rx s) := by
  obtain ⟨still, newest⟩ := source_offsetNoted c sent rx o 0 s
  rw [syncOffset_slave slave offset, jumpsWith_near near, offsetSettled_valid (still.trans valid)]
  constructor
  · rw [source_disciplined, source_keepDelta, newest]
  · rw [reg_disciplined (by decide) (by decide), reg_keepDelta, offsetNoted, reg_setReg_same]
  · have moved := adj_disciplined c o (keepDelta (offsetNoted c sent rx o 0 s))
    obtain ⟨delta, clock⟩ := clock_keepDelta (offsetNoted c sent rx o 0 s)
    rw [now_keepDelta, clock] at moved
    exact moved

/-- A one-step Sync gives its offset at once. -/
theorem sourceReceive_sync {m : PtpMsg} (kind : m.kind = .sync) (oneStep : m.twoStep = false) (c p : Nat) (s : State) :
    sourceReceive c p m s = syncOffset c m.t (receiveStamp s p) s := by
  rw [sourceReceive, kind]
  dsimp only
  rw [syncReceive, oneStep, if_neg Bool.false_ne_true]

/-- The follow-up that source `c` waits for has come. -/
def followed (c : Nat) (s : State) : State := modSource c (fun x => { x with sync := none }) s

/-- A Follow_Up of the Sync that waits gives the offset. -/
theorem sourceReceive_followUp {m : PtpMsg} {s : State} {c : Nat} {rx k : Int} (kind : m.kind = .followUp)
    (waits : (s.source c).sync = some (m.seqId, rx, k)) (p : Nat) :
    sourceReceive c p m s = syncOffset c (m.t + k) rx (followed c s) := by
  rw [sourceReceive, kind]
  dsimp only
  rw [syncFollow, waits]
  exact if_pos rfl

/-! ### Announcements (R520, R523) -/

/-- The grandmaster changes: a valid source becomes invalid before its new grandmaster is recorded. -/
def masterChanged (c : Nat) (m : PtpMsg) (s : State) : State :=
  if s.reg (0x4800 + c) 9 ≠ m.grandmaster ∧ (s.source c).valid then sourceLost c s else s

theorem announceReceive_slave {m : PtpMsg} (slave : m.slave = true) (c : Nat) (s : State) : announceReceive c m s =
    ((masterChanged c m s).setReg (0x4800 + c) 9 (m.grandmaster % 2 ^ 64)).iff
      (decide (((masterChanged c m s).setReg (0x4800 + c) 9 (m.grandmaster % 2 ^ 64)).reg (0x4800 + c) 6 < 3))
      (·.setReg (0x4800 + c) 6 3) := by
  unfold announceReceive
  rw [if_pos slave]
  rfl

theorem masterChanged_invalid {m : PtpMsg} {c : Nat} {s : State} (changed : s.reg (0x4800 + c) 9 ≠ m.grandmaster) :
    ((masterChanged c m s).source c).valid = false := by
  unfold masterChanged
  split
  · exact sourcesLost_invalid (List.mem_singleton_self c) s
  · next still =>
    exact Bool.eq_false_iff.mpr fun valid => still ⟨changed, valid⟩

/-! ### Delays (R520, R522) -/

theorem reg_putDelay {d : Nat} (fits : d < 2 ^ 32) (c : Nat) (s : State) : (putDelay c d s).reg (0x4800 + c) 8 = d := by
  rw [putDelay, reg_setReg_same, clamp]
  omega

/-- Half of an even sum. -/
theorem tdiv_two_eq {d : Nat} {i : Int} (twice : 2 * (d : Int) = i) : i.tdiv 2 = d := by
  rw [← twice]
  exact Int.mul_tdiv_cancel_left _ (by decide)

theorem delayReceive_asked {s : State} {c p : Nat} {m : PtpMsg} {t : Int} (endToEnd : s.reg (0x4800 + c) 4 = 0)
    (asked : askedAt s p 1 m.domain m.seqId = some t) : delayReceive c p m s =
      putDelay c ((((s.source c).t2 - (s.source c).t1) + (m.t - t)).tdiv 2) s := by
  unfold delayReceive
  simp only [asked]
  exact if_pos endToEnd

theorem pdelayReceive_asked {s : State} {c p : Nat} {m : PtpMsg} {t : Int} (peer : s.reg (0x4800 + c) 4 = 1)
    (oneStep : m.twoStep = false) (asked : askedAt s p 2 m.domain m.seqId = some t) :
    pdelayReceive c p m s = putDelay c ((receiveStamp s p - t - m.t).tdiv 2) s := by
  unfold pdelayReceive
  simp only [asked]
  rw [if_neg (by omega), oneStep, if_neg Bool.false_ne_true]

/-! ### A source that is lost (R523, R525, R527, R543) -/

/-- What follows when source `c` becomes invalid. -/
structure SourceGone (c : Nat) (s u : State) : Prop where
  invalid : (u.source c).valid = false
  standby : s.reg 0x4802 1 = c → (s.source (1 - c)).valid = true → u.reg 0x4802 1 = 1 - c ∧ u.reg 0x4802 2 = 1 ∧
    counted s u 0x4802 4 ∧ (canLog s → eventLogged 525 s u) ∧
      ((s.source (1 - c)).former = false → u.reg 0x4802 3 = ofSigned 32 (saturate 32 (deltaFor s (1 - c))))
  holdover : s.reg 0x4802 1 = c → (s.source (1 - c)).valid = false → u.reg 0x4802 1 = 2 ∧
    (s.reg 0x4802 2 = 1 → u.reg 0x4802 2 = 2) ∧ (frameLock s = 1 ∨ frameLock s = 2 → frameLock u = 3)
  other : s.reg 0x4802 1 ≠ c → u.reg 0x4802 1 = s.reg 0x4802 1

/-- A change that leaves the sources, time's objects and the log as they are. -/
theorem SourceGone.of_same {c : Nat} {s t u : State} (h : SourceGone c s t) (source : u.source c = t.source c)
    (reg : ∀ y, y < 256 → u.reg 0x4802 y = t.reg 0x4802 y) (lock : frameLock u = frameLock t)
    (events : u.dev.events = t.dev.events) (buffer : u.dev.eventBuffer = t.dev.eventBuffer) : SourceGone c s u where
  invalid := source ▸ h.invalid
  standby := by
    rw [reg 1 (by decide), reg 2 (by decide), reg 3 (by decide), counted, reg 4 (by decide), eventLogged, events, buffer]
    exact h.standby
  holdover := by
    rw [reg 1 (by decide), reg 2 (by decide), lock]
    exact h.holdover
  other := by
    rw [reg 1 (by decide)]
    exact h.other

theorem reg_takenOver_time (c : Nat) (s : State) : (takenOver c s).reg 0x4802 4 = min (s.reg 0x4802 4 + 1) 0xFFFFFFFF ∧
    (takenOver c s).reg 0x4802 3 = ofSigned 32 (saturate 32 (if (s.source c).former then 0 else deltaFor s c)) := by
  constructor
  · rw [takenOver, reg_bump, if_pos rfl, reg_setReg_sub (by decide) (by decide) (by decide)]
    rfl
  · rw [takenOver, reg_bump_at (by decide) (by decide), if_neg (by decide), reg_setReg_same]

theorem reg_switchTo_time {y : Nat} (hy : y < 256) (c : Nat) (s : State) :
    (switchTo c s).reg 0x4802 y = if y = 1 then c else if y = 2 then 1 else (takenOver c s).reg 0x4802 y := by
  rw [switchTo_eq, reg_logEvent_index _ _ _ _ _ _ (by decide) hy, reg_synchronise_time hy]

theorem eventLogged_switchTo {s t : State} (seq : t.reg 0x6000 1 = s.reg 0x6000 1)
    (trained : t.reg 0x5090 1 = s.reg 0x5090 1) (buffer : t.dev.eventBuffer = s.dev.eventBuffer) (room : canLog s)
    (c : Nat) : eventLogged 525 s (switchTo c t) := by
  refine eventLogged_after (u := synchronise c (takenOver c t)) ?_ ?_ ?_ room ..
  · rw [reg_synchronise (by decide) (by decide) (by decide), reg_takenOver (by decide) (by decide), seq]
  · rw [reg_synchronise (by decide) (by decide) (by decide), reg_takenOver (by decide) (by decide), trained]
  · rw [eventBuffer_synchronise]
    exact buffer

/-- Without a source network time is free or in HOLDOVER, and frame lock follows. -/
theorem enterHoldover_held (s : State) : (enterHoldover s).reg 0x4802 1 = 2 ∧
    (s.reg 0x4802 2 = 1 → (enterHoldover s).reg 0x4802 2 = 2) ∧
      (frameLock s = 1 ∨ frameLock s = 2 → frameLock (enterHoldover s) = 3) := by
  have free : (sourceless s).reg 0x4802 1 = 2 := by
    rw [sourceless, iff_keeps (·.reg 0x4802 1) _ _ _ (reg_setReg_sub (by decide) (by decide) (by decide) ..), reg_setReg_same]
  have held (synced : s.reg 0x4802 2 = 1) : (sourceless s).reg 0x4802 2 = 2 := by
    rw [sourceless, synced]
    exact reg_setReg_same ..
  have lock : frameLock (sourceless s) = frameLock s := reg_sourceless (by decide) (by decide) s
  rw [enterHoldover_eq, lock]
  split
  · rw [reg_setReg_index (by decide) (by decide) (by decide), reg_setReg_index (by decide) (by decide) (by decide)]
    exact ⟨free, held, fun _ => reg_setReg_same ..⟩
  · next unlocked => exact ⟨free, held, fun locked => absurd locked unlocked⟩

theorem sourceLost_active {c : Nat} {s : State} (active : s.reg 0x4802 1 = c) :
    sourceLost c s = handOver c (sourceDropped c s) := by
  have same : (s.each [c] sourceDropped).reg 0x4802 1 = c :=
    (reg_sourceDropped (by decide) (by omega) s).trans active
  rw [sourceLost, sourcesLost_eq, same, if_pos (by simp)]
  rfl

theorem sourceLost_standby {c : Nat} {s : State} (standby : s.reg 0x4802 1 ≠ c) : sourceLost c s = sourceDropped c s := by
  have same : (s.each [c] sourceDropped).reg 0x4802 1 = s.reg 0x4802 1 := reg_sourceDropped (by decide) (by omega) s
  rw [sourceLost, sourcesLost_eq, same, if_neg (by simpa using standby)]
  rfl

theorem sourceLost_gone {c : Nat} (hc : c < 2) (s : State) : SourceGone c s (sourceLost c s) := by
  have reg {x y : Nat} (hy : y < 256) (hx : x ≠ 0x4800 + c) := reg_sourceDropped (c := c) hy (fun e => absurd e hx) s
  have standby : (sourceDropped c s).source (1 - c) = s.source (1 - c) := by
    rw [source_sourceDropped, if_neg (by omega)]
  have dev := dev_sourceDropped c s
  have clock : (sourceDropped c s).dev.clock = s.dev.clock := by rw [dev]
  have buffer : (sourceDropped c s).dev.eventBuffer = s.dev.eventBuffer := by rw [dev]
  refine ⟨sourcesLost_invalid (List.mem_singleton_self c) s, fun active valid => ?_, fun active valid => ?_, fun other => ?_⟩
  · rw [sourceLost_active active, handOver, otherSource, standby, if_pos valid]
    obtain ⟨count, delta⟩ := reg_takenOver_time (1 - c) (sourceDropped c s)
    refine ⟨?_, ?_, ?_, fun room => ?_, fun fresh => ?_⟩
    · rw [reg_switchTo_time (by decide), if_pos rfl]
    · rw [reg_switchTo_time (by decide), if_neg (by decide), if_pos rfl]
    · rw [counted, reg_switchTo_time (by decide), if_neg (by decide), if_neg (by decide), count, reg (by decide) (by omega)]
    · exact eventLogged_switchTo (reg (by decide) (by omega)) (reg (by decide) (by omega)) buffer room _
    · rw [reg_switchTo_time (by decide), if_neg (by decide), if_neg (by decide), delta, standby, fresh,
        if_neg Bool.false_ne_true, deltaFor, clock]
      rfl
  · rw [sourceLost_active active, handOver, otherSource, standby, if_neg (by simp [valid])]
    have held := enterHoldover_held (sourceDropped c s)
    rwa [reg (by decide) (by omega), frameLock, reg (by decide) (by omega)] at held
  · rw [sourceLost_standby other, reg (by decide) (by omega)]

theorem leaveSlave_gone {c : Nat} (hc : c < 2) (s : State) : SourceGone c s (leaveSlave c s) :=
  (sourceLost_gone hc s).of_same (source_slaveLeft ..) (fun _ hy => reg_slaveLeft hy (by omega) _)
    (reg_slaveLeft (by decide) (by omega) _) (events_slaveLeft ..) (eventBuffer_slaveLeft ..)

theorem SourceGone.onDev {c : Nat} {f : State → State} {s : State} (h : SourceGone c s (f s)) :
    SourceGone c s (onDev [.od, .timing, .clock, .sources, .events, .eventBuffer, .eventMessages] f s) :=
  h.of_same (source_onDev (by decide) ..) (fun _ _ => onDev_reg (by decide) ..) (frameLock_onDev (by decide) ..)
    (by rw [onDev_dev, partsOf_events (by decide)]) (by rw [onDev_dev, partsOf_eventBuffer (by decide)])

/-! ### The statement -/

/-- Settles O44: a message that is taken is its kind's operation on the source that takes it, and a source that is lost
hands over before its port state follows. -/
theorem timeSourceCommands : Obligations.TimeSourceCommands := by
  unfold Obligations.TimeSourceCommands
  refine ⟨?violation, ?lockoutEnd, ?lockedOut, ?offset, ?announce, ?delay, ?lost, ?restore⟩
  case violation =>
    intro s p m hp free runs bad
    refine ⟨_, exec_ptpMessageReceive p m s hp, fun room => ?_, fun many => ⟨?_, fun log => ?_⟩, fun few => ?_⟩
    · rw [onDev_reg (by decide), ptpReceive_unsupported free runs bad, reg_ptpViolation_count, ptpCounted_counts room]
    · rw [eth_onDev (by decide), ptpReceive_unsupported free runs bad, ptpViolation_many many, eth_logEvent,
        ptpLockedOut, eth_modEth_same]
    · refine eventLogged_onDev (by decide) (by decide) ?_
      rw [ptpReceive_unsupported free runs bad, ptpViolation_many many]
      exact eventLogged_after (u := ptpLockedOut p (ptpCounted p s)) (reg_ptpCounted (by decide) (by decide) p s)
        (reg_ptpCounted (by decide) (by decide) p s) (eventBuffer_ptpCounted p s) log ..
    · rw [eth_onDev (by decide), ptpReceive_unsupported free runs bad, lockout_ptpViolation_few few, free]
  case lockoutEnd =>
    intro s p hp
    refine ⟨_, exec_ptpLockoutEnd p s hp, ?_⟩
    rw [eth_onDev (by decide), eth_modEth_same]
  case lockedOut =>
    intro s p m hp lockout
    exact ⟨_, exec_ptpMessageReceive p m s hp, onDev_of_fixed (ptpReceive_lockedOut m lockout)⟩
  case offset =>
    intro s p c m o sent rx k hp free runs good source slave valid kind offset near
    have taken : OffsetTaken c o s (ptpReceive p m s) := by
      rw [ptpReceive_taken free runs good source]
      obtain ⟨sync, oneStep, rfl, rfl⟩ | ⟨follow, waits, rfl⟩ := kind
      · rw [sourceReceive_sync sync oneStep]
        exact syncOffset_taken slave valid offset near
      · have before : (followed c s).source c = { s.source c with sync := none } := source_modSource_same ..
        rw [sourceReceive_followUp follow waits]
        obtain ⟨newest, object, moved⟩ := syncOffset_taken (s := followed c s) slave
          (by rw [before]; exact valid) offset (by rw [before]; exact near)
        exact ⟨newest, object, moved⟩
    refine ⟨_, exec_ptpMessageReceive p m s hp, ?_, ?_, ?_⟩
    · rw [source_onDev (by decide), taken.newest]
    · rw [onDev_reg (by decide), taken.object]
    · rw [onDev_dev, partsOf_clock (by decide)]
      exact taken.moved
  case announce =>
    intro s p c m hp free runs good kind slave source
    have taken : ptpReceive p m s = announceReceive c m s := by
      rw [ptpReceive_taken free runs good source, sourceReceive, kind]
    refine ⟨_, exec_ptpMessageReceive p m s hp, ?_, ?_, fun changed => ?_⟩
    · rw [onDev_reg (by decide), taken, announceReceive_slave slave,
        iff_keeps (·.reg (0x4800 + c) 9) _ _ _ (reg_setReg_sub (by decide) (by decide) (by decide) ..), reg_setReg_same]
    · rw [onDev_reg (by decide), taken, announceReceive_slave slave, State.iff]
      split
      · rw [reg_setReg_same]
      · next high => simpa using high
    · rw [source_onDev (by decide), taken, announceReceive_slave slave, iff_keeps (·.source c) _ _ _ rfl, source_setReg,
        masterChanged_invalid changed]
  case delay =>
    intro s p c m d t' hp free runs good source fits kind
    refine ⟨_, exec_ptpMessageReceive p m s hp, ?_⟩
    rw [onDev_reg (by decide), ptpReceive_taken free runs good source]
    obtain ⟨kind, endToEnd, asked, twice⟩ | ⟨kind, peer, oneStep, asked, twice⟩ := kind
    · rw [sourceReceive, kind]
      dsimp only
      rw [delayReceive_asked endToEnd asked, tdiv_two_eq twice, reg_putDelay fits]
    · rw [sourceReceive, kind]
      dsimp only
      rw [pdelayReceive_asked peer oneStep asked, tdiv_two_eq twice, reg_putDelay fits]
  case lost =>
    intro s c i hc which
    obtain rfl | rfl := which
    · obtain ⟨invalid, standby, holdover, other⟩ := (sourceLost_gone hc s).onDev
      exact ⟨_, exec_syncTimeout c s hc, invalid, standby, holdover, other⟩
    · obtain ⟨invalid, standby, holdover, other⟩ := (leaveSlave_gone hc s).onDev
      exact ⟨_, exec_sourceInvalid c s hc, invalid, standby, holdover, other⟩
  case restore =>
    intro s c hc valid former long
    refine ⟨_, exec_sourceStandbyRestore c s hc, ?_⟩
    rw [source_onDev (by decide), standbyRestore, if_pos (by simpa [valid, former] using long), source_modSource_same]

end Sys2Proof.Machine
end

section
/-!
SUPPORT. What NCP rests on: frames that leave under the transmit cap, the table of sessions, and failed authentication
(R518, R777, R778, R787, R788).
-/
namespace Sys2Proof.Machine

/-! ### Frames that leave (R518) -/

/-- `t` is `s` but for the Ethernet ports, the frames that have left and the registers, of which only those of port `p`'s
statistics differ. -/
def framesOnly (p : Nat) (s t : State) : Prop :=
  (∃ od eth sent, t = { s with dev := { s.dev with od := od, eth := eth, ncp := { s.dev.ncp with sent := sent } } }) ∧
    ∀ x y, x ≠ 0x4812 + p → y < 256 → t.reg x y = s.reg x y

theorem framesOnly.refl (p : Nat) (s : State) : framesOnly p s s := ⟨⟨_, _, _, rfl⟩, fun _ _ _ _ => rfl⟩

theorem framesOnly.trans {p : Nat} {s t u : State} (h : framesOnly p s t) (k : framesOnly p t u) : framesOnly p s u := by
  obtain ⟨⟨_, _, _, rfl⟩, hr⟩ := h
  obtain ⟨⟨_, _, _, rfl⟩, kr⟩ := k
  exact ⟨⟨_, _, _, rfl⟩, fun x y hx hy => (kr x y hx hy).trans (hr x y hx hy)⟩

theorem framesOnly_modEth (p x : Nat) (f : EthPort → EthPort) (s : State) : framesOnly p s (modEth x f s) :=
  ⟨⟨_, _, _, rfl⟩, fun _ _ _ _ => rfl⟩

theorem framesOnly_framesLeave (p : Nat) (fs : List EthFrame) (s : State) : framesOnly p s (framesLeave p fs s) := by
  refine ⟨?_, fun x y _ _ => reg_framesLeave ..⟩
  unfold framesLeave
  dsimp only
  split
  · exact ⟨_, _, _, rfl⟩
  · exact ⟨_, _, _, rfl⟩

theorem framesOnly_ethDrain (p : Nat) (s : State) : framesOnly p s (ethDrain p s) := by
  unfold ethDrain
  dsimp only
  split
  · exact .refl ..
  · exact (framesOnly_modEth ..).trans (framesOnly_framesLeave ..)

theorem framesOnly_frameOut (p : Nat) (f : EthFrame) (s : State) : framesOnly p s (frameOut p f s) := by
  have start : framesOnly p s (sentTrimmed p (ethDrain p s)) := (framesOnly_ethDrain ..).trans (framesOnly_modEth ..)
  rw [frameOut_eq]
  dsimp only
  split
  · exact (start.trans (framesOnly_modEth ..)).trans (framesOnly_framesLeave ..)
  · split
    · exact start.trans (framesOnly_modEth ..)
    · refine start.trans ⟨⟨_, _, _, rfl⟩, fun x y hx hy => ?_⟩
      rw [reg_bump_at (by decide) hy, if_neg fun e => hx e.1.symm]

theorem framesOnly_sendFrame (p dst : Nat) (bs : List Byte) (s : State) : framesOnly p s (sendFrame p dst bs s) :=
  framesOnly_frameOut ..

theorem framesOnly.sessions {p : Nat} {s t : State} (h : framesOnly p s t) : t.dev.ncp.sessions = s.dev.ncp.sessions := by
  obtain ⟨⟨_, _, _, rfl⟩, -⟩ := h
  rfl

theorem framesOnly.challenges {p : Nat} {s t : State} (h : framesOnly p s t) :
    t.dev.ncp.challenges = s.dev.ncp.challenges := by
  obtain ⟨⟨_, _, _, rfl⟩, -⟩ := h
  rfl

theorem framesOnly.delayed {p : Nat} {s t : State} (h : framesOnly p s t) : t.dev.delayed = s.dev.delayed := by
  obtain ⟨⟨_, _, _, rfl⟩, -⟩ := h
  rfl

/-- NCP's own registers are no port's statistics. -/
theorem framesOnly.reg {p y : Nat} {s t : State} (h : framesOnly p s t) (hy : y < 256) : t.reg 0x1210 y = s.reg 0x1210 y :=
  h.2 _ _ (by omega) hy

/-- Port `p` would send the same frames: its queue, what left it lately, the time and the cap agree. -/
structure SendsAlike (p : Nat) (s t : State) : Prop where
  port : t.eth p = s.eth p
  now : t.now = s.now
  cap : t.ceilings = s.ceilings

namespace SendsAlike
variable {p : Nat} {s t : State}

theorem refl (p : Nat) (s : State) : SendsAlike p s s := ⟨rfl, rfl, rfl⟩

theorem modNcp (h : SendsAlike p s t) (f : Ncp → Ncp) : SendsAlike p s (modNcp f t) := ⟨h.port, h.now, h.cap⟩

theorem modTiming (h : SendsAlike p s t) (f : Timing → Timing) : SendsAlike p s (modTiming f t) :=
  ⟨h.port, h.now, h.cap⟩

theorem bump (h : SendsAlike p s t) (i j n : Nat) : SendsAlike p s (t.bump i j n) := ⟨h.port, h.now, h.cap⟩

theorem bumpSeq (h : SendsAlike p s t) (i j n : Nat) : SendsAlike p s (t.bumpSeq i j n) := ⟨h.port, h.now, h.cap⟩

theorem putSession (h : SendsAlike p s t) (i : Nat) (x : Option Session) : SendsAlike p s (putSession i x t) :=
  ⟨h.port, h.now, h.cap⟩

end SendsAlike

/-- A frame leaves by what its port would send before. -/
theorem frameLeaves_sendFrame {s t : State} {p : Nat} (like : SendsAlike p s t) (dst : Nat) (bs : List Byte) :
    frameLeaves s (sendFrame p dst bs t) p dst bs := by
  intro idle room
  have left : capLeft t p = capLeft s p := by
    rw [capLeft, capLeft, sentLately, sentLately, like.port, like.now, like.cap]
  rw [sendFrame, frameOut_leaves (f := { size := bs.length, ncp := some (dst, bs) }) (like.port ▸ idle) (left ▸ room)]
  rfl

theorem frameLeaves.of_sent {s t u : State} {p dst : Nat} {bs : List Byte} (h : frameLeaves s t p dst bs)
    (sent : u.dev.ncp.sent = t.dev.ncp.sent) : frameLeaves s u p dst bs := by
  rwa [frameLeaves, sent]

/-! ### Sessions (R777, R778) -/

/-- The session at a place of the table, where it has the number. -/
def numbered (n : Nat) (e : Nat × Option Session) : Option (Nat × Session) :=
  match e.2 with
  | some x => if x.number = n then some (e.1, x) else none
  | none => none

theorem sessionAt_eq (s : State) (n : Nat) : sessionAt s n = s.dev.ncp.sessions.findSome? (numbered n) := rfl

theorem numbered_some {n i : Nat} {e : Nat × Option Session} {x : Session} (h : numbered n e = some (i, x)) :
    e = (i, some x) ∧ x.number = n := by
  obtain ⟨j, o⟩ := e
  unfold numbered at h
  cases o with
  | none => cases h
  | some y =>
    by_cases number : y.number = n
    · simp only [number, if_true, Option.some.injEq, Prod.mk.injEq] at h
      obtain ⟨rfl, rfl⟩ := h
      exact ⟨rfl, number⟩
    · simp [number] at h

theorem sessionAt_number {s : State} {n i : Nat} {x : Session} (found : sessionAt s n = some (i, x)) : x.number = n := by
  obtain ⟨e, _, numbers⟩ := List.exists_of_findSome?_eq_some found
  exact (numbered_some numbers).2

/-- Replacing a session under its own number keeps it the one that is found. -/
theorem findSome_amPut {n i : Nat} {x y : Session} (number : y.number = n) {xs : AMap (Option Session)}
    (found : xs.findSome? (numbered n) = some (i, x)) :
    (amPut xs i (some y)).findSome? (numbered n) = some (i, y) := by
  have here : numbered n (i, some y) = some (i, y) := if_pos number
  induction xs with
  | nil => cases found
  | cons e m ih =>
    obtain ⟨j, w⟩ := e
    rw [amPut]
    split
    · rw [List.findSome?_cons, here]
    · next other =>
      split
      · rw [List.findSome?_cons, here]
      · rw [List.findSome?_cons] at found ⊢
        cases first : numbered n (j, w) with
        | none =>
          rw [first] at found
          exact ih found
        | some z =>
          rw [first] at found
          cases found
          exact absurd (congrArg Prod.fst (numbered_some first).1) other

theorem reg_putSession {y : Nat} (hy : y < 256) (other : y ≠ 1) (i : Nat) (x : Option Session) (s : State) (a : Nat) :
    (putSession i x s).reg a y = s.reg a y := reg_setReg_sub (by decide) hy other.symm ..

/-- The numbers that sessions hold. -/
def heldNumbers (s : State) : List Nat := s.dev.ncp.sessions.filterMap fun e => e.2.map (·.number)

theorem sessionAt_free {s : State} {n : Nat} (free : n ∉ heldNumbers s) : sessionAt s n = none := by
  rw [sessionAt_eq, List.findSome?_eq_none_iff]
  rintro ⟨i, o⟩ listed
  cases o with
  | none => rfl
  | some x => exact if_neg fun number => free (List.mem_filterMap.mpr ⟨(i, some x), listed, by simp [number]⟩)

/-- Of 18 numbers in a row one is not 0 and held by none of at most 16 sessions. -/
theorem exists_freeNumber {s : State} (few : s.dev.ncp.sessions.length ≤ 16) (n : Nat) :
    ∃ i < 18, (n + i) % 2 ^ 32 ≠ 0 ∧ (n + i) % 2 ^ 32 ∉ heldNumbers s := by
  by_contra none'
  have all : (Finset.range 18).image (fun i => (n + i) % 2 ^ 32) ⊆ insert 0 (heldNumbers s).toFinset := by
    intro k hk
    obtain ⟨i, hi, rfl⟩ := Finset.mem_image.mp hk
    rw [Finset.mem_insert, List.mem_toFinset]
    by_contra out
    exact none' ⟨i, Finset.mem_range.mp hi, not_or.mp out⟩
  have distinct : ((Finset.range 18).image fun i => (n + i) % 2 ^ 32).card = 18 := by
    refine (Finset.card_image_of_injOn fun i hi j hj same => ?_).trans (Finset.card_range 18)
    have hi := Finset.mem_range.mp hi
    have hj := Finset.mem_range.mp hj
    have same : (n + i) % 2 ^ 32 = (n + j) % 2 ^ 32 := same
    omega
  have held : (heldNumbers s).toFinset.card ≤ 16 :=
    (List.toFinset_card_le _).trans ((List.length_filterMap_le ..).trans few)
  have := Finset.card_le_card all
  have := Finset.card_insert_le 0 (heldNumbers s).toFinset
  omega

/-- The numbers that a new session tries in turn. -/
def numbersTried (s : State) : List Nat := (List.range 18).map fun i => (Config.sessionNumber s.dev.ncp.drawn + i) % 2 ^ 32

theorem freshNumber_eq (s : State) :
    freshNumber s = ((numbersTried s).find? fun k => k != 0 && (sessionAt s k).isNone).getD 1 := rfl

theorem freshNumber_fresh {s : State} (few : s.dev.ncp.sessions.length ≤ 16) :
    freshNumber s ≠ 0 ∧ sessionAt s (freshNumber s) = none := by
  obtain ⟨i, hi, nonzero, free⟩ := exists_freeNumber few (Config.sessionNumber s.dev.ncp.drawn)
  rw [freshNumber_eq]
  cases found : (numbersTried s).find? fun k => k != 0 && (sessionAt s k).isNone with
  | none =>
    have taken := List.find?_eq_none.mp found _ (List.mem_map_of_mem (List.mem_range.mpr hi))
    rw [sessionAt_free free, Option.isNone_none, Bool.and_true, bne_iff_ne] at taken
    exact absurd nonzero taken
  | some k => simpa using List.find?_some found

/-! ### Failed authentication (R787, R788) -/

/-- A frame that fails authentication is noted against its source. -/
theorem authFailure_eq (src : Nat) (s : State) : ∃ failures ignored, authFailure src s = logEvent 787 7 0x1210 4 src
    ((modNcp (fun n => { n with failures := failures, ignored := ignored }) s).bump 0x1210 4) := ⟨_, _, rfl⟩

/-- The frame is dropped and counted, and nothing of a session or a CHALLENGE changes. -/
structure AuthFailed (s u : State) : Prop where
  sessions : u.dev.ncp.sessions = s.dev.ncp.sessions
  challenges : u.dev.ncp.challenges = s.dev.ncp.challenges
  sent : u.dev.ncp.sent = s.dev.ncp.sent
  counts : counted s u 0x1210 4

theorem authFailure_failed (src : Nat) (s : State) : AuthFailed s (authFailure src s) := by
  obtain ⟨failures, ignored, e⟩ := authFailure_eq src s
  rw [e]
  refine ⟨?_, ?_, ?_, ?_⟩
  · rw [ncp_logEvent]
    rfl
  · rw [ncp_logEvent]
    rfl
  · rw [ncp_logEvent]
    rfl
  · rw [counted, reg_logEvent_index _ _ _ _ _ _ (by decide) (by decide), reg_bump, if_pos rfl]
    rfl

theorem delayed_authFailure (src : Nat) (s : State) : (authFailure src s).dev.delayed = s.dev.delayed := by
  obtain ⟨failures, ignored, e⟩ := authFailure_eq src s
  obtain ⟨_, _, _, _, logged⟩ := logEvent_eq 787 7 0x1210 4 src
    ((modNcp (fun n => { n with failures := failures, ignored := ignored }) s).bump 0x1210 4)
  rw [e, logged]
  rfl

theorem AuthFailed.of_ncp {s t u : State} (h : AuthFailed s t) (ncp : u.dev.ncp = t.dev.ncp)
    (count : u.reg 0x1210 4 = t.reg 0x1210 4) : AuthFailed s u where
  sessions := by rw [ncp, h.sessions]
  challenges := by rw [ncp, h.challenges]
  sent := by rw [ncp, h.sent]
  counts := by rw [counted, count, h.counts]

theorem AuthFailed.onDev {ps : List DevPart} (od : .od ∈ ps) (ncp : .ncp ∈ ps) {f : State → State} {s : State}
    (h : AuthFailed s (f s)) : AuthFailed s (onDev ps f s) :=
  h.of_ncp (by rw [onDev_dev, partsOf_ncp ncp]) (onDev_reg od ..)

end Sys2Proof.Machine
end

section
/-!
PROOF. NCP: CHALLENGE and OPEN, requests of a session, CLOSE, malformed frames, and what ends sessions (R773 to R788).
-/
namespace Sys2Proof.Machine

theorem ncp_bumpSeq (i j n : Nat) (s : State) : (s.bumpSeq i j n).dev.ncp = s.dev.ncp := rfl

theorem ncp_bump (i j n : Nat) (s : State) : (s.bump i j n).dev.ncp = s.dev.ncp := rfl

theorem delayed_bump (i j n : Nat) (s : State) : (s.bump i j n).dev.delayed = s.dev.delayed := rfl

/-! ### CHALLENGE (R776) -/

theorem length_lastN_le {α : Type} (n : Nat) (xs : List α) : (lastN n xs).length ≤ n := by
  rw [lastN, List.length_drop]
  omega

theorem getLast_lastN {α : Type} {n : Nat} (hn : 0 < n) (xs : List α) (a : α) :
    (lastN n (xs ++ [a])).getLast? = some a := by
  rw [lastN, List.drop_append_of_le_length (by rw [List.length_append, List.length_singleton]; omega)]
  exact List.getLast?_concat ..

/-- The nonce that the device draws next. -/
def nextNonce (s : State) : List Byte := natLE (Config.deviceNonce s.dev.ncp.drawn) 16

theorem length_nextNonce (s : State) : (nextNonce s).length = 16 := length_natLE ..

/-- The CHALLENGE is kept; its frame is still to leave. -/
def challengeKept (f : NcpHead) (slot : Nat) (nc : List Byte) (s : State) : State :=
  (modNcp (fun n =>
    { n with drawn := n.drawn + 1
             challenges := lastN 16 (n.challenges ++ [{ src := f.src, slot := slot, nc := nc, nd := nextNonce s }]) })
    s).bumpSeq 0x1210 3

theorem kept_challengeKept (f : NcpHead) (slot : Nat) (nc : List Byte) (s : State) :
    (challengeKept f slot nc s).dev.ncp.challenges =
      lastN 16 (s.dev.ncp.challenges ++ [{ src := f.src, slot := slot, nc := nc, nd := nextNonce s }]) := by
  rw [challengeKept, ncp_bumpSeq, modNcp_dev]

theorem sendsAlike_challengeKept (f : NcpHead) (slot : Nat) (nc : List Byte) (s : State) (p : Nat) :
    SendsAlike p s (challengeKept f slot nc s) := ((SendsAlike.refl p s).modNcp _).bumpSeq ..

section Opening
variable {s : State} {f : NcpHead} (up : served s (.ncp f) = true) (heard : f.src ∉ s.dev.ncp.ignored)
  (session : f.session = 0) (seq : f.seq = 0)
include up heard session seq

theorem hello_challenges {slot : Nat} (nc : List Byte) (tag : allZero f.tag = true)
    (key : (sessionKey s slot).isSome = true) : hello f slot nc s =
      sendFrame f.port f.src (frameBody 2 0 0 f.txn (natLE slot 1 ++ [0, 0, 0] ++ nc ++ nextNonce s) ++
        List.replicate 32 0) (challengeKept f slot nc s) := by
  have usable : (sessionKey s slot).isNone = false := by simpa [Option.isSome_iff_ne_none] using key
  unfold hello
  rw [up, if_neg (by simpa using heard), bareHead, session, seq, tag, if_neg (by decide), usable,
    if_neg Bool.false_ne_true]
  rfl

theorem hello_refused {slot : Nat} (nc : List Byte) (tag : allZero f.tag = true) (key : sessionKey s slot = none) :
    hello f slot nc s = authFailure f.src s := by
  unfold hello
  rw [up, if_neg (by simpa using heard), bareHead, session, seq, tag, if_neg (by decide), key]
  rfl

end Opening

/-! ### OPEN (R776 to R778) -/

/-- The session that an OPEN under the slot's key `k` opens. -/
def newSession (k : List Byte) (f : NcpHead) (slot : Nat) (nc nd : List Byte) (s : State) : Session :=
  { number := freshNumber s, slot := slot, port := f.port, src := f.src
    key := hmac k ([0x4E, 0x43, 0x50, 0x31] ++ nc ++ nd), touched := s.now }

/-- ACCEPT of a session, before its tag. -/
def acceptBody (f : NcpHead) (x : Session) (s : State) : List Byte :=
  frameBody 4 x.number 1 f.txn (natLE (s.reg 0x1210 2) 2 ++ [0, 0])

/-- The session stands at place `i` and its CHALLENGE is used up; ACCEPT is still to leave. -/
def sessionOpened (i : Nat) (x : Session) (f : NcpHead) (slot : Nat) (nc nd : List Byte) (s : State) : State :=
  putSession i (some x) ((modNcp (fun n =>
    { n with drawn := n.drawn + 1
             challenges := n.challenges.erase { src := f.src, slot := slot, nc := nc, nd := nd } }) s).bumpSeq 0x1210 3)

theorem sendsAlike_sessionOpened (i : Nat) (x : Session) (f : NcpHead) (slot : Nat) (nc nd : List Byte) (s : State)
    (p : Nat) : SendsAlike p s (sessionOpened i x f slot nc nd s) :=
  (((SendsAlike.refl p s).modNcp _).bumpSeq ..).putSession ..

section Open
variable {s : State} {f : NcpHead} {slot : Nat} {nc nd k : List Byte} (up : served s (.ncp f) = true)
  (heard : f.src ∉ s.dev.ncp.ignored) (session : f.session = 0) (seq : f.seq = 0) (key : sessionKey s slot = some k)
include up heard session seq key

/-- The tests of an OPEN of a slot with a key: its CHALLENGE and its tag, then a free place. -/
theorem openSession_eq : openSession f slot nc nd s =
    if !s.dev.ncp.challenges.contains { src := f.src, slot := slot, nc := nc, nd := nd } ||
        hmac k (frameBody 3 0 0 f.txn (natLE slot 1 ++ [0, 0, 0] ++ nc ++ nd)) ≠ f.tag then authFailure f.src s
    else match freePlace s with
      | none => s.bump 0x1210 6
      | some i =>
        sendFrame f.port f.src (acceptBody f (newSession k f slot nc nd s) s ++
            hmac (newSession k f slot nc nd s).key (acceptBody f (newSession k f slot nc nd s) s))
          (sessionOpened i (newSession k f slot nc nd s) f slot nc nd s) := by
  have body : openBody f slot nc nd = frameBody 3 0 0 f.txn (natLE slot 1 ++ [0, 0, 0] ++ nc ++ nd) := by
    rw [openBody, session, seq, challengeBytes]
  unfold openSession
  rw [up, if_neg (by simpa using heard), bareHead, session, seq, if_neg (by decide), key, body]
  rfl

theorem openSession_refused (bad : { src := f.src, slot := slot, nc := nc, nd := nd } ∉ s.dev.ncp.challenges ∨
      f.tag ≠ hmac k (frameBody 3 0 0 f.txn (natLE slot 1 ++ [0, 0, 0] ++ nc ++ nd))) :
    openSession f slot nc nd s = authFailure f.src s := by
  rw [openSession_eq up heard session seq key, if_pos]
  rw [Bool.or_eq_true, Bool.not_eq_true', decide_eq_true_eq, List.contains_eq_mem, decide_eq_false_iff_not]
  exact bad.imp_right Ne.symm

variable (kept : { src := f.src, slot := slot, nc := nc, nd := nd } ∈ s.dev.ncp.challenges)
  (tag : f.tag = hmac k (frameBody 3 0 0 f.txn (natLE slot 1 ++ [0, 0, 0] ++ nc ++ nd)))
include kept tag

theorem openSession_accepts {i : Nat} (place : freePlace s = some i) : openSession f slot nc nd s =
    sendFrame f.port f.src (acceptBody f (newSession k f slot nc nd s) s ++
        hmac (newSession k f slot nc nd s).key (acceptBody f (newSession k f slot nc nd s) s))
      (sessionOpened i (newSession k f slot nc nd s) f slot nc nd s) := by
  rw [openSession_eq up heard session seq key, if_neg, place]
  rw [← tag]
  simp [kept]

theorem openSession_full (full : freePlace s = none) : openSession f slot nc nd s = s.bump 0x1210 6 := by
  rw [openSession_eq up heard session seq key, if_neg, full]
  rw [← tag]
  simp [kept]

end Open

/-! ### Frames of a session (R777 to R779) -/

/-- Session `z` is `x` after it has accepted a frame at `now`: what an answer is made of is as before. -/
structure AcceptedFrom (x : Session) (now : Nat) (z : Session) : Prop where
  number : z.number = x.number
  sendSeq : z.sendSeq = x.sendSeq
  key : z.key = x.key
  responses : z.responses = x.responses
  touched : z.touched = now

theorem acceptedFrom_accepted (x : Session) (now seq : Nat) : AcceptedFrom x now (accepted x now seq) := by
  obtain ⟨high, seen, e⟩ : ∃ high seen, accepted x now seq = { x with high := high, touched := now, seen := seen } :=
    ⟨_, _, rfl⟩
  rw [e]
  exact ⟨rfl, rfl, rfl, rfl, rfl⟩

/-- The frame of session `z` at place `i` is counted as accepted. -/
def frameAccepted (i : Nat) (z : Session) (s : State) : State := (putSession i (some z) s).bumpSeq 0x1210 3

theorem sessionAt_frameAccepted {s : State} {n i : Nat} {x z : Session} (found : sessionAt s n = some (i, x))
    (after : AcceptedFrom x s.now z) : sessionAt (frameAccepted i z s) n = some (i, z) :=
  findSome_amPut (after.number.trans (sessionAt_number found)) found

theorem sendsAlike_frameAccepted (i : Nat) (z : Session) (s : State) (p : Nat) : SendsAlike p s (frameAccepted i z s) :=
  ((SendsAlike.refl p s).putSession ..).bumpSeq ..

theorem reg_frameAccepted {y : Nat} (hy : y < 256) (count : y ≠ 1) (frames : y ≠ 3) (i : Nat) (z : Session) (s : State)
    (a : Nat) : (frameAccepted i z s).reg a y = s.reg a y := by
  rw [frameAccepted, State.bumpSeq, reg_setReg_sub (by decide) hy frames.symm, reg_putSession hy count]

section Session
variable {s : State} {h : NcpHead} {body : List Byte} {f : Nat → Session → State → State}
  (heard : h.src ∉ s.dev.ncp.ignored)
include heard

/-- A frame of no session or with a wrong tag fails authentication. -/
theorem sessionFrame_fails (bad : sessionAt s h.session = none ∨
      ∃ i x, sessionAt s h.session = some (i, x) ∧ h.tag ≠ hmac x.key body) :
    sessionFrame h body f s = authFailure h.src s := by
  unfold sessionFrame
  rw [if_neg (by simpa using heard)]
  obtain unknown | ⟨i, x, found, wrong⟩ := bad
  · rw [unknown]
  · rw [found]
    exact if_pos wrong.symm

/-- A frame with its session's tag and a sequence that is good is accepted. -/
theorem sessionFrame_accepts {i : Nat} {x : Session} (found : sessionAt s h.session = some (i, x))
    (tag : h.tag = hmac x.key body) (good : sequenceGood x h.seq = true) :
    ∃ z, AcceptedFrom x s.now z ∧ sessionFrame h body f s = f i z (frameAccepted i z s) := by
  refine ⟨accepted x s.now h.seq, acceptedFrom_accepted .., ?_⟩
  unfold sessionFrame
  rw [if_neg (by simpa using heard), found]
  dsimp only
  rw [if_neg (by simp [tag]), good, if_neg (by decide)]
  rfl

end Session

/-! ### Answers of a session (R779, R785) -/

/-- The RESPONSE of session `x` to transaction `txn`. -/
def responseFrame (x : Session) (txn : Nat) (payload : List Byte) : List Byte :=
  frameBody 6 x.number x.sendSeq txn payload ++ hmac x.key (frameBody 6 x.number x.sendSeq txn payload)

theorem AcceptedFrom.responseFrame {x z : Session} {now : Nat} (h : AcceptedFrom x now z) (txn : Nat)
    (payload : List Byte) : responseFrame z txn payload = responseFrame x txn payload := by
  rw [Machine.responseFrame, h.number, h.sendSeq, h.key, Machine.responseFrame]

/-- The session after it has sent a frame. -/
def frameSent (x : Session) : Session := { x with sendSeq := (x.sendSeq + 1) % 2 ^ 32 }

/-- A RESPONSE is numbered; its frame is still to leave. -/
def responseNumbered (i : Nat) (x : Session) (s : State) : State :=
  putSession i (some (frameSent x)) s

theorem sendResponse_eq (i : Nat) (x : Session) (h : NcpHead) (payload : List Byte) (s : State) :
    sendResponse i x h payload s = sendFrame h.port h.src (responseFrame x h.txn payload) (responseNumbered i x s) := rfl

theorem frameLeaves_sendResponse {s t : State} (i : Nat) (x : Session) (h : NcpHead) (payload : List Byte)
    (like : SendsAlike h.port s t) :
    frameLeaves s (sendResponse i x h payload t) h.port h.src (responseFrame x h.txn payload) :=
  frameLeaves_sendFrame (like.putSession ..) _ _

theorem reg_sendResponse {y : Nat} (hy : y < 256) (other : y ≠ 1) (i : Nat) (x : Session) (h : NcpHead)
    (payload : List Byte) (s : State) : (sendResponse i x h payload s).reg 0x1210 y = s.reg 0x1210 y := by
  rw [sendResponse_eq, (framesOnly_sendFrame ..).reg hy, responseNumbered, reg_putSession hy other]

theorem sessions_sendResponse (i : Nat) (x : Session) (h : NcpHead) (payload : List Byte) (s : State) :
    (sendResponse i x h payload s).dev.ncp.sessions =
      amPut s.dev.ncp.sessions i (some (frameSent x)) := by
  rw [sendResponse_eq, (framesOnly_sendFrame ..).sessions]
  rfl

theorem delayed_sendResponse (i : Nat) (x : Session) (h : NcpHead) (payload : List Byte) (s : State) :
    (sendResponse i x h payload s).dev.delayed = s.dev.delayed := by
  rw [sendResponse_eq, (framesOnly_sendFrame ..).delayed]
  rfl

/-- The session with an answer kept for its transaction. -/
def answerKept (x : Session) (txn : Nat) (payload : List Byte) : Session :=
  { x with responses := ((txn, payload) :: x.responses).take 16 }

theorem responseFrame_answerKept (x : Session) (txn : Nat) (kept : List Byte) (n : Nat) (payload : List Byte) :
    responseFrame (answerKept x txn kept) n payload = responseFrame x n payload := by
  simp only [responseFrame, answerKept]

theorem respond_session {s : State} {h : NcpHead} {i : Nat} {x : Session} (found : sessionAt s h.session = some (i, x))
    (svc : Nat) (a : Answer) : respond svc (.ncp h) a s =
      sendResponse i (answerKept x h.txn (answerBytes svc a)) h (answerBytes svc a) s := by
  unfold respond
  dsimp only
  rw [found]
  rfl

/-! ### Requests (R780, R785) -/

theorem drain_idle {s : State} (idle : s.dev.delayed = []) : drain s = s := by
  unfold drain
  split
  · rfl
  · rw [idle]
    rfl

/-- Each request of a session arrives, and where nothing is delayed then nothing else runs. -/
theorem exec_request {c : Instr} {h : NcpHead} {r : Request} {svc : Nat} (listed : (c, svc) ∈
      [(.readObject (.ncp h) r, 1), (.writeObject (.ncp h) r, 2), (.readSeg (.ncp h) r, 3), (.writeSeg (.ncp h) r, 4),
        (.describe (.ncp h) r, 5), (.nextObject (.ncp h) r, 6), (.keepalive (.ncp h) r, 7)]) {s : State}
    (idle : (arrive svc (.ncp h) r s).dev.delayed = []) :
    ∃ u, exec c s = .next u ∧ u.dev.ncp = (arrive svc (.ncp h) r s).dev.ncp ∧
      ∀ x y, u.reg x y = (arrive svc (.ncp h) r s).reg x y := by
  have inScope : (onDev servedParts (arrive svc (.ncp h) r) s).dev.ncp = (arrive svc (.ncp h) r s).dev.ncp ∧
      ∀ x y, (onDev servedParts (arrive svc (.ncp h) r) s).reg x y = (arrive svc (.ncp h) r s).reg x y :=
    ⟨by rw [onDev_dev, partsOf_ncp (by decide)], fun _ _ => onDev_reg (by decide) ..⟩
  have drained : serve svc (.ncp h) r s = arrive svc (.ncp h) r s := drain_idle idle
  have whole : (onFuses (serve svc (.ncp h) r) s).dev.ncp = (arrive svc (.ncp h) r s).dev.ncp ∧
      ∀ x y, (onFuses (serve svc (.ncp h) r) s).reg x y = (arrive svc (.ncp h) r s).reg x y :=
    ⟨by rw [onFuses_dev, drained], fun _ _ => by rw [onFuses_reg, drained]⟩
  simp only [List.mem_cons, Prod.mk.injEq, List.not_mem_nil, or_false] at listed
  obtain ⟨rfl, rfl⟩ | ⟨rfl, rfl⟩ | ⟨rfl, rfl⟩ | ⟨rfl, rfl⟩ | ⟨rfl, rfl⟩ | ⟨rfl, rfl⟩ | ⟨rfl, rfl⟩ := listed
  · exact ⟨_, exec_readObject .., inScope⟩
  · exact ⟨_, exec_writeObject .., whole⟩
  · exact ⟨_, exec_readSeg .., inScope⟩
  · exact ⟨_, exec_writeSeg .., whole⟩
  · exact ⟨_, exec_describe .., inScope⟩
  · exact ⟨_, exec_nextObject .., inScope⟩
  · exact ⟨_, exec_keepalive .., inScope⟩

theorem arrive_session {s : State} {h : NcpHead} (svc : Nat) (r : Request) (up : served s (.ncp h) = true) :
    arrive svc (.ncp h) r s =
      sessionFrame h (frameBody 5 h.session h.seq h.txn (requestBytes svc r)) (sessionRequest svc h r) s := by
  unfold arrive
  dsimp only
  rw [show s.iff (isMailbox (.ncp h)) (heardWrite svc) = s from rfl, up, if_neg (by decide)]

theorem heardWrite_cases (svc : Nat) (s : State) :
    heardWrite svc s = modTiming (fun t => { t with silent := false }) s ∨ heardWrite svc s = s := by
  unfold heardWrite State.iff
  split
  · exact .inl rfl
  · exact .inr rfl

/-- A transaction that has been answered has its RESPONSE sent again. -/
theorem sessionRequest_stored {x : Session} {h : NcpHead} {p : Nat × List Byte}
    (stored : (x.responses.find? fun e => e.1 == h.txn) = some p) (svc : Nat) (r : Request) (i : Nat) (s : State) :
    sessionRequest svc h r i x s = (sendResponse i x h p.2 (heardWrite svc s)).bump 0x1210 8 := by
  unfold sessionRequest
  rw [stored]
  rfl

/-- What a stored RESPONSE sent again brings. -/
structure Resent (h : NcpHead) (x : Session) (payload : List Byte) (s u : State) : Prop where
  counts : counted s u 0x1210 8
  leaves : frameLeaves s u h.port h.src (responseFrame x h.txn payload)
  delayed : u.dev.delayed = s.dev.delayed

theorem sessionRequest_resends {s : State} {x z : Session} {h : NcpHead} {p : Nat × List Byte} {i : Nat}
    (after : AcceptedFrom x s.now z) (stored : (x.responses.find? fun e => e.1 == h.txn) = some p) (svc : Nat)
    (r : Request) : Resent h x p.2 s (sessionRequest svc h r i z (frameAccepted i z s)) := by
  have resent (t : State) (like : SendsAlike h.port s t) (count : t.reg 0x1210 8 = s.reg 0x1210 8)
      (delayed : t.dev.delayed = s.dev.delayed) :
      Resent h x p.2 s ((sendResponse i z h p.2 t).bump 0x1210 8) := by
    refine ⟨?_, ?_, ?_⟩
    · rw [counted, reg_bump, if_pos rfl, reg_sendResponse (by decide) (by decide), count]
    · rw [← after.responseFrame]
      exact (frameLeaves_sendResponse i z h p.2 like).of_sent (by rw [ncp_bump])
    · rw [delayed_bump, delayed_sendResponse, delayed]
  have count : (frameAccepted i z s).reg 0x1210 8 = s.reg 0x1210 8 :=
    reg_frameAccepted (by decide) (by decide) (by decide) ..
  have like : SendsAlike h.port s (frameAccepted i z s) := sendsAlike_frameAccepted ..
  rw [sessionRequest_stored (after.responses.symm ▸ stored)]
  obtain e | e := heardWrite_cases svc (frameAccepted i z s) <;> rw [e]
  · exact resent _ (like.modTiming _) count rfl
  · exact resent _ like count rfl

/-- What an accepted KEEPALIVE is answered with. -/
def aliveAnswer (r : Request) (s : State) : List Byte :=
  answerBytes 7 { index := r.index, sub := r.sub, typ := ((objHere s r.index r.sub).map (·.typ)).getD 0 }

/-- A KEEPALIVE that nothing waits for is answered at once. -/
theorem sessionRequest_alive {s : State} {z : Session} {h : NcpHead} {r : Request} {i : Nat}
    (rom : romServes s = false) (idle : s.dev.delayed = []) (owed : owedNow s = []) (used : misused 7 r = false)
    (fresh : (z.responses.find? fun e => e.1 == h.txn) = none) (found : sessionAt s h.session = some (i, z)) :
    sessionRequest 7 h r i z s =
      sendResponse i (answerKept z h.txn (aliveAnswer r s)) h (aliveAnswer r s) s := by
  have performed : perform 7 (.ncp h) r s =
      (some { index := r.index, sub := r.sub, typ := ((objHere s r.index r.sub).map (·.typ)).getD 0 }, s) := by
    unfold perform
    simp [rom, used]
  have stored : storedResponse s (.ncp h) = none := by
    unfold storedResponse
    dsimp only
    rw [found]
    dsimp only
    rw [fresh]
    rfl
  have ran : runRequest 7 (.ncp h) r s =
      respond 7 (.ncp h) { index := r.index, sub := r.sub, typ := ((objHere s r.index r.sub).map (·.typ)).getD 0 } s := by
    unfold runRequest
    rw [stored, performed]
  have waits : (mustWait (owedNow s ++ s.dev.delayed) 7 (.ncp h) r || pageWait s 7 r) = false := by
    rw [owed, idle]
    rfl
  unfold sessionRequest
  rw [show heardWrite 7 s = s from rfl]
  dsimp only
  rw [fresh, used, if_neg Bool.false_ne_true, takeRequest, waits, if_neg Bool.false_ne_true, ran, respond_session found]
  rfl

end Sys2Proof.Machine
end

section
/-!
PROOF. NCP, second part: malformed frames, the end of sessions, and the statement (R773 to R788).
-/
namespace Sys2Proof.Machine

/-! ### Malformed frames (R787) -/

/-- A fault of a session changes no frame that has left, and of the registers at most the sessions open and those that
faults have closed. -/
theorem sessionFault_keeps (n : Nat) (s : State) : (sessionFault n s).dev.ncp.sent = s.dev.ncp.sent ∧
    ∀ y, y < 256 → y ≠ 1 → y ≠ 7 → (sessionFault n s).reg 0x1210 y = s.reg 0x1210 y := by
  unfold sessionFault
  split
  · exact ⟨rfl, fun _ _ _ _ => rfl⟩
  · dsimp only
    split
    · exact ⟨rfl, fun y hy h1 h7 => (reg_setReg_sub (by decide) hy h7.symm ..).trans (reg_putSession hy h1 ..)⟩
    · exact ⟨rfl, fun y hy h1 _ => reg_putSession hy h1 ..⟩

section Malformed
variable {s : State} {p src : Nat} {bs : List Byte} (up : served s (.ncp (headOf p src bs)) = true)
  (heard : src ∉ s.dev.ncp.ignored)
include up heard

/-- A frame with a wrong length, version or type, or of a type that only the device sends, is counted alone. -/
theorem malformedFrame_counts (bad : bs.length < 48 ∨ 1280 < bs.length ∨ fieldLE bs 14 2 + 48 ≠ bs.length ∨
      fieldLE bs 0 1 ≠ 1 ∨ fieldLE bs 1 1 ∈ [0, 2, 4, 6] ∨ 7 < fieldLE bs 1 1) :
    malformedFrame p src bs s = s.bump 0x1210 6 := by
  unfold malformedFrame
  dsimp only
  rw [up, if_neg (by simpa using heard)]
  split
  · rfl
  · next well =>
    rw [if_pos]
    simp only [List.mem_cons, List.not_mem_nil, or_false] at bad
    omega

/-- A REQUEST of a reserved service goes to its session. -/
theorem malformedFrame_request (long : 48 ≤ bs.length) (short : bs.length ≤ 1280)
    (length : fieldLE bs 14 2 + 48 = bs.length) (version : fieldLE bs 0 1 = 1) (typ : fieldLE bs 1 1 = 5)
    (service : fieldLE bs 16 1 = 0 ∨ 7 < fieldLE bs 16 1) : malformedFrame p src bs s =
      sessionFrame (headOf p src bs) (bs.take (bs.length - 32))
        (fun _ _ s => malformedRequest bs (headOf p src bs) s) s := by
  have malformed : requestMalformed bs = true := by
    obtain zero | high := service
    · simp [requestMalformed, zero]
    · simp [requestMalformed, high]
  unfold malformedFrame
  dsimp only
  rw [up, if_neg (by simpa using heard), if_neg (by omega), if_neg (by omega), if_neg (by omega), typ, malformed,
    if_pos (by decide)]

end Malformed

/-- The abort of a reserved service is answered to the session, and the frame is counted. -/
theorem malformedRequest_answers {s t : State} {p src : Nat} {bs : List Byte} {i : Nat} {x z : Session}
    (after : AcceptedFrom x s.now z) (found : sessionAt t (headOf p src bs).session = some (i, z))
    (service : fieldLE bs 16 1 = 0 ∨ 7 < fieldLE bs 16 1) (like : SendsAlike p s t)
    (count : t.reg 0x1210 6 = s.reg 0x1210 6) :
    counted s (malformedRequest bs (headOf p src bs) t) 0x1210 6 ∧
      frameLeaves s (malformedRequest bs (headOf p src bs) t) p src (responseFrame x (fieldLE bs 12 2)
        (answerBytes (fieldLE bs 16 1) { index := fieldLE bs 18 2, sub := fieldLE bs 20 1, abort := abService })) := by
  unfold malformedRequest
  dsimp only
  rw [if_pos service, respond_session (s := t.bump 0x1210 6) (i := i) (x := z) found]
  refine ⟨?_, ?_⟩
  · rw [counted, (sessionFault_keeps ..).2 6 (by decide) (by decide) (by decide), reg_sendResponse (by decide) (by decide),
      reg_bump, if_pos rfl, count]
  · refine frameLeaves.of_sent ?_ (sessionFault_keeps ..).1
    rw [← after.responseFrame, ← responseFrame_answerKept z]
    exact frameLeaves_sendResponse (h := headOf p src bs) _ _ _ (like.bump ..)

/-! ### CLOSE (R786) -/

theorem closeFrame_closes {s : State} {h : NcpHead} {i : Nat} {x : Session} (up : served s (.ncp h) = true)
    (heard : h.src ∉ s.dev.ncp.ignored) (found : sessionAt s h.session = some (i, x))
    (tag : h.tag = hmac x.key (frameBody 7 h.session h.seq h.txn [])) (good : sequenceGood x h.seq = true) :
    amGet (closeFrame h s).dev.ncp.sessions i = some none := by
  unfold closeFrame
  rw [up, if_neg (by decide)]
  obtain ⟨z, -, e⟩ := sessionFrame_accepts (f := fun i _ s => putSession i none s) heard found tag good
  rw [e, sessions_putSession, amGet_amPut_same]

theorem closeFrame_fails {s : State} {h : NcpHead} {i : Nat} {x : Session} (up : served s (.ncp h) = true)
    (heard : h.src ∉ s.dev.ncp.ignored) (found : sessionAt s h.session = some (i, x))
    (wrong : h.tag ≠ hmac x.key (frameBody 7 h.session h.seq h.txn [])) : closeFrame h s = authFailure h.src s := by
  unfold closeFrame
  rw [up, if_neg (by decide)]
  exact sessionFrame_fails heard (.inr ⟨i, x, found, wrong⟩)

/-! ### What ends sessions (R773, R786) -/

theorem sessionIdle_closes {s : State} {slot : Nat} {x : Session} (held : amGet s.dev.ncp.sessions slot = some (some x)) :
    amGet (sessionIdle slot s).dev.ncp.sessions slot =
      some (if x.touched + s.reg 0x1210 2 * 10 ^ 12 ≤ s.now then none else some x) := by
  unfold sessionIdle
  rw [held, show (1000000000000 : Nat) = 10 ^ 12 from rfl]
  dsimp only [Option.join_some]
  split
  · rw [sessions_putSession, amGet_amPut_same]
  · exact held

theorem addressApply_of_none {s : State} (same : s.dev.ncp.oldAddress = none) : addressApply s = s := by
  rw [addressApply, same]
  rfl

theorem addressApply_of_some {s : State} (changed : s.dev.ncp.oldAddress ≠ none) : addressApply s =
    modNcp (fun n => { n with oldAddress := none }) (closeSessions (fun _ => true) s) :=
  if_pos (Option.isSome_iff_ne_none.mpr changed)

/-! ### The commands -/

theorem romServes_of_served {s : State} {h : NcpHead} (up : served s (.ncp h) = true) : romServes s = false := by
  unfold served at up
  split at up
  · cases up
  · next firmware => exact Bool.eq_false_iff.mpr firmware

section Opening
variable {s : State} {f : NcpHead} {slot : Nat} {nc : List Byte} (len : nc.length = 16)
  (up : served s (.ncp f) = true) (heard : f.src ∉ s.dev.ncp.ignored) (session : f.session = 0) (seq : f.seq = 0)
include len up heard session seq

/-- A HELLO for a slot with a key has its CHALLENGE kept, and sent. -/
theorem ncpHello_challenges (tag : allZero f.tag = true) (key : (sessionKey s slot).isSome = true) :
    ∃ u nd, exec (.ncpHello f slot nc) s = .next u ∧ nd.length = 16 ∧
      u.dev.ncp.challenges.getLast? = some { src := f.src, slot := slot, nc := nc, nd := nd } ∧
      u.dev.ncp.challenges.length ≤ 16 ∧
      frameLeaves s u f.port f.src (frameBody 2 0 0 f.txn (natLE slot 1 ++ [0, 0, 0] ++ nc ++ nd) ++
        List.replicate 32 0) := by
  have e := hello_challenges up heard session seq nc tag key
  have kept : (hello f slot nc s).dev.ncp.challenges =
      lastN 16 (s.dev.ncp.challenges ++ [{ src := f.src, slot := slot, nc := nc, nd := nextNonce s }]) := by
    rw [e, (framesOnly_sendFrame ..).challenges, kept_challengeKept]
  have leaves : frameLeaves s (hello f slot nc s) f.port f.src (frameBody 2 0 0 f.txn (natLE slot 1 ++ [0, 0, 0] ++
      nc ++ nextNonce s) ++ List.replicate 32 0) := by
    rw [e]
    exact frameLeaves_sendFrame (sendsAlike_challengeKept ..) _ _
  refine ⟨_, nextNonce s, exec_ncpHello f slot nc s len, length_nextNonce s, ?_, ?_, leaves.of_sent ?_⟩
  · rw [onDev_dev, partsOf_ncp (by decide), kept, getLast_lastN (by decide)]
  · rw [onDev_dev, partsOf_ncp (by decide), kept]
    exact length_lastN_le ..
  · rw [onDev_dev, partsOf_ncp (by decide)]

theorem ncpHello_fails (tag : allZero f.tag = true) (key : sessionKey s slot = none) :
    ∃ u, exec (.ncpHello f slot nc) s = .next u ∧ AuthFailed s u := by
  refine ⟨_, exec_ncpHello f slot nc s len, .onDev (by decide) (by decide) ?_⟩
  rw [hello_refused up heard session seq nc tag key]
  exact authFailure_failed ..

variable {nd k : List Byte} (len' : nd.length = 16) (key : sessionKey s slot = some k)
include len' key

theorem ncpOpen_fails (bad : { src := f.src, slot := slot, nc := nc, nd := nd } ∉ s.dev.ncp.challenges ∨
      f.tag ≠ hmac k (frameBody 3 0 0 f.txn (natLE slot 1 ++ [0, 0, 0] ++ nc ++ nd))) :
    ∃ u, exec (.ncpOpen f slot nc nd) s = .next u ∧ AuthFailed s u := by
  refine ⟨_, exec_ncpOpen f slot nc nd s len len', .onDev (by decide) (by decide) ?_⟩
  rw [openSession_refused up heard session seq key bad]
  exact authFailure_failed ..

variable (kept : { src := f.src, slot := slot, nc := nc, nd := nd } ∈ s.dev.ncp.challenges)
  (tag : f.tag = hmac k (frameBody 3 0 0 f.txn (natLE slot 1 ++ [0, 0, 0] ++ nc ++ nd)))
include kept tag

/-- An OPEN that passes puts its session at the free place, and sends ACCEPT. -/
theorem ncpOpen_accepts {i : Nat} (place : freePlace s = some i) :
    ∃ u, exec (.ncpOpen f slot nc nd) s = .next u ∧
      amGet u.dev.ncp.sessions i = some (some (newSession k f slot nc nd s)) ∧
      frameLeaves s u f.port f.src (acceptBody f (newSession k f slot nc nd s) s ++
        hmac (newSession k f slot nc nd s).key (acceptBody f (newSession k f slot nc nd s) s)) := by
  have e := openSession_accepts up heard session seq key kept tag place
  refine ⟨_, exec_ncpOpen f slot nc nd s len len', ?_, ?_⟩
  · rw [onDev_dev, partsOf_ncp (by decide), e, (framesOnly_sendFrame ..).sessions, sessionOpened, sessions_putSession,
      amGet_amPut_same]
  · refine frameLeaves.of_sent (t := openSession f slot nc nd s) ?_ (by rw [onDev_dev, partsOf_ncp (by decide)])
    rw [e]
    exact frameLeaves_sendFrame (sendsAlike_sessionOpened ..) _ _

theorem ncpOpen_full (full : freePlace s = none) :
    ∃ u, exec (.ncpOpen f slot nc nd) s = .next u ∧ u.dev.ncp = s.dev.ncp ∧ counted s u 0x1210 6 := by
  have e := openSession_full up heard session seq key kept tag full
  refine ⟨_, exec_ncpOpen f slot nc nd s len len', ?_, counted_onDev (by decide) ?_⟩
  · rw [onDev_dev, partsOf_ncp (by decide), e, ncp_bump]
  · rw [e, counted, reg_bump, if_pos rfl]

end Opening

section Request
variable {s : State} {h : NcpHead} {r : Request} {c : Instr} {svc : Nat} (listed : (c, svc) ∈
    [(.readObject (.ncp h) r, 1), (.writeObject (.ncp h) r, 2), (.readSeg (.ncp h) r, 3), (.writeSeg (.ncp h) r, 4),
      (.describe (.ncp h) r, 5), (.nextObject (.ncp h) r, 6), (.keepalive (.ncp h) r, 7)])
  (up : served s (.ncp h) = true) (heard : h.src ∉ s.dev.ncp.ignored) (idle : s.dev.delayed = [])
include listed up heard idle

theorem request_fails (bad : sessionAt s h.session = none ∨ ∃ i x, sessionAt s h.session = some (i, x) ∧
      h.tag ≠ hmac x.key (frameBody 5 h.session h.seq h.txn (requestBytes svc r))) :
    ∃ u, exec c s = .next u ∧ AuthFailed s u := by
  have e := (arrive_session svc r up).trans (sessionFrame_fails heard bad)
  have failed : AuthFailed s (arrive svc (.ncp h) r s) := by
    rw [e]
    exact authFailure_failed ..
  obtain ⟨u, executes, ncp, regs⟩ := exec_request listed (by rw [e, delayed_authFailure, idle])
  exact ⟨u, executes, failed.of_ncp ncp (regs ..)⟩

variable {i : Nat} {x : Session} (found : sessionAt s h.session = some (i, x))
  (tag : h.tag = hmac x.key (frameBody 5 h.session h.seq h.txn (requestBytes svc r)))
  (good : sequenceGood x h.seq = true)
include found tag good

theorem request_resends {p : Nat × List Byte} (stored : (x.responses.find? fun e => e.1 == h.txn) = some p) :
    ∃ u, exec c s = .next u ∧ counted s u 0x1210 8 ∧
      frameLeaves s u h.port h.src (responseFrame x h.txn p.2) := by
  obtain ⟨z, after, taken⟩ := sessionFrame_accepts (f := sessionRequest svc h r) heard found tag good
  have resent := sessionRequest_resends (i := i) after stored svc r
  rw [← (arrive_session svc r up).trans taken] at resent
  obtain ⟨u, executes, ncp, regs⟩ := exec_request listed (by rw [resent.delayed, idle])
  exact ⟨u, executes, by rw [counted, regs, resent.counts], resent.leaves.of_sent (by rw [ncp])⟩

theorem request_alive (alive : svc = 7) (fresh : (x.responses.find? fun e => e.1 == h.txn) = none)
    (owed : owedNow s = []) (used : misused 7 r = false) :
    ∃ u y, exec c s = .next u ∧ amGet u.dev.ncp.sessions i = some (some y) ∧
      y.sendSeq = (x.sendSeq + 1) % 2 ^ 32 ∧ y.touched = s.now ∧
      frameLeaves s u h.port h.src (responseFrame x h.txn (aliveAnswer r s)) := by
  subst alive
  have rom := romServes_of_served up
  obtain ⟨z, after, taken⟩ := sessionFrame_accepts (f := sessionRequest 7 h r) heard found tag good
  have alive : sessionRequest 7 h r i z (frameAccepted i z s) =
      sendResponse i (answerKept z h.txn (aliveAnswer r s)) h (aliveAnswer r s) (frameAccepted i z s) :=
    sessionRequest_alive (s := frameAccepted i z s) rom idle owed used (after.responses.symm ▸ fresh)
      (sessionAt_frameAccepted found after)
  have e := ((arrive_session 7 r up).trans taken).trans alive
  obtain ⟨u, executes, ncp, -⟩ := exec_request listed (by rw [e, delayed_sendResponse]; exact idle)
  refine ⟨u, frameSent (answerKept z h.txn (aliveAnswer r s)), executes, ?_,
    congrArg (fun n => (n + 1) % 2 ^ 32) after.sendSeq, after.touched, ?_⟩
  · rw [ncp, e, sessions_sendResponse, amGet_amPut_same]
  · refine frameLeaves.of_sent (t := arrive 7 (.ncp h) r s) ?_ (by rw [ncp])
    rw [e, ← after.responseFrame, ← responseFrame_answerKept z]
    exact frameLeaves_sendResponse _ _ _ _ (sendsAlike_frameAccepted ..)

end Request

section Close
variable {s : State} {h : NcpHead} {i : Nat} {x : Session} (up : served s (.ncp h) = true)
  (heard : h.src ∉ s.dev.ncp.ignored) (found : sessionAt s h.session = some (i, x))
include up heard found

theorem ncpClose_closes (tag : h.tag = hmac x.key (frameBody 7 h.session h.seq h.txn []))
    (good : sequenceGood x h.seq = true) :
    ∃ u, exec (.ncpClose h) s = .next u ∧ amGet u.dev.ncp.sessions i = some none := by
  refine ⟨_, exec_ncpClose h s, ?_⟩
  rw [onDev_dev, partsOf_ncp (by decide), closeFrame_closes up heard found tag good]

theorem ncpClose_fails (wrong : h.tag ≠ hmac x.key (frameBody 7 h.session h.seq h.txn [])) :
    ∃ u, exec (.ncpClose h) s = .next u ∧ AuthFailed s u := by
  refine ⟨_, exec_ncpClose h s, .onDev (by decide) (by decide) ?_⟩
  rw [closeFrame_fails up heard found wrong]
  exact authFailure_failed ..

end Close

section Malformed
variable {s : State} {p src : Nat} {bs : List Byte} (hp : p < 2) (up : served s (.ncp (headOf p src bs)) = true)
  (heard : src ∉ s.dev.ncp.ignored)
include hp up heard

theorem ncpMalformedFrame_counts (bad : bs.length < 48 ∨ 1280 < bs.length ∨ fieldLE bs 14 2 + 48 ≠ bs.length ∨
      fieldLE bs 0 1 ≠ 1 ∨ fieldLE bs 1 1 ∈ [0, 2, 4, 6] ∨ 7 < fieldLE bs 1 1) :
    ∃ u, exec (.ncpMalformedFrame p src bs) s = .next u ∧ u.dev.ncp = s.dev.ncp ∧ counted s u 0x1210 6 := by
  have e := malformedFrame_counts up heard bad
  refine ⟨_, exec_ncpMalformedFrame p src bs s hp, ?_, counted_onDev (by decide) ?_⟩
  · rw [onDev_dev, partsOf_ncp (by decide), e, ncp_bump]
  · rw [e, counted, reg_bump, if_pos rfl]

/-- The frame's length field puts the tag that `headOf` takes at its end. -/
theorem ncpMalformedFrame_answers {i : Nat} {x : Session} (long : 48 ≤ bs.length) (short : bs.length ≤ 1280)
    (length : fieldLE bs 14 2 + 48 = bs.length) (version : fieldLE bs 0 1 = 1) (typ : fieldLE bs 1 1 = 5)
    (found : sessionAt s (fieldLE bs 4 4) = some (i, x))
    (tag : slice bs (bs.length - 32) 32 = hmac x.key (bs.take (bs.length - 32)))
    (good : sequenceGood x (fieldLE bs 8 4) = true) (service : fieldLE bs 16 1 = 0 ∨ 7 < fieldLE bs 16 1) :
    ∃ u, exec (.ncpMalformedFrame p src bs) s = .next u ∧ counted s u 0x1210 6 ∧
      frameLeaves s u p src (responseFrame x (fieldLE bs 12 2) (answerBytes (fieldLE bs 16 1)
        { index := fieldLE bs 18 2, sub := fieldLE bs 20 1, abort := abService })) := by
  have place : 16 + fieldLE bs 14 2 = bs.length - 32 := by omega
  have tagged : (headOf p src bs).tag = hmac x.key (bs.take (bs.length - 32)) :=
    (congrArg (slice bs · 32) place).trans tag
  obtain ⟨z, after, taken⟩ := sessionFrame_accepts (h := headOf p src bs)
    (f := fun _ _ s => malformedRequest bs (headOf p src bs) s) heard found tagged good
  obtain ⟨counts, leaves⟩ := malformedRequest_answers (t := frameAccepted i z s) after
    (sessionAt_frameAccepted found after) service (sendsAlike_frameAccepted ..)
    (reg_frameAccepted (by decide) (by decide) (by decide) ..)
  rw [← (malformedFrame_request up heard long short length version typ service).trans taken] at counts leaves
  exact ⟨_, exec_ncpMalformedFrame p src bs s hp, counted_onDev (by decide) counts,
    leaves.of_sent (by rw [onDev_dev, partsOf_ncp (by decide)])⟩

end Malformed

/-! ### The statement -/

/-- Settles O55: it holds, each command by what its handler does. A frame that fails authentication is counted in
0x1210:04 by one lemma (an OPEN without its CHALLENGE too, log 108), and an answer leaves by what its port holds before
the command. -/
theorem ncpSessions : Obligations.NcpSessions := by
  unfold Obligations.NcpSessions
  refine ⟨?hello, ?opening, ?request, ?close, ?malformed, ?expiry, ?idle, ?source, ?address⟩
  case hello =>
    intro s f slot nc len up heard session seq tag
    refine ⟨ncpHello_challenges len up heard session seq tag, fun key => ?_⟩
    obtain ⟨u, executes, failed⟩ := ncpHello_fails len up heard session seq tag key
    exact ⟨u, executes, failed.challenges, failed.sent, failed.counts⟩
  case opening =>
    intro s f slot nc nd k len len' up heard session seq key few
    refine ⟨fun kept tag => ⟨fun i place => ?_, ncpOpen_full len up heard session seq len' key kept tag⟩, fun bad => ?_⟩
    · obtain ⟨u, executes, held, leaves⟩ := ncpOpen_accepts len up heard session seq len' key kept tag place
      obtain ⟨nonzero, fresh⟩ := freshNumber_fresh few
      exact ⟨u, newSession k f slot nc nd s, executes, held, nonzero, fresh, rfl, rfl, rfl, rfl, leaves⟩
    · obtain ⟨u, executes, failed⟩ := ncpOpen_fails len up heard session seq len' key bad
      exact ⟨u, executes, failed.sessions, failed.sent, failed.counts⟩
  case request =>
    intro s h r c svc listed up heard idle
    refine ⟨fun bad => ?_, fun i x found tag good => ⟨fun p => ?_, ?_⟩⟩
    · obtain ⟨u, executes, failed⟩ := request_fails listed up heard idle bad
      exact ⟨u, executes, failed.sessions, failed.sent, failed.counts⟩
    · exact request_resends listed up heard idle found tag good
    · exact request_alive listed up heard idle found tag good
  case close =>
    intro s h i x up heard found
    refine ⟨ncpClose_closes up heard found, fun wrong => ?_⟩
    obtain ⟨u, executes, failed⟩ := ncpClose_fails up heard found wrong
    exact ⟨u, executes, failed.sessions, failed.counts⟩
  case malformed =>
    intro s p src bs hp up heard
    exact ⟨ncpMalformedFrame_counts hp up heard, fun i x => ncpMalformedFrame_answers hp up heard⟩
  case expiry =>
    intro s
    refine ⟨_, exec_challengeExpiry s, ?_⟩
    rw [onDev_dev, partsOf_ncp (by decide)]
    rfl
  case idle =>
    intro s slot x small held
    refine ⟨_, exec_sessionIdleTimeout slot s small, ?_⟩
    rw [onDev_dev, partsOf_ncp (by decide), sessionIdle_closes held]
  case source =>
    intro s src
    refine ⟨_, exec_sourceIgnoreEnd src s, fun a => ?_⟩
    rw [onDev_dev, partsOf_ncp (by decide)]
    exact (List.mem_filter ..).trans (and_congr_right' bne_iff_ne)
  case address =>
    intro s
    refine ⟨_, exec_ncpAddressApply s, ?_, fun changed i => ?_, fun same => ?_⟩
    · rw [onDev_dev, partsOf_ncp (by decide)]
      by_cases same : s.dev.ncp.oldAddress = none
      · rw [addressApply_of_none same, same]
      · rw [addressApply_of_some same]
        rfl
    · rw [onDev_dev, partsOf_ncp (by decide), addressApply_of_some changed]
      exact closeSessions_all s i
    · rw [onDev_dev, partsOf_ncp (by decide), addressApply_of_none same]

end Sys2Proof.Machine
end
